-- ==== Sys2Proof/Word.lean ====
section
/-! DEFINITION. The word types of the Slouk block: bytes, 64-bit registers, flits and frames (R8, R9, R188), and the
sparse table every large array of the block is held in. -/
namespace Sys2Proof

/-- One byte of device memory (R8). -/
abbrev Byte := BitVec 8

/-- One 64-bit register or little-endian memory word (R8, R9). -/
abbrev W64 := BitVec 64

/-- The 64-bit payload of a mesh flit (R188, R190). -/
abbrev Flit := BitVec 64

/-- A 96-bit peer frame (R358). -/
abbrev Frame := BitVec 96

/-- A table held as the entries that differ from its default, in rising order of key. -/
abbrev Sparse (α : Type) := List (Nat × α)

end Sys2Proof
end

