-- ==== Sys2Proof/Syntax.lean ====
section
/-! DEFINITION. The commands of the Slouk block: one constructor for each row of the table of operations and events.
A command that the host, the board, a neighbouring part or the block's own clockwork brings about carries as operands
what comes with it (an address, a value, a flit, a measured temperature). -/
namespace Sys2Proof

/-- A core ID, y × 32 + x (R3, R16). -/
abbrev CoreId := Fin 1024
/-- A hub port (R16, R21). -/
abbrev HubPort := Fin 32
/-- A breath (R35). -/
abbrev BreathId := Fin 64
/-- A Mouthpiece or Bell channel (R19). -/
abbrev Chan := Fin 256
/-- A timer (R297). -/
abbrev TimerId := Fin 128
/-- A hub DMA engine (R333). -/
abbrev DmaId := Fin 8
/-- A queue's index in its core, or a send binding's (R229, R235). -/
abbrev QIdx := Fin 64
/-- A core engine: Core Sequencer 0, Event Intake 1, Synapse Engine 2, Neuron Engine 3, Plasticity Engine 4,
Queue/DMA unit 5 (R262). -/
abbrev EngId := Fin 6
/-- A synchronisation object of a core (R259). -/
abbrev ObjId := Fin 32
/-- A step tag, t mod 4 (R36). -/
abbrev StepTag := Fin 4

/-- Where Chanter takes a Mbozor command from: the entry at `MB_CMD_CI` of mailbox `m`'s command ring (R352, R370),
or, on a worker package, an entry of 8 words that the manager relays (R388). -/
inductive Src where
  | ring (m : Fin 8)
  | relay (entry : List W64)
  deriving DecidableEq, Repr

/-- A place with ports: a core's router, or a hub port (R13, R21). -/
inductive Node where
  | router (n : CoreId)
  | hub (p : HubPort)
  deriving DecidableEq, Repr

/-- A port of a router; a hub port faces its mesh link as `east` (R13). The order is that of `RTR_STATUS` and
`RTR_CIRCUIT`: north 0, east 1, south 2, west 3, local 4. -/
inductive Port where
  | north | east | south | west | loc
  deriving DecidableEq, Repr

/-- One direction of a link: the output of a mesh port, or of a peer port (R212, R359). -/
inductive LinkId where
  | mesh (node : Node) (out : Port)
  | peer (p : Fin 4)
  deriving DecidableEq, Repr

/-- A register an access names: an offset in the hub register region (BAR0 is its first 1 MiB, R33), or an offset in
a core's register block (R27). -/
inductive RegAddr where
  | hub (off : Nat)
  | core (n : CoreId) (off : Nat)
  deriving DecidableEq, Repr

/-- The width and alignment of a register access (R9). -/
inductive Width where
  | whole | lowHalf | highHalf | other
  deriving DecidableEq, Repr

/-- An endpoint that can receive an answer or an echo (R19). -/
inductive Endpoint where
  | core (n : CoreId)
  | mouthpiece (c : Chan)
  | bell (c : Chan)
  | dma (e : DmaId)
  | breath
  | chanter (k : Fin 4)
  | evtPort
  | peer (p : Fin 4)
  | host
  deriving DecidableEq, Repr

/-- A word that an engine reads and finds uncorrectable: none, a 64-bit word of the core's memory by its number from
offset 0, or one of the Overblow structures, which no address names (R135, R167, R173, R328). -/
inductive Lost where
  | none | mem (w : Fin 0x10000) | overblow
  deriving DecidableEq, Repr

/-- The load of one group of an update that meets an uncorrectable word: population, group and word (R135). -/
structure BadLoad where
  pop : Fin 16
  group : Fin 256
  word : Fin 0x10000
  deriving DecidableEq, Repr

/-- The kind of a barrier report (R48). -/
inductive RepKind where
  | sent | received
  deriving DecidableEq, Repr

/-- What the error correction of a memory found in the word read (R314, R328). -/
inductive Ecc where
  | clean | corrected | uncorrectable
  deriving DecidableEq, Repr

/-- A beat or word, by its address, at which the code of a memory finds an error during a read: corrected, or not (R314, R328,
R329). -/
structure MemErr where
  addr : Nat
  bad : Bool
  deriving DecidableEq, Repr

/-- A transfer on the management bus (R377): an I3C transfer or a legacy one to a 7-bit address, or the SETDASA that gives the
target at a static address its dynamic one. -/
inductive MgmtXfer where
  | i3c (addr : BitVec 7)
  | smbus (addr : BitVec 7)
  | setdasa (static dyn : BitVec 7)
  deriving DecidableEq, Repr

/-- What the TAP is told: an instruction, entry into Test-Logic-Reset, or the assertion of TRST# (R456). -/
inductive TapIr where
  | bypass | idcode | samplePreload | extest | clamp | logicReset | trst
  deriving DecidableEq, Repr

/-- What brings the cold reset (R415). `supply` is the rail code of Table 16-6. -/
inductive ColdCause where
  | powerOn | supply (rail : Fin 16) | thermal | jtag
  deriving DecidableEq, Repr

/-- What arrives on one lane of a Ligature link after error correction (R211 to R214). -/
inductive LaneWord where
  | good (seq : BitVec 12) (payload : BitVec 64) (corrected : Bool)
  | bad
  deriving DecidableEq, Repr

/-- The commands of the block, one for each row of the table. -/
inductive Instr where
  /-- IDENTIFY (R380): Returns the protocol level, the background limit, the firmware version, the stepping and the active firmware slot. -/
  | identify (src : Src)
  /-- NOP (R380): Completes with OK and changes nothing. -/
  | nop (src : Src)
  /-- DEVICE_STATUS (R380): Returns the package power state, whether DDR5 is configured, the jobs loaded, the bad-core count and the device time. -/
  | deviceStatus (src : Src)
  /-- POWER_LIMIT (R430): Sets the package power limit, refusing values that break the range or the reservation test. -/
  | powerLimit (src : Src)
  /-- POWER_STATE (R420): Confirms P-ACTIVE or P-IDLE, or accepts entry to P-STANDBY when the package is idle with no busy DMA and no pad hold. -/
  | powerState (src : Src)
  /-- LINK_RETRAIN (R220): Retrains a mesh link, hub port or peer port and returns its link state, or completes with LINK_DOWN on failure. -/
  | linkRetrain (src : Src) (up : Bool)
  /-- JOB_LOAD (R396): Checks a job image container, placement and all load rules in order and starts loading the job in the background. -/
  | jobLoad (src : Src)
  /-- JOB_LOAD_DONE (R396): The end of a background load, which leaves the job LOADED, sets its granules to DEVICE and returns the measurement. -/
  | jobLoadDone (job : BitVec 8)
  /-- JOB_START (R401): Starts a job from the newest valid checkpoint, or afresh from its image, arming a frame-locked breath. -/
  | jobStart (src : Src)
  /-- JOB_STOP (R401): Suspends the job at the next step boundary, cancels its background commands and leaves the breath STOPPED. -/
  | jobStop (src : Src)
  /-- JOB_SUSPEND (R66): Requests suspension at the next step boundary and completes when the breath is SUSPENDED. -/
  | jobSuspend (src : Src)
  /-- JOB_RESUME (R67): Resumes a suspended job, setting its next nominal start according to the breath mode. -/
  | jobResume (src : Src)
  /-- JOB_RESET (R404): Restarts the job from its last checkpoint without a fault and without counting against the restart limit. -/
  | jobReset (src : Src)
  /-- JOB_UNLOAD (R401): Releases the cores, the breath, the channels and the job ID, and returns the image and checkpoint granules to FREE. -/
  | jobUnload (src : Src)
  /-- JOB_QUERY (R380): Returns the job state, breath, L0 flag, step count, restarts and last fault. -/
  | jobQuery (src : Src)
  /-- JOB_POLICY (R403): Sets the restart limit, the automatic checkpoint interval and the test deferral of a job. -/
  | jobPolicy (src : Src)
  /-- JOB_SET_L0 (R399): Sets or clears the latency-class-0 designation of a LOADED or STOPPED job, subject to the power reservation. -/
  | jobSetL0 (src : Src)
  /-- TABLE_CHANGE (R382): Validates a change list, then drains the affected jobs and applies the list, with at most four jobs affected. -/
  | tableChange (src : Src)
  /-- BREATH_CONFIG (R383): Writes the configuration of a STOPPED breath, and the OVB bit of every core, as one action after all checks. -/
  | breathConfig (src : Src)
  /-- BREATH_LAG_LIMIT (R380): Sets the lag limit of a breath in any state. -/
  | breathLagLimit (src : Src)
  /-- BREATH_CLEAR (R73): Clears the breath counters and the guarantee registers. -/
  | breathClear (src : Src)
  /-- CHECKPOINT (R407): Suspends the job and starts streaming a checkpoint into the target slot after invalidating it. -/
  | checkpoint (src : Src)
  /-- CHECKPOINT_QUERY (R380): Returns the step and validity of both checkpoint slots. -/
  | checkpointQuery (src : Src)
  /-- CHECKPOINT_EXPORT (R410): Copies the commit block and the content blocks of a slot to a destination. -/
  | checkpointExport (src : Src)
  /-- CHECKPOINT_IMPORT (R410): Writes a checkpoint copy into the target slot, checks it and makes it the newest generation. -/
  | checkpointImport (src : Src)
  /-- WEIGHTS_READ (R165): Arranges a consistent snapshot of the plastic windows and traces at step s, or completes with STEP_PASSED. -/
  | weightsRead (src : Src)
  /-- WEIGHTS_WRITE (R384): Writes checked blocks into the plastic window or trace scratch of a suspended job through port B and journals them. -/
  | weightsWrite (src : Src)
  /-- QUEUE_OP (R233): Opens, closes or drains a queue on behalf of the host and returns its epoch. -/
  | queueOp (src : Src)
  /-- QUEUE_QUERY (R380): Returns a queue entry word and its status word. -/
  | queueQuery (src : Src)
  /-- QUEUE_BIND (R235): Writes a send binding of a core, a Bell channel or the host, optionally with the current epoch. -/
  | queueBind (src : Src)
  /-- ENGINE_RESET (R385): Resets the Core Sequencer or the Queue/DMA unit of one core alone, abandoning its objects. -/
  | engineReset (src : Src)
  /-- CONV_CONFIG (R386): Loads and checks the register image of a stopped Mouthpiece channel, Bell channel or Event Port stream. -/
  | convConfig (src : Src)
  /-- CONV_START (R386): Starts a stopped converter channel or stream after checking its job binding. -/
  | convStart (src : Src)
  /-- CONV_STOP (R386): Stops a converter channel or stream, which stops being a participant from the next START. -/
  | convStop (src : Src)
  /-- TIME_ADJUST (R387): Applies a frequency, slew or step adjustment to device time within its limits. -/
  | timeAdjust (src : Src)
  /-- OWN_SET (R350): Changes the ownership flags of a range of granules, refusing fixed or invalid granules. -/
  | ownSet (src : Src)
  /-- OWN_QUERY (R380): Returns the ownership flags of 32 granules. -/
  | ownQuery (src : Src)
  /-- MEM_FILL (R369): Writes zero blocks with fresh tags over a range in the background. -/
  | memFill (src : Src)
  /-- TELEMETRY_READ (R435): Writes a thermal, rail or counter record set to a destination. -/
  | telemetryRead (src : Src)
  /-- COUNTERS_CLEAR (R380): Clears the counters of a scope over a range of cores. -/
  | countersClear (src : Src)
  /-- FIELD_TEST (R413): Starts an in-field test of a job's cores or of a range of idle cores. -/
  | fieldTest (src : Src)
  /-- FIELD_TEST_QUERY (R380): Returns a core's test age and its last result. -/
  | fieldTestQuery (src : Src)
  /-- CORE_MARK (R414): Marks an unassigned core bad, or removes its mark. -/
  | coreMark (src : Src)
  /-- CORE_HALT (R26): Halts a core for debug, stopping its engine clocks while its router runs. -/
  | coreHalt (src : Src) (merged : Bool)
  /-- CORE_RESUME (R26): Ends the debug halt of a core. -/
  | coreResume (src : Src) (merged : Bool)
  /-- CORE_RESET (R402): Resets one core and faults the job that owns it with CORE_RESET. -/
  | coreReset (src : Src)
  /-- ATTEST (R451): Takes a snapshot of the measurement state and starts signing the report with the device key. -/
  | attest (src : Src)
  /-- ATTEST_SIGNED (R451): Signing ends, and the report is written to the destination and the command completes. -/
  | attestSigned (id : Nat)
  /-- CERT_READ (R449): Returns the device identity certificate. -/
  | certRead (src : Src)
  /-- FW_UPDATE_BEGIN (R447): Erases the inactive firmware slot and expects an image of B bytes. -/
  | fwUpdateBegin (src : Src)
  /-- FW_UPDATE_WRITE (R447): Copies checked bytes from device memory into the inactive slot. -/
  | fwUpdateWrite (src : Src)
  /-- FW_UPDATE_COMMIT (R447): Verifies the inactive slot and, on success, rewrites a boot pointer copy to name it. -/
  | fwUpdateCommit (src : Src)
  /-- JOURNAL_READ (R392): Writes change journal entries from the requested sequence onwards to a destination. -/
  | journalRead (src : Src)
  /-- HIER_DISCOVER (R361): The manager discovers the package tree, writes the package IDs and sets the tree role. -/
  | hierDiscover (src : Src)
  /-- HIER_QUERY (R380): Returns the tree role and the packages present. -/
  | hierQuery (src : Src)
  /-- HIER_RELAY (R388): The manager relays a command entry to a worker package over peer traffic. -/
  | hierRelay (src : Src)
  /-- HIER_RELAY_ANSWER (R388): The worker's completion of a relayed command arrives and is written at the given address. -/
  | hierRelayAnswer (id : Nat) (entry : List W64)
  /-- HIER_RELAY_TIMEOUT (R388): No answer to a relayed command arrives within 100 ms, and HIER_RELAY completes with TIMEOUT. -/
  | hierRelayTimeout (id : Nat)
  /-- BAD_OPCODE (R376): A command with a reserved or unknown opcode completes with BAD_OPCODE. -/
  | badOpcode (src : Src)
  /-- ENTRY_ERROR (R375): A command entry holding an uncorrectable word is not run and completes with ENTRY_ERROR. -/
  | entryError (m : Fin 8) (headerBad : Bool)
  /-- DOORBELL (R353): A write to MB_CMD_PI is accepted or discarded by the producer-index checks and makes commands visible to Chanter. -/
  | doorbell (m : Fin 8) (value : W64)
  /-- MB_CPL_CI_WRITE (R354): The host frees completion entries, which lets Chanter serve commands held by a full completion ring. -/
  | mbCplCiWrite (m : Fin 8) (value : W64)
  /-- MGMT_PORT_WRITE (R378): An I3C or SMBus write transfer sets the pointer and writes registers or ring bytes. -/
  | mgmtPortWrite (x : MgmtXfer) (ptr : BitVec 16) (data : List Byte)
  /-- MGMT_PORT_READ (R378): An I3C or SMBus read transfer returns bytes from the pointer, latching a 64-bit register at its first byte. -/
  | mgmtPortRead (x : MgmtXfer) (n : Nat)
  /-- REGISTER_WRITE (R9): A write to a BAR0, core or hub register with no row of its own, following its access code and journalled where required. -/
  | registerWrite (a : RegAddr) (acc : Width) (value : W64)
  /-- TIME_NOW_LOW_READ (R290): A 32-bit read of the low half of TIME_NOW also latches the high half in TIME_HI_LATCH. -/
  | timeNowLowRead
  /-- TMR_COUNT_READ (R302): A read of a running timer returns the count latched at its last stop and sets STALE. -/
  | tmrCountRead (k : TimerId)
  /-- TMR_COMPARE_WRITE (R300): A compare write takes effect at its effective moment and sets or clears CMP_BEHIND. -/
  | tmrCompareWrite (k : TimerId) (acc : Width) (value : W64)
  /-- TMR_FREEZE_WRITE (R303): A write of TMR_CTRL.FREEZE stops or restarts the count after 2 to 3 cycles. -/
  | tmrFreezeWrite (k : TimerId) (freeze : Bool)
  /-- OWN_XFER_START (R349): A write of OWN_XFER_CTRL with GO starts rewriting a range of ownership flags, or is refused or dropped. -/
  | ownXferStart (value : W64)
  /-- OWN_XFER_DONE (R349): The flag rewrite ends and OWN_XFER_STATUS.DONE is set. -/
  | ownXferDone
  /-- PAD_RELEASE (R424): A write of 1 releases the pads held since P-STANDBY entry. -/
  | padRelease (value : W64)
  /-- DMA_GO (R333): A write to DMA_GO starts a programmed hub DMA transfer, or sets START_LOST if the engine is busy. -/
  | dmaGo (e : DmaId) (value : W64)
  /-- DMA_DONE (R334): A hub DMA engine completes its transfer or stops on its first fault, raising its vector if enabled. -/
  | dmaDone (e : DmaId) (errs : List MemErr)
  /-- HOST_WINDOW_WRITE (R343): A host write through BAR2 is translated, checked against ownership and written with a tag on arrival. -/
  | hostWindowWrite (o : BitVec 32) (data : List Byte) (raced : Bool)
  /-- VERIFIED_WRITE (R323): A host write through a verified slot is checked against its host-supplied tag and stored verified or poisoned. -/
  | verifiedWrite (o : BitVec 32) (data : List Byte)
  /-- HOST_WINDOW_READ (R327): A host read through BAR2 reads and checks whole blocks and sets EP on completions carrying bad blocks. -/
  | hostWindowRead (o : BitVec 32) (n : Nat) (errs : List MemErr)
  /-- HOST_MEMORY_COMPLETION (R339): A device read of host memory ends, with any failed completion delivering its bytes as a poisoned block. -/
  | hostMemoryCompletion (a : BitVec 64) (data : List Byte) (ok : Bool)
  /-- OPEN (R233): The queue operation OPEN empties a queue, increments its epoch and makes it OPEN. -/
  | queueOpen (n : CoreId) (q : QIdx) (portB : Bool)
  /-- CLOSE (R233): The queue operation CLOSE closes a queue at once, voiding reservations and answering waiters NACK_CLOSED. -/
  | queueClose (n : CoreId) (q : QIdx) (portB : Bool)
  /-- DRAIN (R233): The queue operation DRAIN stops new messages and lets the queue close once empty. -/
  | queueDrain (n : CoreId) (q : QIdx) (portB : Bool)
  /-- CONSUME (R243): The queue operation CONSUME advances HEAD past a record and PAD records, or frees a held combining bank. -/
  | queueConsume (n : CoreId) (q : QIdx) (portB : Bool)
  /-- SEND (R256): The queue operation SEND copies a message into the send buffer, or returns BUSY when the buffer is full. -/
  | queueSend (n : CoreId) (b : QIdx) (off : BitVec 20) (portB : Bool)
  /-- POLL (R258): The queue operation POLL reads a status word and waits until the masked value matches. -/
  | queuePoll (n : CoreId) (q : QIdx) (mask : BitVec 32) (want : BitVec 32)
  /-- POLL_SATISFIED (R258): A polled status word matches its condition and the POLL returns. -/
  | pollSatisfied (n : CoreId) (e : EngId)
  /-- INIT (R256): The operation INIT initialises a synchronisation object and clears ABANDONED. -/
  | syncInit (n : CoreId) (o : ObjId) (value : W64) (e : EngId)
  /-- SIGNAL (R260): The operation SIGNAL updates a semaphore, event or barrier object and releases satisfied waiters. -/
  | syncSignal (n : CoreId) (o : ObjId) (value : W64) (e : EngId)
  /-- WAIT (R261): The operation WAIT returns when its object's condition holds, or waits with its WAITERS bit set. -/
  | syncWait (n : CoreId) (o : ObjId) (value : W64) (e : EngId)
  /-- WAIT_TIMEOUT (R261): The remaining time of a wait reaches 0 and the wait ends with TIMEOUT. -/
  | waitTimeout (n : CoreId) (e : EngId)
  /-- QOP_RESERVED (R256): A reserved queue operation code, or INIT, SIGNAL, WAIT or POLL from port B, returns BAD_OP. -/
  | qopReserved (n : CoreId) (cmd : W64) (portB : Bool)
  /-- ENGINE_PARK (R264): A WAIT or POLL reaches LEND_THRESHOLD and its engine is parked and its power share handed over. -/
  | enginePark (n : CoreId) (e : EngId)
  /-- QREQ (R238): A queue request arrives at the receiver and is granted, listed in the grant wait list or answered with a NACK or DUPLICATE. -/
  | qreq (n : CoreId) (f : Flit)
  /-- WAITING_GRANT (R242): A request in the grant wait list finds space and a slot and is granted, with a PAD record where needed. -/
  | waitingGrant (n : CoreId) (q : QIdx)
  /-- GRANT (R237): A sender receives GRANT and sends its message as DESC_HEAD and body flits. -/
  | grant (who : Endpoint) (f : Flit)
  /-- NACK_RECEIVED (R245): A sender receives an error NACK, ends the send and writes an error record into its queue 63. -/
  | nackReceived (who : Endpoint) (f : Flit)
  /-- NACK_BUSY_RETRY (R245): Q_RETRY_US expires after a NACK_BUSY and the sender repeats its QREQ or bulk bind. -/
  | nackBusyRetry (who : Endpoint)
  /-- DUPLICATE (R244): A sender receives DUPLICATE and treats the send as delivered. -/
  | duplicate (who : Endpoint) (f : Flit)
  /-- QUEUE_MESSAGE (R243): A DESC_HEAD and its bodies arrive at a ring queue, are checked and written, and complete the record. -/
  | queueMessage (n : CoreId) (head : Flit) (bodies : List Flit)
  /-- OPERAND_MESSAGE (R246): A message for an operand queue arrives and is checked against its sender and state. -/
  | operandMessage (n : CoreId) (head : Flit) (bodies : List Flit)
  /-- OPERAND_DELIVERY (R246): A message waiting at an operand queue is delivered to its EXT, ROW or SEQREG port once the port is free. -/
  | operandDelivery (n : CoreId) (q : QIdx) (held : Nat) (taken : Bool)
  /-- BULK_BIND (R253): A bulk bind arrives and occupies one of the core's 8 binds, or is answered NACK_BUSY. -/
  | bulkBind (n : CoreId) (head : Flit) (bodies : List Flit)
  /-- BULK_BLOCK (R254): A complete tensor block arrives on a circuit and is checked and written, or discarded. -/
  | bulkBlock (n : CoreId) (src : BitVec 12) (circuit : Fin 8) (data : List Byte) (tag : W64) (raced : Bool)
  /-- CIRCUIT_SETUP (R206): A router, hub port or destination checks and writes a circuit entry and forwards, accepts or refuses the setup. -/
  | circuitSetup (node : Node) (p : Port) (f : Flit)
  /-- CIRCUIT_TEARDOWN (R207): A teardown leaves a router behind its circuit's BULK flits and frees the entry. -/
  | circuitTeardown (node : Node) (p : Port) (f : Flit)
  /-- CIRCUIT_REPLY (R207): A source receives CIRCUIT_ACCEPTED and starts BULK, or a refusal and sends a teardown. -/
  | circuitReply (n : CoreId) (f : Flit)
  /-- CTRL_READ (R255): A CTRL READ is carried out through port B and answered with a DATA response. -/
  | ctrlRead (n : CoreId) (f : Flit)
  /-- CTRL_WRITE_A (R255): A CTRL WRITE_A carries the address of a write awaiting its WRITE_D. -/
  | ctrlWriteA (n : CoreId) (f : Flit)
  /-- CTRL_WRITE_D (R255): A CTRL WRITE_D completes the write, which is answered ACCESS_DONE, ACCESS_WRITE_LOST or ACCESS_DISCARDED. -/
  | ctrlWriteD (n : CoreId) (f : Flit) (raced : Bool)
  /-- CTRL_RESP (R239): A hub requester receives a DATA or STATUS response to its access. -/
  | ctrlResp (who : Endpoint) (f : Flit)
  /-- ROUTER_FLIT_ARRIVAL (R200): A flit enters a router input buffer, where it may be merged, marked, routed or discarded. -/
  | routerFlitArrival (n : CoreId) (p : Port) (f : Flit) (cyc : Nat)
  /-- FLIT_SEND (R197): An output link fills a lane slot with a flit by priority once the receiver has credit. -/
  | flitSend (node : Node) (out : Port) (cyc : Nat)
  /-- ECHO_RECEIVED (R205): An ECHO reaches a source's shaper and halves its rate unless within the hold. -/
  | echoReceived (who : Endpoint) (f : Flit) (cyc : Nat)
  /-- LANE_WORD_RECEIVE (R214): A receiver takes a lane word, correcting a single-bit error or answering an uncorrectable word with NAK. -/
  | laneWordReceive (node : Node) (p : Port) (lane : Bool) (word : LaneWord)
  /-- CONTROL_WORD_RECEIVE (R213): A sender takes a control word with ACK, NAK and credits, and resends from its replay buffer on NAK. -/
  | controlWordReceive (l : LinkId) (word : BitVec 31) (good : Bool)
  /-- REPLAY_TIMEOUT (R215): The oldest unacknowledged flit passes its timeout and the sender resends from it. -/
  | replayTimeout (l : LinkId) (merged : Bool)
  /-- RETRY_WINDOW_END (R218): A 1 ms retry window ends, and the link enters DEGRADED or returns to UP by its replay count. -/
  | retryWindowEnd (l : LinkId)
  /-- LINK_RETRAIN_END (R219): A retrain ends, resuming the link, or after three failures taking it DOWN. -/
  | linkRetrainEnd (l : LinkId) (up : Bool)
  /-- DRAIN_BEGIN (R225): A requested drain starts once no other drain runs, suspending its jobs. -/
  | drainBegin
  /-- DRAIN_FENCE (R222): Once every affected breath is SUSPENDED, Chanter loads the fences and sweeps. -/
  | drainFence
  /-- CLEAN_SWEEP (R222): A sweep finds every drain bit clear, and the change is applied and the fences cleared. -/
  | cleanSweep
  /-- DRAIN_TIMEOUT (R224): No clean sweep completes within MESH_DRAIN_TIMEOUT, and the change is abandoned. -/
  | drainTimeout
  /-- HUB_PORT_FLIT (R270): A flit arriving at a hub port goes to the Breath, to a Bell channel by the row map, or is discarded. -/
  | hubPortFlit (p : HubPort) (f : Flit) (epoch : Nat)
  /-- STEP_START (R38): The nominal start has arrived and the earlier barrier has closed, so the Breath injects START and samples its converters. -/
  | stepStart (j : BreathId)
  /-- MP_FETCH_DONE (R273): A Mouthpiece vector fetch finishes with its tags checked, or faults the job. -/
  | mpFetchDone (c : Chan) (errs : List MemErr)
  /-- MP_INJECT (R276): A Mouthpiece channel injects its flits through the shared datapath and shaper and marks its tag complete. -/
  | mpInject (c : Chan) (cyc : Nat)
  /-- TIMER_START_ACTION (R60): A timer step-start action reaches a timer-driven breath and grants one step. -/
  | timerStartAction (j : BreathId) (merged : Bool)
  /-- STEP_OVERRUN (R59): Device time passes the lag limit before the step starts, and the job takes a STEP_OVERRUN fault. -/
  | stepOverrun (j : BreathId)
  /-- FRAME_SYNC_CAPTURE (R294): An enabled FRAME_SYNC_IN edge is captured and forwarded to the Breath and the timer triggers. -/
  | frameSyncCapture (merged : Bool)
  /-- FRAME_MISS (R63): No edge is captured by the predicted edge plus 1 µs, and the breath assumes an anchor and counts a miss. -/
  | frameMiss (j : BreathId)
  /-- FRAME_ARM_MISSING (R62): An ARMED breath sees no edge within F + 1 µs, or a further F, and sets FRAME_MISSING. -/
  | frameArmMissing (j : BreathId)
  /-- SUSPEND_REACHED (R66): Every started step has closed and its plasticity ended, so the breath multicasts HOLD and is SUSPENDED. -/
  | suspendReached (j : BreathId)
  /-- CORE_START (R76): A core receives START(t), records it and starts update t, or holds it. -/
  | coreStart (n : CoreId) (j : BreathId) (t : BitVec 32) (ue : Option BadLoad)
  /-- CORE_COMMIT (R76): A core receives COMMIT(t), starts plasticity and split forwarding, releases combining banks and finalises run-ahead work. -/
  | coreCommit (n : CoreId) (j : BreathId) (t : BitVec 32) (ue : Lost)
  /-- CORE_HOLD (R76): A core receives HOLD, completes the work started and idles until the next START. -/
  | coreHold (n : CoreId) (j : BreathId) (t : BitVec 32)
  /-- HELD_UPDATE_START (R109): A held START begins its update once the running update, plasticity, split completion or membrane read allows it. -/
  | heldUpdateStart (n : CoreId) (ue : Option BadLoad)
  /-- EMIT_FLIT (R94): The emit unit offers a buffered emission's flit to the router once local credit and the shaper allow. -/
  | emitFlit (n : CoreId) (cyc : Nat) (stalled : Nat)
  /-- BARRIER_REPORT_SEND (R48): A core sends a nonzero sent or received delta once the 32-cycle report gap has passed. -/
  | barrierReportSend (n : CoreId) (kind : RepKind) (tag : StepTag) (cyc : Nat)
  /-- DONE_SEND (R49): Once update t, its emissions, rollbacks and SENT report are complete, the core sends DONE(t). -/
  | doneSend (n : CoreId) (cyc : Nat)
  /-- EVENT_INTAKE (R87): The Synapse Engine accepts an event, matches its descriptor and adds its products into slots, or defers it. -/
  | eventIntake (n : CoreId) (f : Flit) (ue : Lost)
  /-- DEFERRED_INTAKE (R160): The oldest deferred event that has become eligible is taken in from the deferral area. -/
  | deferredIntake (n : CoreId) (ue : Lost)
  /-- ROLLBACK_PASS (R176): With the Neuron Engine free and dirty bits set, dirty neurons rerun from the shadow and revise their emissions. -/
  | rollbackPass (n : CoreId) (ue : Lost)
  /-- SPLIT_VALUE (R99): A split value flit is added into the home neuron's slot, or discarded as stray. -/
  | splitValue (n : CoreId) (f : Flit) (ue : Lost)
  /-- SPLIT_COUNT (R99): A split count flit adds to its set's counter, faulting the job when it exceeds EXPECTED. -/
  | splitCount (n : CoreId) (f : Flit)
  /-- COMBINE_CONTRIBUTION (R249): A REDUCE flit adds into a combining lane and may release the bank in counted mode. -/
  | combineContribution (n : CoreId) (f : Flit)
  /-- PLASTICITY_HELD_START (R157): A held COMMIT starts the plasticity of step t once that of step t − 1 is complete. -/
  | plasticityHeldStart (n : CoreId) (ue : Lost)
  /-- MOD_WAIT_END (R156): The modulator of step t is written and a plasticity entry waiting for it proceeds. -/
  | modWaitEnd (n : CoreId) (cycles : Nat) (ue : Lost)
  /-- PLASTICITY_COMPLETE (R157): The last weight and trace of step t are written and PLAS_STEP is set to t. -/
  | plasticityComplete (n : CoreId) (refused : Nat)
  /-- SNAPSHOT_STREAM_DONE (R165): A core finishes streaming its WEIGHTS_READ snapshot and releases its plasticity hold. -/
  | snapshotStreamDone (n : CoreId)
  /-- DEADLOCK_SAMPLE (R265): Every 1 µs the hub samples MOVED and WAITING and updates each breath's quiet count. -/
  | deadlockSample
  /-- DEADLOCK (R265): A quiet count reaches its window and the job takes a DEADLOCK fault. -/
  | deadlock (j : BreathId)
  /-- MEMBRANE_READ_RESPONSE (R280): A membrane read response reaches the Bell, and the last one lets the withheld START proceed. -/
  | membraneReadResponse (c : Chan) (f : Flit)
  /-- BELL_DELIVERY (R281): A held result is delivered to a queue, buffer or the Event Port, then the channel's actions run. -/
  | bellDelivery (c : Chan)
  /-- EVT_IN_FRAME (R285): A complete Event Port frame is checked and enters the input FIFO, or a FLOW frame pauses or resumes output. -/
  | evtInFrame (words : List (BitVec 32))
  /-- EVT_OUT_FRAME (R287): A RESULTS or FLOW frame is sent on EVT_OUT at the next frame boundary. -/
  | evtOutFrame
  /-- EVT_IN_CLOCK_LOSS (R283): No EVT_IN clock edge is seen for 100 ns and IN_CLK is cleared. -/
  | evtInClockLoss
  /-- DEVICE_TIME_TICK (R293): Device time passes a multiple of 1,000 ns and the 1 µs tick is issued to shapers, timeouts and windows. -/
  | deviceTimeTick (at_ : List (Nat × Nat))
  /-- PPS_CAPTURE (R294): An enabled PPS_IN edge is captured and counted, or merged with a close earlier edge. -/
  | ppsCapture (merged : Bool)
  /-- TIME_OUT_PULSE (R296): Device time reaches the next TIME_OUT pulse start and the pulse is driven for its width. -/
  | timeOutPulse
  /-- TIMER_MATCH (R299): A timer tick makes the count equal to COMPARE, firing the match and its actions. -/
  | timerMatch (k : TimerId)
  /-- TIMER_OVERFLOW (R299): A timer tick wraps the count to 0, firing the overflow and its actions. -/
  | timerOverflow (k : TimerId)
  /-- TIMER_TRIGGER (R307): A Bell, FRAME_SYNC or PPS trigger pulse starts, stops or captures a timer. -/
  | timerTrigger (k : TimerId) (merged : Bool)
  /-- POWER_EPOCH (R431): Every 10 µs the power manager chooses the frequency cap and sets island clocks and die voltages. -/
  | powerEpoch (mw : Nat) (cores : List Nat)
  /-- THERMAL_SAMPLE (R432): Every 100 µs the hottest sensor is compared with the warning, critical and reset thresholds. -/
  | thermalSample (temps : List Int)
  /-- VREG_FAULT (R459): A VDD_NEU regulator reports a fault or does not settle in time, and the die stays at 0.4 GHz. -/
  | vregFault (die : Fin 4)
  /-- ISLAND_NAP (R425): NAP_DELAY expires and an eligible core island enters NAP or OFF. -/
  | islandNap (n : CoreId)
  /-- ISLAND_WAKE (R426): An access to a NAP or OFF island wakes it, and the stalled access completes once it is up. -/
  | islandWake (n : CoreId) (merged : Bool)
  /-- LIGATURE_RECALIBRATION (R434): A Ligature module is recalibrated when due, during a gap in the L0 job's barriers where it lies on its path. -/
  | ligatureRecalibration (l : LinkId)
  /-- RECAL_FORCED (R434): A module finds no free interval within 10 s and is recalibrated regardless. -/
  | recalForced (l : LinkId)
  /-- DDR_CALIBRATION (R433): A DDR5 refresh, ZQ calibration or read-timing tracking falls due on a channel. -/
  | ddrCalibration (ch : Fin 4) (zq : Bool)
  /-- PATROL_SCRUB_READ (R330): Patrol scrub reads the next DDR5 block with its tag, correcting or poisoning it. -/
  | patrolScrubRead (ecc : Ecc) (inTag : Bool)
  /-- PATROL_LATE (R330): A patrol period ends before its pass is complete and PATROL_LATE is set. -/
  | patrolLate
  /-- SRAM_SCRUB_READ (R331): SRAM scrub reads the next word of a core or hub memory, correcting it or handling an uncorrectable error. -/
  | sramScrubRead (a : Nat) (ecc : Ecc) (raced : Bool)
  /-- STANDBY_ENTRY (R421): After the POWER_STATE completion, the package latches pads, enters self-refresh and arms the always-on wake monitor. -/
  | standbyEntry
  /-- STANDBY_WAKE (R423): A wake source fires, and the package restarts clocks, makes up timers and records the wake. -/
  | standbyWake (mask : BitVec 8) (gpio : Fin 16) (ticks : Nat)
  /-- JOB_FAULT (R404): A job fault stops the breath, then fails the job or starts a restart that fences and sweeps its rectangle. -/
  | jobFault (job : BitVec 8) (code : BitVec 8) (step : BitVec 32)
  /-- RESTART_RELOAD (R404): After the restart's clean sweep, cores are reset and reloaded, state restored and the job resumed. -/
  | restartReload (job : BitVec 8)
  /-- CHECKPOINT_BLOCK (R408): A hub port's checkpoint receiver checks a streamed block, rewrites its sequence and stores it. -/
  | checkpointBlock (p : HubPort) (n : CoreId) (seq : BitVec 16) (data : List Byte) (tag : W64)
  /-- CHECKPOINT_COMMIT (R407): Once every block is written and acknowledged, Chanter writes the commit record and resumes the job. -/
  | checkpointCommit (job : BitVec 8)
  /-- FIELD_TEST_DUE (R412): A core's test age reaches 24 h, so an idle core is tested at once and a job's test falls due. -/
  | fieldTestDue (n : CoreId)
  /-- FIELD_TEST_FORCED (R413): The test deferral of a job ends and Chanter forces its test with a checkpoint first. -/
  | fieldTestForced (job : BitVec 8)
  /-- FIELD_TEST_DONE (R414): BIST ends, cores failing are marked bad, and the job reloads and resumes or fails. -/
  | fieldTestDone (cores : List CoreId) (failed : List CoreId)
  /-- PEER_FRAME (R359): A peer frame is checked, taken in or forwarded by its package, or answered NAK. -/
  | peerFrame (p : Fin 4) (fr : Frame)
  /-- COLD_RESET (R415): Power-on, a falling power-good, a thermal reset or a JTAG exit resets the package and loses its state. -/
  | coldReset (cause : ColdCause)
  /-- WARM_RESET (R416): A PERST# assertion unloads all jobs and reboots Chanter while DDR5 keeps its contents. -/
  | warmReset
  /-- HOT_RESET (R416): A PCIe hot reset or FLR resets the host interface, mailboxes and timers while jobs run on. -/
  | hotReset (flr : Bool)
  /-- REFCLK_LOSS (R462): SYS_REFCLK stops, device time stops and the package holds its state until the clock returns or a PG falls. -/
  | refclkLoss
  /-- JTAG_INSTRUCTION (R456): A TAP instruction or TRST# takes effect, with an exit from EXTEST or CLAMP causing a cold reset. -/
  | jtagInstruction (ir : TapIr)
  /-- ROLLBACK_FUSE_BLOW (R446): After READY, Chanter blows rollback fuses until the counter equals the running firmware's SVN. -/
  | rollbackFuseBlow
  /-- LANE_LOCK_LOSS (R219): A Ligature module reports loss of lane lock on its sideband and the link enters RETRAIN. -/
  | laneLockLoss (l : LinkId)
  /-- COLD_RESET_RELEASE (R461): The always-on domain releases the cold reset 1 ms after the last power-good is asserted, and the boot phases run. -/
  | coldResetRelease (down : List LinkId)
  /-- PERST_DEASSERTION (R437): PERST# deasserts, ending a warm reset or releasing the PCIe function, and Chanter boots and answers configuration requests. -/
  | perstDeassertion (down : List LinkId)
  /-- REFCLK_RETURN (R462): SYS_REFCLK returns after a loss, and device time and the PLLs run again. -/
  | refclkReturn
  /-- VDD_AON_LOSS (R458): VDD_AON is lost, the package enters P-OFF and the reset-cause record ends. -/
  | vddAonLoss
  /-- EVT_IN_CLOCK_RETURN (R283): Clock edges are seen again on EVT_IN and IN_CLK is set. -/
  | evtInClockReturn
  /-- TIMER_GATE_CHANGE (R297): A selected gate source such as a GPIO, FRAME_SYNC_IN level or EVT_IN FRM changes, and the timer's gate opens or closes. -/
  | timerGateChange (k : TimerId) (on : Bool)
  /-- MEM_FILL_DONE (R369): A background MEM_FILL finishes writing zero blocks and its completion is written. -/
  | memFillDone (id : Nat)
  /-- CHECKPOINT_EXPORT_DONE (R410): A background CHECKPOINT_EXPORT finishes copying the slot and completes with the bytes written. -/
  | checkpointExportDone (id : Nat)
  /-- CHECKPOINT_IMPORT_DONE (R410): A background CHECKPOINT_IMPORT finishes writing and checking the copy and makes it newest, or completes with INTEGRITY. -/
  | checkpointImportDone (id : Nat)
  /-- FW_UPDATE_COMMIT_DONE (R447): Verification of the inactive firmware slot ends, and the boot pointer is rewritten or the header erased, and the command completes. -/
  | fwUpdateCommitDone (id : Nat)
  /-- HIER_DISCOVER_DONE (R361): Tree discovery ends, the package IDs and PEER_TREE are written and HIER_DISCOVER completes. -/
  | hierDiscoverDone (id : Nat) (mask : BitVec 16)
  deriving DecidableEq, Repr

end Sys2Proof
end

