-- ==== Sys2Proof/Decode.lean ====
section
/-! DEFINITION. The commands that a word spells by the bits the table gives its rows. -/
namespace Sys2Proof

/-- The command that a word spells. Every row of the table has an empty list of fields: the block's commands are
operations and events, not words, so no word spells one. -/
def decodeTableWord (_nbits _w : Nat) : Option Instr := none

end Sys2Proof
end

