-- ==== Sys2Proof/Config.lean ====
section
/-! DEFINITION. What an implementation fixes and the spec leaves open: constants without a body, so that no proof can
see a value of them. -/
namespace Sys2Proof

/-- The `n`-th value that the spec leaves undefined (log entry 1). -/
opaque Config.freeValue : Nat → BitVec 64

/-- The private-key signature that the device key makes over a message (R451): a signature of the scheme the spec
names, whose bytes only the device can form (log entry 14). -/
opaque Config.deviceSign : List Byte → List Byte

/-- Whether a signature over a message verifies under the public key given by its hash (R444; log entry 14). -/
opaque Config.signatureValid : List Byte → List Byte → List Byte → Bool

/-- The bytes of the external flash as delivered: firmware, certificate, board configuration (R440; log entry 23). -/
opaque Config.flashByte : Nat → Byte

/-- The bytes of the bad-core mark area of the flash when the given cores are marked: the spec gives it no format (R414,
R450; log entry 23). -/
opaque Config.markArea : List Nat → List Byte

/-- The fused SHA-256 of the vendor public key (R443; log entry 23). -/
opaque Config.vendorKeyHash : List Byte

/-- `DDR_CONFIG` as Chanter reads it from the modules or the board configuration: 0 where the channels differ or one is
empty (R312; log entry 24). -/
opaque Config.ddrConfig : BitVec 9

/-- `STEPPING.GRADE` as fused: an extended part (R6; log entry 25). -/
opaque Config.extended : Bool

/-- What rail `k` measures when its telemetry is read with serial number `n`: millivolts and milliamperes (Table 16-6;
log entry 26). -/
opaque Config.railMeasured : Nat → Nat → BitVec 16 × BitVec 32

/-- What discovery after reset finds of the package tree: this package's role, its ports in use and its number within
its tier (R361; log entry 29). -/
opaque Config.tree : BitVec 2 × BitVec 4 × BitVec 4

/-- The place of temperature sensor `k`: die 0–3, or 4 for the hub (Table 16-6; log entry 30). -/
opaque Config.sensorPlace : Nat → BitVec 3

/-- CHECK of a control word over its bits [30:6]: a SEC-DED code that Table 8-11 names and does not lay out (log entry 138). -/
opaque Config.controlCheck : BitVec 25 → BitVec 6

end Sys2Proof
end

