-- ==== Sys2Proof/Machine/Bits.lean ====
section
/-! DEFINITION. Bit fields, sign extension, saturation, byte order and the sparse table's operations. -/
namespace Sys2Proof.Machine

/-- Field [lo + n - 1 : lo] of a word, as a number. -/
def fld (w : W64) (lo n : Nat) : Nat := (w.toNat >>> lo) % 2 ^ n

/-- `w` with field [lo + n - 1 : lo] replaced by the low `n` bits of `v`. -/
def putFld (w : W64) (lo n v : Nat) : W64 :=
  (w &&& ~~~ (BitVec.ofNat 64 ((2 ^ n - 1) * 2 ^ lo))) ||| BitVec.ofNat 64 ((v % 2 ^ n) * 2 ^ lo)

/-- Bit `i` of a word. -/
def bitAt (w : W64) (i : Nat) : Bool := w.getLsbD i

/-- `w` with bit `i` set. -/
def setBit (w : W64) (i : Nat) : W64 := w ||| BitVec.ofNat 64 (2 ^ i)

/-- `w` with bit `i` cleared. -/
def clrBit (w : W64) (i : Nat) : W64 := w &&& ~~~ (BitVec.ofNat 64 (2 ^ i))

/-- `w` with bit `i` equal to `b`. -/
def putBit (w : W64) (i : Nat) (b : Bool) : W64 := if b then setBit w i else clrBit w i

/-- The word whose bits [hi:lo] are ones. -/
def ones (hi lo : Nat) : W64 := BitVec.ofNat 64 (2 ^ (hi + 1) - 2 ^ lo)

/-- A number as a 64-bit word. -/
def w64 (n : Nat) : W64 := BitVec.ofNat 64 n

/-- A truth value as a bit. -/
def b2n (b : Bool) : Nat := if b then 1 else 0

/-- The low `n` bits of `v` read as a signed number. -/
def sx (n v : Nat) : Int :=
  let u := v % 2 ^ n
  if u < 2 ^ (n - 1) then (u : Int) else (u : Int) - (2 ^ n : Nat)

/-- The low `n` bits of a signed number. -/
def ux (n : Nat) (x : Int) : Nat := (x % ((2 ^ n : Nat) : Int)).toNat

/-- Wrap-around within `n` signed bits (Scope, "Timing, pseudocode and examples"). -/
def wrap (n : Nat) (x : Int) : Int := sx n (ux n x)

/-- `sat(x, n)`: clamp to the signed `n`-bit range. -/
def sat (x : Int) (n : Nat) : Int :=
  let hi : Int := ((2 ^ (n - 1) : Nat) : Int) - 1
  let lo : Int := - ((2 ^ (n - 1) : Nat) : Int)
  if x > hi then hi else if x < lo then lo else x

/-- True when `sat x n` changes `x`. -/
def satHit (x : Int) (n : Nat) : Bool := sat x n != x

/-- A counter `n` bits wide that stops at its largest value. -/
def satAdd (n old by_ : Nat) : Nat := min (old + by_) (2 ^ n - 1)

/-- Arithmetic shift right of a signed number (`>>` in the pseudocode). -/
def asr (x : Int) (n : Nat) : Int := x / ((2 ^ n : Nat) : Int)

/-- `floor(x × 2^-n + 1/2)`: round half up after a right shift. -/
def rnd (x : Int) (n : Nat) : Int := if n = 0 then x else asr (x + ((2 ^ (n - 1) : Nat) : Int)) n

/-- ⌈a / b⌉. -/
def cdiv (a b : Nat) : Nat := (a + b - 1) / b

/-- A number below 2^(8n) as its `n` little-endian bytes (R8). -/
def leBytes : Nat → Nat → List Byte
  | 0, _ => []
  | n + 1, v => BitVec.ofNat 8 v :: leBytes n (v / 256)

/-- Little-endian bytes as a number (R8). -/
def leNat : List Byte → Nat
  | [] => 0
  | b :: r => b.toNat + 256 * leNat r

/-- Bytes, the first the most significant, as a number. -/
def beNat (l : List Byte) : Nat := leNat l.reverse

/-- Bytes most significant first. -/
def beBytes (n v : Nat) : List Byte := (leBytes n v).reverse

/-- The entry of a sparse table at key `k`; a key not listed holds `d k`. -/
def Sparse.get {α : Type} (d : Nat → α) : Sparse α → Nat → α
  | [], k => d k
  | (k', v) :: r, k => if k' = k then v else Sparse.get d r k

/-- Put `(k, v)` at its place in rising order. -/
def Sparse.ins {α : Type} (k : Nat) (v : α) : Sparse α → Sparse α
  | [] => [(k, v)]
  | (k', v') :: r => if k < k' then (k, v) :: (k', v') :: r else (k', v') :: Sparse.ins k v r

/-- Remove key `k`: it holds its default again. -/
def Sparse.del {α : Type} (m : Sparse α) (k : Nat) : Sparse α := m.filter fun e => e.1 != k

/-- Write `v` at key `k`, in canonical form: a default value is not listed. -/
def Sparse.set {α : Type} [DecidableEq α] (d : Nat → α) (m : Sparse α) (k : Nat) (v : α) : Sparse α :=
  if v = d k then Sparse.del m k else Sparse.ins k v (Sparse.del m k)

/-- Every key for which `p` holds goes back to its default. -/
def Sparse.clear {α : Type} (m : Sparse α) (p : Nat → Bool) : Sparse α := m.filter fun e => ! p e.1

/-- Canonical form: keys strictly rising, no entry equal to the default. -/
def Sparse.wf {α : Type} [DecidableEq α] (d : Nat → α) : Sparse α → Bool
  | [] => true
  | [(k, v)] => v ≠ d k
  | (k, v) :: (k', v') :: r => (v ≠ d k) && (decide (k < k')) && Sparse.wf d ((k', v') :: r)

end Sys2Proof.Machine
end

