-- ==== Sys2Proof/Machine/Check.lean ====
section
/-! DEFINITION. Check values: CRC-32C of tensor blocks and digests (R317), CRC-16/IBM-3740 of frames (R284, R358), and
SHA-256 of images (R394). -/
namespace Sys2Proof.Machine

/-- One bit of the reflected CRC-32C register. -/
def crc32cBit (c : Nat) : Nat := if c % 2 = 1 then (c / 2) ^^^ 0x82F63B78 else c / 2

/-- One byte of CRC-32C, eight bits from the least significant. -/
def crc32cByte (c : Nat) (b : Byte) : Nat :=
  let c := c ^^^ b.toNat
  crc32cBit (crc32cBit (crc32cBit (crc32cBit (crc32cBit (crc32cBit (crc32cBit (crc32cBit c)))))))

/-- The register after a list of bytes: `crc32cByte` for each in turn. The match on the register makes a kernel that
evaluates it go byte by byte. -/
def crc32cFrom : Nat → List Byte → Nat
  | c, [] => c
  | 0, b :: r => crc32cFrom (crc32cByte 0 b) r
  | c + 1, b :: r => crc32cFrom (crc32cByte (c + 1) b) r

/-- CRC-32C of a list of bytes (R317). -/
def crc32c (l : List Byte) : Nat := crc32cFrom 0xFFFFFFFF l ^^^ 0xFFFFFFFF

/-- One bit of CRC-16/IBM-3740: polynomial 0x1021, most significant bit first. -/
def crc16Bit (c : Nat) : Nat := if c ≥ 0x8000 then ((2 * c) % 0x10000) ^^^ 0x1021 else 2 * c

/-- One byte of CRC-16/IBM-3740. -/
def crc16Byte (c : Nat) (b : Byte) : Nat :=
  let c := c ^^^ (b.toNat * 256)
  crc16Bit (crc16Bit (crc16Bit (crc16Bit (crc16Bit (crc16Bit (crc16Bit (crc16Bit c)))))))

/-- CRC-16/IBM-3740 of a list of bytes (R284). -/
def crc16 (l : List Byte) : Nat := l.foldl crc16Byte 0xFFFF

/-- Rotate a 32-bit number right. -/
def rotr32 (x n : Nat) : Nat := (x >>> n) ||| ((x <<< (32 - n)) % 2 ^ 32)

/-- The first eight round constants of SHA-256, and the seven groups of eight after them. PRESUMED: the hash the spec
names is the one of FIPS 180-4 (log entry 2). -/
def shaK0 : List Nat := [0x428a2f98, 0x71374491, 0xb5c0fbcf, 0xe9b5dba5, 0x3956c25b, 0x59f111f1, 0x923f82a4, 0xab1c5ed5]
def shaK1 : List Nat := [0xd807aa98, 0x12835b01, 0x243185be, 0x550c7dc3, 0x72be5d74, 0x80deb1fe, 0x9bdc06a7, 0xc19bf174]
def shaK2 : List Nat := [0xe49b69c1, 0xefbe4786, 0x0fc19dc6, 0x240ca1cc, 0x2de92c6f, 0x4a7484aa, 0x5cb0a9dc, 0x76f988da]
def shaK3 : List Nat := [0x983e5152, 0xa831c66d, 0xb00327c8, 0xbf597fc7, 0xc6e00bf3, 0xd5a79147, 0x06ca6351, 0x14292967]
def shaK4 : List Nat := [0x27b70a85, 0x2e1b2138, 0x4d2c6dfc, 0x53380d13, 0x650a7354, 0x766a0abb, 0x81c2c92e, 0x92722c85]
def shaK5 : List Nat := [0xa2bfe8a1, 0xa81a664b, 0xc24b8b70, 0xc76c51a3, 0xd192e819, 0xd6990624, 0xf40e3585, 0x106aa070]
def shaK6 : List Nat := [0x19a4c116, 0x1e376c08, 0x2748774c, 0x34b0bcb5, 0x391c0cb3, 0x4ed8aa4a, 0x5b9cca4f, 0x682e6ff3]
def shaK7 : List Nat := [0x748f82ee, 0x78a5636f, 0x84c87814, 0x8cc70208, 0x90befffa, 0xa4506ceb, 0xbef9a3f7, 0xc67178f2]
def shaK : List Nat := shaK0 ++ shaK1 ++ shaK2 ++ shaK3 ++ shaK4 ++ shaK5 ++ shaK6 ++ shaK7

/-- The message schedule, newest word first. -/
def shaExtend : Nat → List Nat → List Nat
  | 0, w => w
  | n + 1, w =>
    let a := w.getD 14 0
    let b := w.getD 1 0
    let s0 := (rotr32 a 7 ^^^ rotr32 a 18) ^^^ (a >>> 3)
    let s1 := (rotr32 b 17 ^^^ rotr32 b 19) ^^^ (b >>> 10)
    shaExtend n (((w.getD 15 0 + s0 + w.getD 6 0 + s1) % 2 ^ 32) :: w)

/-- The eight working variables. -/
structure Sha where
  a : Nat := 0x6a09e667
  b : Nat := 0xbb67ae85
  c : Nat := 0x3c6ef372
  d : Nat := 0xa54ff53a
  e : Nat := 0x510e527f
  f : Nat := 0x9b05688c
  g : Nat := 0x1f83d9ab
  h : Nat := 0x5be0cd19
  deriving DecidableEq, Repr

/-- One round. -/
def shaRound (v : Sha) (kw : Nat × Nat) : Sha :=
  let s1 := (rotr32 v.e 6 ^^^ rotr32 v.e 11) ^^^ rotr32 v.e 25
  let ch := (v.e &&& v.f) ^^^ ((0xFFFFFFFF - v.e) &&& v.g)
  let t1 := v.h + s1 + ch + kw.1 + kw.2
  let s0 := (rotr32 v.a 2 ^^^ rotr32 v.a 13) ^^^ rotr32 v.a 22
  let mj := ((v.a &&& v.b) ^^^ (v.a &&& v.c)) ^^^ (v.b &&& v.c)
  { a := (t1 + s0 + mj) % 2 ^ 32, b := v.a, c := v.b, d := v.c
    e := (v.d + t1) % 2 ^ 32, f := v.e, g := v.f, h := v.g }

/-- One 64-byte block, given as 16 big-endian words. -/
def shaBlock (v : Sha) (w : List Nat) : Sha :=
  let r := (shaK.zip (shaExtend 48 w.reverse).reverse).foldl shaRound v
  { a := (v.a + r.a) % 2 ^ 32, b := (v.b + r.b) % 2 ^ 32, c := (v.c + r.c) % 2 ^ 32, d := (v.d + r.d) % 2 ^ 32
    e := (v.e + r.e) % 2 ^ 32, f := (v.f + r.f) % 2 ^ 32, g := (v.g + r.g) % 2 ^ 32, h := (v.h + r.h) % 2 ^ 32 }

/-- The first `n` blocks of a list of bytes. -/
def shaBlocks : Nat → Sha → List Byte → Sha
  | 0, v, _ => v
  | n + 1, v, l =>
    let w := (List.range 16).map fun i => beNat ((l.drop (4 * i)).take 4)
    shaBlocks n (shaBlock v w) (l.drop 64)

/-- SHA-256 of a list of bytes, 32 bytes (R394, R395). -/
def sha256 (l : List Byte) : List Byte :=
  let n := l.length
  let padded := l ++ (0x80 : Byte) :: List.replicate ((119 - n % 64) % 64) 0 ++ beBytes 8 (8 * n)
  let v := shaBlocks (padded.length / 64) {} padded
  beBytes 4 v.a ++ beBytes 4 v.b ++ beBytes 4 v.c ++ beBytes 4 v.d
    ++ beBytes 4 v.e ++ beBytes 4 v.f ++ beBytes 4 v.g ++ beBytes 4 v.h

end Sys2Proof.Machine
end

