-- ==== Sys2Proof/Machine/RegMap.lean ====
section
/-! DEFINITION. The register map: the offset of every register the spec names, its reset value, and the bits a write
stores or clears. Hub registers are named by their offset in the region at 0x0030_0000_0000 (R33, Table 13-2); core
registers by their offset in the core's register block (R27). Functions here are data of the model, no state. -/
namespace Sys2Proof.Machine

/-- `FAMILY_ID` (Table 0-2). -/
def R.familyId : Nat := 0x0
/-- `MEMBER_ID` (Table 0-2). -/
def R.memberId : Nat := 0x8
/-- `STEPPING` (Table 0-2). -/
def R.stepping : Nat := 0x10
/-- `DIE_COUNT` (Table 0-2). -/
def R.dieCount : Nat := 0x18
/-- `CORES_X` (Table 0-2). -/
def R.coresX : Nat := 0x20
/-- `CORES_Y` (Table 0-2). -/
def R.coresY : Nat := 0x28
/-- `CORE_MEM_KIB` (Table 0-2). -/
def R.coreMemKib : Nat := 0x30
/-- `QUEUES_PER_CORE` (Table 0-2). -/
def R.queuesPerCore : Nat := 0x38
/-- `SYNC_PER_CORE` (Table 0-2). -/
def R.syncPerCore : Nat := 0x40
/-- `HUB_SRAM_MIB` (Table 0-2). -/
def R.hubSramMib : Nat := 0x48
/-- `BRTH_CONFIG` (Table 2-5). -/
def R.brthConfig (j : Nat) : Nat := 0x40000 + 0x200 * j
/-- `BRTH_RECT` (Table 2-5). -/
def R.brthRect (j : Nat) : Nat := 0x40008 + 0x200 * j
/-- `BRTH_PERIOD` (Table 2-5). -/
def R.brthPeriod (j : Nat) : Nat := 0x40010 + 0x200 * j
/-- `BRTH_FRAME` (Table 2-5). -/
def R.brthFrame (j : Nat) : Nat := 0x40018 + 0x200 * j
/-- `BRTH_LAG_LIMIT` (Table 2-5). -/
def R.brthLagLimit (j : Nat) : Nat := 0x40020 + 0x200 * j
/-- `BRTH_STATUS` (Table 2-5). -/
def R.brthStatus (j : Nat) : Nat := 0x40028 + 0x200 * j
/-- `STEP_COUNT` (Table 2-5). -/
def R.stepCount (j : Nat) : Nat := 0x40030 + 0x200 * j
/-- `BRTH_CLOSED` (Table 2-5). -/
def R.brthClosed (j : Nat) : Nat := 0x40038 + 0x200 * j
/-- `BRTH_NEXT_NOMINAL` (Table 2-5). -/
def R.brthNextNominal (j : Nat) : Nat := 0x40040 + 0x200 * j
/-- `BRTH_LAST_START` (Table 2-5). -/
def R.brthLastStart (j : Nat) : Nat := 0x40048 + 0x200 * j
/-- `BRTH_LAG` (Table 2-5). -/
def R.brthLag (j : Nat) : Nat := 0x40050 + 0x200 * j
/-- `BRTH_STRETCH_COUNT` (Table 2-5). -/
def R.brthStretchCount (j : Nat) : Nat := 0x40058 + 0x200 * j
/-- `BRTH_STRETCH_HIST` (Table 2-5). -/
def R.brthStretchHist (j k : Nat) : Nat := 0x40060 + 0x200 * j + 0x8 * k
/-- `BRTH_BUSY_MAX` (Table 2-5). -/
def R.brthBusyMax (j : Nat) : Nat := 0x400a0 + 0x200 * j
/-- `BRTH_FRAME_EDGE` (Table 2-5). -/
def R.brthFrameEdge (j : Nat) : Nat := 0x400a8 + 0x200 * j
/-- `BRTH_FRAME_STEP` (Table 2-5). -/
def R.brthFrameStep (j : Nat) : Nat := 0x400b0 + 0x200 * j
/-- `BRTH_FRAME_MISS` (Table 2-5). -/
def R.brthFrameMiss (j : Nat) : Nat := 0x400b8 + 0x200 * j
/-- `BRTH_FRAME_SLIP` (Table 2-5). -/
def R.brthFrameSlip (j : Nat) : Nat := 0x400c0 + 0x200 * j
/-- `BRTH_GRID_SKIPPED` (Table 2-5). -/
def R.brthGridSkipped (j : Nat) : Nat := 0x400c8 + 0x200 * j
/-- `BRTH_ACC_SENT` (Table 2-5). -/
def R.brthAccSent (j : Nat) : Nat := 0x400d0 + 0x200 * j
/-- `BRTH_ACC_RECEIVED` (Table 2-5). -/
def R.brthAccReceived (j : Nat) : Nat := 0x400d8 + 0x200 * j
/-- `BRTH_ACC_DONE` (Table 2-5). -/
def R.brthAccDone (j : Nat) : Nat := 0x400e0 + 0x200 * j
/-- `BRTH_FAULT` (Table 2-5). -/
def R.brthFault (j : Nat) : Nat := 0x400e8 + 0x200 * j
/-- `BRTH_PULSE_OVR` (Table 2-5). -/
def R.brthPulseOvr (j : Nat) : Nat := 0x400f0 + 0x200 * j
/-- `CORE_ID` (Table 3-10). -/
def R.coreId : Nat := 0x0
/-- `CORE_CONFIG` (Table 3-10). -/
def R.coreConfig : Nat := 0x8
/-- `CORE_STEP` (Table 3-10). -/
def R.coreStep : Nat := 0x10
/-- `CORE_STATUS` (Table 3-10). -/
def R.coreStatus : Nat := 0x18
/-- `ROUTE_BASE` (Table 3-10). -/
def R.routeBase : Nat := 0x20
/-- `SPLIT_OUT_BASE` (Table 3-10). -/
def R.splitOutBase : Nat := 0x28
/-- `SPLIT_IN_BASE` (Table 3-10). -/
def R.splitInBase : Nat := 0x30
/-- `INTAKE_EVENTS` (Table 3-10). -/
def R.intakeEvents : Nat := 0x40
/-- `INTAKE_READS` (Table 3-10). -/
def R.intakeReads : Nat := 0x48
/-- `INTAKE_NOMATCH` (Table 3-10). -/
def R.intakeNomatch : Nat := 0x50
/-- `INTAKE_DEFERRED` (Table 3-10). -/
def R.intakeDeferred : Nat := 0x58
/-- `INTAKE_STRAY` (Table 3-10). -/
def R.intakeStray : Nat := 0x60
/-- `INTAKE_ANTI` (Table 3-10). -/
def R.intakeAnti : Nat := 0x68
/-- `EMIT_EVENTS` (Table 3-10). -/
def R.emitEvents : Nat := 0x70
/-- `EMIT_FLITS` (Table 3-10). -/
def R.emitFlits : Nat := 0x78
/-- `EMIT_STALL_CYCLES` (Table 3-10). -/
def R.emitStallCycles : Nat := 0x80
/-- `MISADDRESSED` (Table 3-10). -/
def R.misaddressed : Nat := 0x88
/-- `SPLIT_FWD_FLITS` (Table 3-10). -/
def R.splitFwdFlits : Nat := 0x90
/-- `SPLIT_IN_FLITS` (Table 3-10). -/
def R.splitInFlits : Nat := 0x98
/-- `SPLIT_STRAY` (Table 3-10). -/
def R.splitStray : Nat := 0xa0
/-- `PLAS_WRITE_LOST` (Table 3-10). -/
def R.plasWriteLost : Nat := 0xa8
/-- `CORE_FAULT` (Table 3-10). -/
def R.coreFault : Nat := 0xb0
/-- `CORE_PULSE_OVR` (Table 3-10). -/
def R.corePulseOvr : Nat := 0xb8
/-- `BANK_CONFLICT` (Table 3-10). -/
def R.bankConflict (k : Nat) : Nat := 0xc0 + 0x8 * k
/-- `MATRIX_DESC_A` (Table 3-10). -/
def R.matrixDescA (m : Nat) : Nat := 0x100 + 0x10 * m
/-- `MATRIX_DESC_B` (Table 3-10). -/
def R.matrixDescB (m : Nat) : Nat := 0x108 + 0x10 * m
/-- `NE_CONFIG` (Table 4-6). -/
def R.neConfig : Nat := 0x300
/-- `NE_STATUS` (Table 4-6). -/
def R.neStatus : Nat := 0x308
/-- `NE_PROG` (Table 4-6). -/
def R.neProg (p : Nat) : Nat := 0x310 + 0x8 * p
/-- `NE_UPDATE_CYCLES` (Table 4-6). -/
def R.neUpdateCycles : Nat := 0x350
/-- `NE_UPDATE_MAX` (Table 4-6). -/
def R.neUpdateMax : Nat := 0x358
/-- `NEU_SAT_FIRE` (Table 4-6). -/
def R.neuSatFire : Nat := 0x360
/-- `NE_ARITH_SAT` (Table 4-6). -/
def R.neArithSat : Nat := 0x368
/-- `NE_INPUT_SAT` (Table 4-6). -/
def R.neInputSat : Nat := 0x370
/-- `NE_BAD_OP` (Table 4-6). -/
def R.neBadOp : Nat := 0x378
/-- `NE_POP_COST` (Table 4-6). -/
def R.nePopCost (q : Nat) : Nat := 0x380 + 0x8 * q
/-- `PLAS_CONFIG` (Table 6-3). -/
def R.plasConfig : Nat := 0x400
/-- `PLAS_STATUS` (Table 6-3). -/
def R.plasStatus : Nat := 0x408
/-- `PLAS_STEP` (Table 6-3). -/
def R.plasStep : Nat := 0x410
/-- `PLAS_MOD` (Table 6-3). -/
def R.plasMod : Nat := 0x418
/-- `PLAS_CYCLES` (Table 6-3). -/
def R.plasCycles : Nat := 0x420
/-- `PLAS_CYCLES_MAX` (Table 6-3). -/
def R.plasCyclesMax : Nat := 0x428
/-- `PLAS_ROWS` (Table 6-3). -/
def R.plasRows : Nat := 0x430
/-- `PLAS_WRITES` (Table 6-3). -/
def R.plasWrites : Nat := 0x438
/-- `PLAS_CLAMPED` (Table 6-3). -/
def R.plasClamped : Nat := 0x440
/-- `PLAS_PRE_SAT` (Table 6-3). -/
def R.plasPreSat : Nat := 0x448
/-- `PLAS_MOD_MISSING` (Table 6-3). -/
def R.plasModMissing : Nat := 0x450
/-- `PLAS_MOD_LATE` (Table 6-3). -/
def R.plasModLate : Nat := 0x458
/-- `DEFER_OCC` (Table 6-3). -/
def R.deferOcc : Nat := 0x460
/-- `PLAS_BAD_ENTRY` (Table 6-3). -/
def R.plasBadEntry : Nat := 0x468
/-- `OVB_CONFIG` (Table 7-4). -/
def R.ovbConfig : Nat := 0x500
/-- `OVB_STATUS` (Table 7-4). -/
def R.ovbStatus : Nat := 0x508
/-- `OVB_SPEC_STEPS` (Table 7-4). -/
def R.ovbSpecSteps : Nat := 0x510
/-- `OVB_LATE_EVENTS` (Table 7-4). -/
def R.ovbLateEvents : Nat := 0x518
/-- `OVB_PASSES` (Table 7-4). -/
def R.ovbPasses : Nat := 0x520
/-- `OVB_ROLLBACK_NEURONS` (Table 7-4). -/
def R.ovbRollbackNeurons : Nat := 0x528
/-- `OVB_DECISIONS_CHANGED` (Table 7-4). -/
def R.ovbDecisionsChanged : Nat := 0x530
/-- `OVB_ANTI_SENT` (Table 7-4). -/
def R.ovbAntiSent : Nat := 0x538
/-- `OVB_FRESH_SENT` (Table 7-4). -/
def R.ovbFreshSent : Nat := 0x540
/-- `OVB_RERUN_CYCLES` (Table 7-4). -/
def R.ovbRerunCycles : Nat := 0x548
/-- `OVB_LATE_DROPPED` (Table 7-4). -/
def R.ovbLateDropped : Nat := 0x550
/-- `RTR_CONFIG` (Table 8-15). -/
def R.rtrConfig (n : Nat) : Nat := 0x100000 + 0x200 * n
/-- `RTR_STATUS` (Table 8-15). -/
def R.rtrStatus (n : Nat) : Nat := 0x100008 + 0x200 * n
/-- `RTR_OCC` (Table 8-15). -/
def R.rtrOcc (n : Nat) : Nat := 0x100010 + 0x200 * n
/-- `RTR_DRAIN` (Table 8-15). -/
def R.rtrDrain (n : Nat) : Nat := 0x100018 + 0x200 * n
/-- `RTR_MERGES` (Table 8-15). -/
def R.rtrMerges (n : Nat) : Nat := 0x100020 + 0x200 * n
/-- `RTR_MARKS` (Table 8-15). -/
def R.rtrMarks (n : Nat) : Nat := 0x100028 + 0x200 * n
/-- `RTR_BAD_TYPE` (Table 8-15). -/
def R.rtrBadType (n : Nat) : Nat := 0x100030 + 0x200 * n
/-- `RTR_CIRCUIT_STRAY` (Table 8-15). -/
def R.rtrCircuitStray (n : Nat) : Nat := 0x100038 + 0x200 * n
/-- `RTR_SHAPER` (Table 8-15). -/
def R.rtrShaper (n : Nat) : Nat := 0x100040 + 0x200 * n
/-- `ECHO_SENT` (Table 8-15). -/
def R.echoSent (n : Nat) : Nat := 0x100048 + 0x200 * n
/-- `ECHO_RECEIVED` (Table 8-15). -/
def R.echoReceived (n : Nat) : Nat := 0x100050 + 0x200 * n
/-- `ECHO_IGNORED` (Table 8-15). -/
def R.echoIgnored (n : Nat) : Nat := 0x100058 + 0x200 * n
/-- `LINK_CORRECTED` (Table 8-15). -/
def R.linkCorrected (n p : Nat) : Nat := 0x100060 + 0x200 * n + 0x8 * p
/-- `LINK_REPLAYS` (Table 8-15). -/
def R.linkReplays (n p : Nat) : Nat := 0x100080 + 0x200 * n + 0x8 * p
/-- `LINK_RETRAINS` (Table 8-15). -/
def R.linkRetrains (n p : Nat) : Nat := 0x1000a0 + 0x200 * n + 0x8 * p
/-- `LINK_DOWN_DROPS` (Table 8-15). -/
def R.linkDownDrops (n p : Nat) : Nat := 0x1000c0 + 0x200 * n + 0x8 * p
/-- `LINK_CTRL_DISCARDS` (Table 8-15). -/
def R.linkCtrlDiscards (n : Nat) : Nat := 0x1000e0 + 0x200 * n
/-- `RTR_CIRCUIT` (Table 8-15). -/
def R.rtrCircuit (n k : Nat) : Nat := 0x100100 + 0x200 * n + 0x8 * k
/-- `MESH_SHAPE` (Table 8-16). -/
def R.meshShape : Nat := 0x50000
/-- `MESH_RETRY_BUDGET` (Table 8-16). -/
def R.meshRetryBudget : Nat := 0x50008
/-- `MESH_ALARM` (Table 8-16). -/
def R.meshAlarm : Nat := 0x50010
/-- `MESH_LAST_DEGRADED` (Table 8-16). -/
def R.meshLastDegraded : Nat := 0x50018
/-- `MESH_FENCE` (Table 8-16). -/
def R.meshFence (f : Nat) : Nat := 0x50020 + 0x8 * f
/-- `MESH_DRAIN_STATUS` (Table 8-16). -/
def R.meshDrainStatus : Nat := 0x50040
/-- `MESH_DRAIN_TIMEOUT` (Table 8-16). -/
def R.meshDrainTimeout : Nat := 0x50048
/-- `HUB_DRAIN` (Table 8-16). -/
def R.hubDrain : Nat := 0x50050
/-- `MESH_MISADDR_HUB` (Table 8-16). -/
def R.meshMisaddrHub : Nat := 0x50058
/-- `HUBPORT_STATUS` (Table 8-16). -/
def R.hubportStatus (p : Nat) : Nat := 0x50060 + 0x8 * p
/-- `HUBPORT_REPLAYS` (Table 8-16). -/
def R.hubportReplays (p : Nat) : Nat := 0x50160 + 0x8 * p
/-- `HUBPORT_CORRECTED` (Table 8-16). -/
def R.hubportCorrected (p : Nat) : Nat := 0x50260 + 0x8 * p
/-- `DL_WINDOW` (Table 9-15). -/
def R.dlWindow (j : Nat) : Nat := 0x51000 + 0x10 * j
/-- `DL_QUIET` (Table 9-15). -/
def R.dlQuiet (j : Nat) : Nat := 0x51008 + 0x10 * j
/-- `LEND_THRESHOLD` (Table 9-15). -/
def R.lendThreshold : Nat := 0x51400
/-- `Q_CONFIG` (Table 9-16). -/
def R.qConfig : Nat := 0x600
/-- `QOP_CMD` (Table 9-16). -/
def R.qopCmd : Nat := 0x608
/-- `QOP_ARG` (Table 9-16). -/
def R.qopArg : Nat := 0x610
/-- `QOP_RESULT` (Table 9-16). -/
def R.qopResult : Nat := 0x618
/-- `Q_STATUS` (Table 9-16). -/
def R.qStatus : Nat := 0x620
/-- `Q_POLL_GAP` (Table 9-16). -/
def R.qPollGap : Nat := 0x628
/-- `Q_RETRY_US` (Table 9-16). -/
def R.qRetryUs : Nat := 0x630
/-- `Q_FAULT` (Table 9-16). -/
def R.qFault : Nat := 0x638
/-- `WAIT_STATE` (Table 9-16). -/
def R.waitState (e : Nat) : Nat := 0x640 + 0x8 * e
/-- `Q_MSG_IN` (Table 9-16). -/
def R.qMsgIn : Nat := 0x670
/-- `Q_MSG_OUT` (Table 9-16). -/
def R.qMsgOut : Nat := 0x678
/-- `Q_GRANTS` (Table 9-16). -/
def R.qGrants : Nat := 0x680
/-- `Q_NACK_SENT` (Table 9-16). -/
def R.qNackSent : Nat := 0x688
/-- `Q_NACK_RECEIVED` (Table 9-16). -/
def R.qNackReceived : Nat := 0x690
/-- `Q_DUP` (Table 9-16). -/
def R.qDup : Nat := 0x698
/-- `Q_ERRQ_DROP` (Table 9-16). -/
def R.qErrqDrop : Nat := 0x6a0
/-- `Q_HELD_CYCLES` (Table 9-16). -/
def R.qHeldCycles : Nat := 0x6a8
/-- `Q_LATE` (Table 9-16). -/
def R.qLate : Nat := 0x6b0
/-- `COMB_RELEASES` (Table 9-16). -/
def R.combReleases : Nat := 0x6b8
/-- `BULK_BLOCKS` (Table 9-16). -/
def R.bulkBlocks : Nat := 0x6c0
/-- `BULK_TAG_ERR` (Table 9-16). -/
def R.bulkTagErr : Nat := 0x6c8
/-- `BULK_UNBOUND` (Table 9-16). -/
def R.bulkUnbound : Nat := 0x6d0
/-- `SYNC_SIGNALS` (Table 9-16). -/
def R.syncSignals : Nat := 0x6d8
/-- `SYNC_TIMEOUTS` (Table 9-16). -/
def R.syncTimeouts : Nat := 0x6e0
/-- `SYNC_SAT` (Table 9-16). -/
def R.syncSat : Nat := 0x6e8
/-- `LEND_PARKS` (Table 9-16). -/
def R.lendParks : Nat := 0x6f0
/-- `LEND_PARKED_US` (Table 9-16). -/
def R.lendParkedUs : Nat := 0x6f8
/-- `MP_CONFIG` (Table 10-1). -/
def R.mpConfig (c : Nat) : Nat := 0x60000 + 0x100 * c
/-- `MP_ELEMS` (Table 10-1). -/
def R.mpElems (c : Nat) : Nat := 0x60008 + 0x100 * c
/-- `MP_QUANT` (Table 10-1). -/
def R.mpQuant (c : Nat) : Nat := 0x60010 + 0x100 * c
/-- `MP_ROUTE` (Table 10-1). -/
def R.mpRoute (c : Nat) : Nat := 0x60018 + 0x100 * c
/-- `MP_IN_ADDR` (Table 10-1). -/
def R.mpInAddr (c : Nat) : Nat := 0x60020 + 0x100 * c
/-- `MP_STAMP_ADDR` (Table 10-1). -/
def R.mpStampAddr (c : Nat) : Nat := 0x60028 + 0x100 * c
/-- `MP_MULT_ADDR` (Table 10-1). -/
def R.mpMultAddr (c : Nat) : Nat := 0x60030 + 0x100 * c
/-- `MP_STATE_ADDR` (Table 10-1). -/
def R.mpStateAddr (c : Nat) : Nat := 0x60038 + 0x100 * c
/-- `MP_STATUS` (Table 10-1). -/
def R.mpStatus (c : Nat) : Nat := 0x60040 + 0x100 * c
/-- `MP_SAMPLES` (Table 10-1). -/
def R.mpSamples (c : Nat) : Nat := 0x60048 + 0x100 * c
/-- `MP_LATE` (Table 10-1). -/
def R.mpLate (c : Nat) : Nat := 0x60050 + 0x100 * c
/-- `MP_EMPTY` (Table 10-1). -/
def R.mpEmpty (c : Nat) : Nat := 0x60058 + 0x100 * c
/-- `MP_FLITS` (Table 10-1). -/
def R.mpFlits (c : Nat) : Nat := 0x60060 + 0x100 * c
/-- `MP_SMOOTH_SAT` (Table 10-1). -/
def R.mpSmoothSat (c : Nat) : Nat := 0x60068 + 0x100 * c
/-- `MP_QUANT_CLAMP` (Table 10-1). -/
def R.mpQuantClamp (c : Nat) : Nat := 0x60070 + 0x100 * c
/-- `MP_SHAPER` (Table 10-1). -/
def R.mpShaper (c : Nat) : Nat := 0x60078 + 0x100 * c
/-- `MP_PULSE_OVR` (Table 10-1). -/
def R.mpPulseOvr (c : Nat) : Nat := 0x60080 + 0x100 * c
/-- `BELL_CONFIG` (Table 10-3). -/
def R.bellConfig (c : Nat) : Nat := 0x70000 + 0x100 * c
/-- `BELL_ELEMS` (Table 10-3). -/
def R.bellElems (c : Nat) : Nat := 0x70008 + 0x100 * c
/-- `BELL_STATE_ADDR` (Table 10-3). -/
def R.bellStateAddr (c : Nat) : Nat := 0x70010 + 0x100 * c
/-- `BELL_OUT_ADDR` (Table 10-3). -/
def R.bellOutAddr (c : Nat) : Nat := 0x70018 + 0x100 * c
/-- `BELL_BIND` (Table 10-3). -/
def R.bellBind (c : Nat) : Nat := 0x70020 + 0x100 * c
/-- `BELL_ACTIONS` (Table 10-3). -/
def R.bellActions (c : Nat) : Nat := 0x70028 + 0x100 * c
/-- `BELL_STATUS` (Table 10-3). -/
def R.bellStatus (c : Nat) : Nat := 0x70030 + 0x100 * c
/-- `BELL_SAMPLES` (Table 10-3). -/
def R.bellSamples (c : Nat) : Nat := 0x70038 + 0x100 * c
/-- `BELL_FLITS` (Table 10-3). -/
def R.bellFlits (c : Nat) : Nat := 0x70040 + 0x100 * c
/-- `BELL_ANTI` (Table 10-3). -/
def R.bellAnti (c : Nat) : Nat := 0x70048 + 0x100 * c
/-- `BELL_OVERFLOW` (Table 10-3). -/
def R.bellOverflow (c : Nat) : Nat := 0x70050 + 0x100 * c
/-- `BELL_NACKS` (Table 10-3). -/
def R.bellNacks (c : Nat) : Nat := 0x70058 + 0x100 * c
/-- `BELL_MULTI` (Table 10-3). -/
def R.bellMulti (c : Nat) : Nat := 0x70060 + 0x100 * c
/-- `BELL_PULSE_OVR` (Table 10-3). -/
def R.bellPulseOvr (c : Nat) : Nat := 0x70068 + 0x100 * c
/-- `EP_CONFIG` (Table 10-5). -/
def R.epConfig : Nat := 0x52000
/-- `EP_STATUS` (Table 10-5). -/
def R.epStatus : Nat := 0x52008
/-- `EP_FRAMES_IN` (Table 10-5). -/
def R.epFramesIn : Nat := 0x52010
/-- `EP_FRAMES_OUT` (Table 10-5). -/
def R.epFramesOut : Nat := 0x52018
/-- `EP_CRC_ERR` (Table 10-5). -/
def R.epCrcErr : Nat := 0x52020
/-- `EP_FORMAT_ERR` (Table 10-5). -/
def R.epFormatErr : Nat := 0x52028
/-- `EP_DROP` (Table 10-5). -/
def R.epDrop : Nat := 0x52030
/-- `EP_LATE` (Table 10-5). -/
def R.epLate : Nat := 0x52038
/-- `HUB_ROWMAP_MISS` (Table 10-5). -/
def R.hubRowmapMiss : Nat := 0x52040
/-- `EP_STREAM_A` (Table 10-5). -/
def R.epStreamA (k : Nat) : Nat := 0x52100 + 0x10 * k
/-- `EP_STREAM_B` (Table 10-5). -/
def R.epStreamB (k : Nat) : Nat := 0x52108 + 0x10 * k
/-- `TIME_NOW` (Table 11-2). -/
def R.timeNow : Nat := 0x4000
/-- `TIME_HI_LATCH` (Table 11-2). -/
def R.timeHiLatch : Nat := 0x4008
/-- `TIME_INCR` (Table 11-2). -/
def R.timeIncr : Nat := 0x4010
/-- `TIME_SLEW` (Table 11-2). -/
def R.timeSlew : Nat := 0x4018
/-- `TIME_LAST_STEP` (Table 11-2). -/
def R.timeLastStep : Nat := 0x4020
/-- `TIME_CAP_CONFIG` (Table 11-2). -/
def R.timeCapConfig : Nat := 0x4028
/-- `PPS_CAPTURE` (Table 11-2). -/
def R.ppsCapture : Nat := 0x4030
/-- `PPS_COUNT` (Table 11-2). -/
def R.ppsCount : Nat := 0x4038
/-- `FS_CAPTURE` (Table 11-2). -/
def R.fsCapture : Nat := 0x4040
/-- `FS_COUNT` (Table 11-2). -/
def R.fsCount : Nat := 0x4048
/-- `TOUT_CONFIG` (Table 11-2). -/
def R.toutConfig : Nat := 0x4050
/-- `TOUT_START` (Table 11-2). -/
def R.toutStart : Nat := 0x4058
/-- `TOUT_PERIOD` (Table 11-2). -/
def R.toutPeriod : Nat := 0x4060
/-- `TOUT_WIDTH` (Table 11-2). -/
def R.toutWidth : Nat := 0x4068
/-- `TIME_PULSE_OVR` (Table 11-2). -/
def R.timePulseOvr : Nat := 0x4070
/-- `TMR_CONFIG` (Table 11-4). -/
def R.tmrConfig (i : Nat) : Nat := 0x54000 + 0x80 * i
/-- `TMR_CTRL` (Table 11-4). -/
def R.tmrCtrl (i : Nat) : Nat := 0x54008 + 0x80 * i
/-- `TMR_STATUS` (Table 11-4). -/
def R.tmrStatus (i : Nat) : Nat := 0x54010 + 0x80 * i
/-- `TMR_COUNT` (Table 11-4). -/
def R.tmrCount (i : Nat) : Nat := 0x54018 + 0x80 * i
/-- `TMR_COMPARE` (Table 11-4). -/
def R.tmrCompare (i : Nat) : Nat := 0x54020 + 0x80 * i
/-- `TMR_RELOAD` (Table 11-4). -/
def R.tmrReload (i : Nat) : Nat := 0x54028 + 0x80 * i
/-- `TMR_CAPTURE` (Table 11-4). -/
def R.tmrCapture (i : Nat) : Nat := 0x54030 + 0x80 * i
/-- `TMR_ACT` (Table 11-4). -/
def R.tmrAct (i : Nat) : Nat := 0x54038 + 0x80 * i
/-- `TMR_LOST` (Table 11-4). -/
def R.tmrLost (i : Nat) : Nat := 0x54040 + 0x80 * i
/-- `TMR_PRESC_CNT` (Table 11-4). -/
def R.tmrPrescCnt (i : Nat) : Nat := 0x54048 + 0x80 * i
/-- `DDR_CONFIG` (Table 12-8). -/
def R.ddrConfig : Nat := 0x80000
/-- `DDR_CAPACITY` (Table 12-8). -/
def R.ddrCapacity : Nat := 0x80008
/-- `DDR_DATA_END` (Table 12-8). -/
def R.ddrDataEnd : Nat := 0x80010
/-- `MEM_ALARM` (Table 12-8). -/
def R.memAlarm : Nat := 0x80018
/-- `PATROL_PERIOD` (Table 12-8). -/
def R.patrolPeriod : Nat := 0x80020
/-- `PATROL_STATUS` (Table 12-8). -/
def R.patrolStatus : Nat := 0x80028
/-- `SRAM_SCRUB_PERIOD` (Table 12-8). -/
def R.sramScrubPeriod : Nat := 0x80030
/-- `DDR_CE` (Table 12-8). -/
def R.ddrCe (ch : Nat) : Nat := 0x80040 + 0x8 * ch
/-- `DDR_UE` (Table 12-8). -/
def R.ddrUe (ch : Nat) : Nat := 0x80060 + 0x8 * ch
/-- `POISON_SET` (Table 12-8). -/
def R.poisonSet : Nat := 0x80080
/-- `TAG_CHECK_FAIL` (Table 12-8). -/
def R.tagCheckFail : Nat := 0x80088
/-- `POISON_CONSUMED` (Table 12-8). -/
def R.poisonConsumed : Nat := 0x80090
/-- `HOST_POISON_READ` (Table 12-8). -/
def R.hostPoisonRead : Nat := 0x80098
/-- `VERIFY_FAIL` (Table 12-8). -/
def R.verifyFail : Nat := 0x800a0
/-- `SRAM_CE` (Table 12-8). -/
def R.sramCe (d : Nat) : Nat := 0x800a8 + 0x8 * d
/-- `SRAM_UE` (Table 12-8). -/
def R.sramUe (d : Nat) : Nat := 0x800c8 + 0x8 * d
/-- `HUB_SRAM_CE` (Table 12-8). -/
def R.hubSramCe : Nat := 0x800e8
/-- `HUB_SRAM_UE` (Table 12-8). -/
def R.hubSramUe : Nat := 0x800f0
/-- `HUB_WRITE_LOST` (Table 12-8). -/
def R.hubWriteLost : Nat := 0x800f8
/-- `ERR_LOG_ADDR` (Table 12-8). -/
def R.errLogAddr : Nat := 0x80100
/-- `ERR_LOG_INFO` (Table 12-8). -/
def R.errLogInfo : Nat := 0x80108
/-- `ERR_LOG_TIME` (Table 12-8). -/
def R.errLogTime : Nat := 0x80110
/-- `DMA_SRC` (Table 12-9). -/
def R.dmaSrc (e : Nat) : Nat := 0x81000 + 0x80 * e
/-- `DMA_DST` (Table 12-9). -/
def R.dmaDst (e : Nat) : Nat := 0x81008 + 0x80 * e
/-- `DMA_LEN` (Table 12-9). -/
def R.dmaLen (e : Nat) : Nat := 0x81010 + 0x80 * e
/-- `DMA_CTRL` (Table 12-9). -/
def R.dmaCtrl (e : Nat) : Nat := 0x81018 + 0x80 * e
/-- `DMA_GO` (Table 12-9). -/
def R.dmaGo (e : Nat) : Nat := 0x81020 + 0x80 * e
/-- `DMA_STATUS` (Table 12-9). -/
def R.dmaStatus (e : Nat) : Nat := 0x81028 + 0x80 * e
/-- `DMA_FAULT_ADDR` (Table 12-9). -/
def R.dmaFaultAddr (e : Nat) : Nat := 0x81030 + 0x80 * e
/-- `CAP_HOST` (Table 13-3). -/
def R.capHost : Nat := 0x50
/-- `CAP_HUB` (Table 13-3). -/
def R.capHub : Nat := 0x58
/-- `CAP_PEER` (Table 13-3). -/
def R.capPeer : Nat := 0x60
/-- `CAP_OUT` (Table 13-3). -/
def R.capOut : Nat := 0x68
/-- `WIN_SLOT` (Table 13-4). -/
def R.winSlot (s : Nat) : Nat := 0x3000 + 0x8 * s
/-- `OUT_BASE` (Table 13-4). -/
def R.outBase (k : Nat) : Nat := 0x3080 + 0x10 * k
/-- `OUT_CTRL` (Table 13-4). -/
def R.outCtrl (k : Nat) : Nat := 0x3088 + 0x10 * k
/-- `OWN_XFER_FIRST` (Table 13-6). -/
def R.ownXferFirst : Nat := 0x3180
/-- `OWN_XFER_CTRL` (Table 13-6). -/
def R.ownXferCtrl : Nat := 0x3188
/-- `OWN_XFER_STATUS` (Table 13-6). -/
def R.ownXferStatus : Nat := 0x3190
/-- `OWN_ALARM` (Table 13-6). -/
def R.ownAlarm : Nat := 0x3198
/-- `OWN_VIOLATION` (Table 13-6). -/
def R.ownViolation : Nat := 0x31a0
/-- `OWN_VIOL_ADDR` (Table 13-6). -/
def R.ownViolAddr : Nat := 0x31a8
/-- `OWN_VIOL_INFO` (Table 13-6). -/
def R.ownViolInfo : Nat := 0x31b0
/-- `OWN_VIOL_TIME` (Table 13-6). -/
def R.ownViolTime : Nat := 0x31b8
/-- `OWN_DEVICE_FAULTS` (Table 13-6). -/
def R.ownDeviceFaults : Nat := 0x31c0
/-- `OWN_HANDOFF_PARTIAL` (Table 13-6). -/
def R.ownHandoffPartial : Nat := 0x31c8
/-- `MB_CMD_PI` (Table 13-8). -/
def R.mbCmdPi (m : Nat) : Nat := 0x1000 + 0x100 * m
/-- `MB_CMD_CI` (Table 13-8). -/
def R.mbCmdCi (m : Nat) : Nat := 0x1008 + 0x100 * m
/-- `MB_CPL_PI` (Table 13-8). -/
def R.mbCplPi (m : Nat) : Nat := 0x1010 + 0x100 * m
/-- `MB_CPL_CI` (Table 13-8). -/
def R.mbCplCi (m : Nat) : Nat := 0x1018 + 0x100 * m
/-- `MB_CMD_RING` (Table 13-8). -/
def R.mbCmdRing (m : Nat) : Nat := 0x1020 + 0x100 * m
/-- `MB_CPL_RING` (Table 13-8). -/
def R.mbCplRing (m : Nat) : Nat := 0x1028 + 0x100 * m
/-- `MB_STATUS` (Table 13-8). -/
def R.mbStatus (m : Nat) : Nat := 0x1030 + 0x100 * m
/-- `MB_START_MAX` (Table 13-8). -/
def R.mbStartMax (m : Nat) : Nat := 0x1038 + 0x100 * m
/-- `IRQ_SUMMARY` (Table 13-9). -/
def R.irqSummary : Nat := 0x2000
/-- `IRQ_ENABLE` (Table 13-9). -/
def R.irqEnable : Nat := 0x2008
/-- `IRQ_ROUTE0` (Table 13-9). -/
def R.irqRoute0 : Nat := 0x2010
/-- `IRQ_ROUTE1` (Table 13-9). -/
def R.irqRoute1 : Nat := 0x2018
/-- `PKG_ID` (Table 13-12). -/
def R.pkgId : Nat := 0x5000
/-- `PEER_TREE` (Table 13-12). -/
def R.peerTree : Nat := 0x5008
/-- `PEER_RETRY_BUDGET` (Table 13-12). -/
def R.peerRetryBudget : Nat := 0x5010
/-- `PEER_ALARM` (Table 13-12). -/
def R.peerAlarm : Nat := 0x5018
/-- `PEER_NO_ROUTE` (Table 13-12). -/
def R.peerNoRoute : Nat := 0x5020
/-- `PEER_BAD_TYPE` (Table 13-12). -/
def R.peerBadType : Nat := 0x5028
/-- `PEER_STATUS` (Table 13-12). -/
def R.peerStatus (p : Nat) : Nat := 0x5040 + 0x40 * p
/-- `PEER_FRAMES_TX` (Table 13-12). -/
def R.peerFramesTx (p : Nat) : Nat := 0x5048 + 0x40 * p
/-- `PEER_FRAMES_RX` (Table 13-12). -/
def R.peerFramesRx (p : Nat) : Nat := 0x5050 + 0x40 * p
/-- `PEER_CRC_ERR` (Table 13-12). -/
def R.peerCrcErr (p : Nat) : Nat := 0x5058 + 0x40 * p
/-- `PEER_REPLAYS` (Table 13-12). -/
def R.peerReplays (p : Nat) : Nat := 0x5060 + 0x40 * p
/-- `PEER_RETRAINS` (Table 13-12). -/
def R.peerRetrains (p : Nat) : Nat := 0x5068 + 0x40 * p
/-- `PEER_DOWN_DROPS` (Table 13-12). -/
def R.peerDownDrops (p : Nat) : Nat := 0x5070 + 0x40 * p
/-- `PEER_SHAPER` (Table 13-12). -/
def R.peerShaper (p : Nat) : Nat := 0x5078 + 0x40 * p
/-- `PEER_INJ` (Table 13-12). -/
def R.peerInj (k : Nat) : Nat := 0x5400 + 0x8 * k
/-- `JOB_STATE` (Table 15-9). -/
def R.jobState (j : Nat) : Nat := 0x40100 + 0x200 * j
/-- `JOB_EVENT` (Table 15-9). -/
def R.jobEvent (j : Nat) : Nat := 0x40108 + 0x200 * j
/-- `JOB_RESTARTS` (Table 15-9). -/
def R.jobRestarts (j : Nat) : Nat := 0x40110 + 0x200 * j
/-- `JOB_CKPT` (Table 15-9). -/
def R.jobCkpt (j : Nat) : Nat := 0x40118 + 0x200 * j
/-- `JOB_TEST_DUE` (Table 15-9). -/
def R.jobTestDue (j : Nat) : Nat := 0x40120 + 0x200 * j
/-- `PWR_STATE` (Table 16-8). -/
def R.pwrState : Nat := 0x8000
/-- `PWR_LIMIT` (Table 16-8). -/
def R.pwrLimit : Nat := 0x8008
/-- `PWR_MEASURED` (Table 16-8). -/
def R.pwrMeasured : Nat := 0x8010
/-- `PWR_UNCORE` (Table 16-8). -/
def R.pwrUncore : Nat := 0x8018
/-- `PWR_UNCORE_MIN` (Table 16-8). -/
def R.pwrUncoreMin : Nat := 0x8020
/-- `PWR_CAP` (Table 16-8). -/
def R.pwrCap : Nat := 0x8028
/-- `PWR_L0` (Table 16-8). -/
def R.pwrL0 : Nat := 0x8030
/-- `PWR_L0_FREQ` (Table 16-8). -/
def R.pwrL0Freq : Nat := 0x8038
/-- `PWR_ALARM` (Table 16-8). -/
def R.pwrAlarm : Nat := 0x8040
/-- `PWR_THROTTLE_US` (Table 16-8). -/
def R.pwrThrottleUs : Nat := 0x8048
/-- `DIE_VOLTAGE` (Table 16-8). -/
def R.dieVoltage : Nat := 0x8050
/-- `THERM_STATUS` (Table 16-8). -/
def R.thermStatus : Nat := 0x8058
/-- `THERM_WARN_OFFSET` (Table 16-8). -/
def R.thermWarnOffset : Nat := 0x8060
/-- `NAP_DELAY` (Table 16-8). -/
def R.napDelay : Nat := 0x8068
/-- `WAKE_CONFIG` (Table 16-8). -/
def R.wakeConfig : Nat := 0x8070
/-- `WAKE_AT` (Table 16-8). -/
def R.wakeAt : Nat := 0x8078
/-- `WAKE_SOURCE` (Table 16-8). -/
def R.wakeSource : Nat := 0x8080
/-- `WAKE_TIME` (Table 16-8). -/
def R.wakeTime : Nat := 0x8088
/-- `PAD_RELEASE` (Table 16-8). -/
def R.padRelease : Nat := 0x8090
/-- `RESET_CAUSE` (Table 16-8). -/
def R.resetCause : Nat := 0x8098
/-- `RESET_TIME` (Table 16-8). -/
def R.resetTime : Nat := 0x80a0
/-- `STANDBY_ENTRIES` (Table 16-8). -/
def R.standbyEntries : Nat := 0x80a8
/-- `PWR_RECAL_FORCED` (Table 16-8). -/
def R.pwrRecalForced : Nat := 0x80b0
/-- `GPIO_DIR` (Table 18-2). -/
def R.gpioDir : Nat := 0x200000
/-- `GPIO_OUT` (Table 18-2). -/
def R.gpioOut : Nat := 0x200008
/-- `GPIO_IN` (Table 18-2). -/
def R.gpioIn : Nat := 0x200010
/-- `GPIO_PULL` (Table 18-2). -/
def R.gpioPull : Nat := 0x200018
/-- `JOB_DETERMINISM` (Table 19-2). -/
def R.jobDeterminism (j : Nat) : Nat := 0x40130 + 0x200 * j
/-- `L0_STEPS_OUT` (Table 19-2). -/
def R.l0StepsOut (j : Nat) : Nat := 0x40138 + 0x200 * j
/-- `L0_COND` (Table 19-2). -/
def R.l0Cond (j : Nat) : Nat := 0x40140 + 0x200 * j
/-- `L0_ENV_EXCESS` (Table 19-2). -/
def R.l0EnvExcess (j : Nat) : Nat := 0x40148 + 0x200 * j

/-- `HUB_BANK_CONFLICT` of master `m` (R332, R335). -/
def R.hubBankConflict (m : Nat) : Nat := 0x82000 + 0x8 * m
/-- `TMR_IRQ_PEND0` (k = 0) and `TMR_IRQ_PEND1` (k = 1) (R311). -/
def R.tmrIrqPend (k : Nat) : Nat := 0x58000 + 0x8 * k
/-- First word of MSI-X table entry `v`: the message address (Table 13-2). -/
def R.msixAddr (v : Nat) : Nat := 0x10000 + 0x10 * v
/-- Second word of MSI-X table entry `v`: message data in [31:0], the mask bit in [32]. -/
def R.msixData (v : Nat) : Nat := 0x10008 + 0x10 * v
/-- The MSI-X pending bit array (Table 13-2). -/
def R.msixPba : Nat := 0x10800

/-- What the register map gives for one offset: the reset value, and the bits a write stores (`rw`) or clears when
written as 1 (`w1c`). Every other bit ignores writes (Table 0-6, R10). -/
structure RegInfo where
  reset : W64 := 0
  rw : W64 := 0
  w1c : W64 := 0
  deriving DecidableEq, Repr

/-- A read-only register. -/
def RegInfo.ro (v : Nat) : RegInfo := ⟨w64 v, 0, 0⟩
/-- A register whose bits `m` can be written. -/
def RegInfo.wr (v m : Nat) : RegInfo := ⟨w64 v, w64 m, 0⟩
/-- A register whose bits `m` are cleared by writing 1. -/
def RegInfo.clr (m : Nat) : RegInfo := ⟨0, 0, w64 m⟩

/-- Addresses of the mailbox rings: hub SRAM bank 62, 32 KiB per mailbox, the command ring first.
DESIGN CHOICE: R352 leaves the addresses to Chanter (log entry 3). -/
def ringBase (m : Nat) (completion : Bool) : Nat :=
  0x001001F00000 + 0x8000 * m + (if completion then 0x4000 else 0)

/-- Identity and capability registers (Tables 0-2, 13-3). -/
def infoIdentity (o : Nat) : RegInfo :=
  if o = R.familyId then .ro 0x7A50 else if o = R.memberId then .ro 4
  else if o = R.stepping then .ro 0x21 else if o = R.dieCount then .ro 0x14
  else if o = R.coresX then .ro 0x20 else if o = R.coresY then .ro 0x20
  else if o = R.coreMemKib then .ro 0x1E0 else if o = R.queuesPerCore then .ro 0x40
  else if o = R.syncPerCore then .ro 0x20 else if o = R.hubSramMib then .ro 0x20
  else if o = R.capHost then .ro 0x1C1040 else if o = R.capHub then .ro 0x0000400820FFFF40
  else if o = R.capPeer then .ro 0x444 else if o = R.capOut then .ro 0x2610
  else .ro 0

/-- Mailbox registers (Table 13-8); `r` is the offset in the mailbox's block. `MB_CMD_PI` and `MB_CPL_CI` have rows of
their own. -/
def infoMailbox (m r : Nat) : RegInfo :=
  if r = 0x00 then .wr 0 0xFFFF else if r = 0x18 then .wr 0 0xFFFF
  else if r = 0x20 then .ro (ringBase m false + 8 * 2 ^ 56)
  else if r = 0x28 then .ro (ringBase m true + 8 * 2 ^ 56)
  else if r = 0x30 then .clr 0x6 else .ro 0

/-- Interrupt summary registers (Table 13-9). -/
def infoIrq (o : Nat) : RegInfo :=
  if o = R.irqEnable then .wr 0 0x7FFF
  else if o = R.irqRoute0 then .wr 0x02081C61440C2040 0x0FFFFFFFFFFFFFFF
  else if o = R.irqRoute1 then .wr 0x08248208 0x3FFFFFFF else .ro 0

/-- Window and ownership registers (Tables 13-4 to 13-6). -/
def infoWindow (o : Nat) : RegInfo :=
  let r := o - 0x3000
  if r < 0x80 then .wr (if r = 0 then 0x0009001000000000 else 0) 0x0FFFFFFFFFFF0000
  else if r < 0x180 then
    if r % 16 = 0 then .wr 0 0xFFFFFFFFFFFFF000 else .wr 0 0x8000007FFFFFFFFF
  else if o = R.ownXferFirst then .wr 0 0xFFFFF else if o = R.ownXferCtrl then .wr 0 0x31FFFFF
  else if o = R.ownXferStatus then .clr 0xE else if o = R.ownAlarm then .clr 0x3 else .ro 0

/-- Time base registers (Table 11-2). -/
def infoTime (o : Nat) : RegInfo :=
  if o = R.timeIncr then .ro 0xA0000000 else if o = R.timeCapConfig then .wr 0 0xF
  else if o = R.toutConfig then .wr 0 0x3 else if o = R.toutStart then .wr 0 0xFFFFFFFFFFFFFFFF
  else if o = R.toutPeriod then .wr 0 0xFFFFFFFFFFFF else if o = R.toutWidth then .wr 0xA 0xFFFFFFFF
  else if o = R.timePulseOvr then .clr 0x3 else .ro 0

/-- Peer and hierarchy registers (Table 13-12). -/
def infoPeer (o : Nat) : RegInfo :=
  let r := o - 0x5000
  if o = R.peerRetryBudget then .wr 0x40 0xFFFF else if o = R.peerAlarm then .clr 0x3
  else if 0x40 ≤ r ∧ r < 0x140 ∧ r % 0x40 = 0x38 then .ro 0x40
  else if 0x400 ≤ r ∧ r < 0xE00 ∧ r % 8 = 0 then .wr 0 0x1F else .ro 0

/-- Power, reset and wake registers (Table 16-8). -/
def infoPower (o : Nat) : RegInfo :=
  if o = R.pwrState then .ro 1 else if o = R.pwrLimit then .wr 0x4B 0x7F
  else if o = R.pwrUncoreMin then .wr 0x2EE0 0xFFFFFFFF else if o = R.pwrCap then .ro 0x50
  else if o = R.pwrL0Freq then .wr 0x50 0x7F else if o = R.pwrAlarm then .clr 0x7F
  else if o = R.thermWarnOffset then .wr 5 0xF else if o = R.napDelay then .wr 0x64 0xFFFF
  else if o = R.wakeConfig then .wr 4 0xFFFFFFFFFFFF003B
  else if o = R.wakeAt then .wr 0 0xFFFFFFFFFFFFFFFF else .ro 0

/-- Breath, job and guarantee registers (Tables 2-5, 15-9, 19-2); `r` is the offset in the breath's block. -/
def infoBreath (r : Nat) : RegInfo :=
  if r = 0x10 then .ro 0xF4240 else if r = 0x18 then .ro 0x989680 else if r = 0x20 then .ro 4
  else if r = 0xF0 then .clr 0x3 else if r = 0x108 then .clr 0x1F else .ro 0

/-- Mesh control, deadlock detector and Event Port (Tables 8-16, 9-15, 10-5). -/
def infoMesh (o : Nat) : RegInfo :=
  if o = R.meshShape then .wr 0x800104 0xFFFF7FFF else if o = R.meshRetryBudget then .wr 0x40 0xFFFF
  else if o = R.meshAlarm then .clr 0x7 else if o = R.meshDrainTimeout then .wr 0x2710 0xFFFFFFFF
  else if o = R.hubDrain then .clr 0x1
  else if 0x51000 ≤ o ∧ o < 0x51400 ∧ o % 16 = 0 then .wr 0 0xFFFFFFFF
  else if o = R.lendThreshold then .wr 0x2710 0xFFFFFFFF
  else if o = R.epConfig then .wr 0 0xF else .ro 0

/-- Timer registers (Table 11-4); `r` is the offset in the timer's block. -/
def infoTimer (r : Nat) : RegInfo :=
  if r = 0x00 then .wr 0x7FC0000000 0x1FFFFFFFFFF else if r = 0x08 then .wr 0 1
  else if r = 0x10 then .clr 0x5F4 else if r = 0x18 then .wr 0 0xFFFFFFFFFFFFFFFF
  else if r = 0x20 then .wr 0 0xFFFFFFFFFFFFFFFF else if r = 0x28 then .wr 0 0xFFFFFFFFFFFFFFFF
  else if r = 0x38 then .wr 0 0x3FFFFFFF3FFFFFFF else if r = 0x40 then .clr 0xFFFF else .ro 0

/-- Memory control, hub DMA and bank conflict registers (Tables 12-8, 12-9, R332). -/
def infoMemory (o : Nat) : RegInfo :=
  if o < 0x81000 then
    if o = R.memAlarm then .clr 0x1F else if o = R.patrolPeriod then .wr 0x18 0xFF
    else if o = R.sramScrubPeriod then .wr 0x258 0xFFF else .ro 0
  else if o < 0x81400 then
    let r := (o - 0x81000) % 0x80
    if r = 0 then .wr 0 0xFFFFFFFFFFFF else if r = 8 then .wr 0 0xFFFFFFFFFFFF
    else if r = 0x10 then .wr 0 0x7FFFFFFF else if r = 0x18 then .wr 0 0xFFFFFF
    else if r = 0x28 then .clr 0xC else .ro 0
  else if 0x82000 ≤ o ∧ o < 0x82178 then .clr 0xFFFFFFFF else .ro 0

/-- Router registers (Table 8-15); `r` is the offset in the router's block. -/
def infoRouter (r : Nat) : RegInfo :=
  if r = 0 then .wr 0x18 0x3F else if r = 0x18 then .clr 1 else if r = 0x40 then .ro 0x40
  else if 0x100 ≤ r ∧ r < 0x140 then .wr 0 0x7FF000F777F else .ro 0

/-- The hub register region (Table 13-2, R227, R457), by offset. -/
def hubInfo (o : Nat) : RegInfo :=
  if o % 8 ≠ 0 then .ro 0
  else if o < 0x1000 then infoIdentity o
  else if o < 0x1800 then infoMailbox ((o - 0x1000) / 0x100) (o % 0x100)
  else if o < 0x2000 then .ro 0
  else if o < 0x3000 then infoIrq o
  else if o < 0x4000 then infoWindow o
  else if o < 0x5000 then infoTime o
  else if o < 0x6000 then infoPeer o
  else if o < 0x8000 then .ro 0
  else if o < 0x10000 then infoPower o
  else if o < 0x10400 then
    if o % 16 = 0 then .wr 0 0xFFFFFFFFFFFFFFFC else .wr 0x100000000 0x1FFFFFFFF
  else if o < 0x40000 then .ro 0
  else if o < 0x48000 then infoBreath (o % 0x200)
  else if o < 0x53000 then infoMesh o
  else if o < 0x54000 then .ro 0
  else if o < 0x58000 then infoTimer (o % 0x80)
  else if o < 0x58010 then .clr 0xFFFFFFFFFFFFFFFF
  else if o < 0x60000 then .ro 0
  else if o < 0x70000 then
    if o % 0x100 = 0x78 then .ro 0x40 else if o % 0x100 = 0x80 then .clr 1 else .ro 0
  else if o < 0x80000 then if o % 0x100 = 0x68 then .clr 1 else .ro 0
  else if o < 0x83000 then infoMemory o
  else if o < 0x100000 then .ro 0
  else if o < 0x180000 then infoRouter (o % 0x200)
  else if o = R.gpioDir then .wr 0 0xFFFF else if o = R.gpioOut then .wr 0 0xFFFF
  else if o = R.gpioPull then .wr 0xFFFF0000 0xFFFFFFFF
  else .ro 0

/-- The register block of core `n` (Tables 3-10, 4-6, 6-3, 7-4, 9-16), by offset in the block. -/
def coreInfo (n r : Nat) : RegInfo :=
  if r % 8 ≠ 0 then .ro 0
  else if r = R.coreId then
    .ro (n + (n % 32) * 2 ^ 16 + (n / 32) * 2 ^ 24 + (2 * (n / 32 / 16) + (n % 32) / 16) * 2 ^ 32)
  else if r = R.coreConfig then .wr 0 0x3FFF1F
  else if r = R.routeBase then .wr 0 0x7FFF else if r = R.splitOutBase then .wr 0 0x7FFF
  else if r = R.splitInBase then .wr 0 0x7FFF else if r = R.corePulseOvr then .clr 3
  else if 0xC0 ≤ r ∧ r < 0xF8 then .clr 0xFFFFFFFFFFFFFFFF
  else if 0x100 ≤ r ∧ r < 0x200 then .wr 0 (if r % 16 = 0 then 0x3FFFFFFFFFFFFFFF else 0x1FFF)
  else if r = R.neConfig then .wr 0 0x7FFF7FFF
  else if 0x310 ≤ r ∧ r < 0x350 then .wr 0 0x17F03FF
  else if r = R.plasConfig then .wr 0 0x7FFF7FFF else if r = R.plasStep then .ro 0xFFFFFFFF
  else if r = R.plasMod then .wr 0 0xFFFFFFFF000000FF
  else if r = R.ovbConfig then .wr 0 0xFFFFFFFF00000001
  else if r = R.qConfig then .wr 0 0x7FFF7FFF7FFF7FFF else if r = R.qopArg then .wr 0 0xFFFFFFFFFFFFFFFF
  else if r = R.qPollGap then .wr 0x40 0xFFFF else if r = R.qRetryUs then .wr 2 0xFF
  else .ro 0

/-- Reset value of hub register `o`. -/
def hubReset (o : Nat) : W64 := (hubInfo o).reset

/-- Key of core register `r` of core `n`. -/
def coreKey (n r : Nat) : Nat := n * 0x8000 + r

/-- Reset value of the core register with key `k`. -/
def coreReset (k : Nat) : W64 := (coreInfo (k / 0x8000) (k % 0x8000)).reset

end Sys2Proof.Machine
end

