-- ==== Sys2Proof/Machine/State.lean ====
section
/-! DEFINITION. The state of the block as plain data: the register file, the memories with their tags, device time, and
under each part's own structure the state that the spec gives it beside its registers. -/
namespace Sys2Proof.Machine

/-- Where the package stands between power-up and service (R436, R444, R461). -/
inductive Phase where
  /-- A cold reset is held (R461). -/
  | coldHeld
  /-- PERST# is asserted: a warm reset is held (R437). -/
  | warmHeld
  /-- The boot ROM verified no firmware: recovery (R444, R445). -/
  | recovery
  /-- Chanter serves. -/
  | running
  /-- P-STANDBY (R419, R421). -/
  | standby
  /-- P-OFF: VDD_AON is lost (R458). -/
  | off
  deriving DecidableEq, Repr

/-- The package's own condition: boot phase, clocks, pins and records that no register holds. -/
structure Chip where
  phase : Phase := .coldHeld
  /-- SYS_REFCLK is running (R462). -/
  refclk : Bool := true
  /-- PERST# is asserted. -/
  perst : Bool := true
  /-- The TAP's instruction register (R456). -/
  tapIr : TapIr := .logicReset
  /-- What IDCODE has put into the TAP's data register (R456). -/
  tapDr : BitVec 32 := 0
  /-- A wake record is waiting to be seen: source 13 of `IRQ_SUMMARY` (Table 13-10). -/
  wakeIrq : Bool := false
  /-- A POWER_STATE command has accepted the entry to P-STANDBY (R420). -/
  standbyAsked : Bool := false
  /-- Input levels at the balls: GPIO[15:0], FRAME_SYNC_IN, EVT_IN FRM (Table 11-5). -/
  gpioIn : BitVec 16 := 0
  frameSync : Bool := false
  evtFrm : Bool := false
  /-- Levels at which the GPIO outputs are latched while `PAD_HOLD` is set (R424). -/
  padGpio : BitVec 16 := 0
  /-- The last reading of the 64 sensors, in 1/16 °C (R432). -/
  temps : List Int := []
  /-- Device time of the package's last 1 µs tick, in microseconds. -/
  lastTick : Nat := 0
  deriving DecidableEq, Repr

/-- What the last boot left (R442 to R447), and the fuses (R443). -/
structure Boot where
  /-- The running slot: 0 A, 1 B; `fallback` tells a fallback boot (R444). -/
  slot : Nat := 0
  fallback : Bool := false
  version : Nat := 0
  svn : Nat := 0
  /-- SHA-256 measurement of the running firmware (R442). -/
  meas : List Byte := []
  /-- The rollback fuses: bit k is set once fuse k is blown (R443). -/
  fuses : BitVec 64 := 0
  /-- Bytes that an update begun by FW_UPDATE_BEGIN expects (R447). -/
  expect : Option Nat := none
  deriving DecidableEq, Repr

/-- The power manager between epochs (R431, R432, R459). -/
structure Power where
  /-- Modelled core power of the last epoch and measured package power of the last 100 epochs, newest first, in mW. -/
  modelled : Nat := 0
  epochs : List Nat := []
  /-- The warning holds until the temperature has fallen 2 °C below its threshold, the critical condition until it is
  below the warning threshold (R432). -/
  warm : Bool := false
  crit : Bool := false
  /-- A thermal reset holds the package (R432). -/
  hot : Bool := false
  /-- Dies whose regulator has reported a fault (R459). -/
  vreg : List Nat := []
  /-- Device time in ns from which the patrol period under way counts, and whether its pass is complete (R330). -/
  patrolFrom : Nat := 0
  patrolDone : Bool := false
  deriving DecidableEq, Repr

/-- A completion that Chanter keeps for duplicate detection (R374). -/
structure Kept where
  tag : Nat
  digest : Nat
  words : List W64
  deriving DecidableEq, Repr

/-- What a command locks (R371). -/
inductive Lock where
  | job (id : Nat) | core (n : Nat) | conv (kind c : Nat) | queue (q : Nat) | ownership | time | firmware
  deriving DecidableEq, Repr

/-- A command that has started and not completed: in the background, or a foreground command that waits (R370). -/
structure Run where
  id : Nat
  src : Src
  /-- The eight words of the entry, those beyond `LENGTH` as 0 (R367). -/
  words : List W64
  digest : Nat
  background : Bool
  locks : List Lock
  /-- Working values of the command: what it has set aside for its end. -/
  aux : List Nat := []
  deriving DecidableEq, Repr

/-- Chanter's mailbox service. -/
structure Mbox where
  /-- Kept completions of source m (mailboxes 0–7, and 8 the relay record), newest first. -/
  kept : Sparse (List Kept) := []
  runs : List Run := []
  nextRun : Nat := 0
  /-- The mailbox of 1–7 served last, for the round-robin of R373. -/
  lastServed : Nat := 7
  /-- Next journal sequence number and number of entries held (R390). -/
  journalSeq : Nat := 0
  journalHeld : Nat := 0
  /-- Answers sent back to the manager for relayed commands: completion entries (R388). -/
  relayOut : List (List W64) := []
  /-- Commands relayed to workers and not answered yet, newest first: the command's number here, package and entry (R388). -/
  relayTo : List (Nat × Nat × List W64) := []
  /-- Packages that hold a part of a job, one bit per ID, by job ID: the manager has relayed their JOB_LOAD (R362, R364). -/
  parts : Sparse Nat := []
  /-- Packages of the tree that HIER_DISCOVER found, one bit per ID. -/
  present : BitVec 16 := 1
  /-- The I3C pointer, and the register value latched by a read (R378). -/
  mgmtPtr : Nat := 0
  mgmtLatch : W64 := 0
  /-- Bytes the last management read returned. -/
  mgmtRead : List Byte := []
  /-- The management port's dynamic address, if SETDASA has given it one, and whether the bus is in I3C mode (R377, R379). -/
  mgmtDyn : Option (BitVec 7) := none
  mgmtI3c : Bool := false
  /-- Words of the completion entry that Chanter wrote last, by port A (R30). -/
  portA : List Nat := []
  /-- Doorbells of mailbox 0 whose commands have not all started, oldest first: producer index, device time in ns, and
  whether the conditions of R373 have held since (R472). -/
  bells : List (Nat × Nat × Bool) := []
  /-- The 64 send bindings that QUEUE_BIND keeps for the host (R235, Table 14-4). -/
  hostBinds : Sparse W64 := []
  /-- Completions that wait for their ring to have space, oldest first: mailbox and entry (R354). -/
  held : List (Nat × List W64) := []
  /-- Last epoch + 1 of the queues whose core was reset while its job had run, by core × 64 + index; 0 where none is
  recorded (R234). -/
  epochs : Sparse Nat := []
  deriving DecidableEq, Repr

/-- What the block has sent out of the package. -/
structure Outs where
  /-- MSI-X messages sent, newest first: address and data (R356). -/
  msix : List (W64 × Nat) := []
  /-- Writes of device engines to host memory, newest first: PCIe address and bytes (R345). -/
  hostWr : List (Nat × List Byte) := []
  /-- The bytes the last host read returned, and whether its completions carried EP (R327). -/
  read : List Byte := []
  readEp : Bool := false
  /-- Event Port frames sent, newest first, as 32-bit words (R287). -/
  evt : List (List Nat) := []
  /-- Frames sent on peer port p, newest first (R358). -/
  peer : Sparse (List Frame) := []
  /-- TIME_OUT pulses driven, newest first: start and width in ns (R296). -/
  pulses : List (Nat × Nat) := []
  /-- Level of the TIME_OUT ball (R296, R424). -/
  timeOut : Bool := false
  deriving DecidableEq, Repr

/-- A block of host memory that a completion has delivered and no engine has used yet (R339). -/
structure HostBlock where
  addr : Nat
  data : List Byte
  poisoned : Bool
  deriving DecidableEq, Repr

/-- Sums of one step tag in a breath (R53). -/
structure Acc where
  sent : BitVec 32 := 0
  recv : BitVec 32 := 0
  done : Nat := 0
  /-- Hub participants that have not completed the tag, by endpoint number (R47, R50). -/
  waiting : List Nat := []
  /-- The tag belongs to a started step, so that `waiting = []` means `hub_done`. -/
  started : Bool := false
  /-- Device time of the step's START, in ns. -/
  start : Nat := 0
  /-- A worker breath has sent its DONE for the tag up (R364). -/
  upDone : Bool := false
  deriving DecidableEq, Repr

/-- A breath's state beside its registers (R53 to R69). -/
structure Breath where
  acc : Sparse Acc := []
  closed : BitVec 32 := 0xFFFFFFFF
  started : BitVec 32 := 0xFFFFFFFF
  /-- N of the next step is known (`BRTH_NEXT_NOMINAL` holds it). -/
  nominal : Bool := false
  /-- Device times of the start actions not consumed by a step, oldest first (R56, R59). -/
  grants : List Nat := []
  /-- Device time from which a missing first edge is next counted, while ARMED (R62). -/
  armDue : Nat := 0
  /-- The first anchor exists (R62). -/
  anchored : Bool := false
  /-- A step has started, so that `BRTH_LAST_START` holds a device time. -/
  begun : Bool := false
  /-- The current anchor was assumed after a miss (R63). -/
  assumed : Bool := false
  /-- R59 is not applied until a step starts after a halt (R68). -/
  haltLag : Bool := false
  /-- The next step resumes and has no stretch unless R38 fails at that moment (R67). -/
  resumed : Bool := false
  /-- What asked for the suspension (R66): 1 command, 2 stop, 3 checkpoint, 4 drain, 5 test. -/
  asked : List Nat := []
  /-- A membrane-mode Bell channel withholds the next START until its reads are answered (R280). -/
  withheld : Bool := false
  /-- Conditions of Table 19-1 that have failed in the open step of each tag, as their bits (R468). -/
  cond : Sparse Nat := []
  /-- Device time in ns of the last closure: the last step's conditions count for 1.2 µs more (R468). -/
  closedAt : Option Nat := none
  /-- Device time in ns of the last `STATE_CHANGED` that a step outside conditions raised (R469). -/
  condNoted : Option Nat := none
  deriving DecidableEq, Repr

/-- A checkpoint in progress: target slot, step c, and blocks received from each core (R407, R408). -/
structure Ckpt where
  slot : Nat
  step : Nat
  got : Sparse Nat := []
  deriving DecidableEq, Repr

/-- A job beside its registers (R394 to R414), held with its breath. -/
structure Job where
  seed : Nat := 0
  pkg : Nat := 0
  hier : Bool := false
  /-- A worker's child peer ports that lead towards packages holding parts of the job (R364; log entry 19). -/
  ports : List Nat := []
  imageAddr : Nat := 0
  imageBytes : Nat := 0
  /-- Device time in ns at which the load completed (Table 17-3). -/
  loaded : Nat := 0
  /-- SHA-256 of the image (R394). -/
  measure : List Byte := []
  ckptBase : Nat := 0
  slotBytes : Nat := 0
  /-- `RESTART_LIMIT`, the checkpoint interval and the test deferral of JOB_POLICY (R403, R405, R413). -/
  limit : Nat := 6
  interval : Nat := 0
  deferHours : Nat := 72
  /-- Device times in ns of the restarts of the last hour, and the count since load (R403). -/
  restarts : List Nat := []
  /-- State before a fault or a test, to return to (R404). -/
  before : Nat := 0
  /-- Granules that JOB_LOAD set to DEVICE: first and count (R396, R401). -/
  granules : List (Nat × Nat) := []
  /-- Converter channels and streams that the image's 0x08 section configured: kind and number (R401). -/
  convs : List (Nat × Nat) := []
  /-- Row map entries (port, row) and peer injection entries that the image wrote (R401). -/
  rowMaps : List (Nat × Nat) := []
  peerInj : List Nat := []
  /-- A checkpoint in progress (R407). -/
  ckpt : Option Ckpt := none
  /-- A test waits for the checkpoint in progress, or runs (R413). -/
  testing : Bool := false
  testWanted : Bool := false
  /-- Cores whose static synapse sections a restart reloads (R404, step 6). -/
  staticReload : List Nat := []
  /-- Converter channels and streams to start again with the job: kind and number (R404). -/
  resume : List (Nat × Nat) := []
  /-- The first window write to core memory since the last start has been journalled (Table 14-8). -/
  windowNoted : Bool := false
  /-- The job is outside R70 until it is next restarted (R104). -/
  outside : Bool := false
  /-- Core memory bytes that the image made mutable, in section order: core, offset, length (R395, R406). -/
  mutables : List (Nat × Nat × Nat) := []
  deriving DecidableEq, Repr

/-- A fault raised and not taken yet (R402). -/
structure Raised where
  breath : Nat
  code : Nat
  step : Nat
  deriving DecidableEq, Repr

/-- Time base and timer state beside the registers (R289 to R309). -/
structure Timing where
  /-- Slew still to apply, in 2^-32 ns (R291). -/
  slew : Int := 0
  /-- Device time in ns at which the next TIME_OUT pulse begins (R296). -/
  toutNext : Option Nat := none
  /-- Count latched at timer i's last stop (R302). -/
  latch : Sparse Nat := []
  /-- Low half of a cascade's compare, held until its high half is written (R301). -/
  cmpLow : Sparse Nat := []
  /-- Step-start pulses on their way to breath j (R60, R305). -/
  startPulses : Sparse Nat := []
  /-- Trigger pulses on their way to timer i (R307). -/
  trigPulses : Sparse Nat := []
  /-- Timer actions on timers that act in the next cycle: operation and target (R306). -/
  ops : List (Nat × Nat) := []
  /-- Timers that a trigger has stopped since the last cycle: the stop wins over a start action (R307). -/
  trigStop : List Nat := []
  /-- Timer-clock cycles since the timers were reset, by which pulses that merge are told (R24). -/
  cycle : Nat := 0
  /-- Cycle + 1 of the last arm pulse that Mouthpiece channel c has seen (R24, R272). -/
  armAt : Sparse Nat := []
  /-- Cycles that the TIME_OUT pulse under way still lasts (R296). -/
  toutLeft : Nat := 0
  deriving DecidableEq, Repr

/-- One buffered emission: its flits still to send, its group as population × 256 + group, and whether it is an update's
(0), an anti-event's (1) or a rollback's new emission (2) (R94, R177). -/
structure EmitEntry where
  kind : Nat
  group : Nat
  flits : List Flit
  deriving DecidableEq, Repr

/-- A flit held in an input buffer: the outputs it has still to leave by (R193, R194), the island cycle in which it
entered (R197), and for a circuit flit the label it came with (R208; 8 for any other flit). -/
structure Held where
  f : Flit
  outs : List Nat := []
  stamp : Nat := 0
  label : Nat := 8
  deriving DecidableEq, Repr

/-- A flit that source `src` offers at the local port of `node` and that has not entered the buffer there (R196, R198,
R222). -/
structure Offer where
  node : Nat
  src : Nat
  f : Flit
  deriving DecidableEq, Repr

/-- One direction of a link: the sender's replay buffer and credits, and the receiver's side (R211 to R219). -/
structure Link where
  /-- Position of the next flit, and the flits not acknowledged, by position (R212, R215). -/
  next : Nat := 0
  replay : List (Nat × Flit) := []
  /-- Credits used of VC0–VC3 and the circuit queue, and the counters last seen (R213). -/
  used : List Nat := [0, 0, 0, 0, 0]
  seen : List Nat := [0, 0, 0, 0, 0]
  /-- Replays in a row without a new position accepted; control words discarded in a row; replays in this 1 ms window;
  failed retrains in a row (R218 to R220). -/
  run : Nat := 0
  disc : Nat := 0
  window : Nat := 0
  fails : Nat := 0
  /-- Receiver: next position expected; slots freed modulo 8; a NAK goes out in the next control word (R213, R214). -/
  expect : Nat := 0
  freed : List Nat := [0, 0, 0, 0, 0]
  nak : Bool := false
  /-- Flits accepted that no arrival has taken yet, in their order. -/
  rx : List Flit := []
  /-- Round-robin places of R197: the next of the queues VC1, VC2, VC3 and circuit, and the next input port of VC0, of
  each of those queues, and of the circuits with tokens. -/
  rr : Nat := 0
  rrPort : List Nat := [0, 0, 0, 0, 0, 0]
  /-- The cycle of the sending clock whose lane slots are being filled, and how many are (R197). -/
  slotAt : Nat := 0
  slots : Nat := 0
  /-- Tokens of each circuit label on this output, and the cycle up to which they are counted (R208). -/
  tokens : Sparse Nat := []
  gainedAt : Nat := 0
  /-- The control word that the receiver has put on the link last, and the LANE of the next one (R213, R214). -/
  ctl : BitVec 31 := 0
  ctlLane : Bool := false
  /-- The last thing this sender took was a NAK: a timeout of the same cycle is no second replay (R215). -/
  nakTaken : Bool := false
  deriving DecidableEq, Repr

/-- A shaper's accumulator, the source cycle it stands at, the cycle of the last halving, and for hub sources 64 less
the rate r; a core's r stands in `RTR_SHAPER` (R205). -/
structure Shaper where
  c : Nat := 0
  at_ : Nat := 0
  halved : Option Nat := none
  slow : Nat := 0
  deriving DecidableEq, Repr

/-- A drain: the breaths it affects, the table change it carries out (a running command), or the restart it serves
(R222, R225). -/
structure Drain where
  breaths : List Nat
  run : Option Nat
  /-- Device time in ns of its first sweep, once the fences are loaded (R224). -/
  sweepAt : Option Nat := none
  /-- The last router that the last unclean sweep found active, and whether it found the hub so (R224). -/
  found : Option Nat × Bool := (none, false)
  deriving DecidableEq, Repr

/-- A queue message being sent (R235 to R237): binding, destination queue, sequence, expected epoch and bytes; `busy`
holds the device time in ns of the retry after NACK_BUSY (R245). -/
structure Send where
  bind : Nat
  dest : Nat
  seq : Nat
  epoch : Nat
  msg : List Byte
  busy : Option Nat := none
  deriving DecidableEq, Repr

/-- A hub DMA engine's copy to a core (R253, R333): `phase` 1 once the bind and the setup are sent, 2 once the stream is,
3 once the core has answered that every block is written; whether the circuit is accepted, and the device time in ns at
which a refused bind is repeated (R245). -/
structure DmaRun where
  phase : Nat := 0
  accepted : Bool := false
  busy : Option Nat := none
  deriving DecidableEq, Repr

/-- The event mesh. -/
structure Mesh where
  /-- Input buffers by (node × 5 + port) × 5 + queue; node 0–1,023 a router, 1,024 + p hub port p; queue 0–3 VC0–VC3,
  4 the circuit queue (R195, R196). -/
  bufs : Sparse (List Held) := []
  /-- Links by sending node × 5 + port (R212); peer ports from 10,000 up (R359). -/
  links : Sparse Link := []
  /-- Circuit entries of the hub ports, by port × 8 + k, laid out as `RTR_CIRCUIT` (R206). -/
  hubCirc : Sparse W64 := []
  /-- Last echo epoch + 1 in which receiver r echoed SRC, by r × 2,048 + SRC (R204). -/
  echoes : Sparse Nat := []
  /-- Shapers by SRC (R205). -/
  shapers : Sparse Shaper := []
  /-- Island cycle at which a core's VC0 token count was last brought up to date (R198). -/
  tokenAt : Sparse Nat := []
  /-- Flits that wait at their sources' local ports and hub ports, oldest first: for space, for a VC0 token, or while
  they are fenced (R196, R198, R222). -/
  offers : List Offer := []
  /-- Drains in the order requested; the first is the one that runs, once it has begun (R225). -/
  drains : List Drain := []
  /-- Cores whose local port has sent or taken a flit since the last deadlock sample (R265). -/
  moved : List Nat := []
  /-- Messages that hub endpoints are sending, by SRC (R235). -/
  hubSends : Sparse (List Send) := []
  /-- Copies of hub DMA engines to cores, by engine (R333). -/
  dmas : Sparse DmaRun := []
  /-- CTRL accesses of hub requesters not answered yet: SRC, core, RQ, TAG and what for. -/
  accesses : List (Nat × Nat × Nat × Nat) := []
  /-- The response a hub requester received last, by `RQ` (R239, R245). -/
  resp : Sparse Flit := []
  /-- Answers and echoes that hub ports have taken in and no requester has used (R75, R239). -/
  hubRx : List Flit := []
  /-- Flits that wait for credit or replay space of peer port p, with their destination packages (R359). -/
  peerQ : Sparse (List (Nat × Flit)) := []
  /-- Bytes received of the tensor block under way, by hub port × 8 + entry (R209). -/
  bulkIn : Sparse (List Byte) := []
  deriving DecidableEq, Repr

/-- A queue request in the grant wait list (R238). -/
structure QReq where
  q : Nat
  src : Nat
  units : Nat
  seq : Nat
  deriving DecidableEq, Repr

/-- A granted message not yet complete: its place in the ring (R238, R242). -/
structure Resv where
  q : Nat
  src : Nat
  units : Nat
  seq : Nat
  /-- Ring pointer of the record, modulo twice the ring's size. -/
  at_ : Nat
  deriving DecidableEq, Repr

/-- A bulk bind and its progress (R253, R254). -/
structure Bind where
  src : Nat
  circuit : Nat
  offset : Nat
  blocks : Nat
  sig : Option Nat
  done : Nat := 0
  bad : Bool := false
  deriving DecidableEq, Repr

/-- A message that waits at an operand queue (R246). -/
structure OpMsg where
  q : Nat
  msg : List Byte
  deriving DecidableEq, Repr

/-- A host access that waits for a halted core (R26): a write through the window, of a register by name, or a read. -/
inductive HeldAccess where
  | write (off : Nat) (data : List Byte) (single raced : Bool)
  | reg (r : Nat) (acc : Width) (v : W64)
  | read (o n : Nat)
  deriving DecidableEq, Repr

/-- A core's state beside its registers and memory. -/
structure Core where
  /-- Host accesses that wait for the end of a debug halt, oldest first (R26). -/
  hostWaits : List HeldAccess := []
  /-- Flits the router's local port has handed over and no engine has taken (R75). -/
  rx : List Flit := []
  /-- The emit buffer, oldest first; more than 64 entries mean that the update still stalls on it (R94). -/
  emitQ : List EmitEntry := []
  /-- Unreported sent and received counts by step tag (R48). -/
  sent : Sparse Nat := []
  recv : Sparse Nat := []
  /-- Island cycle from which the next report of kind × 4 + tag may leave (R48). -/
  reportAt : Sparse Nat := []
  /-- A START that waits (R109, R158). -/
  startHeld : Option (BitVec 32) := none
  /-- Steps whose update has begun and whose DONE is still to be sent, oldest first (R49). With Overblow there can be two. -/
  doneDue : List (BitVec 32) := []
  /-- COMMITs whose plasticity waits, oldest first: a snapshot can hold two (R157, R165). -/
  commitsHeld : List (BitVec 32) := []
  /-- Split counters by set × 4 + tag (R99). -/
  splitCnt : Sparse Nat := []
  /-- Loaded bitmap with its step, dirty bitmap, retained sums and emission record (R173). An emission is recorded as
  0 none, 1 binary, payload + 2 graded. -/
  loadedStep : BitVec 32 := 0xFFFFFFFF
  loaded : List Nat := []
  dirty : List Nat := []
  retained : Sparse (BitVec 32) := []
  record : Sparse Nat := []
  /-- A rollback pass of the loaded step has sent flits (R179). -/
  rolled : Bool := false
  /-- Population entries and programs as latched for the update, by population (R110). -/
  pops : Sparse (List Nat) := []
  progs : Sparse (List Nat) := []
  /-- Post amounts by neuron × 2 + parity, and pre sums by row × 4 + tag (R152, R153). -/
  post : Sparse Nat := []
  pre : Sparse Int := []
  /-- Rows with plasticity pending (R159), and the entry that the running plasticity reaches next. -/
  pendingRows : List Nat := []
  plasNext : Nat := 0
  /-- Cycles of the running plasticity so far (R162), and its processed rows as offset and length in the core (R163). -/
  plasCost : Nat := 0
  plasUnits : List (Nat × Nat) := []
  /-- The step in which a three-factor entry has used `MOD_DEFAULT` (R156). -/
  modDefault : Option (BitVec 32) := none
  /-- Slots of the deferral area in use, oldest first (R160). -/
  deferred : List Nat := []
  /-- A WEIGHTS_READ snapshot wanted at this step's completion: run number and step (R165). -/
  snapshot : Option (Nat × BitVec 32) := none
  snapDone : Bool := false
  /-- The last step whose membrane reads were answered (R184). -/
  mread : Option (BitVec 32) := none
  /-- Test age: device time in ns of the last BIST; last result failed; marked bad; under test (R412, R414). -/
  testAt : Int := 0
  testFailed : Bool := false
  bad : Bool := false
  testing : Bool := false
  /-- A reset has ended its test, which runs again when its job is next started (R417). -/
  retest : Bool := false
  /-- A debug halt holds the core (R26), and the device time in ns of the last halt or resume request acted on (R24). -/
  halted : Bool := false
  haltReq : Option Nat := none
  /-- Messages being sent, oldest first (R236); the grant wait list; reservations (R238). -/
  sends : List Send := []
  grantWait : List QReq := []
  resv : List Resv := []
  /-- Complete records of a ring queue that lie beyond `READY`, as queue and ring pointer (R243). -/
  complete : List (Nat × Nat) := []
  binds : List Bind := []
  /-- `WRITE_A` flits by `RQ` that await their `WRITE_D` (R255). -/
  writeA : Sparse Nat := []
  /-- Circuits that end here: SRC × 8 + circuit number, by label (R206). -/
  labels : Sparse Nat := []
  /-- Circuits that this core has asked for, by circuit number: the setup flit, bit 0 set once accepted (R206). -/
  circOut : Sparse Flit := []
  /-- Operand messages that wait, and the operand queues whose port holds a delivery (R246). -/
  opWait : List OpMsg := []
  untaken : List Nat := []
  /-- Held combining banks, oldest first: queue and bank (R249). -/
  combHeld : List (Nat × Nat) := []
  /-- Objects that signals of the Queue/DMA unit name while the objects are frozen, oldest first (R263). -/
  sigHeld : List Nat := []
  /-- POLL of engine e: queue index × 2^64 + argument + 1, and the device time in ns at which a wait or poll began (R258,
  R264). -/
  polls : Sparse Nat := []
  waitFrom : Sparse Nat := []
  deriving DecidableEq, Repr


/-- A sampling of a Mouthpiece channel under way: the slot, the vector still being fetched, and the flits still to
inject (R272 to R276). -/
structure MpRun where
  slot : BitVec 32
  vec : Option Nat := none
  flits : List Flit := []
  /-- A TTFS sampling without a vector, which emits from the state that the fetch ahead of it sets (R275). -/
  waits : Bool := false
  /-- The channel's configuration registers when the sampling began: a stop and a new configuration leave it as it is
  (R276). -/
  cfg : List W64 := []
  deriving DecidableEq, Repr

/-- A flit of the Event Port that its shaper has not let into the mesh yet: the breath, the stream, the hub port and the
flit (R205, R286). -/
structure EpFlit where
  breath : Nat
  stream : Nat
  port : Nat
  f : Flit
  deriving DecidableEq, Repr

/-- A result of a Bell channel that awaits delivery; `sent` elements have left as frames (R281, R287). -/
structure BellRes where
  chan : Nat
  step : BitVec 32
  vals : List Nat
  sent : Nat := 0
  /-- The message is being sent through the channel's binding (R281). -/
  going : Bool := false
  deriving DecidableEq, Repr

/-- A MEMBRANE_READ sampling under way: the step, the responses so far and how many are still to come (R280). -/
structure MemRead where
  step : BitVec 32
  vals : List Nat := []
  left : Nat
  deriving DecidableEq, Repr

/-- The converters (R269 to R288). -/
structure Conv where
  /-- Samplings of Mouthpiece channel c under way, oldest first. -/
  mp : Sparse (List MpRun) := []
  /-- Event Port input buffers, by channel × 4,096 + element (R274). -/
  inBuf : Sparse Nat := []
  /-- Reference step of Bell channel c; 0xFFFF_FFFF where none is listed (R278). -/
  bellRef : Sparse (BitVec 32) := []
  /-- Results awaiting delivery, oldest first (R281). -/
  results : List BellRes := []
  /-- Membrane reads under way, by Bell channel, the oldest step first (R280). -/
  mread : Sparse (List MemRead) := []
  /-- Event Port flits that are still to be injected, in order (R286). -/
  epOut : List EpFlit := []
  /-- Complete frames in the Event Port's input FIFO, as payload words after the header and with the slot: header, slot,
  payload (R285). -/
  epIn : List (Nat × Nat × List Nat) := []
  /-- Hub cycles of the last VC0 flits that hub participants of the L0 job injected, by hub port (R468). -/
  vc0At : Sparse (List Nat) := []
  /-- FLOW frames still to send (R288). -/
  flow : List Bool := []
  deriving DecidableEq, Repr

/-- The whole block. -/
structure State where
  /-- Commands that wait, first in first out. -/
  pending : List Instr := []
  /-- Hub registers by offset in the region at 0x0030_0000_0000; an offset not listed holds its reset value. -/
  regs : Sparse W64 := []
  /-- Core registers by `n * 0x8000 + offset`. -/
  coreRegs : Sparse W64 := []
  /-- Device memory: DDR5, hub SRAM and core memories, byte by byte, as the bytes that differ from `memDefault`. -/
  mem : List Host.Cell := []
  /-- Tags of tensor blocks by block address / 256 (R316, R318). -/
  tags : Sparse W64 := []
  /-- Device time in units of 2^-32 ns (R289). -/
  time : Nat := 0
  /-- Serial number of the next free value: the model's own field, not the spec's. -/
  free : Nat := 0
  chip : Chip := {}
  mbox : Mbox := {}
  outs : Outs := {}
  /-- Host memory delivered by completions and not used yet (R339). -/
  hostRd : List HostBlock := []
  /-- Breaths by number (R35, R53). -/
  breaths : Sparse Breath := []
  /-- Jobs by the breath they are bound to (R394). -/
  jobs : Sparse Job := []
  /-- Job faults raised and not taken yet, oldest first (R402). -/
  faults : List Raised := []
  /-- Time base and timers. -/
  tim : Timing := {}
  /-- Cores by ID. -/
  cores : Sparse Core := []
  /-- The event mesh. -/
  mesh : Mesh := {}
  /-- The converters. -/
  conv : Conv := {}
  /-- The firmware that runs, and the fuses. -/
  boot : Boot := {}
  /-- The power manager and the scrubbers. -/
  power : Power := {}
  /-- Bytes of the external flash written since delivery or since their slot was last erased (R440). -/
  flash : Sparse (Option Byte) := []
  /-- Firmware slots erased since delivery: 0 A, 1 B (R447). -/
  erased : List Nat := []
  deriving DecidableEq, Repr

/-- Why a step stops with a fault. No command of this block does: every row of the table has an effect in every state,
so the type has no constructor (safe: nothing can raise one). -/
inductive Fault where
  deriving DecidableEq, Repr

/-- Why a command has no meaning. -/
inductive Refusal where
  /-- Raised by an arm of the dispatcher for a command not modelled yet (safe: the machine stops). -/
  | notModelled (mnemonic : String)
  deriving DecidableEq, Repr

/-- The block right after a cold reset whose release is still to come: every register at its reset value, device time 0,
nothing pending (R289, R415, R461). -/
def State.reset : State := {}

end Sys2Proof.Machine
end

