-- ==== Sys2Proof/Machine/Ops.lean ====
section
/-! DEFINITION. The named operations over the state: registers, memory, tags, interrupts, and the frame every command
runs in. -/
namespace Sys2Proof.Machine

/-! ### Registers -/

/-- Value stored in hub register `o`. -/
def rd (s : State) (o : Nat) : W64 := Sparse.get hubReset s.regs o
/-- Store `v` in hub register `o`. -/
def wr (s : State) (o : Nat) (v : W64) : State := { s with regs := Sparse.set hubReset s.regs o v }
/-- Field of a hub register. -/
def rdF (s : State) (o lo n : Nat) : Nat := fld (rd s o) lo n
/-- Replace a field of a hub register. -/
def wrF (s : State) (o lo n v : Nat) : State := wr s o (putFld (rd s o) lo n v)
/-- Set bit `i` of a hub register. -/
def setB (s : State) (o i : Nat) : State := wr s o (setBit (rd s o) i)
/-- Clear bit `i` of a hub register. -/
def clrB (s : State) (o i : Nat) : State := wr s o (clrBit (rd s o) i)
/-- Bit `i` of a hub register. -/
def rdB (s : State) (o i : Nat) : Bool := bitAt (rd s o) i
/-- Add to a 32-bit saturating counter (R73, R102, R335). -/
def bump (s : State) (o n : Nat) : State := wr s o (w64 (satAdd 32 (rd s o).toNat n))

/-- Value stored in register `r` of core `n`. -/
def cr (s : State) (n r : Nat) : W64 := Sparse.get coreReset s.coreRegs (coreKey n r)
/-- Store `v` in register `r` of core `n`. -/
def cw (s : State) (n r : Nat) (v : W64) : State :=
  { s with coreRegs := Sparse.set coreReset s.coreRegs (coreKey n r) v }
/-- Field of a core register. -/
def crF (s : State) (n r lo w : Nat) : Nat := fld (cr s n r) lo w
/-- Replace a field of a core register. -/
def cwF (s : State) (n r lo w v : Nat) : State := cw s n r (putFld (cr s n r) lo w v)
/-- Bit `i` of a core register. -/
def crB (s : State) (n r i : Nat) : Bool := bitAt (cr s n r) i
/-- Set bit `i` of a core register to `b`. -/
def cwB (s : State) (n r i : Nat) (b : Bool) : State := cw s n r (putBit (cr s n r) i b)
/-- Add to a 32-bit saturating counter of core `n` (R102). -/
def cbump (s : State) (n r k : Nat) : State := cw s n r (w64 (satAdd 32 (cr s n r).toNat k))

/-- Device time in whole nanoseconds (R289). -/
def nowNs (s : State) : Nat := s.time / 2 ^ 32 % 2 ^ 64

/-- The next free value, and the state with it used up (log entry 1). -/
def freshValue (s : State) : W64 × State := (Config.freeValue s.free, { s with free := s.free + 1 })

/-! ### Memory -/

/-- What a byte that nothing has written reads as: 0 (R320); the ownership flags of hub SRAM banks 58–61 and 63, which
are DEVICE (R350). DESIGN CHOICE for core memories and banks 58–63, where the spec gives no contents (log entry 4). -/
def memDefault (a : Nat) : Byte :=
  if 0x001001E3FF74 ≤ a ∧ a < 0x001001E3FF80 ∧ a ≠ 0x001001E3FF7C ∧ a ≠ 0x001001E3FF7D then 0xAA else 0

/-- One byte of device memory. -/
def ldB (s : State) (a : Nat) : Byte := Sparse.get memDefault s.mem a
/-- Write one byte of device memory. -/
def stB (s : State) (a : Nat) (b : Byte) : State := { s with mem := Sparse.set memDefault s.mem a b }
/-- `n` bytes from address `a`. -/
def ldN (s : State) (a n : Nat) : List Byte := (List.range n).map fun i => ldB s (a + i)
/-- Write bytes from address `a` upward. -/
def stN (s : State) (a : Nat) : List Byte → State
  | [] => s
  | b :: r => stN (stB s a b) (a + 1) r
/-- The little-endian number in `n` bytes at `a` (R8). -/
def ldU (s : State) (a n : Nat) : Nat := leNat (ldN s a n)
/-- Write a little-endian number. -/
def stU (s : State) (a n v : Nat) : State := stN s a (leBytes n v)
/-- Write `n` zero bytes. -/
def stZ (s : State) (a n : Nat) : State := stN s a (List.replicate n 0)

/-- `n` bytes from address `a` on hold 0 again; for memory whose default is 0. -/
def zeroMem (s : State) (a n : Nat) : State := { s with mem := Sparse.clear s.mem fun x => decide (a ≤ x ∧ x < a + n) }

/-- Base of core `n`'s memory (R27). -/
def coreBase (n : Nat) : Nat := 0x002000000000 + n * 0x100000
/-- Device address of offset `o` in core `n`'s scratch (Table 1-5). -/
def scratch (n o : Nat) : Nat := coreBase n + 0x70000 + o
/-- Base of hub SRAM (Table 1-7). -/
def hubSram : Nat := 0x001000000000
/-- Base of host memory (Table 1-7). -/
def hostBase : Nat := 0x800000000000

/-- What a device address names (R33, R34, Table 1-7, Table 12-3). -/
inductive Region where
  | ddr | hubTagged | hubTags | hubSys | hubDual | coreMem (n : Nat) (off : Nat) | hubReg (off : Nat) | host
  | unmapped
  deriving DecidableEq, Repr

/-- Classify a device address (R32, R33, R34, R319). -/
def regionOf (s : State) (a : Nat) : Region :=
  if a < 0x001000000000 then (if a < (rd s R.ddrDataEnd).toNat then .ddr else .unmapped)
  else if a < 0x001001D00000 then .hubTagged
  else if a < 0x001001E00000 then .hubTags
  else if a < 0x001001F00000 then .hubSys
  else if a < 0x001002000000 then .hubDual
  else if 0x002000000000 ≤ a ∧ a < 0x002040000000 then
    (if (a - 0x002000000000) % 0x100000 < 0x80000
     then .coreMem ((a - 0x002000000000) / 0x100000) ((a - 0x002000000000) % 0x100000) else .unmapped)
  else if 0x003000000000 ≤ a ∧ a < 0x003001000000 then .hubReg (a - 0x003000000000)
  else if 0x800000000000 ≤ a ∧ a < 0x1000000000000 then .host
  else .unmapped

/-- Tagged memory: DDR5 data and hub SRAM banks 0–57 (R315, R319). -/
def isTagged (s : State) (a : Nat) : Bool := regionOf s a = .ddr || regionOf s a = .hubTagged

/-! ### Ownership flags (R346) -/

/-- The granule of an address that carries a flag. -/
def granuleOf (s : State) (a : Nat) : Option Nat :=
  match regionOf s a with
  | .ddr => some (a / 65536)
  | .hubTagged | .hubTags | .hubSys | .hubDual => some (1047552 + (a - hubSram) / 65536)
  | _ => none

/-- Flag of granule `g`: 0 FREE, 1 HOST, 2 DEVICE, 3 SHARED_RO. -/
def flagOf (s : State) (g : Nat) : Nat := (ldB s (0x001001E00000 + g / 4)).toNat / 4 ^ (g % 4) % 4

/-- Change the flag of granule `g`. -/
def setFlag (s : State) (g v : Nat) : State :=
  let a := 0x001001E00000 + g / 4
  let b := (ldB s a).toNat
  stB s a (BitVec.ofNat 8 (b - (b / 4 ^ (g % 4) % 4) * 4 ^ (g % 4) + (v % 4) * 4 ^ (g % 4)))

/-- Change the flags of granules `g` to `g + n - 1`, in ascending order (R349). -/
def setFlags (s : State) (g : Nat) : Nat → Nat → State
  | 0, _ => s
  | n + 1, v => setFlags (setFlag s g v) (g + 1) n v

/-- Whether granule `g` exists and its flag can change (R350). -/
def granuleFree (g : Nat) : Bool := g < 1016800 || (1047552 ≤ g && g < 1047552 + 58 * 8)

/-! ### Tags (R316 to R322) -/

/-- CRC-32C of 256 zero bytes. -/
def zeroCrc : Nat := 3094524304

/-- A tag from its fields (Table 12-2). -/
def mkTag (crc job seq : Nat) (poison anyJob verified init : Bool) : W64 :=
  w64 (crc % 2 ^ 32 + (job % 256) * 2 ^ 32 + (seq % 65536) * 2 ^ 40 + b2n poison * 2 ^ 56 + b2n anyJob * 2 ^ 57
    + b2n verified * 2 ^ 58 + b2n init * 2 ^ 59)

/-- The tag of a block not written since initialisation (R320), by block address / 256. -/
def tagDefault (k : Nat) : W64 := mkTag zeroCrc 0 k false false false true

/-- Tag of the block that holds address `a`. -/
def tagAt (s : State) (a : Nat) : W64 := Sparse.get tagDefault s.tags (a / 256)
/-- Write the tag of the block that holds address `a`. -/
def setTag (s : State) (a : Nat) (t : W64) : State := { s with tags := Sparse.set tagDefault s.tags (a / 256) t }

/-- Write one whole block at rest with a fresh tag (R315, R318). -/
def stBlock (s : State) (a : Nat) (data : List Byte) (job : Nat) (anyJob poison verified : Bool) : State :=
  setTag (stN s a data) a (mkTag (crc32c data) job (a / 256) poison anyJob verified false)

/-- Log an uncorrectable event (Table 12-8, `ERR_LOG`). -/
def errLog (s : State) (a source : Nat) (job : Option Nat) : State :=
  let s := wr s R.errLogAddr (w64 (a % 2 ^ 48))
  let s := wr s R.errLogInfo (w64 (match job with
    | some j => source + (j % 256) * 256 + 65536
    | none => source))
  wr s R.errLogTime (w64 (nowNs s))

/-- Poison the block at `a`: set the bit of its stored tag and count it (R324). -/
def poisonBlock (s : State) (a : Nat) : State := bump (setTag s a (setBit (tagAt s a) 56)) R.poisonSet 1

/-- What a checker finds (R322). -/
inductive Verdict where
  | good | poisoned
  deriving DecidableEq, Repr

/-- Check data and tag against an expected `SEQ` and a consumer's job (R322). `rest` is the address of a block at rest,
whose stored tag is poisoned when `CRC` or `SEQ` fails. -/
def checkBlock (s : State) (data : List Byte) (tg : W64) (expSeq : Nat) (job : Option Nat) (rest : Option Nat) :
    Verdict × State :=
  if bitAt tg 56 then (.poisoned, s)
  else if crc32c data ≠ fld tg 0 32 ∨ fld tg 40 16 ≠ expSeq % 65536 then
    let s := setB (bump s R.tagCheckFail 1) R.memAlarm 3
    match rest with
    | some a => (.poisoned, errLog (poisonBlock s a) a 5 job)
    | none => (.poisoned, s)
  else match job with
    | some j =>
      if bitAt tg 57 ∨ fld tg 32 8 = j % 256 then (.good, s)
      else (.poisoned, setB (bump s R.tagCheckFail 1) R.memAlarm 3)
    | none => (.good, s)

/-- Read and check the block at rest at `a` (R318, R322). -/
def checkAt (s : State) (a : Nat) (job : Option Nat) : Verdict × State :=
  checkBlock s (ldN s (a / 256 * 256) 256) (tagAt s a) (a / 256) job (some (a / 256 * 256))

/-- A write of any length into tagged memory: each block it touches is read, changed and written whole with its tag
recomputed; a narrow write over a poisoned block leaves it poisoned (R315, R325). -/
def stTagged (job : Nat) (anyJob : Bool) : Nat → State → Nat → List Byte → State
  | 0, s, _, _ => s
  | k + 1, s, a, l =>
    if l.isEmpty then s else
    let base := a / 256 * 256
    let n := min l.length (256 - (a - base))
    let old := ldN s base 256
    let new := old.take (a - base) ++ l.take n ++ old.drop (a - base + n)
    let poison := n < 256 && bitAt (tagAt s base) 56
    stTagged job anyJob k (stBlock s base new job anyJob poison false) (a + n) (l.drop n)

end Sys2Proof.Machine
end

