-- ==== Sys2Proof/Machine/Flags.lean ====
section
/-! DEFINITION. Interrupt sources and the summary flags, and the frame that every command runs in. -/
namespace Sys2Proof.Machine

/-! ### Interrupts (R355, R356) -/

/-- MSI-X message on vector `v`: sent, or left pending when the entry is masked (R356). -/
def sendMsix (s : State) (v : Nat) : State :=
  if rdB s (R.msixData v) 32 then setB s R.msixPba v
  else { s with outs := { s.outs with msix := (rd s (R.msixAddr v), rdF s (R.msixData v) 0 32) :: s.outs.msix } }

/-- Any job event of any breath is set (source 10, R418). -/
def anyJobEvent (s : State) : Bool := (List.range 64).any fun j => rd s (R.jobEvent j) &&& 0x1F ≠ 0

/-- Source `k` of `IRQ_SUMMARY` (Table 13-10). -/
def irqSource (s : State) (k : Nat) : Bool :=
  if k < 8 then rdB s (R.mbStatus k) 2
  else if k = 8 then rdF s R.meshAlarm 0 3 ≠ 0
  else if k = 9 then rdF s R.memAlarm 0 5 ≠ 0
  else if k = 10 then anyJobEvent s
  else if k = 11 then rdF s R.ownAlarm 0 2 ≠ 0
  else if k = 12 then rdF s R.pwrAlarm 0 7 ≠ 0
  else if k = 13 then s.chip.wakeIrq
  else if k = 14 then rdF s R.peerAlarm 0 2 ≠ 0
  else if k = 15 then rd s (R.tmrIrqPend 0) ≠ 0 || rd s (R.tmrIrqPend 1) ≠ 0
  else if k = 16 then (List.range 8).any fun e => rdB s (R.dmaCtrl e) 17 && (rdF s (R.dmaStatus e) 0 2 ≥ 2)
  else false

/-- `IRQ_SUMMARY` (Table 13-9). -/
def irqSummary (s : State) : Nat := ((List.range 17).map fun k => b2n (irqSource s k) * 2 ^ k).sum

/-- Vector of routed source `k` (Table 13-9). -/
def irqVector (s : State) (k : Nat) : Nat :=
  if k < 10 then rdF s R.irqRoute0 (6 * k) 6 else rdF s R.irqRoute1 (6 * (k - 10)) 6

/-- After a command: one message for each enabled source 0–14 whose summary bit has gone from 0 to 1 (R355, R356). -/
def settle (before after : State) : State :=
  (List.range 15).foldl (fun s k =>
    if irqSource after k && !irqSource before k && rdB after R.irqEnable k then sendMsix s (irqVector after k) else s)
    after

/-- The package serves: neither held in reset nor asleep, with its reference clock running. -/
def live (s : State) : Bool := s.chip.phase = .running && s.chip.refclk

/-! ### What a command may change -/

/-- The queue of waiting commands is never a command's effect. -/
def keepQueue (s t : State) : State := { t with pending := s.pending }

/-- Firmware, fuses and flash stay: only boot, the firmware commands and the fuse blow change them (R440 to R447). -/
def keepStore (s t : State) : State := { t with boot := s.boot, flash := s.flash, erased := s.erased }

/-- Device time stays: only its clock, TIME_ADJUST, the exit from P-STANDBY and a cold reset move it (R289, R291, R309). -/
def keepTime (s t : State) : State := { t with time := s.time }

/-- Reset, clock and TAP stay, and with `phase` the package's phase too (R436, R456, R461, R462). -/
def keepPins (s t : State) (phase : Bool) : State :=
  { t with chip := { t.chip with
      phase := if phase then s.chip.phase else t.chip.phase
      refclk := s.chip.refclk, perst := s.chip.perst, tapIr := s.chip.tapIr, tapDr := s.chip.tapDr } }

/-- What an ordinary command leaves alone. -/
def keepAll (s t : State) : State := keepQueue s (keepStore s (keepTime s (keepPins s t true)))

/-- The package serves what recovery serves too: Chanter or the boot ROM runs, with its clock (R445). -/
def serves (s : State) : Bool := (s.chip.phase = .running || s.chip.phase = .recovery) && s.chip.refclk

/-- How every ordinary command of a serving package runs: its effect, and the interrupt messages that follow from it. In
a package that does not serve it changes nothing (log entry 5). -/
def act (s : State) (eff : State → State) : Host.Outcome State Fault Refusal :=
  .next (if live s then settle s (keepAll s (eff s)) else s)

/-- How TIME_ADJUST runs: it may move device time. -/
def actTime (s : State) (eff : State → State) : Host.Outcome State Fault Refusal :=
  .next (if live s then settle s (keepQueue s (keepStore s (keepPins s (eff s) true))) else s)

/-- How the entry into P-STANDBY runs: it may change the phase. -/
def actPhase (s : State) (eff : State → State) : Host.Outcome State Fault Refusal :=
  .next (if live s then settle s (keepQueue s (keepStore s (keepTime s (keepPins s (eff s) false)))) else s)

/-- How the blowing of fuses runs: it may change what the boot checks. -/
def actStore (s : State) (eff : State → State) : Host.Outcome State Fault Refusal :=
  .next (if live s then settle s (keepQueue s (keepTime s (keepPins s (eff s) true))) else s)

/-- How a row that recovery serves too runs (R445). -/
def actServed (s : State) (eff : State → State) : Host.Outcome State Fault Refusal :=
  .next (if serves s then settle s (keepAll s (eff s)) else s)

/-- How a firmware command runs, in recovery too (R445, R447). -/
def actFirmware (s : State) (eff : State → State) : Host.Outcome State Fault Refusal :=
  .next (if serves s then settle s (keepQueue s (keepTime s (keepPins s (eff s) true))) else s)

/-- How a reset, or an event of the pins and supplies, runs: in every phase. -/
def actAlways (s : State) (eff : State → State) : Host.Outcome State Fault Refusal :=
  .next (settle s (keepQueue s (eff s)))

end Sys2Proof.Machine
end

