-- ==== Sys2Proof/Machine/Memory.lean ====
section
/-! DEFINITION. How device engines and Chanter read and write memory in tensor blocks: address translation to the host,
ownership, tags and poison (R321 to R327, R345, R347, R369). -/
namespace Sys2Proof.Machine

/-- The PCIe address of a device address in the host range, when its outbound slot maps it (R345). -/
def outAddr (s : State) (a : Nat) : Option Nat :=
  let k := (a - hostBase) / 2 ^ 38
  let f := (a - hostBase) % 2 ^ 38
  if hostBase ≤ a ∧ k < 16 ∧ bitAt (rd s (R.outCtrl k)) 63 ∧ f < rdF s (R.outCtrl k) 0 39
  then some ((rd s (R.outBase k)).toNat + f) else none

/-- `n` bytes that the spec leaves open: free values (log entry 1). -/
def freeBytes : Nat → State → List Byte × State
  | 0, s => ([], s)
  | n + 1, s =>
    let v := freshValue s
    let r := freeBytes n v.2
    (v.1.setWidth 8 :: r.1, r.2)

/-- What host memory holds at PCIe address `p`: the block that a completion has delivered, which is then used (R339), else
bytes the block cannot know (log entry 7). -/
def hostFetch (s : State) (p : Nat) : Verdict × List Byte × State :=
  match s.hostRd.find? fun b => b.addr = p with
  | some b => (if b.poisoned then .poisoned else .good, b.data, { s with hostRd := s.hostRd.filter fun x => x.addr ≠ p })
  | none => let r := freeBytes 256 s; (.good, r.1, r.2)

/-- Result of an engine's access to one block. -/
inductive Access where
  | good (data : List Byte)
  | poisoned (data : List Byte)
  | unmapped
  | refused
  deriving DecidableEq, Repr

/-- Record a refused device access (R348). -/
def ownDeviceFault (s : State) : State := setB (bump s R.ownDeviceFaults 1) R.ownAlarm 1

/-- Read the block at `a`: `job` is the consumer's job for the check, `owned` says whether ownership applies
(R322, R345, R347). -/
def readBlock (s : State) (a : Nat) (job : Option Nat) (owned : Bool) : Access × State :=
  match regionOf s a with
  | .ddr | .hubTagged =>
    if owned && ((granuleOf s a).map (flagOf s)) = some 1 then (.refused, ownDeviceFault s)
    else
      let r := checkAt s a job
      let d := ldN s (a / 256 * 256) 256
      (match r.1 with | .good => .good d | .poisoned => .poisoned d, r.2)
  | .host => match outAddr s a with
    | some p =>
      let r := hostFetch s p
      (match r.1 with | .good => .good r.2.1 | .poisoned => .poisoned r.2.1, r.2.2)
    | none => (.unmapped, s)
  | _ => (.unmapped, s)

/-- Write the block at `a`; one written as poisoned is a new poisoning (R315, R324, R345, R347). -/
def writeBlock (s : State) (a : Nat) (data : List Byte) (job : Nat) (anyJob poison owned : Bool) : Access × State :=
  match regionOf s a with
  | .ddr | .hubTagged =>
    let f := ((granuleOf s a).map (flagOf s)).getD 0
    if owned && (f = 1 || f = 3) then (.refused, ownDeviceFault s)
    else (.good [], stBlock (if poison then bump s R.poisonSet 1 else s) (a / 256 * 256) data job anyJob poison false)
  | .host => match outAddr s a with
    | some p => (.good [], { s with outs := { s.outs with hostWr := (p, data) :: s.outs.hostWr } })
    | none => (.unmapped, s)
  | _ => (.unmapped, s)

/-- Whether a command parameter may name the block at `a` (R369). -/
def paramMapped (s : State) (a : Nat) : Bool :=
  match regionOf s a with
  | .ddr | .hubTagged => true
  | .host => (outAddr s a).isSome
  | _ => false

/-- The first of `n` blocks from `a` that lies outside the regions R369 names. -/
def firstUnmapped (s : State) (a : Nat) : Nat → Option Nat
  | 0 => none
  | n + 1 => if paramMapped s a then firstUnmapped s (a + 256) n else some a

/-- Outcome of Chanter's read of a range (R369). -/
inductive Source where
  | data (l : List Byte)
  | unmapped (a : Nat)
  | integrity (a : Nat)
  deriving DecidableEq, Repr

/-- Read `n` whole blocks from `a`, checked against job `job` (none: no job check) and not against ownership (R369). -/
def readSource (job : Option Nat) : Nat → State → Nat → Source × State
  | 0, s, _ => (.data [], s)
  | n + 1, s, a =>
    if ¬ paramMapped s a then (.unmapped a, s) else
    match readBlock s a job false with
    | (.good d, s) =>
      match readSource job n s (a + 256) with
      | (.data l, s) => (.data (d ++ l), s)
      | r => r
    | (.poisoned _, s) => (.integrity a, s)
    | (_, s) => (.unmapped a, s)

/-- Write bytes as whole blocks from `a`, with `ANY_JOB` = 1 and `JOB_ID` = 0; the last block is padded with zeros
(R369). -/
def writeBlocks : Nat → State → Nat → List Byte → State
  | 0, s, _, _ => s
  | n + 1, s, a, l =>
    let d := l.take 256
    writeBlocks n (writeBlock s a (d ++ List.replicate (256 - d.length) 0) 0 true false false).2 (a + 256) (l.drop 256)

/-- Bytes as little-endian 64-bit words. -/
def wordsOf : Nat → List Byte → List W64
  | 0, _ => []
  | n + 1, l => w64 (leNat (l.take 8)) :: wordsOf n (l.drop 8)

/-- 64-bit words as little-endian bytes. -/
def bytesOf (l : List W64) : List Byte := l.flatMap fun w => leBytes 8 w.toNat

end Sys2Proof.Machine
end

