-- ==== Sys2Proof/Machine/Flits.lean ====
section
/-! DEFINITION. Flit layouts (Tables 8-1 to 8-3) and endpoint numbers (R16, R19). -/
namespace Sys2Proof.Machine

/-- Field of a flit. -/
def ff (f : Flit) (lo n : Nat) : Nat := fld f lo n
def fType (f : Flit) : Nat := ff f 60 4
def fVc (f : Flit) : Nat := ff f 58 2
def fMark (f : Flit) : Bool := bitAt f 57
def fMc (f : Flit) : Bool := bitAt f 56
def fDx (f : Flit) : Nat := ff f 50 6
def fDy (f : Flit) : Nat := ff f 45 5
def fEx (f : Flit) : Nat := ff f 40 5
def fEy (f : Flit) : Nat := ff f 35 5
def fRow (f : Flit) : Nat := ff f 23 12
/-- Step tag of an event flit. -/
def fStep (f : Flit) : Nat := ff f 21 2
def fAnti (f : Flit) : Bool := bitAt f 20
def fPayload (f : Flit) : Nat := ff f 12 8
def fSrc (f : Flit) : Nat := ff f 1 11
/-- Fields of a reduction flit (Table 8-3). -/
def fRid (f : Flit) : Nat := ff f 34 11
def fRStep (f : Flit) : Nat := ff f 32 2
def fValue (f : Flit) : Nat := ff f 0 32

/-- Bits [63:45], common to every flit. -/
def mkHead (type vc : Nat) (mc : Bool) (dx dy : Nat) : Nat :=
  type * 2 ^ 60 + vc * 2 ^ 58 + b2n mc * 2 ^ 56 + (dx % 64) * 2 ^ 50 + (dy % 32) * 2 ^ 45

/-- An event flit (Table 8-2). -/
def mkEvent (type vc : Nat) (mc : Bool) (dx dy ex ey row step : Nat) (anti : Bool) (payload src : Nat) : Flit :=
  w64 (mkHead type vc mc dx dy + (ex % 32) * 2 ^ 40 + (ey % 32) * 2 ^ 35 + (row % 4096) * 2 ^ 23 + (step % 4) * 2 ^ 21
    + b2n anti * 2 ^ 20 + (payload % 256) * 2 ^ 12 + (src % 2048) * 2)

/-- A reduction flit (Table 8-3). -/
def mkReduce (type vc dx dy rid step value : Nat) : Flit :=
  w64 (mkHead type vc false dx dy + (rid % 2048) * 2 ^ 34 + (step % 4) * 2 ^ 32 + value % 2 ^ 32)

/-- Column and row of a core ID (R3). -/
def xOf (n : Nat) : Nat := n % 32
def yOf (n : Nat) : Nat := n / 32

/-- VC that Table 8-1 gives for a TYPE; EVENT and GRADED may also use VC0 (the L0 job). -/
def vcOk (f : Flit) : Bool :=
  let t := fType f
  let v := fVc f
  if t ≤ 1 then v ≤ 1 else if t = 2 then v = 2 else if t = 3 || t = 6 || t = 0xA || t = 0xB then v = 0
  else v = 3

/-- SRC of an endpoint (R19). -/
def srcOf : Endpoint → Nat
  | .core n => n.val
  | .mouthpiece c => 0x400 + c.val
  | .bell c => 0x500 + c.val
  | .dma e => 0x600 + e.val
  | .breath => 0x610
  | .chanter k => 0x618 + k.val
  | .evtPort => 0x620
  | .peer p => 0x628 + p.val
  | .host => 0x630

/-- A counted flit: EVENT or GRADED (R44). -/
def isCounted (f : Flit) : Bool := fType f ≤ 1

/-- How many receipts a counted flit stands for (R45). -/
def sentCount (f : Flit) : Nat := if fMc f then (fEx f + 1) * (fEy f + 1) else 1

end Sys2Proof.Machine
end

