-- ==== Sys2Proof/Machine/Breath.lean ====
section
/-! DEFINITION. The Breath controller's bookkeeping: schedules, frame lock, suspension and resume (R35 to R69). -/
namespace Sys2Proof.Machine

def brth (s : State) (j : Nat) : Breath := Sparse.get (fun _ => {}) s.breaths j
def setBrth (s : State) (j : Nat) (b : Breath) : State :=
  { s with breaths := Sparse.set (fun _ => {}) s.breaths j b }
def jobOf (s : State) (j : Nat) : Job := Sparse.get (fun _ => {}) s.jobs j
def setJob (s : State) (j : Nat) (b : Job) : State := { s with jobs := Sparse.set (fun _ => {}) s.jobs j b }

/-- `BRTH_STATUS.STATE`: 0 STOPPED, 1 ARMED, 2 RUNNING, 3 SUSPENDED, 4 FAULTED (Table 2-6). -/
def brthState (s : State) (j : Nat) : Nat := rdF s (R.brthStatus j) 0 3
def setBrthState (s : State) (j v : Nat) : State := wrF s (R.brthStatus j) 0 3 v
def brthMode (s : State) (j : Nat) : Nat := rdF s (R.brthConfig j) 0 2
def ovbDepth (s : State) (j : Nat) : Nat := rdF s (R.brthConfig j) 2 1
def brthL0 (s : State) (j : Nat) : Bool := rdB s (R.brthConfig j) 3
def brthHier (s : State) (j : Nat) : Bool := rdB s (R.brthConfig j) 4
def period (s : State) (j : Nat) : Nat := rdF s (R.brthPeriod j) 0 32
def framePeriod (s : State) (j : Nat) : Nat := rdF s (R.brthFrame j) 0 32
def frameOffset (s : State) (j : Nat) : Nat := rdF s (R.brthFrame j) 32 32
def lagLimit (s : State) (j : Nat) : Nat := rdF s (R.brthLagLimit j) 0 8
def haltHold (s : State) (j : Nat) : Bool := rdB s (R.brthStatus j) 6
def suspendPending (s : State) (j : Nat) : Bool := rdB s (R.brthStatus j) 7

/-- `JOB_STATE` (Table 15-9): state code, job ID, last fault. -/
def jobState (s : State) (j : Nat) : Nat := rdF s (R.jobState j) 0 8
def jobId (s : State) (j : Nat) : Nat := rdF s (R.jobState j) 8 8

/-- A change of job state sets `STATE_CHANGED` (R400). -/
def setJobState (s : State) (j v : Nat) : State :=
  if jobState s j = v then s else setB (wrF s (R.jobState j) 0 8 v) (R.jobEvent j) 0

/-- The breath of job `id` (R362: one breath per job). -/
def breathOf (s : State) (id : Nat) : Option Nat :=
  (List.range 64).find? fun j => jobState s j ≠ 0 && jobId s j = id % 256

/-- Corners of the job's rectangle (Table 2-5). -/
def rectX0 (s : State) (j : Nat) : Nat := rdF s (R.brthRect j) 0 5
def rectY0 (s : State) (j : Nat) : Nat := rdF s (R.brthRect j) 8 5
def rectX1 (s : State) (j : Nat) : Nat := rdF s (R.brthRect j) 16 5
def rectY1 (s : State) (j : Nat) : Nat := rdF s (R.brthRect j) 24 5
def rectCores (s : State) (j : Nat) : Nat := rdF s (R.brthRect j) 32 11

/-- Core IDs of the rectangle with the given corners, ascending. -/
def rectList (x0 y0 x1 y1 : Nat) : List Nat :=
  (List.range (y1 + 1 - y0)).flatMap fun dy => (List.range (x1 + 1 - x0)).map fun dx => (y0 + dy) * 32 + x0 + dx

/-- Cores of the job bound to breath `j`; none while the breath has no job. -/
def coresOf (s : State) (j : Nat) : List Nat :=
  if jobState s j = 0 then [] else rectList (rectX0 s j) (rectY0 s j) (rectX1 s j) (rectY1 s j)

def accOf (b : Breath) (g : Nat) : Acc := Sparse.get (fun _ => {}) b.acc (g % 4)
def setAcc (b : Breath) (g : Nat) (a : Acc) : Breath := { b with acc := Sparse.set (fun _ => {}) b.acc (g % 4) a }

/-- Number of started steps with open barriers (Table 2-6, R37). -/
def openSteps (b : Breath) : Nat := (b.started - b.closed).toNat
def noteOpen (s : State) (j : Nat) : State := wrF s (R.brthStatus j) 8 2 (min (openSteps (brth s j)) 3)

/-- `BRTH_ACC_SENT`, `BRTH_ACC_RECEIVED` and `BRTH_ACC_DONE` show the oldest open step's sums. -/
def oldestAcc (s : State) (j : Nat) : Acc :=
  let b := brth s j
  if b.closed = b.started then {} else accOf b (b.closed + 1).toNat

/-! ### Device times -/

/-- Device time `a` moved by `d` ns: device times are 64-bit and wrap (R289, R292). -/
def timeAdd (a : Nat) (d : Int) : Nat := (((a : Int) + d) % (2 ^ 64 : Nat)).toNat

/-- `b - a` on device times, as a signed number. -/
def timeDiff (a b : Nat) : Int := (BitVec.ofNat 64 b - BitVec.ofNat 64 a).toInt

/-! ### Conditions of the L0 job (R467 to R469) -/

/-- Core `n` is one of the path islands of breath `j`'s job, or of its cores (R467). -/
def onPath (s : State) (j n : Nat) : Bool :=
  jobState s j ≠ 0 && rectY0 s j ≤ n / 32 && n / 32 ≤ rectY1 s j && n % 32 ≤ rectX1 s j

/-- Step `t` is recorded as outside conditions, with the failed conditions `c` (R469). -/
def recordOut (s : State) (j : Nat) (t : BitVec 32) (c : Nat) : State :=
  let old := rd s (R.l0Cond j)
  if c = 0 then s
  else if fld old 0 9 ≠ 0 ∧ fld old 32 32 = t.toNat then wr s (R.l0Cond j) (old ||| w64 c)
  else
    let s := wr (bump s (R.l0StepsOut j) 1) (R.l0Cond j) (w64 (c + t.toNat * 2 ^ 32))
    let due := match (brth s j).condNoted with
      | none => true
      | some u => timeDiff u (nowNs s) ≥ 1000000
    if due then setB (setBrth s j { brth s j with condNoted := some (nowNs s) }) (R.jobEvent j) 0 else s

/-- Failed conditions of the step with tag `g`. -/
def condOf (b : Breath) (g : Nat) : Nat := Sparse.get (fun _ => 0) b.cond (g % 4)
def setCond (b : Breath) (g v : Nat) : Breath := { b with cond := Sparse.set (fun _ => 0) b.cond (g % 4) v }

/-- A condition of Table 19-1 fails now: for every open step, and for the last closed one up to 1.2 µs after its COMMIT
(R468). -/
def failCond (s : State) (j bit : Nat) : State :=
  let b := brth s j
  let tags := (List.range (min (openSteps b) 4)).map fun i => b.closed.toNat + 1 + i
  let s := setBrth s j (tags.foldl (fun b g => setCond b g (condOf b g ||| 2 ^ bit)) b)
  match b.closedAt with
  | some a => if timeDiff a (nowNs s) ≤ 1200 then recordOut s j b.closed (2 ^ bit) else s
  | none => s

/-- Breath of the job that holds the L0 designation (R399). -/
def l0Breath (s : State) : Option Nat := (List.range 64).find? fun j => jobState s j ≠ 0 && brthL0 s j

/-- The hub sends a CTRL access of the host or of a Bell channel to core `n`: condition `HOST_ACCESS` of Table 19-1 where the
core is one of the L0 job's, or of its path islands (R468). -/
def noteCtrlAccess (s : State) (n : Nat) : State :=
  match l0Breath s with
  | some j => if onPath s j n then failCond s j 8 else s
  | none => s

/-- The same, where breath `j` has the L0 job. -/
def failL0 (s : State) (j bit : Nat) : State := if brthL0 s j then failCond s j bit else s

/-- Raise a job fault: the breath is FAULTED at once, and no further START or COMMIT is sent (R69, R402); one that is on its
way reaches its cores. Faults of a job that is neither running, suspended, stopped nor under test are discarded (R400,
R404; log entry 9). -/
def raise (s : State) (j code step : Nat) : State :=
  let st := jobState s j
  if st = 3 || st = 4 || st = 6 || st = 8 then
    let s := { s with faults := s.faults ++ [(⟨j, code, step % 2 ^ 32⟩ : Raised)] }
    failL0 (setBrthState s j 4) j 4
  else s

/-- Raise a fault of the job with ID `id`. -/
def raiseJob (s : State) (id code : Nat) : State :=
  match breathOf s id with
  | some j => raise s j code (brth s j).started.toNat
  | none => s

/-- A late input of the job: `LATE` and `LATE_COUNT` of `JOB_DETERMINISM` (R71, R471). -/
def lateInput (s : State) (j : Nat) : State :=
  let w := rd s (R.jobDeterminism j)
  wr s (R.jobDeterminism j) (putFld (setBit w 0) 32 32 (satAdd 32 (fld w 32 32) 1))

/-- The job leaves R70 until it is next restarted: `DIRECT_WRITE` (R104, R164, R471). -/
def outsideDet (s : State) (j : Nat) : State :=
  setB (setJob s j { jobOf s j with outside := true }) (R.jobDeterminism j) 1

/-! ### Schedules (R56 to R65) -/

/-- `b - a` on 32-bit step numbers as a signed number (R62). -/
def stepDiff (a b : BitVec 32) : Int := (b - a).toInt

/-- Grid time of step `t` under the current anchor (R62). -/
def gridTime (s : State) (j : Nat) (t : BitVec 32) : Nat :=
  timeAdd (rd s (R.brthFrameEdge j)).toNat ((frameOffset s j : Int)
    + stepDiff (BitVec.ofNat 32 (rd s (R.brthFrameStep j)).toNat) t * (period s j : Int))

/-- The next step to start (R35). -/
def nextStep (s : State) (j : Nat) : BitVec 32 := (brth s j).started + 1

/-- Set N of the next step. -/
def setNominal (s : State) (j n : Nat) : State :=
  setBrth (wr s (R.brthNextNominal j) (w64 n)) j { brth s j with nominal := true }

/-- Set N of the next step from the grid (R63). -/
def gridNominal (s : State) (j : Nat) : State :=
  if (brth s j).anchored then setNominal s j (gridTime s j (nextStep s j)) else s

/-- B(t - 1) has closed, or with `OVB_DEPTH` = 1 B(t - 2) has (R37, R38). -/
def barrierAllows (s : State) (j : Nat) : Bool :=
  openSteps (brth s j) ≤ ovbDepth s j

/-- The nominal start of the next step has arrived (R38, R56). -/
def nominalArrived (s : State) (j : Nat) : Bool :=
  if brthMode s j = 2 then !(brth s j).grants.isEmpty
  else (brth s j).nominal && decide (0 ≤ timeDiff (rd s (R.brthNextNominal j)).toNat (nowNs s))

/-- Step `t` may start (R38, R66, R69): the breath runs, no suspension waits, and no START is withheld (R280). -/
def mayStart (s : State) (j : Nat) : Bool :=
  brthState s j = 2 && !suspendPending s j && !brthHier s j && barrierAllows s j && nominalArrived s j
    && !(brth s j).withheld

/-- Histogram bin of a stretch in ns (Table 2-7). -/
def stretchBin (d : Nat) : Nat :=
  if d < 10000 then 0 else if d < 20000 then 1 else if d < 40000 then 2 else if d < 80000 then 3
  else if d < 160000 then 4 else if d < 320000 then 5 else if d < 640000 then 6 else 7

/-- Record the stretch and the lag of a step that starts at `a` with nominal start `n` (R58, R64). -/
def noteStart (s : State) (j a n : Nat) : State :=
  let late := (timeDiff n a).toNat
  let s := if late > 0 then bump (bump s (R.brthStretchCount j) 1) (R.brthStretchHist j (stretchBin late)) 1 else s
  let lag := if brthMode s j = 1 then min late 0xFFFFFFFF else 0
  let s := wr s (R.brthLag j) (w64 lag)
  wr s (R.brthStatus j) (putBit (rd s (R.brthStatus j)) 4 (lag ≠ 0))

/-- The schedule's side of START(t): counts, A(t), the next nominal start, and the tag's sums opened for the hub
participants `parts` (R38, R47, R56, R58, R64). -/
def startStep (s : State) (j : Nat) (parts : List Nat) : State :=
  let b := brth s j
  let t := b.started + 1
  let a := nowNs s
  let n := if brthMode s j = 2 then b.grants.headD a
    else if b.resumed && brthMode s j = 0 then a else (rd s (R.brthNextNominal j)).toNat
  let s := noteStart s j a n
  let acc := { accOf b t.toNat with waiting := parts, started := true, start := a }
  let b := setAcc { b with started := t, grants := b.grants.drop 1, nominal := false, resumed := false, haltLag := false
                           begun := true } t.toNat acc
  let s := setBrth s j b
  let s := wr s (R.stepCount j) (w64 t.toNat)
  let s := wr s (R.brthLastStart j) (w64 a)
  let s := if brthMode s j = 0 then setNominal s j (timeAdd a (period s j))
    else if brthMode s j = 1 then gridNominal s j
    else match b.grants with
      | g :: _ => setNominal s j g
      | [] => s
  noteOpen s j

/-- The lag limit is passed (R59). A worker breath runs no schedule (R72). -/
def overrun (s : State) (j : Nat) : Bool :=
  brthState s j = 2 && !brthHier s j && !haltHold s j && !(brth s j).haltLag &&
    (if brthMode s j = 2 then (brth s j).grants.length > lagLimit s j
     else (brth s j).nominal
       && decide (timeDiff (rd s (R.brthNextNominal j)).toNat (nowNs s) > ((lagLimit s j * period s j : Nat) : Int)))

/-- STEP_OVERRUN: recorded in `BRTH_FAULT` and raised (R59, Table 2-5). -/
def overrunFault (s : State) (j : Nat) : State :=
  let t := (nextStep s j).toNat
  raise (wr s (R.brthFault j) (w64 (1 + t * 2 ^ 32))) j 0x01 t

/-- A start action reaches a timer-driven breath; one that is not RUNNING, or a worker's, discards it; more than
`BRTH_LAG_LIMIT` waiting is a STEP_OVERRUN (R56, R59, R60, R72, R305). -/
def startAction (s : State) (j : Nat) : State :=
  if brthState s j = 2 ∧ brthMode s j = 2 ∧ ¬ brthHier s j then
    let b := brth s j
    let s := setBrth s j { b with grants := b.grants ++ [nowNs s] }
    let s := if b.grants.isEmpty then setNominal s j (nowNs s) else s
    if overrun s j then overrunFault s j else s
  else s

/-! ### Frame lock (R62, R63) -/

/-- A new anchor: `BRTH_FRAME_EDGE`, `BRTH_FRAME_STEP`, and N of the next step (R63). -/
def setAnchor (s : State) (j e : Nat) (st : Nat) (assumed : Bool) : State :=
  let s := wr s (R.brthFrameEdge j) (w64 e)
  let s := wr s (R.brthFrameStep j) (w64 (st % 2 ^ 32))
  gridNominal (setBrth s j { brth s j with anchored := true, assumed := assumed }) j

/-- Grid points per frame, n = F / P (R62). -/
def framePoints (s : State) (j : Nat) : Nat := framePeriod s j / period s j

/-- The predicted edge Ê (R63). -/
def predicted (s : State) (j : Nat) : Nat := timeAdd (rd s (R.brthFrameEdge j)).toNat (framePeriod s j)

/-- Assume the predicted edge as the anchor (R63, "Missing"). -/
def assumeAnchor (s : State) (j : Nat) : State :=
  let st := (rd s (R.brthFrameStep j)).toNat + framePoints s j
  let s := setAnchor s j (predicted s j) st true
  setB (bump s (R.brthFrameMiss j) 1) (R.brthStatus j) 5

/-- Judge an edge captured at `cap` against the prediction: inside the window, or early (R63). -/
def takeEdge (s : State) (j cap : Nat) : State :=
  let e := predicted s j
  let st := (rd s (R.brthFrameStep j)).toNat + framePoints s j
  let s' := clrB (setAnchor s j cap st false) (R.brthStatus j) 5
  if timeDiff cap e > 1000 then bump s' (R.brthFrameSlip j) 1 else s'

/-- A captured FRAME_SYNC edge reaches a frame-locked breath that runs its own schedule: the first one becomes E₀, in any
state but STOPPED, and an ARMED breath then runs (R62, R63, R72). `k` bounds the predictions passed over. -/
def frameEdge : Nat → State → Nat → Nat → State
  | 0, s, _, _ => s
  | k + 1, s, j, cap =>
    if brthMode s j ≠ 1 ∨ brthState s j = 0 ∨ brthHier s j then s
    else if ¬ (brth s j).anchored then
      let s' := setAnchor s j cap (nextStep s j).toNat false
      clrB (if brthState s j = 1 then setBrthState s' j 2 else s') (R.brthStatus j) 5
    else
      let d := timeDiff (rd s (R.brthFrameEdge j)).toNat cap
      if (brth s j).assumed ∧ d > 1000 ∧ 2 * d < framePeriod s j then
        let st := (rd s (R.brthFrameStep j)).toNat
        clrB (bump (setAnchor s j cap st false) (R.brthFrameSlip j) 1) (R.brthStatus j) 5
      else if timeDiff (predicted s j) cap > 1000 then frameEdge k (assumeAnchor s j) j cap
      else takeEdge s j cap

/-- No edge up to Ê + 1 µs, and device time has passed that by 10 ns (R63). -/
def missDue (s : State) (j : Nat) : Bool :=
  brthMode s j = 1 && brthState s j ≠ 0 && !brthHier s j && (brth s j).anchored
    && decide (timeDiff (predicted s j) (nowNs s) > 1010)

/-- A breath that JOB_START has armed has seen no first edge in time, whatever has befallen it since (R62). -/
def armDue (s : State) (j : Nat) : Bool :=
  brthMode s j = 1 && brthState s j ≠ 0 && !brthHier s j && !(brth s j).anchored
    && decide (timeDiff (brth s j).armDue (nowNs s) > 0)

/-- FRAME_MISSING while ARMED, and the next time to count (R62). -/
def armMissing (s : State) (j : Nat) : State :=
  let b := brth s j
  setB (bump (setBrth s j { b with armDue := timeAdd b.armDue (framePeriod s j) }) (R.brthFrameMiss j) 1) (R.brthStatus j) 5

/-- Enter ARMED for the first edge (R62). -/
def arm (s : State) (j : Nat) : State :=
  let b := brth s j
  setBrthState (setBrth s j
    { b with armDue := timeAdd (nowNs s) (framePeriod s j + 1000), anchored := false, assumed := false, nominal := false }) j 1

/-! ### Suspension and resume (R66, R67) -/

/-- Ask for a suspension at the next step boundary, for reason `why` (R66). -/
def askSuspend (s : State) (j why : Nat) : State :=
  let b := brth s j
  setB (setBrth s j { b with asked := b.asked ++ [why] }) (R.brthStatus j) 7

/-- Withdraw a request for a suspension. -/
def unaskSuspend (s : State) (j why : Nat) : State :=
  let b := brth s j
  let l := b.asked.erase why
  let s := setBrth s j { b with asked := l }
  if l.isEmpty then clrB s (R.brthStatus j) 7 else s

/-- Grid points to skip so that the lag of the next step is within the limit: the smallest number (R67). -/
def skipPoints (s : State) (j : Nat) : Nat :=
  let late := timeDiff (gridTime s j (nextStep s j)) (nowNs s) - ((lagLimit s j * period s j : Nat) : Int)
  cdiv late.toNat (period s j)

/-- The breath resumes: N of the next step by its mode. A timer-driven breath keeps the start actions that came before the
suspension; a frame-locked one without its first anchor is ARMED still; a worker breath waits for its manager (R62, R67,
R72). -/
def resumeBreath (s : State) (j : Nat) : State :=
  let s := setBrthState s j 2
  if brthHier s j then s
  else
  let s := setBrth s j { brth s j with resumed := true }
  if brthMode s j = 0 then setNominal s j (nowNs s)
  else if brthMode s j = 2 then
    (match (brth s j).grants with
     | g :: _ => setNominal s j g
     | [] => s)
  else if brthMode s j = 1 ∧ ¬ (brth s j).anchored then setBrthState s j 1
  else if (brth s j).anchored then
    let m := skipPoints s j
    let st := (rd s (R.brthFrameStep j)).toNat
    let s := wr s (R.brthFrameStep j) (w64 ((st + 2 ^ 32 - m % 2 ^ 32) % 2 ^ 32))
    gridNominal (bump s (R.brthGridSkipped j) m) j
  else s

/-- A step of device time by `d` ns moves every device time that the Breath holds for breath `j`: anchor, nominal start,
actual starts, and what its schedule still compares with device time (R292). -/
def shiftBreath (s : State) (j : Nat) (d : Int) : State :=
  let b := brth s j
  let reg (held : Bool) (o : Nat) (s : State) : State := if held then wr s o (w64 (timeAdd (rd s o).toNat d)) else s
  let s := { s with breaths := Sparse.set (fun _ => {}) s.breaths j { b with
    grants := b.grants.map (timeAdd · d)
    armDue := if jobState s j ≠ 0 ∧ brthState s j ≠ 0 then timeAdd b.armDue d else b.armDue
    closedAt := b.closedAt.map (timeAdd · d), condNoted := b.condNoted.map (timeAdd · d)
    acc := b.acc.map fun e => (e.1, if e.2.started then { e.2 with start := timeAdd e.2.start d } else e.2) } }
  reg b.nominal (R.brthNextNominal j) (reg b.begun (R.brthLastStart j) (reg b.anchored (R.brthFrameEdge j) s))

/-- Counters of R73 and the guarantee registers, which BREATH_CLEAR and resets clear (R73, R469). -/
def clearBreathCounters (s : State) (j : Nat) : State :=
  { s with regs := Sparse.clear s.regs fun o =>
      o = R.brthStretchCount j || (R.brthStretchHist j 0 ≤ o && o ≤ R.brthBusyMax j) || o = R.brthFrameMiss j
        || o = R.brthFrameSlip j || o = R.brthGridSkipped j || (R.jobDeterminism j ≤ o && o ≤ R.l0EnvExcess j) }

end Sys2Proof.Machine
end

