-- ==== Sys2Proof/Machine/Neuro.lean ====
section
/-! DEFINITION. What a core's engines share: ring slots, matrix descriptors, weights, routing and split tables, and the
intake of events (R75 to R100, R160, R174, R475). -/
namespace Sys2Proof.Machine

def core (s : State) (n : Nat) : Core := Sparse.get (fun _ => {}) s.cores n
def setCore (s : State) (n : Nat) (c : Core) : State := { s with cores := Sparse.set (fun _ => {}) s.cores n c }
/-- Change a core's state beside its registers. -/
def upCore (s : State) (n : Nat) (f : Core → Core) : State := setCore s n (f (core s n))

/-! ### Configuration (Table 3-10) -/

def assigned (s : State) (n : Nat) : Bool := crB s n R.coreConfig 0
/-- Ring length L and neurons per core N (R28, Table 1-6). -/
def ringLen (s : State) (n : Nat) : Nat := 8 * 2 ^ crF s n R.coreConfig 1 2
def neurons (s : State) (n : Nat) : Nat := 32768 / ringLen s n
def ovbOn (s : State) (n : Nat) : Bool := crB s n R.coreConfig 3
def coreL0 (s : State) (n : Nat) : Bool := crB s n R.coreConfig 4
def coreJob (s : State) (n : Nat) : Nat := crF s n R.coreConfig 8 8
def coreBreath (s : State) (n : Nat) : Nat := crF s n R.coreConfig 16 6
def startStepOf (s : State) (n : Nat) : BitVec 32 := BitVec.ofNat 32 (crF s n R.coreStep 0 32)
def commitStep (s : State) (n : Nat) : BitVec 32 := BitVec.ofNat 32 (crF s n R.coreStep 32 32)
/-- The neuro die of a core (R12). -/
def dieOf (n : Nat) : Nat := 2 * (n / 32 / 16) + (n % 32) / 16

/-- Record a core fault and raise it as the job's fault (R99, R135, R328). -/
def coreFault (s : State) (n code jobCode : Nat) (step : Nat) : State :=
  let s := cw s n R.coreFault (w64 (code + step % 2 ^ 32 * 2 ^ 32))
  if assigned s n then raise s (coreBreath s n) jobCode step else s

/-- The eight bytes at `a` are lost: they hold a free value (log entry 1). -/
def loseWord (s : State) (a : Nat) : State := let v := freshValue s; stU v.2 a 8 v.1.toNat

/-- What every uncorrectable word of core `n` brings: `SRAM_UE`, the alarm and `ERR_LOG` with the word's address (R328). -/
def noteCoreLoss (s : State) (n a source : Nat) : State :=
  errLog (setB (bump s (R.sramUe (dieOf n)) 1) R.memAlarm 1) a source (if assigned s n then some (coreJob s n) else none)

/-- An uncorrectable word of core `n`'s memory, met in step `t` by an engine (`source` 2) or by scrub (3): an assigned core's
job faults, and a word of static synapse memory is reloaded at the restart (R135, R167, R328, R404). -/
def coreWordLost (s : State) (n off source : Nat) (t : BitVec 32) : State :=
  let s := loseWord (noteCoreLoss s n (coreBase n + off) source) (coreBase n + off)
  if ¬ assigned s n then s
  else
    let j := coreBreath s n
    let s := if off < 0x38000 ∧ ¬ (jobOf s j).staticReload.contains n then
        setJob s j { jobOf s j with staticReload := n :: (jobOf s j).staticReload } else s
    coreFault s n 2 0x04 t.toNat

/-- What an engine of core `n` meets in step `t`. A word of the Overblow structures has no address, so what `ERR_LOG` records
of it is a free value (R173, R328; log entry 1). -/
def engineLost (s : State) (n : Nat) (t : BitVec 32) : Lost → State
  | .none => s
  | .mem w => coreWordLost s n (8 * w.val) 2 t
  | .overblow =>
    if ovbOn s n then
      let v := freshValue s
      coreFault (noteCoreLoss v.2 n v.1.toNat 2) n 2 0x04 t.toNat
    else s

/-- The engines of core `n` take nothing: a debug halt holds them, or the island is NAP or OFF and has yet to wake (R26,
R426). -/
def stopped (s : State) (n : Nat) : Bool := (core s n).halted || crF s n R.coreStatus 0 2 ≥ 2

/-! ### Ring slots (R88) -/

/-- Offset of neuron `i`'s slot at ring position `p`, with `n` neurons per core. -/
def slotOffset (n i p : Nat) : Nat :=
  0x40000 + (i / 2 % 64) * 0x800 + (p * (n / 128) + i / 128) * 8 + (i % 2) * 4

/-- Device address of the slot of neuron `i` of core `n` for step `e`. -/
def slotAddr (s : State) (n i : Nat) (e : BitVec 32) : Nat :=
  coreBase n + slotOffset (neurons s n) i (e.toNat % ringLen s n)

def slot (s : State) (n i : Nat) (e : BitVec 32) : BitVec 32 := BitVec.ofNat 32 (ldU s (slotAddr s n i e) 4)
def setSlot (s : State) (n i : Nat) (e : BitVec 32) (v : BitVec 32) : State := stU s (slotAddr s n i e) 4 v.toNat

/-- Add into a slot with wrap-around (R84). A late add sets the neuron's dirty bit when it is not zero (R174), or is
discarded on a core without Overblow (R170). -/
def slotAdd (s : State) (n i : Nat) (e : BitVec 32) (v : Int) : State :=
  let c := core s n
  let late := c.loadedStep = e && c.loaded.contains i
  if late && !ovbOn s n then cbump s n R.ovbLateDropped 1
  else
    let s := setSlot s n i e (slot s n i e + BitVec.ofInt 32 v)
    if late && v ≠ 0 && !c.dirty.contains i then upCore s n fun c => { c with dirty := i :: c.dirty } else s

/-! ### Matrix descriptors (R78 to R82) -/

def descA (s : State) (n m : Nat) : W64 := cr s n (R.matrixDescA m)
def descB (s : State) (n m : Nat) : W64 := cr s n (R.matrixDescB m)
def dRowFirst (a : W64) : Nat := fld a 0 12
def dRows (a : W64) : Nat := fld a 12 12 + 1
def dColFirst (a : W64) : Nat := fld a 24 12
def dCols (a : W64) : Nat := (fld a 36 8 + 1) * 16
def dWidth (a : W64) : Nat := fld a 44 2
def dValid (a : W64) : Bool := bitAt a 46
def dPlastic (a : W64) : Bool := bitAt a 47
def dZp (a : W64) : Nat := fld a 48 8
def dDelay (a : W64) : Nat := fld a 56 6
def dBase (b : W64) : Nat := fld b 0 13 * 32
/-- Bits of one weight. -/
def dBits (a : W64) : Nat := 2 ^ (dWidth a + 1)
/-- Row stride in bytes (R79). -/
def dStride (a : W64) : Nat := cdiv (dCols a * dBits a) 256 * 32

/-- The lowest-numbered valid descriptor whose rows hold `row` (R81). -/
def matchDesc (s : State) (n row : Nat) : Option Nat :=
  (List.range 16).find? fun m =>
    let a := descA s n m
    dValid a && dRowFirst a ≤ row && row < dRowFirst a + dRows a

/-- Value of a weight code of `w` bits (Table 3-4). -/
def weightValue (w code : Nat) : Int :=
  let v := sx w code
  if v = - ((2 ^ (w - 1) : Nat) : Int) then v + 1 else v

/-- Weight of row `r`, column `j` of descriptor `m`, relative to its first row and column (R79, R82). -/
def weightAt (s : State) (n m r j : Nat) : Int :=
  let a := descA s n m
  let w := dBits a
  let o := dBase (descB s n m) + r * dStride a + j * w / 8
  weightValue w ((ldB s (coreBase n + o)).toNat / 2 ^ (j * w % 8) % 2 ^ w)

/-! ### Intake (R83 to R86, R152, R160, R475) -/

/-- The step of an event with tag `g`: the one in `COMMIT_STEP` + 1 to + 4 with that tag (R83). -/
def eventStep (s : State) (n g : Nat) : BitVec 32 :=
  let c := commitStep s n + 1
  c + BitVec.ofNat 32 ((g + 4 - c.toNat % 4) % 4)

/-- Add one event's products into slots; `true` when some add was late and not zero (R84, R174, R475). -/
def addRow (n m r : Nat) (x : Int) (e : BitVec 32) : List Nat → State → Bool → State × Bool
  | [], s, l => (s, l)
  | j :: js, s, l =>
    let i := dColFirst (descA s n m) + j
    if i ≥ neurons s n then addRow n m r x e js s l
    else
      let v := weightAt s n m r j * x
      let c := core s n
      let late := v ≠ 0 && ovbOn s n && c.loadedStep = e && c.loaded.contains i
      addRow n m r x e js (slotAdd s n i e v) (l || late)

/-- Count a receipt for a step tag (R46, R48). -/
def countRecv (s : State) (n g k : Nat) : State :=
  upCore s n fun c =>
    { c with recv := Sparse.set (fun _ => 0) c.recv (g % 4) (Sparse.get (fun _ => 0) c.recv (g % 4) + k) }
/-- Count a sending for a step tag (R45, R48). -/
def countSent (s : State) (n g k : Nat) : State :=
  upCore s n fun c =>
    { c with sent := Sparse.set (fun _ => 0) c.sent (g % 4) (Sparse.get (fun _ => 0) c.sent (g % 4) + k) }

/-- Wrap a pre sum to 16 bits (R152). -/
def preAdd (s : State) (n row g : Nat) (v : Int) : State :=
  upCore s n fun c =>
    { c with pre := Sparse.set (fun _ => 0) c.pre (row * 4 + g) (wrap 16 (Sparse.get (fun _ => 0) c.pre (row * 4 + g) + v)) }

/-- Intake value of an event (R84): PAYLOAD - ZP for GRADED, 1 for EVENT. -/
def intakeX (f : Flit) (zp : Nat) : Int := if fType f = 1 then (fPayload f : Int) - zp else 1

/-- Take an event into the slots of descriptor `m` (R84, R87, R152): counts, products, pre record and receipt. -/
def takeIn (s : State) (n m : Nat) (f : Flit) : State :=
  let a := descA s n m
  let e := eventStep s n (fStep f)
  let r := fRow f - dRowFirst a
  let x := intakeX f (dZp a)
  let x' := if fAnti f then -x else x
  let s := cbump (cbump s n R.intakeEvents 1) n R.intakeReads (dStride a / 32)
  let s := if fAnti f then cbump s n R.intakeAnti 1 else s
  let p := addRow n m r x' (e + BitVec.ofNat 32 (dDelay a)) (List.range (dCols a)) s false
  let s := if p.2 then cbump p.1 n R.ovbLateEvents 1 else p.1
  let amount : Int := if fType f = 1 then (x.natAbs : Int) else 256
  let s := if dPlastic a then preAdd s n (fRow f) (fStep f) (if fAnti f then -amount else amount) else s
  countRecv s n (fStep f) 1

/-- An event that adds nothing: it is counted as received and in `INTAKE_NOMATCH` (R85, R475). -/
def takeNone (s : State) (n : Nat) (f : Flit) : State :=
  let s := cbump (cbump s n R.intakeEvents 1) n R.intakeNomatch 1
  let s := if fAnti f then cbump s n R.intakeAnti 1 else s
  countRecv s n (fStep f) 1

def plasStep (s : State) (n : Nat) : BitVec 32 := BitVec.ofNat 32 (crF s n R.plasStep 0 32)
def plasActive (s : State) (n : Nat) : Bool := crB s n R.plasStatus 0
def plasRun (s : State) (n : Nat) : BitVec 32 := BitVec.ofNat 32 (crF s n R.plasStatus 32 32)

/-- An event of step `e` on plastic row `row` may be taken in (R160). -/
def eligible (s : State) (n : Nat) (e : BitVec 32) (row : Nat) : Bool :=
  (plasStep s n - (e - 1)).toInt ≥ 0 ||
    (plasActive s n && plasRun s n = e - 1 && !(core s n).pendingRows.contains row)

def deferAddr (s : State) (n k : Nat) : Nat := scratch n (crF s n R.plasConfig 16 15 + 8 * k)

/-- The event waits on a pending plastic row: its descriptor is plastic and it is not eligible (R160). -/
def mustDefer (s : State) (n : Nat) (f : Flit) : Bool :=
  match matchDesc s n (fRow f) with
  | some m => dPlastic (descA s n m) && dWidth (descA s n m) ≠ 3
      && !eligible s n (eventStep s n (fStep f)) (fRow f)
  | none => false

/-- `DEFER_OCC`: events held, and most held at once (Table 6-3). -/
def noteDefer (s : State) (n : Nat) : State :=
  let k := (core s n).deferred.length
  cw s n R.deferOcc (w64 (k + max k (crF s n R.deferOcc 8 7) * 256))

/-- Write an event into a free slot of the deferral area (R160). -/
def deferEvent (s : State) (n : Nat) (f : Flit) : State :=
  match (List.range 64).find? fun k => !(core s n).deferred.contains k with
  | none => s
  | some k =>
    let s := stU s (deferAddr s n k) 8 f.toNat
    let s := upCore s n fun c => { c with deferred := c.deferred ++ [k] }
    noteDefer (cbump s n R.intakeDeferred 1) n

/-- The Synapse Engine accepts an event (R81, R85, R86, R160, R475). -/
def acceptEvent (s : State) (n : Nat) (f : Flit) : State :=
  if ¬ assigned s n then cbump s n R.intakeStray 1
  else if mustDefer s n f then deferEvent s n f
  else match matchDesc s n (fRow f) with
    | some m => if dWidth (descA s n m) = 3 then takeNone s n f else takeIn s n m f
    | none => takeNone s n f

/-- The oldest deferred event that is eligible: its slot (R160). -/
def nextDeferred (s : State) (n : Nat) : Option Nat :=
  (core s n).deferred.find? fun k => !mustDefer s n (w64 (ldU s (deferAddr s n k) 8))

/-- Take the deferred event in slot `k` back in (R160). -/
def takeDeferred (s : State) (n k : Nat) : State :=
  let f := w64 (ldU s (deferAddr s n k) 8)
  let s := noteDefer (upCore s n fun c => { c with deferred := c.deferred.erase k }) n
  acceptEvent s n f

/-! ### Routing entries (R91, R92) -/

def routeEntry (s : State) (n k : Nat) : W64 := w64 (ldU s (scratch n (crF s n R.routeBase 0 15 + 8 * k)) 8)

/-- The flits of one emission of neuron `i` of population `q`, whose first neuron is `first`, in entry order (R92,
R178). -/
def emissionFlits (s : State) (n q i first : Nat) (step : BitVec 32) (graded : Bool) (payload : Nat) (anti : Bool) :
    List Flit :=
  (List.range 4).filterMap fun k =>
    let e := routeEntry s n (4 * q + k)
    if bitAt e 0 then
      some (mkEvent (b2n graded) (if coreL0 s n then 0 else 1) (bitAt e 1) (fld e 2 6) (fld e 8 5) (fld e 13 5)
        (fld e 18 5) (fld e 23 12 + i - first) step.toNat anti (if graded then payload else 0) n)
    else none

/-! ### Split dendrites (R95 to R99) -/

/-- Entry `k` of the split table whose base stands in core register `r` (R96, R98). The base counts as it stands, its low
bits too where a write after load has set them (log entry 142). -/
def splitEntry (s : State) (n r k : Nat) : W64 := w64 (ldU s (scratch n (crF s n r 0 15 + 8 * k)) 8)
def splitOut (s : State) (n k : Nat) : W64 := splitEntry s n R.splitOutBase k
def splitIn (s : State) (n k : Nat) : W64 := splitEntry s n R.splitInBase k

/-- A home core: it holds a valid inbound set (R41, R98). -/
def isHome (s : State) (n : Nat) : Bool :=
  (List.range 16).any fun k => bitAt (splitIn s n k) 0

def splitCount (s : State) (n set tag : Nat) : Nat := Sparse.get (fun _ => 0) (core s n).splitCnt (set * 4 + tag)

/-- Every split group of slot `t` is complete (R41, R99). -/
def splitComplete (s : State) (n : Nat) (t : BitVec 32) : Bool :=
  (List.range 16).all fun k =>
    !bitAt (splitIn s n k) 0 || splitCount s n k (t.toNat % 4) = fld (splitIn s n k) 33 8

/-- The valid set whose index range holds value index `k` (R99). -/
def splitSetOf (s : State) (n k : Nat) : Option Nat :=
  (List.range 16).find? fun i =>
    let e := splitIn s n i
    bitAt e 0 && fld e 13 10 ≤ k && k ≤ fld e 13 10 + fld e 23 10

/-- A split value flit: added into the home neuron's slot, or stray (R99). -/
def splitValue (s : State) (n : Nat) (f : Flit) : State :=
  let s := cbump s n R.splitInFlits 1
  let k := fRid f - 0x400
  match splitSetOf s n k with
  | some i =>
    let e := splitIn s n i
    let step := eventStep s n (fRStep f)
    slotAdd s n (fld e 1 12 + (k - fld e 13 10)) step (sx 32 (fValue f))
  | none => cbump s n R.splitStray 1

/-- A split count flit adds to its set's counter; more than `EXPECTED` is SPLIT_INCONSISTENT (R99). -/
def splitCountFlit (s : State) (n : Nat) (f : Flit) : State :=
  let s := cbump s n R.splitInFlits 1
  let set := fRid f - 0x7F0
  let e := splitIn s n set
  if bitAt e 0 then
    let v := splitCount s n set (fRStep f) + fValue f
    let s := upCore s n fun c => { c with splitCnt := Sparse.set (fun _ => 0) c.splitCnt (set * 4 + fRStep f) v }
    if v > fld e 33 8 then coreFault s n 1 0x03 (eventStep s n (fRStep f)).toNat else s
  else cbump s n R.splitStray 1

/-- Forward one proxy column: read and clear its slot, and send a non-zero value (R97). -/
def forwardCol (n : Nat) (e : W64) (step : BitVec 32) : List Nat → State → List Flit → State × List Flit
  | [], s, l => (s, l)
  | j :: js, s, l =>
    let i := fld e 1 12 + j
    let v := slot s n i step
    let s := setSlot s n i step 0
    let l := if v = 0 then l
      else l ++ [mkReduce 2 2 (fld e 23 5) (fld e 28 5) (0x400 + fld e 33 10 + j) step.toNat v.toNat]
    forwardCol n e step js s l

/-- The flits a contributor forwards for slot `step`, entry by entry, each entry's count flit last (R97). -/
def forwardAll (n : Nat) (step : BitVec 32) : List Nat → State → List Flit → State × List Flit
  | [], s, l => (s, l)
  | k :: ks, s, l =>
    let e := splitOut s n k
    if bitAt e 0 then
      let r := forwardCol n e step (List.range (fld e 13 10 + 1)) s l
      forwardAll n step ks r.1 (r.2 ++ [mkReduce 2 2 (fld e 23 5) (fld e 28 5) (0x7F0 + fld e 43 4) step.toNat 1])
    else forwardAll n step ks s l

end Sys2Proof.Machine
end

