-- ==== Sys2Proof/Machine/Mesh.lean ====
section
/-! DEFINITION. The event mesh: routing, input buffers, merging, marks, shapers, circuits' entries, links and their
health (R188 to R220, R222, R223). -/
namespace Sys2Proof.Machine

/-! ### Places -/

/-- Node number: a router by its core ID, hub port p as 1,024 + p. -/
def nodeIx : Node → Nat
  | .router n => n.val
  | .hub p => 1024 + p.val
/-- Port number (R227). -/
def portIx : Port → Nat
  | .north => 0 | .east => 1 | .south => 2 | .west => 3 | .loc => 4

/-- The node beyond output `o`, and the port by which a flit enters it (R13, R17, R18). -/
def neighbour (node o : Nat) : Option (Nat × Nat) :=
  if node ≥ 1024 then (if o = 1 then some ((node - 1024) * 32, 3) else none)
  else if o = 0 then (if node / 32 = 0 then none else some (node - 32, 2))
  else if o = 1 then (if node % 32 = 31 then none else some (node + 1, 3))
  else if o = 2 then (if node / 32 = 31 then none else some (node + 32, 0))
  else if o = 3 then (if node % 32 = 0 then some (1024 + node / 32, 1) else some (node - 1, 1))
  else none

def bufKey (node port q : Nat) : Nat := (node * 5 + port) * 5 + q
def buf (s : State) (node port q : Nat) : List Held := Sparse.get (fun _ => []) s.mesh.bufs (bufKey node port q)
def setBuf (s : State) (node port q : Nat) (l : List Held) : State :=
  { s with mesh := { s.mesh with bufs := Sparse.set (fun _ => []) s.mesh.bufs (bufKey node port q) l } }

/-- Capacity of an input buffer (Table 8-7). -/
def bufCap (q : Nat) : Nat := [8, 32, 16, 24, 16].getD q 0

def linkKey (node o : Nat) : Nat := node * 5 + o
def link (s : State) (k : Nat) : Link := Sparse.get (fun _ => {}) s.mesh.links k
def setLink (s : State) (k : Nat) (l : Link) : State :=
  { s with mesh := { s.mesh with links := Sparse.set (fun _ => {}) s.mesh.links k l } }
/-- The link that feeds input port `p` of `node`: the key of its sender's side. -/
def inLink (node p : Nat) : Option Nat := (neighbour node p).map fun x => linkKey x.1 x.2

/-- State of an output link: 0 UP, 1 DEGRADED, 2 RETRAIN, 3 DOWN (R227, Table 8-16). -/
def linkState (s : State) (node o : Nat) : Nat :=
  if node ≥ 1024 then rdF s (R.hubportStatus (node - 1024)) 0 2 else rdF s (R.rtrStatus node) (2 * o) 2
def setLinkState (s : State) (node o v : Nat) : State :=
  if node ≥ 1024 then wrF s (R.hubportStatus (node - 1024)) 0 2 v else wrF s (R.rtrStatus node) (2 * o) 2 v

/-- A read of `RTR_STATUS`: a port with no neighbour shows DOWN; the fences loaded (Table 8-15). -/
def rtrStatusRead (s : State) (n : Nat) : W64 :=
  let w := (List.range 4).foldl (fun w o => if (neighbour n o).isNone then putFld w (2 * o) 2 3 else w) (rd s (R.rtrStatus n))
  putBit w 12 ((List.range 4).any fun f => rdB s (R.meshFence f) 32)

/-- Flits that a router's input buffers hold, by queue (`RTR_OCC`). -/
def rtrOcc (s : State) (n : Nat) : W64 :=
  w64 ((List.range 5).map fun q => ((List.range 5).map fun p => (buf s n p q).length).sum * 2 ^ (8 * q)).sum

/-! ### Queues and labels of flits (R195, R206, R209) -/

/-- Queue whose credit a flit uses on a link: BULK and teardown the circuit queue, else its VC (R195, R207, R208). -/
def creditQueue (f : Flit) : Nat := if fType f = 9 || fType f = 8 then 4 else fVc f

/-- LABEL of a circuit flit: BULK at [57:55], SETUP and TEARDOWN at [37:35]. -/
def fLabel (f : Flit) : Nat := if fType f = 9 then ff f 55 3 else ff f 35 3
def setLabel (f : Flit) (l : Nat) : Flit := if fType f = 9 then putFld f 55 3 l else putFld f 35 3 l

/-- Circuit entry `k` of a node (R206, Table 8-15). -/
def circ (s : State) (node k : Nat) : W64 :=
  if node ≥ 1024 then Sparse.get (fun _ => 0) s.mesh.hubCirc ((node - 1024) * 8 + k) else rd s (R.rtrCircuit node k)
/-- Number of valid circuit entries of a node. -/
def circCount (s : State) (node : Nat) : Nat := ((List.range 8).filter fun k => bitAt (circ s node k) 0).length
/-- Write a circuit entry and the node's `CIRCUITS` field. -/
def setCirc (s : State) (node k : Nat) (v : W64) : State :=
  if node ≥ 1024 then
    let s := { s with mesh := { s.mesh with
        hubCirc := Sparse.set (fun _ => 0) s.mesh.hubCirc ((node - 1024) * 8 + k) v } }
    wrF s (R.hubportStatus (node - 1024)) 8 4 (circCount s node)
  else
    let s := wr s (R.rtrCircuit node k) v
    wrF s (R.rtrStatus node) 8 4 (circCount s node)

/-- The entry that input port `p` and label `l` match (R206, R209). -/
def circMatch (s : State) (node p l : Nat) : Option Nat :=
  (List.range 8).find? fun k => let e := circ s node k; bitAt e 0 && fld e 1 3 = p && fld e 4 3 = l

/-- The entry whose flits leave by output `o` with label `l`. -/
def circOutOf (s : State) (node o l : Nat) : Option Nat :=
  (List.range 8).find? fun k => let e := circ s node k; bitAt e 0 && fld e 8 3 = o && fld e 12 3 = l

/-! ### Fences (R222, R223) -/

/-- Breath of the job whose rectangle holds core `n` (R270). -/
def jobBreath (s : State) (n : Nat) : Option Nat := (List.range 64).find? fun j => (coresOf s j).contains n

/-- Breath of the job that a source belongs to: of the job whose rectangle holds the core (R270), or to which the converter
channel is bound: one is once it is configured, and its n is then at least 1 (R271, R278). -/
def srcBreath (s : State) (src : Nat) : Option Nat :=
  if src < 1024 then jobBreath s src
  else if src < 0x500 then (if rdF s (R.mpElems (src - 0x400)) 0 13 ≠ 0 then some (rdF s (R.mpConfig (src - 0x400)) 24 6) else none)
  else if src < 0x600 then
    (if rdF s (R.bellElems (src - 0x500)) 0 13 ≠ 0 then some (rdF s (R.bellConfig (src - 0x500)) 24 6) else none)
  else none

/-- Breath of the job that a circuit of source `src` serves: the source's, or for a hub DMA engine the job that it checks,
else that of the core it copies to (R220, R333). -/
def circuitBreath (s : State) (src : Nat) : Option Nat :=
  if 0x600 ≤ src ∧ src < 0x608 then
    let e := src - 0x600
    if rdB s (R.dmaCtrl e) 1 then breathOf s (rdF s (R.dmaCtrl e) 2 8)
    else match regionOf s (rdF s (R.dmaDst e) 0 48) with
      | .coreMem n _ => jobBreath s n
      | _ => none
  else srcBreath s src

def fenceValid (s : State) (f : Nat) : Bool := rdB s (R.meshFence f) 32
/-- Rectangle (x0, y0) to (x1, y1) meets fence `f`. -/
def fenceHits (s : State) (f x0 y0 x1 y1 : Nat) : Bool :=
  let w := rd s (R.meshFence f)
  bitAt w 32 && fld w 0 5 ≤ x1 && x0 ≤ fld w 16 5 && fld w 8 5 ≤ y1 && y0 ≤ fld w 24 5

/-- SRC of a flit, for the types that carry one. -/
def flitSrc (f : Flit) : Option Nat :=
  let t := fType f
  if t ≤ 1 || t = 4 || t = 6 || t = 7 || t = 8 then some (fSrc f) else if t = 5 then some (ff f 34 11) else none

/-- A source lies inside fence `k`: a core of it, or a hub endpoint bound to an affected job (R222). -/
def fencedSrc (s : State) (k src : Nat) : Bool :=
  let drained := match s.mesh.drains with
    | d :: _ => d.breaths
    | [] => []
  if src < 1024 then fenceHits s k (src % 32) (src / 32) (src % 32) (src / 32)
  else if src = 0x620 then (List.range 64).any fun e =>
    rdB s (R.epStreamA e) 0 && drained.contains (rdF s (R.epStreamA e) 18 6)
  else match circuitBreath s src with
    | some j => drained.contains j
    | none => false

/-- A flit's destination, or its rectangle, meets fence `k` (R222). A BULK flit names no destination. -/
def fencedDest (s : State) (k : Nat) (f : Flit) : Bool :=
  fType f ≠ 9 && fDx f ≠ 63 && (if fMc f then fenceHits s k (fDx f) (fDy f) (fDx f + fEx f) (fDy f + fEy f)
    else fenceHits s k (fDx f) (fDy f) (fDx f) (fDy f))

/-- A flit is fenced, where its source is `src` as far as the place that judges it knows it (R222). CTRL and CTRL_RESP never
are. DESIGN CHOICE: REDUCE and BARRIER flits carry no SRC, so only the source's own port judges them by their source, and
inside the mesh their destination alone counts; a BULK flit is judged by the SRC of the circuit entry it matches (log
entry 137). -/
def fencedFrom (s : State) (src : Option Nat) (f : Flit) : Bool :=
  fType f ≠ 0xA && fType f ≠ 0xB && (List.range 4).any fun k => fenceValid s k &&
    ((match src with
      | some x => fencedSrc s k x
      | none => false) || fencedDest s k f)

/-- A flit that waits at input port `p` of a node is fenced. -/
def fencedAt (s : State) (node p : Nat) (h : Held) : Bool :=
  fencedFrom s (if fType h.f = 9 then (circMatch s node p h.label).map fun k => fld (circ s node k) 32 11 else flitSrc h.f) h.f

/-- A flit on the link from `node` by output `o` is fenced. -/
def fencedOn (s : State) (node o : Nat) (f : Flit) : Bool :=
  fencedFrom s (if fType f = 9 then (circOutOf s node o (fLabel f)).map fun k => fld (circ s node k) 32 11 else flitSrc f) f

/-- A node holds a fenced flit: in an input buffer or a crossing into one, or in a replay buffer and not yet acknowledged
(R223). -/
def nodeFenced (s : State) (node : Nat) : Bool :=
  (List.range 5).any fun p =>
    ((List.range 5).any fun q => (buf s node p q).any (fencedAt s node p))
      || ((link s (linkKey node p)).replay.any fun r => fencedOn s node p r.2)
      || (match neighbour node p with
          | some (m, q) => (link s (linkKey m q)).rx.any (fencedOn s m q)
          | none => false)

/-- The hub holds a fenced flit: at a hub port, in a hub endpoint's queue, or in a peer port's buffers (R223). -/
def hubFenced (s : State) : Bool :=
  ((List.range 32).any fun p => nodeFenced s (1024 + p))
    || (s.mesh.hubRx.any fun f => fencedFrom s (flitSrc f) f)
    || (s.mesh.peerQ.any fun e => e.2.any fun x => fencedFrom s (flitSrc x.2) x.2)
    || ((List.range 4).any fun p => (link s (10000 + p)).replay.any fun r => fencedFrom s (flitSrc r.2) r.2)

/-- Some place of the mesh or the hub holds a fenced flit (R223). -/
def anyFenced (s : State) : Bool := ((List.range 1024).any fun n => nodeFenced s n) || hubFenced s

/-- Note a fenced flit held at a node: `DRAIN_ACTIVE` (R223). -/
def noteDrain (s : State) (node p : Nat) (h : Held) : State :=
  if fencedAt s node p h then (if node ≥ 1024 then setB s R.hubDrain 0 else setB s (R.rtrDrain node) 0) else s

/-- `DRAIN_ACTIVE` of a router is set in every cycle in which it holds a fenced flit: one that it holds when the fences are
loaded, or when the bit is cleared, sets it as one that comes in does (R11, R223). -/
def noteRouter (s : State) (n : Nat) : State := if nodeFenced s n then setB s (R.rtrDrain n) 0 else s
/-- The same for `HUB_DRAIN`. -/
def noteHub (s : State) : State := if hubFenced s then setB s R.hubDrain 0 else s
/-- Every place that holds a fenced flit shows it, after the fences are loaded or a sweep has cleared the bits (R222, R223). -/
def noteAllDrain (s : State) : State :=
  if (List.range 4).any (fenceValid s)
  then noteHub (((List.range 1024).filter (nodeFenced s)).foldl (fun s n => setB s (R.rtrDrain n) 0) s) else s

/-! ### Routing (R192, R193, R208) -/

/-- Outputs of a flit that came in by port `came` (R192, R193). -/
def routeOuts (node came : Nat) (f : Flit) : List Nat :=
  if node ≥ 1024 then (if came = 1 then [4] else [1])
  else
    let x := node % 32
    let y := node / 32
    let dx := fDx f
    let dy := fDy f
    if ¬ fMc f then
      if dx = 63 then [3] else if x ≠ dx then [if dx > x then 1 else 3]
      else if y ≠ dy then [if dy > y then 2 else 0] else [4]
    else
      let x1 := dx + fEx f
      let y1 := dy + fEy f
      let up := if y > dy then [0] else []
      let down := if y < y1 then [2] else []
      let here := if dy ≤ y ∧ y ≤ y1 then [4] else []
      if came = 4 ∨ came = 3 ∨ came = 1 then
        (if came ≠ 1 ∧ x < x1 then [1] else []) ++ (if came ≠ 3 ∧ x > dx then [3] else [])
          ++ (if dx ≤ x ∧ x ≤ x1 then down ++ up ++ here else [])
      else (if came = 0 then down else []) ++ (if came = 2 then up else []) ++ here

/-! ### Entering a buffer (R191, R196, R200, R203, R209) -/

/-- A control word (Table 8-11). CHECK is the SEC-DED code of Config, which the spec does not lay out (log entry 138). -/
def controlBits (lane ack : Nat) (nak : Bool) (freed : List Nat) : BitVec 31 :=
  let body := lane * 2 ^ 24 + ack % 256 * 2 ^ 16 + b2n nak * 2 ^ 15
    + ((List.range 5).map fun q => freed.getD q 0 % 8 * 2 ^ (3 * q)).sum
  BitVec.ofNat 31 (body * 64 + (Config.controlCheck (BitVec.ofNat 25 body)).toNat)

/-- The control word by which a receiver answers: the last SEQ accepted on the LANE whose turn it is and the credit
counters; as a NAK of the next position n, LANE = n mod 2 and the SEQ of n - 2 (R213, R214). -/
def controlOut (l : Link) (nak : Bool) : BitVec 31 :=
  let lane := if nak then l.expect % 2 else b2n l.ctlLane
  -- The last position accepted on that lane: n - 2 for the lane of n, the next one accepted.
  let last := if l.expect % 2 = lane then l.expect + 512 - 2 else l.expect + 512 - 1
  controlBits lane (last / 2) nak l.freed

/-- The receiver's next control word goes out. LANE alternates, except in a NAK (R213, R214). -/
def withControl (l : Link) (nak : Bool) : Link :=
  { l with ctl := controlOut l nak, ctlLane := if nak then l.ctlLane else !l.ctlLane }

/-- A slot of queue `q` at input port `p` becomes free: the next control word counts it (R213). -/
def freeSlot (s : State) (node p q : Nat) : State :=
  match inLink node p with
  | some k =>
    let l := link s k
    setLink s k (withControl { l with freed := l.freed.set q ((l.freed.getD q 0 + 1) % 8) } false)
  | none => s

/-- Put a flit at the tail of a buffer, entering in cycle `cyc`. -/
def pushHeld (s : State) (node p q : Nat) (h : Held) : State :=
  noteDrain (setBuf s node p q (buf s node p q ++ [h])) node p h

/-- Count a flit dropped because its output's link is DOWN (R220). -/
def countDrop (s : State) (node o : Nat) : State :=
  if node ≥ 1024 then s else bump s (R.linkDownDrops node o) 1

/-- Outputs that a flit can still use: those whose link is not DOWN; the others are dropped and counted (R220). -/
def liveOuts (node : Nat) : List Nat → State → List Nat × State
  | [], s => ([], s)
  | o :: r, s =>
    if o ≠ 4 ∧ linkState s node o = 3 then liveOuts node r (countDrop s node o)
    else let x := liveOuts node r s; (o :: x.1, x.2)

/-- A flit for the outputs `outs` takes its place at the tail, or its slot is free again where every output is DOWN. -/
def takePlace (s : State) (node p q : Nat) (h : Held) (outs : List Nat) : State :=
  let o := liveOuts node outs s
  if o.1.isEmpty then freeSlot o.2 node p q else pushHeld o.2 node p q { h with outs := o.1 }

/-- Two flits merge (R200). -/
def mergeable (a b : Flit) : Bool :=
  (fType a = 2 || fType a = 3) && fType a = fType b && !fMc a && !fMc b && fDx a = fDx b && fDy a = fDy b
    && fRid a = fRid b && fRStep a = fRStep b

/-- A flit enters input port `p` of a router or hub port in cycle `cyc` of its clock. -/
def enter (s : State) (node p : Nat) (f : Flit) (cyc : Nat) : State :=
  let t := fType f
  let vc := fVc f
  if 0xC ≤ t ∧ t ≤ 0xE then
    freeSlot (if node ≥ 1024 then s else bump s (R.rtrBadType node) 1) node p vc
  else if t = 9 then
    match circMatch s node p (fLabel f) with
    | some k => let e := circ s node k
                takePlace s node p 4 ⟨setLabel f (fld e 12 3), [], cyc, fLabel f⟩ [fld e 8 3]
    | none => freeSlot (if node ≥ 1024 then s else bump s (R.rtrCircuitStray node) 1) node p 4
  else if t = 8 then
    match circMatch s node p (fLabel f) with
    | some _ => pushHeld s node p 4 ⟨f, [], cyc, fLabel f⟩
    | none => freeSlot s node p 4
  else if t = 7 then pushHeld s node p 3 ⟨f, [], cyc, 8⟩
  else
    let l := buf s node p vc
    match l.getLast? with
    | some h =>
      if mergeable h.f f then
        let h' := { h with f := putFld h.f 0 32 (fValue h.f + fValue f) }
        let s := setBuf s node p vc (l.dropLast ++ [h'])
        freeSlot (if node ≥ 1024 then s else bump s (R.rtrMerges node) 1) node p vc
      else
        let marked := vc = 1 && node < 1024 && l.length ≥ rdF s (R.rtrConfig node) 0 6
        let s := if marked then bump s (R.rtrMarks node) 1 else s
        takePlace s node p vc ⟨if marked then setBit f 57 else f, [], cyc, 8⟩
          (routeOuts node p (if marked then setBit f 57 else f))
    | none => takePlace s node p vc ⟨f, [], cyc, 8⟩ (routeOuts node p f)

/-- A flit of a core is misaddressed (R16, R17, R92). -/
def misaddressed (f : Flit) : Bool :=
  (32 ≤ fDx f && fDx f ≤ 62) || (fMc f && (fDx f = 63 || fDx f + fEx f > 31 || fDy f + fEy f > 31))

/-! ### Shapers (R205) -/

def shaper (s : State) (src : Nat) : Shaper := Sparse.get (fun _ => {}) s.mesh.shapers src
def setShaper (s : State) (src : Nat) (h : Shaper) : State :=
  { s with mesh := { s.mesh with shapers := Sparse.set (fun _ => {}) s.mesh.shapers src h } }
/-- Rate r of a source's shaper. -/
def shapeRate (s : State) (src : Nat) : Nat :=
  if src < 1024 then rdF s (R.rtrShaper src) 0 7 else 64 - (shaper s src).slow
def setShapeRate (s : State) (src r : Nat) : State :=
  if src < 1024 then wrF s (R.rtrShaper src) 0 7 r
  else
    let s := setShaper s src { shaper s src with slow := 64 - r }
    if src < 0x500 then wrF s (R.mpShaper (src - 0x400)) 0 7 r
    else if 0x628 ≤ src && src < 0x62C then wrF s (R.peerShaper (src - 0x628)) 0 7 r else s

/-- Bring a source's accumulator up to cycle `cyc` at its present rate (R205). -/
def shapeTo (s : State) (src cyc : Nat) : State :=
  let h := shaper s src
  if cyc ≤ h.at_ then s
  else setShaper s src { h with c := min (h.c + shapeRate s src * (cyc - h.at_)) 128, at_ := cyc }

/-- A VC1 flit may leave the source, whose accumulator then falls by 64 (R205). -/
def shapeOk (s : State) (src : Nat) : Bool := (shaper s src).c ≥ 64
def shapeTake (s : State) (src : Nat) : State := setShaper s src { shaper s src with c := (shaper s src).c - 64 }

/-! ### Local ports and hub ports (R196, R198, R222) -/

/-- A slot is free for flit `f` in the buffers of a node's local port: Table 8-7, with two slots of the circuit queue for
each label (R196, R208). -/
def roomAt (s : State) (node : Nat) (f : Flit) : Bool :=
  let q := creditQueue f
  (buf s node 4 q).length < bufCap q
    && (q ≠ 4 || ((buf s node 4 4).filter fun h => h.label = fLabel f).length < 2)

/-- A flit that source `src` has at a node's local port is held while it is fenced, or behind a held flit of the same
source and VC (R222). -/
def holdsBack (s : State) (node src : Nat) (f : Flit) : Bool :=
  fencedFrom s (some src) f || s.mesh.offers.any fun o =>
    o.node = node && o.src = src && fVc o.f = fVc f && fencedFrom s (some o.src) o.f

/-- SRC of a peer port: its shaper lets the VC1 flits into the mesh that the port has taken in (R359, log entry 151). -/
def isPeerSrc (src : Nat) : Bool := 0x628 ≤ src && src < 0x62C

/-- An offer has its shaper's leave: the other sources look for it before they offer. -/
def offerShaped (s : State) (o : Offer) : Bool := fVc o.f ≠ 1 || !isPeerSrc o.src || shapeOk s o.src

/-- The first of the offers at `node` that can enter now: not fenced, none of the same source and VC ahead of it, and a
slot free. A core's VC0 flits wait for a token and enter by a row of their own (R198, R199, R222). -/
def nextOffer (s : State) (node : Nat) : List Offer → List Offer → Option Offer
  | [], _ => none
  | o :: r, ahead =>
    if o.node = node && (node ≥ 1024 || fVc o.f ≠ 0) && !fencedFrom s (some o.src) o.f && roomAt s node o.f && offerShaped s o
        && !ahead.any fun x => x.node = node && x.src = o.src && fVc x.f = fVc o.f
    then some o else nextOffer s node r (ahead ++ [o])

/-- A core's local port has sent or taken a flit (R265). -/
def noteMoved (s : State) (n : Nat) : State :=
  { s with mesh := { s.mesh with moved := if n ≥ 1024 || s.mesh.moved.contains n then s.mesh.moved else n :: s.mesh.moved } }

/-- An offered flit enters its node's local port in cycle `cyc`. -/
def enterOffer (s : State) (o : Offer) (cyc : Nat) : State :=
  let s := if fVc o.f = 1 ∧ isPeerSrc o.src then shapeTake s o.src else s
  enter (noteMoved { s with mesh := { s.mesh with offers := s.mesh.offers.erase o } } o.node) o.node 4 o.f cyc

/-- Let what waits at a node's local port enter, as far as it can. -/
def pump (node : Nat) : Nat → State → State
  | 0, s => s
  | k + 1, s =>
    match nextOffer s node s.mesh.offers [] with
    | some o => pump node k (enterOffer s o 0)
    | none => s

/-- Source `src` offers a flit at a node's local port. -/
def offer (s : State) (node src : Nat) (f : Flit) : State :=
  pump node (s.mesh.offers.length + 1) { s with mesh := { s.mesh with offers := s.mesh.offers ++ [⟨node, src, f⟩] } }

/-- A flit as core `n` sends it: one for the hub takes the core's own row (R17). -/
def onRow (n : Nat) (f : Flit) : Flit := if fDx f = 63 ∧ fType f ≠ 9 then putFld f 45 5 (n / 32) else f

/-- A core remembers the circuit it asks for, by circuit number (R206). -/
def noteSetup (s : State) (n : Nat) (f : Flit) : State :=
  if fType f = 7 then upCore s n fun c => { c with
    circOut := Sparse.set (fun _ => 0) c.circOut (ff f 38 3) (clrBit f 0) } else s

/-- Core `n` sends a flit: a misaddressed one is discarded and counted (R16); another waits at the local port until it can
enter. -/
def coreSend (s : State) (n : Nat) (f : Flit) : State :=
  let s := noteSetup s n f
  if misaddressed f ∧ fType f ≠ 9 then cbump s n R.misaddressed 1 else offer s n n (onRow n f)

/-- Send several flits of a core in order. -/
def coreSendAll (n : Nat) : List Flit → State → State
  | [], s => s
  | f :: r, s => coreSendAll n r (coreSend s n f)

/-- A flit of core `n` enters the local port at once, in cycle `cyc`: its sender has looked for the slot, and for VC0 for
the token (R94, R198). A misaddressed one is discarded and counted. -/
def coreInject (s : State) (n : Nat) (f : Flit) (cyc : Nat) : State :=
  if misaddressed f then cbump s n R.misaddressed 1 else enter (noteMoved s n) n 4 (onRow n f) cyc

/-- Hub endpoint `src` injects a flit at hub port `p`: one with DX = 63, or misaddressed otherwise, is discarded (R17). -/
def hubInject (s : State) (p src : Nat) (f : Flit) : State :=
  if (misaddressed f || fDx f = 63) ∧ fType f ≠ 9 then bump s R.meshMisaddrHub 1 else offer s (1024 + p) src f

/-- A flit of hub endpoint `src` would enter hub port `p` at once: a slot is free, no fence holds it, and nothing of the same
source and VC waits there (R196, R199, R222). -/
def hubReady (s : State) (p src : Nat) (f : Flit) : Bool :=
  roomAt s (1024 + p) f && !holdsBack s (1024 + p) src f
    && !s.mesh.offers.any fun o => o.node = 1024 + p && o.src = src && fVc o.f = fVc f

/-- In cycle `cyc` the peer ports' shapers let flits into hub port `node`'s local port (R205, R359). -/
def peerShape (s : State) (node cyc : Nat) : State :=
  if s.mesh.offers.any fun o => o.node = node && isPeerSrc o.src
  then pump node s.mesh.offers.length ((List.range 4).foldl (fun s p => shapeTo s (0x628 + p) cyc) s) else s

/-- Hub port by which hub endpoint `src` reaches core `n`: the one of the core's row. DESIGN CHOICE for requests and
answers, whose port no rule names (log entry 15). -/
def hubSend (s : State) (src n : Nat) (f : Flit) : State := hubInject s (n / 32) src f

/-- Release what sources hold back once the fences are clear (R222). -/
def releaseHeld (s : State) : State :=
  (s.mesh.offers.map (·.node)).dedup.foldl (fun s node => pump node s.mesh.offers.length s) s

/-! ### START, COMMIT and HOLD (R55) -/

/-- START (0), COMMIT (1) or HOLD (2) for a rectangle: MC 1, DX, DY, EX and EY where Table 8-2 has them, STEP and VALUE where
Table 8-3 has them. DESIGN CHOICE: the tables leave one bit beside these fields, so RID and SRC have no place; bits [57] and
[34] tell the three apart, and the rectangle tells the breath (log entry 139). -/
def mkBcast (kind x0 y0 x1 y1 : Nat) (t : BitVec 32) : Flit :=
  w64 (mkHead 3 0 true x0 y0 + (x1 - x0) % 32 * 2 ^ 40 + (y1 - y0) % 32 * 2 ^ 35 + kind / 2 % 2 * 2 ^ 57 + kind % 2 * 2 ^ 34
    + t.toNat % 4 * 2 ^ 32 + t.toNat)

/-- The barrier flit of breath `j`'s rectangle. -/
def bcastOf (s : State) (j kind : Nat) (t : BitVec 32) : Flit :=
  mkBcast kind (rectX0 s j) (rectY0 s j) (rectX1 s j) (rectY1 s j) t

/-- Send START (0), COMMIT (1) or HOLD (2) into the job's rectangle, at the breath's hub port (R55). -/
def sendBcast (s : State) (j kind : Nat) (t : BitVec 32) : State :=
  hubInject s (rdF s (R.brthConfig j) 24 5) 0x610 (bcastOf s j kind t)

/-! ### Echoes, shapers and tokens (R198, R204, R205) -/

/-- An ECHO to source `src`: to a core, or by way of the hub (Table 8-4). -/
def mkEcho (src own : Nat) : Flit :=
  let hub := src ≥ 0x400
  w64 (mkHead 6 0 false (if hub then 63 else src % 32) (if hub then 0 else src / 32 % 32) + src % 2048 * 2 ^ 34
    + own % 2048 * 2)

/-- Receiver `r` (a core, or 1,024 + hub port) takes in a marked flit in echo epoch `epoch` (R204). -/
def echoFor (s : State) (r : Nat) (f : Flit) (epoch : Nat) : State :=
  if ¬ fMark f then s
  else
    let k := r * 2048 + fSrc f
    let last := Sparse.get (fun _ => 0) s.mesh.echoes k
    if last ≠ 0 ∧ (last = epoch + 1 ∨ last = epoch) then s
    else
      let s := { s with mesh := { s.mesh with echoes := Sparse.set (fun _ => 0) s.mesh.echoes k (epoch + 1) } }
      if r < 1024 then coreSend (bump s (R.echoSent r) 1) r (mkEcho (fSrc f) r)
      else hubInject s (r - 1024) 0x630 (mkEcho (fSrc f) 0x630)

/-- An echo reaches the shaper of `src` in cycle `cyc`: the rate halves, unless within the hold (R205). Answers whether
it halved. -/
def shapeEcho (s : State) (src cyc : Nat) : Bool × State :=
  let s := shapeTo s src cyc
  let ok := match (shaper s src).halved with
    | none => true
    | some h => cyc - h ≥ rdF s R.meshShape 16 16
  if ok then
    let s := setShapeRate s src (max (shapeRate s src / 2) (rdF s R.meshShape 8 7))
    (true, setShaper s src { shaper s src with halved := some cyc })
  else (false, s)

/-- Bring core `n`'s VC0 tokens up to cycle `cyc`: one every 8 cycles, at most 4 (R198). -/
def tokensTo (s : State) (n cyc : Nat) : State :=
  let old := Sparse.get (fun _ => 0) s.mesh.tokenAt n
  let gain := cyc / 8 - old / 8
  let s := wrF s (R.rtrShaper n) 8 3 (min 4 (rdF s (R.rtrShaper n) 8 3 + gain))
  { s with mesh := { s.mesh with tokenAt := Sparse.set (fun _ => 0) s.mesh.tokenAt n (max old cyc) } }
def tokenOk (s : State) (n : Nat) : Bool := rdF s (R.rtrShaper n) 8 3 > 0
def tokenTake (s : State) (n : Nat) : State := wrF s (R.rtrShaper n) 8 3 (rdF s (R.rtrShaper n) 8 3 - 1)

/-- The 1 µs tick at every shaper (R205): the source cycles before the one in which the tick takes effect are credited at the
old rate, and then the rate rises. `at_` names those cycles, by SRC. A shaper at 64 stays there, so only those that were
slowed are touched; the cores named have their VC0 tokens brought up to date too (R198). -/
def shapeTick (s : State) (at_ : List (Nat × Nat)) : State :=
  let step := rdF s R.meshShape 0 8
  let up (s : State) (src : Nat) : State := setShapeRate s src (min (shapeRate s src + step) 64)
  let s := at_.foldl (fun s e =>
    if e.1 < 1024 then tokensTo (shapeTo s e.1 e.2) e.1 e.2 else shapeTo s e.1 e.2) s
  let s := (List.range 1024).foldl (fun s n => if shapeRate s n < 64 then up s n else s) s
  s.mesh.shapers.foldl (fun s e => if e.1 ≥ 1024 && e.2.slow > 0 then up s e.1 else s) s

/-! ### Links going down (R220) -/

/-- Path of a unicast from core `a` to core `b`: the links it takes, as node and output (R192). -/
def pathLinks : Nat → Nat → Nat → List (Nat × Nat)
  | 0, _, _ => []
  | k + 1, a, b =>
    match routeOuts a 4 (w64 (mkHead 0 1 false (b % 32) (b / 32))) with
    | [o] => match neighbour a o with
      | some (m, _) => (a, o) :: pathLinks k m b
      | none => []
    | _ => []

/-- The queue structures of a core are in use: its `Q_CONFIG` is set (DEDUCED, log entry 36). -/
def queuesUsed (s : State) (n : Nat) : Bool := cr s n R.qConfig ≠ 0

/-- Destination cores of core `n`'s valid send bindings (R235). -/
def queuePeers (s : State) (n : Nat) : List Nat :=
  if queuesUsed s n then (List.range 64).filterMap fun b =>
    let w := w64 (ldU s (scratch n (crF s n R.qConfig 48 15 + 8 * b)) 8)
    if bitAt w 40 then some (fld w 0 16 / 64 % 1024) else none
  else []

/-- The job of breath `j` has a route over the link from `node` by `o` (R220). DESIGN CHOICE: a queue path is the unicast
path from a core of the job to the destination of each of its valid send bindings; the path of the answers is not one (log
entry 140). -/
def usesLink (s : State) (j node o : Nat) : Bool :=
  let l := coresOf s j
  match neighbour node o with
  | none => false
  | some (m, _) =>
    (l.contains node && l.contains m)
      || (!l.isEmpty && (let row := if node ≥ 1024 then node - 1024 else node / 32
                         (o = 1 || o = 3) && rectY0 s j ≤ row && row ≤ rectY1 s j
                           && (node ≥ 1024 || m ≥ 1024 || node % 32 < rectX0 s j || m % 32 < rectX0 s j)))
      || (l.any fun n => (queuePeers s n).any fun d => (pathLinks 64 n d).contains (node, o))
      || ((List.range 8).any fun k =>
            let e := circ s node k
            bitAt e 0 && fld e 8 3 = o && (circuitBreath s (fld e 32 11)) = some j)

/-- A link goes DOWN: alarm, its flits dropped, and every job routed over it faults with LINK_DOWN (R220, Table
15-5). -/
def linkDown (s : State) (node o : Nat) : State :=
  let s := setB (setLinkState s node o 3) R.meshAlarm 1
  let l := link s (linkKey node o)
  let s := l.replay.foldl (fun s _ => countDrop s node o) s
  let s := setLink s (linkKey node o) { l with replay := [], rx := [], run := 0, fails := 0 }
  let s := (List.range 5).foldl (fun s p => (List.range 5).foldl (fun s q =>
    let b := buf s node p q
    let s := (b.filter fun h => h.outs.contains o).foldl (fun s h =>
      let s := countDrop s node o
      if h.outs = [o] then freeSlot s node p q else s) s
    setBuf s node p q ((b.map fun h => { h with outs := h.outs.erase o }).filter fun h =>
      !(h.outs.isEmpty && !(fType h.f = 7 || fType h.f = 8)))) s) s
  (List.range 64).foldl (fun s j =>
    if usesLink s j node o then raise s j 0x0C (brth s j).started.toNat else s) s

/-- Condition `RETRY` of Table 19-1 fails for the L0 job when one of its links leaves UP or replays by timeout. -/
def failRetry (s : State) (node o : Nat) : State :=
  (List.range 64).foldl (fun s j => if brthL0 s j && usesLink s j node o then failCond s j 2 else s) s

/-- A link enters RETRAIN (R219). -/
def startRetrain (s : State) (node o : Nat) : State :=
  if linkState s node o ≥ 2 then s
  else
    let l := link s (linkKey node o)
    let s := setLink s (linkKey node o) { l with run := 0, disc := 0 }
    let s := if node < 1024 then bump s (R.linkRetrains node o) 1 else s
    failRetry (setLinkState s node o 2) node o

/-- One replay is counted on a link (R214, R215, R218); 8 in a row without progress retrain it (R219). -/
def countReplay (s : State) (node o : Nat) : State :=
  let k := linkKey node o
  let l := link s k
  let s := if node ≥ 1024 then bump s (R.hubportReplays (node - 1024)) 1 else bump s (R.linkReplays node o) 1
  let s := setLink s k { l with run := l.run + 1, window := l.window + 1 }
  if l.run + 1 ≥ 8 then startRetrain s node o else s

/-- Retraining has agreed the SEQ and credit state at both ends: sending resumes from the first flit the receiver lacks,
which is the next position it expects; a link that lost its flits while DOWN goes on from the sender's next position
(R219, R220). -/
def resync (s : State) (node o : Nat) : State :=
  let k := linkKey node o
  let l := link s k
  let rep := l.replay.filter fun r => r.1 ≥ l.expect
  let used := (List.range 5).map fun q =>
    (rep.filter fun r => creditQueue r.2 = q).length + (l.rx.filter fun f => creditQueue f = q).length
      + (match neighbour node o with
         | some (m, p) => (buf s m p q).length
         | none => 0)
  setLink s k { l with replay := rep, expect := (rep.head?.map (·.1)).getD l.next, used := used, seen := [0, 0, 0, 0, 0],
                       freed := [0, 0, 0, 0, 0], run := 0, disc := 0, fails := 0, nak := false, nakTaken := false }

end Sys2Proof.Machine
end

