-- ==== Sys2Proof/Machine/MeshCmd.lean ====
section
/-! DEFINITION. Commands of the mesh: arrivals, sending, lane words and circuits (R193 to R216). -/
namespace Sys2Proof.Machine

/-! ### Arrival (R23, R191 to R204) -/

/-- The flit that the link into (node, p) delivers next: a crossing keeps the order of entry (R23, R199, R216). -/
def nextRx (s : State) (node p : Nat) : Option Flit := (inLink node p).bind fun k => (link s k).rx.head?

/-- Take the next flit that the link into (node, p) has accepted. -/
def takeRx (s : State) (node p : Nat) : State :=
  match inLink node p with
  | some k => let l := link s k; setLink s k { l with rx := l.rx.drop 1 }
  | none => s

/-- Class of a VC0 flit at a local port: reports leave first, then CTRL_RESP, then ECHO, then L0 events, and after them a
core's own CTRL flits (R198, R237). -/
def vc0Class (f : Flit) : Nat :=
  if fType f = 3 then 0 else if fType f = 0xB then 1 else if fType f = 6 then 2 else if fType f ≤ 1 then 3 else 4

/-- A report of core `n` could leave in cycle `cyc` (R48). -/
def reportReady (s : State) (n cyc : Nat) : Bool :=
  let c := core s n
  (List.range 4).any fun g =>
    (Sparse.get (fun _ => 0) c.sent g ≠ 0 && Sparse.get (fun _ => 0) c.reportAt g ≤ cyc)
      || (Sparse.get (fun _ => 0) c.recv g ≠ 0 && Sparse.get (fun _ => 0) c.reportAt (4 + g) ≤ cyc)

/-- Waiting VC0 flits of core `n` that nothing holds: those ahead of the first fenced one (R222). -/
def vc0Free (s : State) (n : Nat) : List Offer :=
  (s.mesh.offers.filter fun o => o.node = n && fVc o.f = 0).takeWhile fun o => !fencedFrom s (some o.src) o.f

/-- A fence holds the barrier reports of core `n` (R222). -/
def reportFenced (s : State) (n : Nat) : Bool := fencedFrom s (some n) (w64 (mkHead 3 0 false 63 0))

/-- Core `n` has nothing for VC0 that leaves before class `k`: no report, and no waiting flit of a lower class (R198,
R237). -/
def vc0Turn (s : State) (n cyc k : Nat) : Bool :=
  !(reportReady s n cyc && !reportFenced s n) && !(vc0Free s n).any fun o => vc0Class o.f < k

/-- The waiting VC0 flit of core `n` that enters next among those of the class of `f`. -/
def nextVc0 (s : State) (n : Nat) (f : Flit) : Option Offer :=
  (vc0Free s n).find? fun o => vc0Class o.f = vc0Class f

/-- A VC0 flit that waits at core `n`'s local port enters in cycle `cyc`, in its turn, for one token (R198). -/
def injectVc0 (s : State) (n : Nat) (f : Flit) (cyc : Nat) : State :=
  let s' := tokensTo s n cyc
  match nextVc0 s n f with
  | some o =>
    if o.f = f && tokenOk s' n && roomAt s' n f && vc0Turn s' n cyc (vc0Class f)
    then enterOffer (tokenTake s' n) o cyc else s'
  | none => s'

/-- A BULK flit of core `n`'s Queue/DMA unit may leave: its circuit is accepted (R207), its slots are free, and no fence holds
it. -/
def bulkMay (s : State) (n : Nat) (f : Flit) : Bool :=
  fType f = 9 && bitAt (Sparse.get (fun _ => 0) (core s n).circOut (fLabel f)) 0 && roomAt s n f && !holdsBack s n n f
    && !stopped s n

/-- A flit enters an input buffer of core `n`'s router in cycle `cyc` (R200). From a neighbour it is the next of its crossing;
at the local port it is a waiting VC0 flit that has its token, or a BULK flit of the core's own. -/
def arrive (s : State) (n p : Nat) (f : Flit) (cyc : Nat) : State :=
  if p = 4 then
    (if fType f = 9 then (if bulkMay s n f then enter (noteMoved s n) n 4 f cyc else s) else injectVc0 s n f cyc)
  else if nextRx s n p = some f then enter (takeRx s n p) n p f cyc
  else s

def execRouterFlitArrival (n : CoreId) (p : Port) (f : Flit) (cyc : Nat) (s : State) :=
  act s fun s => arrive s n.val (portIx p) f cyc

/-! ### Sending (R197, R208, R212) -/

/-- Flits of circuit label `l` that a link still carries or that wait behind it (R208). -/
def labelLoad (s : State) (node o l : Nat) : Nat :=
  let k := link s (linkKey node o)
  let is (f : Flit) : Bool := creditQueue f = 4 && fLabel f = l
  (k.replay.filter fun r => r.1 ≥ k.expect && is r.2).length + (k.rx.filter is).length
    + (match neighbour node o with
       | some (m, p) => ((buf s m p 4).filter fun h => h.label = l).length
       | none => 0)

/-- The local port of core `n` can take VC3: no operand message waits at its head (R195, R246), and there is room for the
message under way. -/
def vc3Open (s : State) (n : Nat) : Bool :=
  (core s n).opWait.isEmpty && ((core s n).rx.filter fun g => creditQueue g = 3).length < 1025 + 24

/-- The receiver behind output `o` can take this flit (R195, R197, R215): a core that is not halted, whose intake has
room, or a link that is up, with credit and replay space, and for a circuit flit a slot of its label (R208). -/
def canSend (s : State) (node o : Nat) (f : Flit) : Bool :=
  if o = 4 then
    node < 1024 && (fType f = 6 || !(core s node).halted)
      && (fType f > 1 || ((core s node).rx.filter fun g => fType g ≤ 1).length < 32)
      && (creditQueue f ≠ 3 || vc3Open s node)
  else
    let l := link s (linkKey node o)
    (neighbour node o).isSome && linkState s node o ≤ 1
      && l.used.getD (creditQueue f) 0 < bufCap (creditQueue f)
      && (creditQueue f ≠ 4 || labelLoad s node o (fLabel f) < 2)
      && (l.replay.filter fun r => r.1 % 2 = l.next % 2).length < 32

/-- The head of a buffer, if it wants output `o` and can be sent. -/
def headFor (s : State) (node o p q : Nat) : Option Held :=
  match buf s node p q with
  | h :: _ => if h.outs.contains o && canSend s node o h.f then some h else none
  | [] => none

/-- The input ports from round-robin place `r` on. -/
def portsFrom (r : Nat) : List Nat := (List.range 5).map fun i => (r + i) % 5

/-- A choice of R197: input port, queue, the flit, and the round-robin place (`Link.rrPort`) that moves on. -/
structure Pick where
  p : Nat
  q : Nat
  h : Held
  place : Nat
  deriving DecidableEq, Repr

/-- The oldest VC0 head, heads of the same cycle round-robin by port (R197, 1). -/
def pickVc0 (s : State) (node o : Nat) : Option Pick :=
  (portsFrom ((link s (linkKey node o)).rrPort.getD 0 0)).foldl (fun best p =>
    match headFor s node o p 0, best with
    | some h, none => some ⟨p, 0, h, 0⟩
    | some h, some x => if h.stamp < x.h.stamp then some ⟨p, 0, h, 0⟩ else some x
    | none, b => b) none

/-- A circuit flit whose circuit holds enough tokens (R197, 2; R208). DESIGN CHOICE: among several, round-robin by port (log
entry 107). -/
def pickCircuit (s : State) (node o : Nat) : Option Pick :=
  (portsFrom ((link s (linkKey node o)).rrPort.getD 5 0)).findSome? fun p =>
    match headFor s node o p 4 with
    | some h =>
      if Sparse.get (fun _ => 0) (link s (linkKey node o)).tokens (fLabel h.f) ≥ 8 then some ⟨p, 4, h, 5⟩ else none
    | none => none

/-- The other queues, round-robin by queue and then by input port (R197, 3). -/
def pickRest (s : State) (node o : Nat) : Option Pick :=
  let l := link s (linkKey node o)
  (List.range 4).findSome? fun k =>
    let q := 1 + (l.rr + k) % 4
    (portsFrom (l.rrPort.getD q 0)).findSome? fun p => (headFor s node o p q).map fun h => ⟨p, q, h, q⟩

/-- What output `o` sends in its next lane slot (R197). -/
def pick (s : State) (node o : Nat) : Option Pick :=
  ((pickVc0 s node o).or (pickCircuit s node o)).or (pickRest s node o)

/-- Each circuit on output `o` gains SHARE tokens for each cycle up to `cyc`, up to 16 (R208). -/
def gainTokens (s : State) (node o cyc : Nat) : State :=
  let k := linkKey node o
  let l := link s k
  setLink s k { l with
    gainedAt := max l.gainedAt cyc
    tokens := (List.range 8).foldl (fun t i =>
      let e := circ s node i
      let lab := fld e 12 3
      if bitAt e 0 && fld e 8 3 = o then
        Sparse.set (fun _ => 0) t lab (min 16 (Sparse.get (fun _ => 0) t lab + fld e 16 4 * (cyc - l.gainedAt)))
      else t) l.tokens }

/-- Hand a flit to core `n`'s local port in cycle `cyc` of its clock (R75): one on a VC that is not its TYPE's is discarded
and counted (R191), and a marked one is answered by an ECHO (R204). -/
def deliverLocal (s : State) (n : Nat) (f : Flit) (cyc : Nat) : State :=
  let s := noteMoved s n
  if ¬ vcOk f then bump s (R.rtrBadType n) 1
  else
    let s := upCore s n fun c => { c with rx := c.rx ++ [f] }
    if fType f ≤ 1 then echoFor s n f (cyc / 256) else s

/-- Put a flit on an output link: its position, its replay copy, one credit used (R212, R213, R215). -/
def putOnLink (s : State) (node o : Nat) (f : Flit) : State :=
  let l := link s (linkKey node o)
  let q := creditQueue f
  setLink s (linkKey node o) { l with
    next := l.next + 1, replay := l.replay ++ [(l.next, f)], used := l.used.set q (l.used.getD q 0 + 1), nakTaken := false }

/-- The head of (node, p, q) leaves by output `o`; it stays until it has left by every output (R194). A counted flit of
the router's own core counts as sent when it has left (R45). -/
def leave (s : State) (node p q o : Nat) (h : Held) (cyc : Nat) : State :=
  let s := if o = 4 then deliverLocal s node h.f cyc else putOnLink s node o h.f
  let outs := h.outs.erase o
  let rest := (buf s node p q).drop 1
  if outs.isEmpty then
    let s := freeSlot (setBuf s node p q rest) node p q
    let s := if p = 4 ∧ node < 1024 ∧ isCounted h.f then countSent s node (fStep h.f) (sentCount h.f) else s
    if p = 4 then pump node s.mesh.offers.length s else s
  else setBuf s node p q ({ h with outs := outs } :: rest)

/-- The sender's side of a slot that is filled: the cycle's slot is used, the round-robin place moves on, and a circuit with
tokens spends 8 (R197, R208). -/
def useSlot (l : Link) (x : Pick) (cyc : Nat) : Link :=
  { l with
    slotAt := cyc, slots := if l.slotAt = cyc then l.slots + 1 else 1
    rr := if x.place = 0 ∨ x.place = 5 then l.rr else x.q % 4
    rrPort := l.rrPort.set x.place ((x.p + 1) % 5)
    tokens := if x.place = 5 then
        Sparse.set (fun _ => 0) l.tokens (fLabel x.h.f) (Sparse.get (fun _ => 0) l.tokens (fLabel x.h.f) - 8) else l.tokens }

/-- Output `o` has a lane slot left in cycle `cyc`: two in each cycle (R197). -/
def slotFree (l : Link) (cyc : Nat) : Bool := l.slotAt < cyc || l.slots = 0 || (l.slotAt = cyc && l.slots < 2)

/-- One lane slot of output `o` is filled in cycle `cyc` of the sending clock (R197). -/
def sendSlot (s : State) (node o cyc : Nat) : State :=
  let s := peerShape s node cyc
  if ¬ slotFree (link s (linkKey node o)) cyc then s
  else
    let g := gainTokens s node o cyc
    match pick g node o with
    | some x => leave (setLink g (linkKey node o) (useSlot (link g (linkKey node o)) x cyc)) node x.p x.q o x.h cyc
    | none => s

/-! ### Echoes (R205) -/

/-- SRC of an endpoint that has a shaper: cores, Mouthpiece channels, the Event Port and peer ports. -/
def shapedSrc : Endpoint → Option Nat
  | .core n => some n.val
  | .mouthpiece c => some (0x400 + c.val)
  | .evtPort => some 0x620
  | .peer p => some (0x628 + p.val)
  | _ => none

/-- An ECHO to source `src` waits at its local port, or at the hub for the endpoint that TARGET names (Table 8-4). -/
def echoWaits (s : State) (src : Nat) (f : Flit) : Bool :=
  if src < 1024 then (core s src).rx.contains f else s.mesh.hubRx.contains f && ff f 34 11 = src

/-- R205. -/
def execEchoReceived (who : Endpoint) (f : Flit) (cyc : Nat) (s : State) :=
  act s fun s =>
    match shapedSrc who with
    | none => s
    | some src =>
      if fType f ≠ 6 ∨ ¬ echoWaits s src f then s
      else
        let s := if src < 1024 then upCore s src fun c => { c with rx := c.rx.erase f }
          else { s with mesh := { s.mesh with hubRx := s.mesh.hubRx.erase f } }
        let r := shapeEcho s src cyc
        if src < 1024 then bump r.2 (if r.1 then R.echoReceived src else R.echoIgnored src) 1 else r.2

/-! ### Lane words (R211, R212, R214, R216) -/

/-- The receiver's side of a link after a lane word: an uncorrectable word at the next position is answered by one NAK, and
everything after it is discarded until that position comes again; a good word is accepted in position order and answered
by the next control word (R212 to R214, R216). -/
def laneAccept (l : Link) (lane : Bool) : LaneWord → Link
  | .bad => if l.nak then l else { withControl l true with nak := true }
  | .good seq payload _ =>
    if fType payload ≠ 0xF ∧ b2n lane = l.expect % 2 ∧ seq.toNat = l.expect / 2 % 256 then
      withControl { l with expect := l.expect + 1, run := 0, rx := l.rx ++ [payload], nak := false, nakTaken := false } false
    else l

/-- A lane word reaches the receiver behind input port `p` of a node; a corrected one is counted (R214). -/
def laneWord (s : State) (node p : Nat) (lane : Bool) (w : LaneWord) : State :=
  match inLink node p with
  | none => s
  | some k =>
    let s := match w with
      | .good _ _ true =>
        if node ≥ 1024 then bump s (R.hubportCorrected (node - 1024)) 1 else bump s (R.linkCorrected node p) 1
      | _ => s
    setLink s k (laneAccept (link s k) lane w)

def execLaneWordReceive (node : Node) (p : Port) (lane : Bool) (word : LaneWord) (s : State) :=
  act s fun s => laneWord s (nodeIx node) (portIx p) lane word

/-! ### Circuits (R206, R207) -/

/-- A STATUS form CTRL_RESP to endpoint `dst` from responder `own` (Table 9-3). -/
def mkStatus (dst own code arg : Nat) : Flit :=
  let hub := dst ≥ 0x400
  w64 (mkHead 0xB 0 false (if hub then 63 else dst % 32) (if hub then 0 else dst / 32 % 32) + 2 ^ 44 + code % 256 * 2 ^ 36
    + arg % 2 ^ 24 * 2 ^ 12 + own % 2048 * 2)

/-- Send an answer from a node: a core's by its own router, a hub port's by the hub port, or to a hub endpoint at once. -/
def answer (s : State) (node : Nat) (f : Flit) : State :=
  if node < 1024 then coreSend s node f
  else if fDx f = 63 then { s with mesh := { s.mesh with hubRx := s.mesh.hubRx ++ [f] } }
  else hubInject s (node - 1024) 0x630 f

/-- Answer a circuit flit's source with a reason code (Tables 8-9, 9-4; R239). -/
def circuitReply (s : State) (node : Nat) (f : Flit) (code : Nat) : State :=
  answer s node (mkStatus (fSrc f) (if node < 1024 then node else 0x630) code (ff f 38 3 * 2 ^ 21))

/-- Lowest label not in use on output `o` (R206). -/
def freeLabel (s : State) (node o : Nat) : Nat :=
  ((List.range 8).find? fun l => (List.range 8).all fun k =>
    let e := circ s node k; !(bitAt e 0 && fld e 8 3 = o && fld e 12 3 = l)).getD 0

/-- Total SHARE of the valid entries on output `o` (R206). -/
def shareSum (s : State) (node o : Nat) : Nat :=
  ((List.range 8).map fun k => let e := circ s node k; if bitAt e 0 && fld e 8 3 = o then fld e 16 4 else 0).sum

/-- The reason for which a node refuses a setup, if it does (R206, R220). -/
def setupRefusal (s : State) (node p o : Nat) (f : Flit) : Option Nat :=
  if o ≠ 4 ∧ linkState s node o = 3 then some 0x34
  else if (circMatch s node p (fLabel f)).isSome then some 0x33
  else if circCount s node ≥ 8 then some 0x31
  else if shareSum s node o + ff f 41 4 > 8 then some 0x32 else none

/-- Replace the first waiting circuit flit `f` of a buffer, or take it away. -/
def replaceHeld (l : List Held) (f : Flit) (h' : Option Held) : List Held :=
  match l with
  | [] => []
  | h :: r => if h.f = f ∧ h.outs = [] then (match h' with | some x => x :: r | none => r) else h :: replaceHeld r f h'

/-- A circuit flit is at input port `p` of a node: it waits in queue `q`, or it is the next of the crossing there, or a core's
Queue/DMA unit sends it now. -/
def circuitHere (s : State) (node p q : Nat) (f : Flit) : Bool :=
  ((buf s node p q).any fun h => h.f = f && h.outs.isEmpty) || nextRx s node p = some f
    || (p = 4 && node < 1024 && !stopped s node && roomAt s node f && !holdsBack s node node f)

/-- The circuit flit has entered its queue. -/
def circuitEnter (s : State) (node p q : Nat) (f : Flit) : State :=
  if (buf s node p q).any fun h => h.f = f && h.outs.isEmpty then s
  else if p = 4 then enter (noteMoved (noteSetup s node f) node) node p f 0
  else enter (takeRx s node p) node p f 0

/-- A CIRCUIT_SETUP is checked at a node, entered and forwarded, accepted or refused (R206). -/
def circuitSetup (s : State) (node p : Nat) (f : Flit) : State :=
  if ¬ circuitHere s node p 3 f then s
  else
    let s := circuitEnter s node p 3 f
    let o := (routeOuts node p f).headD 4
    let l := buf s node p 3
    match setupRefusal s node p o f with
    | some code => circuitReply (freeSlot (setBuf s node p 3 (replaceHeld l f none)) node p 3) node f code
    | none =>
      let k := ((List.range 8).find? fun k => !bitAt (circ s node k) 0).getD 0
      let lab := freeLabel s node o
      let s := setCirc s node k (w64 (1 + p * 2 + fLabel f * 2 ^ 4 + o * 2 ^ 8 + lab * 2 ^ 12 + ff f 41 4 * 2 ^ 16
        + fSrc f * 2 ^ 32))
      if o = 4 then
        let s := freeSlot (setBuf s node p 3 (replaceHeld l f none)) node p 3
        let s := if node < 1024 then upCore s node fun c =>
            { c with labels := Sparse.set (fun _ => 0) c.labels lab (fSrc f * 8 + ff f 38 3 + 1) } else s
        circuitReply s node f 0x30
      else
        let h := (l.find? fun h => h.f = f && h.outs.isEmpty).getD ⟨f, [], 0, 8⟩
        setBuf s node p 3 (replaceHeld l f (some { h with f := setLabel f lab, outs := [o] }))

def execCircuitSetup (node : Node) (p : Port) (f : Flit) (s : State) :=
  act s fun s => if fType f = 7 then circuitSetup s (nodeIx node) (portIx p) f else s

/-- A teardown at the head of the circuit queue frees its entry and goes on with the output label, unless that output's
link is DOWN; one that matches no entry is discarded (R207, R220). -/
def circuitTeardown (s : State) (node p : Nat) (f : Flit) : State :=
  if ¬ circuitHere s node p 4 f then s
  else
    let s := circuitEnter s node p 4 f
    match buf s node p 4 with
    | h :: r =>
      if h.f = f ∧ h.outs.isEmpty then
        match circMatch s node p (fLabel f) with
        | none => freeSlot (setBuf s node p 4 r) node p 4
        | some k =>
          let e := circ s node k
          let o := fld e 8 3
          let lab := fld e 12 3
          -- At a core it leaves once the Queue/DMA unit has taken the last block.
          if o = 4 ∧ node < 1024 ∧ ((core s node).rx.any fun g => fType g = 9 && fLabel g = lab) then s else
          let s := setCirc s node k 0
          if o = 4 then
            let s := freeSlot (setBuf s node p 4 r) node p 4
            if node < 1024 then upCore s node fun c => { c with labels := Sparse.set (fun _ => 0) c.labels lab 0 } else s
          else if linkState s node o = 3 then freeSlot (countDrop (setBuf s node p 4 r) node o) node p 4
          else setBuf s node p 4 ({ h with f := setLabel f lab, outs := [o] } :: r)
      else s
    | [] => s

end Sys2Proof.Machine
end

