-- ==== Sys2Proof/Machine/Hash.lean ====
section
/-! DEFINITION. The counter hash and the rounding rules (R117, R145, R148). -/
namespace Sys2Proof.Machine

/-- `mix` of the counter hash (R145). -/
def hashMix (v : Nat) : Nat :=
  let v := v ^^^ (v >>> 16)
  let v := v * 0x2C1B3C6D % 2 ^ 32
  v ^^^ (v >>> 15)

/-- The counter hash (R145). -/
def hash32 (seed step pkg core index stream : Nat) : Nat :=
  let h := hashMix ((seed % 2 ^ 32) ^^^ (stream * 2 ^ 24 % 2 ^ 32) ^^^ 0x7A50C35D)
  let h := hashMix (h ^^^ (step % 2 ^ 32))
  hashMix (h ^^^ ((pkg * 2 ^ 27 % 2 ^ 32) ||| (core * 2 ^ 16 % 2 ^ 32) ||| index))

/-- The rounding shift rs(x, sh) (R117). -/
def rs (half : Bool) (x : Int) (sh : Nat) : Int := if half then rnd x sh else asr x sh

/-- Stochastic rounding sr(a, sh, h) (R148). -/
def sr (a : Int) (sh h : Nat) : Int := asr (a + ((h % 2 ^ sh : Nat) : Int)) sh

end Sys2Proof.Machine
end

