-- ==== Sys2Proof/Machine/Operands.lean ====
section
/-! DEFINITION. Neuron programs: lane registers, operands, the flag and the instructions (R115 to R131, R134). -/
namespace Sys2Proof.Machine

/-- An emission: binary, or graded with a payload (R129). It is recorded as 1, or payload + 2 (R173). -/
abbrev Emission := Nat

/-- One lane's registers and what its run has counted. -/
structure Lane where
  nid : Nat
  /-- Codes 0x00–0x0D: S0–S3, T0–T7, I, A (Table 4-2). -/
  r : List Int
  f : Bool := false
  /-- A FIRE or EMITQ with a true predicate has run (R134). -/
  emitRun : Bool := false
  emission : Emission := 0
  arithSat : Nat := 0
  satFire : Nat := 0
  /-- Program positions at which a case of R134 occurred. -/
  bad : List Nat := []
  deriving DecidableEq, Repr

/-- What every lane of a group shares: population entry words, step, hash key parts. -/
structure GroupCtx where
  /-- W0–W7 of the population entry (Table 4-1). -/
  pop : List Nat
  step : Nat
  seed : Nat
  pkg : Nat
  core : Nat
  deriving DecidableEq, Repr

def GroupCtx.w (g : GroupCtx) (i : Nat) : W64 := w64 (g.pop.getD i 0)
/-- Parameter Pk (Table 4-1). -/
def GroupCtx.p (g : GroupCtx) (k : Nat) : Int := sx 16 (fld (g.w (k / 4)) (16 * (k % 4)) 16)
def GroupCtx.graded (g : GroupCtx) : Bool := bitAt (g.w 4) 28
def GroupCtx.extEn (g : GroupCtx) : Bool := bitAt (g.w 4) 29
def GroupCtx.satcap (g : GroupCtx) : Int := sx 16 (fld (g.w 5) 0 16)

/-- A source operand, widened (R115, R116). -/
def readReg (g : GroupCtx) (l : Lane) (c : Nat) : Int :=
  if c < 14 then l.r.getD c 0 else if c = 14 then 0 else if c = 15 then (l.nid : Int) else g.p (c - 16)

/-- A code that Table 4-2 marks writable. -/
def writable (c : Nat) : Bool := c < 12 || c = 13

/-- Write a register with saturation to its width (R116); a code that is not writable discards the write (R134). -/
def writeReg (l : Lane) (pc c : Nat) (x : Int) : Lane :=
  if writable c then
    let w := if c = 13 then 32 else 16
    { l with r := l.r.set c (sat x w), arithSat := l.arithSat + b2n (satHit x w) }
  else { l with bad := pc :: l.bad }

/-- Comparison of a CMP condition code (R122). -/
def cmpCond (x : Nat) (a b : Int) : Option Bool :=
  if x = 0 then some (a = b) else if x = 1 then some (a ≠ b) else if x = 2 then some (a < b)
  else if x = 3 then some (a ≥ b) else if x = 4 then some (a ≤ b) else if x = 5 then some (a > b) else none

/-- The flag after a comparison, by the combine field; a reserved code acts as NOP (R122, R134). -/
def setFlagF (l : Lane) (pc : Nat) (c : Option Bool) (comb : Nat) : Lane :=
  match c with
  | some b =>
    if comb = 0 then { l with f := b } else if comb = 1 then { l with f := l.f && b }
    else if comb = 2 then { l with f := l.f || b } else { l with bad := pc :: l.bad }
  | none => { l with bad := pc :: l.bad }

/-- The hash word of a Neuron Engine draw (R124, R125, Table 5-2). -/
def neHash (g : GroupCtx) (l : Lane) (stream : Nat) : Nat := hash32 g.seed g.step g.pkg g.core l.nid stream

/-- s16(v) (R118). -/
def s16 (v : Int) : Int := sat v 16

/-- FIRE on register `d` with threshold source `a` (R130). -/
def fireOp (g : GroupCtx) (l : Lane) (d : Nat) (a : Int) : Lane :=
  let th := s16 a
  let v := l.r.getD d 0
  let l := { l with emitRun := true }
  if th ≤ 0 then { l with f := false }
  else if g.graded then
    let q := v / th
    if q ≥ 1 then
      let pay := min 255 q
      { l with
        f := true, emission := pay.toNat + 2, satFire := l.satFire + b2n (q > 255)
        r := l.r.set d (min (v - pay * th) g.satcap) }
    else { l with f := false }
  else if v ≥ th then
    { l with
      f := true, emission := 1, satFire := l.satFire + b2n (v - th ≥ th)
      r := l.r.set d (min (v - th) g.satcap) }
  else { l with f := false }

/-- EMITQ of payload `a` (R131). -/
def emitqOp (l : Lane) (a : Int) : Lane :=
  { l with
    emitRun := true, emission := (max 0 (min 255 a)).toNat + 2
    satFire := l.satFire + b2n (a < 0 || a > 255) }

/-- One instruction with a true predicate (R123, Table 4-5). `xin` is the neuron's external input (R128). DESIGN CHOICE: a
field that must be 0 and is not, after a change made after load, is in no case of R134: it is ignored, and nothing is
counted (log entry 144). -/
def execInstr (g : GroupCtx) (xin : Int) (l : Lane) (pc w : Nat) : Lane :=
  let op := w / 2 ^ 26 % 64
  let d := w / 2 ^ 19 % 32
  let a := readReg g l (w / 2 ^ 14 % 32)
  let b := readReg g l (w / 2 ^ 9 % 32)
  let half := w / 2 ^ 8 % 2 = 1
  let sh := w / 8 % 32
  let imm := sx 14 (w % 2 ^ 14)
  let prod := rs half (s16 a * s16 b) sh
  match op with
  | 0x00 => l
  | 0x01 => writeReg l pc d a
  | 0x02 => writeReg l pc d imm
  | 0x03 => writeReg l pc d (a + b)
  | 0x04 => writeReg l pc d (a - b)
  | 0x05 => writeReg l pc d (a + imm)
  | 0x06 => writeReg l pc d (min a b)
  | 0x07 => writeReg l pc d (max a b)
  | 0x08 => writeReg l pc d (a.natAbs : Int)
  | 0x09 => writeReg l pc d (a + rs half b sh)
  | 0x0A => writeReg l pc d (a - rs half b sh)
  | 0x0B => writeReg l pc d (rs half a sh)
  | 0x0C => writeReg l pc d (a * ((2 ^ sh : Nat) : Int))
  | 0x0D => writeReg l pc d prod
  | 0x0E =>
    let l := writeReg l pc 13 (l.r.getD 13 0 + prod)
    if d = 13 then l else { l with bad := pc :: l.bad }
  | 0x0F =>
    let l := writeReg l pc 13 (l.r.getD 13 0 - prod)
    if d = 13 then l else { l with bad := pc :: l.bad }
  | 0x10 => writeReg l pc d (rs half (a * (fld (g.w 5) 16 16 : Int)) (fld (g.w 5) 32 5))
  | 0x11 => setFlagF l pc (cmpCond (w % 8) a b) (sh % 4)
  | 0x12 => setFlagF l pc (cmpCond (d % 8) a imm) (d / 8)
  | 0x13 => writeReg l pc d (if l.f then a else b)
  | 0x14 => { l with f := !l.f }
  | 0x15 =>
    let h := neHash g l (w % 128)
    if d = 13 then writeReg l pc d (sx 32 h) else writeReg l pc d (sx 16 (h % 65536))
  | 0x16 => writeReg l pc d (if sh = 0 then a else sr a sh (neHash g l (w / 2 ^ 9 % 32)))
  | 0x17 => writeReg l pc d xin
  | 0x18 =>
    if d ≥ 12 ∨ l.emitRun then { l with bad := pc :: l.bad }
    else fireOp g l d a
  | 0x19 =>
    if l.emitRun then { l with bad := pc :: l.bad }
    else if g.graded then emitqOp l a else { l with emitRun := true, bad := pc :: l.bad }
  | _ => { l with bad := pc :: l.bad }

/-- One instruction under its predicate (R120, R121, R134). -/
def laneInstr (g : GroupCtx) (xin : Int) (l : Lane) (pc w : Nat) : Lane :=
  let pred := w / 2 ^ 24 % 4
  if pred = 3 then { l with bad := pc :: l.bad }
  else if pred = 0 || (pred = 1 && l.f) || (pred = 2 && !l.f) then execInstr g xin l pc w
  else l

/-- A whole program on one lane. -/
def runLane (g : GroupCtx) (xin : Int) : List Nat → Nat → Lane → Lane
  | [], _, l => l
  | w :: r, pc, l => runLane g xin r (pc + 1) (laneInstr g xin l pc w)

/-- Cycle cost of one instruction (Table 4-5). -/
def instrCost (graded : Bool) (w : Nat) : Nat :=
  let op := w / 2 ^ 26 % 64
  if op = 0x15 || op = 0x16 then 2 else if op = 0x18 && graded then 3 else 1

/-- Cycle cost of a program. -/
def progCost (graded : Bool) (l : List Nat) : Nat := (l.map (instrCost graded)).sum

end Sys2Proof.Machine
end

