-- ==== Sys2Proof/Machine/Update.lean ====
section
/-! DEFINITION. The update of a step, its emissions, and rollback passes (R39, R41, R106 to R111, R128 to R136, R172 to
R185). -/
namespace Sys2Proof.Machine

/-- Word `k` of population entry `q` (R113). `POP_BASE`, `PROG_BASE` and `EXT_BASE` count as they stand: a write after load
can leave low bits in them, or a table or array that runs past the end of scratch, and the bytes at the addresses that
follow are read (DESIGN CHOICE, log entry 142). -/
def popWord (s : State) (n q k : Nat) : Nat := ldU s (scratch n (crF s n R.neConfig 0 15 + 64 * q + 8 * k)) 8
/-- Word `w` of the program store (R114). -/
def progWord (s : State) (n w : Nat) : Nat := ldU s (scratch n (crF s n R.neConfig 16 15 + 4 * w)) 4

/-- The program that `NE_PROG`p names, when it is valid and lies within the store (R114, R133, R134). -/
def progOf (s : State) (n p : Nat) : List Nat :=
  let v := cr s n (R.neProg p)
  if bitAt v 24 && fld v 0 10 + fld v 16 7 < 1024 then
    (List.range (fld v 16 7 + 1)).map fun i => progWord s n (fld v 0 10 + i)
  else []

/-- Latch population `q`: its entry, its program, and `NE_POP_COST` (R110, Table 4-6). -/
def latchPop (s : State) (n q : Nat) : State :=
  let pop := (List.range 8).map (popWord s n q)
  let w4 := w64 (pop.getD 4 0)
  let prog := progOf s n (fld w4 25 3)
  let s := upCore s n fun c =>
    { c with pops := Sparse.set (fun _ => []) c.pops q pop, progs := Sparse.set (fun _ => []) c.progs q prog }
  if bitAt w4 0 then
    cw s n (R.nePopCost q) (w64 (max (progCost (bitAt w4 28) prog) 4 + cdiv (fld w4 13 12 + 1) 16 * 65536))
  else s

/-- What the lanes of a group of population `q` share in step `t`. -/
def groupCtx (s : State) (n q : Nat) (t : BitVec 32) : GroupCtx :=
  let j := jobOf s (coreBreath s n)
  { pop := Sparse.get (fun _ => []) (core s n).pops q, step := t.toNat, seed := j.seed, pkg := j.pkg, core := n }

/-- Device address of neuron `i`'s state word, in the state or the shadow (Table 1-5). -/
def stateAddr (n i : Nat) (shadow : Bool) : Nat := coreBase n + (if shadow then 0x68000 else 0x60000) + 8 * i
/-- S0–S3 at an address. -/
def loadState (s : State) (a : Nat) : List Int := (List.range 4).map fun k => sx 16 (ldU s (a + 2 * k) 2)
/-- The bytes of S0–S3. -/
def stateBytes (r : List Int) : List Byte := (r.take 4).flatMap fun v => leBytes 2 (ux 16 v)

/-- The external input of neuron `i` (R127, R128); an array that runs past the end of scratch is read there (log entry 142). -/
def xinOf (s : State) (n i : Nat) (g : GroupCtx) : Int :=
  if g.extEn && fld (g.w 6) 32 32 = g.step then
    sx 16 (ldU s (scratch n (fld (g.w 6) 0 15 + 2 * (i - fld (g.w 4) 1 12))) 2)
  else 0

/-- A lane at the start of a neuron's run (Table 4-2). -/
def laneInit (i : Nat) (st : List Int) (slotSum : Int) : Lane :=
  { nid := i, r := st ++ List.replicate 8 0 ++ [sat slotSum 24, 0] }

/-- Neurons of group `k` of a population that are active: within the population and below N (R106). -/
def groupNeurons (s : State) (n : Nat) (g : GroupCtx) (k : Nat) : List Nat :=
  let first := fld (g.w 4) 1 12
  let last := first + fld (g.w 4) 13 12
  ((List.range 16).map fun l => first + 16 * k + l).filter fun i => i ≤ last && i < neurons s n

/-- The group holds lanes of N or more within its population (R106). -/
def groupOver (s : State) (n : Nat) (g : GroupCtx) (k : Nat) : Bool :=
  let first := fld (g.w 4) 1 12
  let last := first + fld (g.w 4) 13 12
  (List.range 16).any fun l => first + 16 * k + l ≤ last && first + 16 * k + l ≥ neurons s n

/-- Post amount of an emission (R153). -/
def postAmount (e : Emission) : Nat := if e = 0 then 0 else if e = 1 then 256 else e - 2

/-- Set a neuron's emission record and its post-record entry of step `t` (R132, R153, R173). -/
def recordEmission (s : State) (n i : Nat) (t : BitVec 32) (e : Emission) : State :=
  upCore s n fun c => { c with
    record := Sparse.set (fun _ => 0) c.record i e
    post := Sparse.set (fun _ => 0) c.post (i * 2 + t.toNat % 2) (postAmount e) }

/-- Put the flits of an emission of group `at_` in the emit buffer (R94). -/
def pushEmit (s : State) (n kind at_ : Nat) (flits : List Flit) : State :=
  if flits.isEmpty then s else upCore s n fun c => { c with emitQ := c.emitQ ++ [⟨kind, at_, flits⟩] }

/-- Load of neuron `i` for step `t`: its slot is read and cleared, its state copied to the shadow with Overblow, and its
loaded bit set (R107, R136, R173). Answers the slot sum. -/
def loadNeuron (s : State) (n i : Nat) (t : BitVec 32) : Int × State :=
  let v := slot s n i t
  let s := setSlot s n i t 0
  let s := if ovbOn s n then stN s (stateAddr n i true) (ldN s (stateAddr n i false) 8) else s
  let s := upCore s n fun c => { c with
    loaded := i :: c.loaded, retained := Sparse.set (fun _ => 0) c.retained i v }
  (v.toInt, if satHit v.toInt 24 then cbump s n R.neInputSat 1 else s)

/-- Load every neuron of a group. -/
def loadGroup (n : Nat) (t : BitVec 32) : List Nat → State → List (Nat × Int) × State
  | [], s => ([], s)
  | i :: r, s =>
    let a := loadNeuron s n i t
    let b := loadGroup n t r a.2
    ((i, a.1) :: b.1, b.2)

/-- Counters that a group's lanes add to (R116, R130, R134). -/
def countLanes (s : State) (n : Nat) (ls : List Lane) : State :=
  let s := cbump s n R.neArithSat (ls.map (·.arithSat)).sum
  let s := cbump s n R.neuSatFire (ls.map (·.satFire)).sum
  cbump s n R.neBadOp ((ls.flatMap (·.bad)).eraseDups).length

/-- Write-back of one lane of an update: state, record, and the emission's flits (R92, R107, R129, R132). -/
def writeLane (n q k : Nat) (t : BitVec 32) (g : GroupCtx) (s : State) (l : Lane) : State :=
  let s := stN s (stateAddr n l.nid false) (stateBytes l.r)
  let s := recordEmission s n l.nid t l.emission
  if l.emission = 0 then s
  else
    let fl := emissionFlits s n q l.nid (fld (g.w 4) 1 12) t (l.emission ≥ 2) (l.emission - 2) false
    pushEmit (cbump s n R.emitEvents 1) n 0 (q * 256 + k) fl

/-- A group that has been loaded and executed, and whose write-back is still to come (R107). -/
structure Behind where
  q : Nat
  k : Nat
  g : GroupCtx
  lanes : List Lane
  deriving DecidableEq, Repr

/-- Write-back of the group behind (R107). -/
def writeBehind (n : Nat) (t : BitVec 32) (s : State) : Option Behind → State
  | some x => x.lanes.foldl (writeLane n x.q x.k t x.g) s
  | none => s

/-- Load and execution of one group of an update (R106, R107). A population whose program is invalid is loaded, and its
state stays as it is (R134). -/
def loadExec (n q : Nat) (t : BitVec 32) (s : State) (k : Nat) : State × Behind :=
  let g := groupCtx s n q t
  let prog := Sparse.get (fun _ => []) (core s n).progs q
  let s := if groupOver s n g k then cbump s n R.neBadOp 1 else s
  let ld := loadGroup n t (groupNeurons s n g k) s
  let s := ld.2
  let ls := ld.1.map fun p => runLane g (xinOf s n p.1 g) prog 0 (laneInit p.1 (loadState s (stateAddr n p.1 false)) p.2)
  let s := countLanes s n ls
  (if prog.isEmpty then cbump s n R.neBadOp 1 else s, ⟨q, k, g, ls⟩)

/-- An update under way: the group behind, and whether a load has met an uncorrectable error (R135). -/
structure Flow where
  s : State
  behind : Option Behind := none
  dead : Bool := false
  deriving DecidableEq, Repr

/-- One group of an update. The load of group g + 1 comes before the write-back of group g (R107). `ue` is the load
that meets an uncorrectable word: its group does not execute, and no later one is loaded (R135). -/
def updateGroup (n q : Nat) (t : BitVec 32) (ue : Option BadLoad) (x : Flow) (k : Nat) : Flow :=
  if x.dead then x
  else if ue.any fun u => u.pop.val = q && u.group.val = k then { s := writeBehind n t x.s x.behind, dead := true }
  else
    let y := loadExec n q t x.s k
    { s := writeBehind n t y.1 x.behind, behind := some y.2 }

/-- One population of an update: latched at its first group, then its groups in order (R106, R110). -/
def updatePop (n : Nat) (t : BitVec 32) (ue : Option BadLoad) (x : Flow) (q : Nat) : Flow :=
  if x.dead then x
  else
    let s := latchPop x.s n q
    let g := groupCtx s n q t
    let x := { x with s := s }
    if bitAt (g.w 4) 0 then (List.range (cdiv (fld (g.w 4) 13 12 + 1) 16)).foldl (updateGroup n q t ue) x else x

/-- Core cycles of an update without emit stalls (R108). -/
def updateCycles (s : State) (n : Nat) : Nat :=
  8 + ((List.range 16).map fun q =>
    let pop := Sparse.get (fun _ => []) (core s n).pops q
    let w4 := w64 (pop.getD 4 0)
    if bitAt w4 0 then
      cdiv (fld w4 13 12 + 1) 16 * max (progCost (bitAt w4 28) (Sparse.get (fun _ => []) (core s n).progs q)) 4
    else 0).sum

/-- The counters of a completed update: every group of it has been loaded, executed and written back. DESIGN CHOICE: the
cycles count from the moment at which the update begins, so a held START's wait is in none of them, and no stall (R108,
R138; log entry 143). -/
def noteUpdate (s : State) (n : Nat) : State :=
  let cyc := updateCycles s n
  let s := cw s n R.neUpdateCycles (w64 (cyc % 2 ^ 32))
  cw s n R.neUpdateMax (w64 (max (cyc % 2 ^ 32) (crF s n R.neUpdateMax 0 32)))

/-- The whole update of step `t` on core `n`, or its part before the load that meets an uncorrectable error, which faults
the job (R39, R106 to R108, R135, R172). -/
def runUpdate (s : State) (n : Nat) (t : BitVec 32) (ue : Option BadLoad) : State :=
  let spec := ovbOn s n && commitStep s n ≠ t - 1
  let s := upCore s n fun c => { c with
    loadedStep := t, loaded := [], dirty := [], retained := [], record := [], startHeld := none, rolled := false
    splitCnt := (List.range 16).foldl (fun m k => Sparse.set (fun _ => 0) m (k * 4 + t.toNat % 4) 0) c.splitCnt }
  let s := if spec then cwB (cbump s n R.ovbSpecSteps 1) n R.ovbStatus 0 true else cwB s n R.ovbStatus 0 false
  let x := (List.range 16).foldl (updatePop n t ue) { s := s }
  if x.dead then engineLost x.s n t ((ue.map fun u => Lost.mem u.word).getD .none)
  else
    let s := noteUpdate (writeBehind n t x.s x.behind) n
    let s := upCore s n fun c => { c with doneDue := c.doneDue ++ [t] }
    cwB s n R.coreStatus 3 (!(core s n).emitQ.isEmpty)

/-- The update last begun still stalls on the emit buffer (R94, R109). -/
def updateStalled (s : State) (n : Nat) : Bool := (core s n).emitQ.length > 64

/-- The membrane reads of step `t` have been answered, or need not be (R184). -/
def mreadDone (s : State) (n : Nat) (t : BitVec 32) : Bool :=
  !crB s n R.ovbConfig 0 || (t - BitVec.ofNat 32 (crF s n R.ovbConfig 32 32)).toInt < 0 ||
    (match (core s n).mread with
     | some m => (m - t).toInt ≥ 0
     | none => false)

/-- Update `t` may begin: no update stalls (R109), plasticity of t - 2 is complete (R158), a home core has COMMIT(t - 1)
and its split groups (R41), the membrane reads of t - 2 are answered (R184), and no rollback waits (R179). -/
def mayUpdate (s : State) (n : Nat) (t : BitVec 32) : Bool :=
  !updateStalled s n && (plasStep s n - (t - 2)).toInt ≥ 0
    && (!isHome s n || (commitStep s n = t - 1 && splitComplete s n t))
    && mreadDone s n (t - 2) && (core s n).dirty.isEmpty

/-- START(t) arrives: it is recorded, and its update begins or is held (R41, R76, R109, R158). -/
def startUpdate (s : State) (n : Nat) (t : BitVec 32) (ue : Option BadLoad) : State :=
  let s := cwF s n R.coreStep 0 32 t.toNat
  if mayUpdate s n t then runUpdate s n t ue else upCore s n fun c => { c with startHeld := some t }

/-! ### Rollback (R176 to R181) -/

/-- Load of a dirty neuron for a rerun: its late sum joins the retained sum (R176). -/
def rerunLoad (s : State) (n i : Nat) (t : BitVec 32) : Int × State :=
  let r := Sparse.get (fun _ => 0) (core s n).retained i + slot s n i t
  let s := setSlot s n i t 0
  let s := upCore s n fun c => { c with dirty := c.dirty.erase i, retained := Sparse.set (fun _ => 0) c.retained i r }
  (r.toInt, if satHit r.toInt 24 then cbump s n R.neInputSat 1 else s)

/-- Compare a rerun's emission with the record, and send what Table 7-2 gives (R177, R178). -/
def revise (n q k : Nat) (t : BitVec 32) (g : GroupCtx) (s : State) (l : Lane) : State :=
  let old := Sparse.get (fun _ => 0) (core s n).record l.nid
  let s := stN s (stateAddr n l.nid false) (stateBytes l.r)
  let first := fld (g.w 4) 1 12
  let s :=
    if old = l.emission then s
    else
      let s := cbump s n R.ovbDecisionsChanged 1
      let s := if old ≠ 0 then pushEmit s n 1 (q * 256 + k) (emissionFlits s n q l.nid first t (old ≥ 2) (old - 2) true) else s
      if l.emission ≠ 0
      then pushEmit s n 2 (q * 256 + k) (emissionFlits s n q l.nid first t (l.emission ≥ 2) (l.emission - 2) false) else s
  recordEmission (cbump s n R.ovbRollbackNeurons 1) n l.nid t l.emission

/-- Load every dirty neuron of a group. -/
def rerunGroupLoad (n : Nat) (t : BitVec 32) : List Nat → State → List (Nat × Int) × State
  | [], s => ([], s)
  | i :: r, s =>
    let a := rerunLoad s n i t
    let b := rerunGroupLoad n t r a.2
    ((i, a.1) :: b.1, b.2)

/-- Write-back and revision of the group behind (R176, R177). -/
def reviseBehind (n : Nat) (t : BitVec 32) (s : State) : Option Behind → State
  | some x => x.lanes.foldl (revise n x.q x.k t x.g) s
  | none => s

/-- Load and execution of the dirty neurons `l` of a group (R176). -/
def rerunExec (n q : Nat) (t : BitVec 32) (s : State) (k : Nat) (l : List Nat) : State × Behind :=
  let g := groupCtx s n q t
  let prog := Sparse.get (fun _ => []) (core s n).progs q
  let ld := rerunGroupLoad n t l s
  let s := ld.2
  let ls := ld.1.map fun p => runLane g (xinOf s n p.1 g) prog 0 (laneInit p.1 (loadState s (stateAddr n p.1 true)) p.2)
  let s := countLanes s n ls
  (if prog.isEmpty then cbump s n R.neBadOp 1 else s, ⟨q, k, g, ls⟩)

/-- One group of a rollback pass, its load before the write-back of the group behind; a group with no dirty neuron is skipped
and costs nothing (R107, R176, R181). -/
def rerunGroup (n q : Nat) (t : BitVec 32) (x : Flow × Nat) (k : Nat) : Flow × Nat :=
  let s := x.1.s
  let g := groupCtx s n q t
  let l := (groupNeurons s n g k).filter fun i => (core s n).dirty.contains i
  if l.isEmpty then x
  else
    let y := rerunExec n q t s k l
    ({ s := reviseBehind n t y.1 x.1.behind, behind := some y.2 },
     x.2 + max (progCost g.graded (Sparse.get (fun _ => []) (core s n).progs q)) 4)

/-- One rollback pass for the loaded step (R176, R181). -/
def rollbackPass (s : State) (n : Nat) : State :=
  let t := (core s n).loadedStep
  let r := (List.range 16).foldl (fun (x : Flow × Nat) q =>
    let g := groupCtx x.1.s n q t
    if bitAt (g.w 4) 0 then (List.range (cdiv (fld (g.w 4) 13 12 + 1) 16)).foldl (rerunGroup n q t) x else x)
    (({ s := s } : Flow), 8)
  let s := reviseBehind n t r.1.s r.1.behind
  let s := cbump (cbump s n R.ovbPasses 1) n R.ovbRerunCycles r.2
  -- A dirty neuron that no population holds any more cannot rerun; its bit goes with the pass.
  upCore s n fun c => { c with dirty := [] }

/-- A counted flit of core `n` with this tag waits in its router's local input (R49, R94, R179). -/
def inRouter (s : State) (n tag : Nat) : Bool :=
  (List.range 4).any fun q => (buf s n 4 q).any fun h => isCounted h.f && fStep h.f = tag

/-- A rollback of the loaded step is pending: a dirty bit is set, a pass stalls, or a flit of a pass has not left the
router. Such flits are the last of their tag there (R179, R199). -/
def rollbackPending (s : State) (n : Nat) : Bool :=
  let c := core s n
  !c.dirty.isEmpty || (c.emitQ.any fun e => e.kind ≠ 0) || (c.rolled && inRouter s n (c.loadedStep.toNat % 4))

/-- Clear the structures of Table 7-1 (R185). -/
def clearOvb (s : State) (n : Nat) : State :=
  upCore s n fun c => { c with
    loadedStep := 0xFFFFFFFF, loaded := [], dirty := [], retained := [], record := [], rolled := false }

end Sys2Proof.Machine
end

