-- ==== Sys2Proof/Machine/Plasticity.lean ====
section
/-! DEFINITION. On-chip learning: plasticity entries, the three rules, modulators and snapshots (R149 to R168, R476). -/
namespace Sys2Proof.Machine

/-- A plasticity entry (Table 6-1): words W0, W1 and W2. -/
structure PlasEntry where
  w0 : W64
  w1 : W64
  w2 : W64
  deriving DecidableEq, Repr

def plasEntry (s : State) (n k : Nat) : PlasEntry :=
  let a := scratch n (crF s n R.plasConfig 0 15 + 64 * k)
  ⟨w64 (ldU s a 8), w64 (ldU s (a + 8) 8), w64 (ldU s (a + 16) 8)⟩

def PlasEntry.valid (e : PlasEntry) : Bool := bitAt e.w0 0
def PlasEntry.desc (e : PlasEntry) : Nat := fld e.w0 1 4
/-- 0 pair STDP, 1 triplet-lite, 2 three-factor, 3 reserved. -/
def PlasEntry.rule (e : PlasEntry) : Nat := fld e.w0 5 2
def PlasEntry.modWait (e : PlasEntry) : Bool := bitAt e.w0 7
def PlasEntry.modDefault (e : PlasEntry) : Int := sx 8 (fld e.w0 8 8)
def PlasEntry.preBase (e : PlasEntry) : Nat := fld e.w0 16 15
def PlasEntry.postBase (e : PlasEntry) : Nat := fld e.w0 32 15
def PlasEntry.post2Base (e : PlasEntry) : Nat := fld e.w0 48 15
def PlasEntry.preDecay (e : PlasEntry) : Nat := fld e.w1 0 8
def PlasEntry.postDecay (e : PlasEntry) : Nat := fld e.w1 8 8
def PlasEntry.post2Decay (e : PlasEntry) : Nat := fld e.w1 16 8
def PlasEntry.preInc (e : PlasEntry) : Nat := fld e.w1 24 8
def PlasEntry.postInc (e : PlasEntry) : Nat := fld e.w1 32 8
def PlasEntry.post2Inc (e : PlasEntry) : Nat := fld e.w1 40 8
def PlasEntry.aPlus (e : PlasEntry) : Nat := fld e.w2 0 8
def PlasEntry.aMinus (e : PlasEntry) : Nat := fld e.w2 8 8
def PlasEntry.a3 (e : PlasEntry) : Nat := fld e.w2 16 8
def PlasEntry.wMin (e : PlasEntry) : Int := sx 8 (fld e.w2 24 8)
def PlasEntry.wMax (e : PlasEntry) : Int := sx 8 (fld e.w2 32 8)
def PlasEntry.lrShift (e : PlasEntry) : Nat := fld e.w2 40 5

/-- The entry still meets R149 and R150 in the respects R476 names. -/
def plasGood (s : State) (n : Nat) (e : PlasEntry) : Bool :=
  let a := descA s n e.desc
  let base := dBase (descB s n e.desc)
  dValid a && dPlastic a && dWidth a = 2 && e.rule ≠ 3 && 0x38000 ≤ base && base + dRows a * dStride a ≤ 0x40000

/-- Rows of an entry, as global row numbers. -/
def entryRows (s : State) (n : Nat) (e : PlasEntry) : List Nat :=
  let a := descA s n e.desc
  (List.range (dRows a)).map (dRowFirst a + ·)

/-- Rows pending from entry `k` on (R159): those of every valid entry that R476 does not skip. -/
def rowsFrom (s : State) (n k : Nat) : List Nat :=
  ((List.range 4).filter (k ≤ ·)).flatMap fun i =>
    let e := plasEntry s n i
    if e.valid && plasGood s n e then entryRows s n e else []

/-- What the rounding draws of step `t` on core `n` are keyed by (R145, R154). -/
def plasHash (s : State) (n : Nat) (t : BitVec 32) (index stream : Nat) : Nat :=
  let j := jobOf s (coreBreath s n)
  hash32 j.seed t.toNat j.pkg n index stream

/-- The weight change of one synapse (R154): the new code when it is written, and whether the clamp caught it. -/
def synapse (e : PlasEntry) (mod : Int) (hash : Nat → Nat) (off : Nat) (code mpre mpost xd yd y2d : Nat) :
    Option (Nat × Bool) :=
  let w := min (max (weightValue 8 code) e.wMin) e.wMax
  let aeff : Int := if e.rule = 1 then (e.aPlus : Int) + asr ((e.a3 * y2d : Nat) : Int) 8 else e.aPlus
  let p := (mpost : Int) * xd * aeff * (e.wMax - w)
  let d := (mpre : Int) * yd * e.aMinus * (w - e.wMin)
  let x := (p - d) * mod
  if x = 0 then none
  else
    let wn := w + sr x e.lrShift (hash off)
    some (ux 8 (min (max wn e.wMin) e.wMax), wn < e.wMin || wn > e.wMax)

/-- A trace after its increment (R154, rnd = 1). -/
def traceInc (d inc m : Nat) : Nat := if m > 0 then min (d + (rnd ((inc * m : Nat) : Int) 8).toNat) 255 else min d 255

/-- A trace after its decay (R154). -/
def traceDecay (v decay hash : Nat) : Nat := (sr ((v * decay : Nat) : Int) 8 hash).toNat

/-- Decayed traces, amounts and what else one entry's pass holds. -/
structure PlasPass where
  mod : Int
  xd : List Nat
  yd : List Nat
  y2d : List Nat
  mpre : List Nat
  mpost : List Nat
  deriving DecidableEq, Repr

/-- m_pre of a recorded sum (R152). -/
def mPre (v : Int) : Nat := (min (max v 0) 256).toNat

/-- The decays and the records that one entry's pass starts from (R152 to R154). -/
def plasPass (s : State) (n : Nat) (t : BitVec 32) (e : PlasEntry) (mod : Int) : PlasPass :=
  let a := descA s n e.desc
  let h := plasHash s n t
  let tr (base i : Nat) : Nat := (ldB s (scratch n ((base + i) % 0x8000))).toNat
  { mod := mod
    xd := (List.range (dRows a)).map fun r => traceDecay (tr e.preBase r) e.preDecay (h (dRowFirst a + r) 0x80)
    yd := (List.range (dCols a)).map fun j => traceDecay (tr e.postBase j) e.postDecay (h (dColFirst a + j) 0x81)
    y2d := (List.range (dCols a)).map fun j =>
      if e.rule = 1 then traceDecay (tr e.post2Base j) e.post2Decay (h (dColFirst a + j) 0x82) else 0
    mpre := (List.range (dRows a)).map fun r =>
      mPre (Sparse.get (fun _ => 0) (core s n).pre ((dRowFirst a + r) * 4 + t.toNat % 4))
    mpost := (List.range (dCols a)).map fun j =>
      Sparse.get (fun _ => 0) (core s n).post ((dColFirst a + j) * 2 + t.toNat % 2) }

/-- R155 skips the row: none of its weights can change. -/
def rowSkipped (e : PlasEntry) (p : PlasPass) (r : Nat) : Bool :=
  (p.mpre.getD r 0 = 0 && (p.xd.getD r 0 = 0 || p.mpost.all (· = 0))) || (e.rule = 2 && p.mod = 0)

/-- The weights of one processed row, column by column (R154). -/
def plasRow (n : Nat) (e : PlasEntry) (p : PlasPass) (hash : Nat → Nat) (rowOff r : Nat) : List Nat → State → State
  | [], s => s
  | j :: js, s =>
    let o := rowOff + j
    match synapse e p.mod hash (o - 0x38000) (ldB s (coreBase n + o)).toNat (p.mpre.getD r 0) (p.mpost.getD j 0)
        (p.xd.getD r 0) (p.yd.getD j 0) (p.y2d.getD j 0) with
    | none => plasRow n e p hash rowOff r js s
    | some (c, clamped) =>
      let s := cbump (stB s (coreBase n + o) (BitVec.ofNat 8 c)) n R.plasWrites 1
      plasRow n e p hash rowOff r js (if clamped then cbump s n R.plasClamped 1 else s)

/-- The traces after the step (R154, R155: every trace moves in every step). -/
def plasTraces (n : Nat) (e : PlasEntry) (p : PlasPass) (s : State) : State :=
  let put (base inc : Nat) (ds ms : List Nat) (s : State) : State :=
    (List.range ds.length).foldl (fun s i =>
      stB s (scratch n ((base + i) % 0x8000)) (BitVec.ofNat 8 (traceInc (ds.getD i 0) inc (ms.getD i 0)))) s
  let s := put e.preBase e.preInc p.xd p.mpre s
  let s := put e.postBase e.postInc p.yd p.mpost s
  if e.rule = 1 then put e.post2Base e.post2Inc p.y2d p.mpost s else s

/-- Cycles of one entry (Table 6-2). -/
def plasCost (e : PlasEntry) (rows cols processed : Nat) : Nat :=
  cdiv rows 16 + (if e.rule = 1 then 2 else 1) * cdiv cols 16 + processed * (cdiv cols 16 + 4)

/-- Add to the cycles of the running plasticity (R162). -/
def addPlasCycles (s : State) (n k : Nat) : State := upCore s n fun c => { c with plasCost := c.plasCost + k }

/-- One whole entry of step `t` (R154): rows, traces, the records consumed (R152), counters. -/
def plasEntryRun (s : State) (n : Nat) (t : BitVec 32) (e : PlasEntry) (mod : Int) : State :=
  let a := descA s n e.desc
  let p := plasPass s n t e mod
  let hash := fun o => plasHash s n t o 0x83
  let rows := (List.range (dRows a)).filter fun r => !rowSkipped e p r
  let exceeds := ((entryRows s n e).filter fun r =>
    let v := Sparse.get (fun _ => 0) (core s n).pre (r * 4 + t.toNat % 4)
    v < 0 || v > 256).length
  let s := rows.foldl (fun s r =>
    plasRow n e p hash (dBase (descB s n e.desc) + r * dStride a) r (List.range (dCols a)) s) s
  let s := plasTraces n e p s
  let s := cbump (cbump s n R.plasRows rows.length) n R.plasPreSat exceeds
  let s := addPlasCycles s n (plasCost e (dRows a) (dCols a) rows.length)
  let gone := entryRows s n e
  let units := rows.map fun r => (dBase (descB s n e.desc) + r * dStride a, dStride a)
  upCore s n fun c => { c with
    pre := Sparse.clear c.pre fun k => k % 4 = t.toNat % 4 && gone.contains (k / 4), plasUnits := c.plasUnits ++ units }

/-- The modulator that a three-factor entry of step `t` uses now: none while it must wait (R156). -/
def modFor (s : State) (n : Nat) (t : BitVec 32) (e : PlasEntry) : Option Int × State :=
  if crF s n R.plasMod 32 32 = t.toNat then (some (sx 8 (crF s n R.plasMod 0 8)), s)
  else if e.modWait then (none, s)
  else
    let s := cbump s n R.plasModMissing 1
    let s := if assigned s n then lateInput s (coreBreath s n) else s
    (some e.modDefault, upCore s n fun c => { c with modDefault := some t })

/-- Run the entries from `k` on, until one waits for its modulator (R154, R156, R157, R476). -/
def plasEntries (n : Nat) (t : BitVec 32) : List Nat → State → State
  | [], s => upCore s n fun c => { c with plasNext := 4, pendingRows := [] }
  | k :: ks, s =>
    let e := plasEntry s n k
    let s := upCore s n fun c => { c with plasNext := k }
    if ¬ e.valid then plasEntries n t ks s
    else
      let s := cwF s n R.plasStatus 4 2 k
      if ¬ plasGood s n e then plasEntries n t ks (addPlasCycles (cbump s n R.plasBadEntry 1) n 1)
      else
        let m := if e.rule = 2 then modFor s n t e else (some 1, s)
        match m.1 with
        | none =>
          let rows := rowsFrom m.2 n k
          upCore (cwB m.2 n R.plasStatus 2 true) n fun c => { c with pendingRows := rows }
        | some v =>
          let last := (entryRows m.2 n e).getLast?.getD 0
          let s := plasEntryRun m.2 n t e v
          plasEntries n t ks (cwF s n R.plasStatus 8 12 last)

/-- `PLAS_STATUS` and what the core keeps of the running step, as the plasticity of step `t` starts. -/
def plasOpens (s : State) (n : Nat) (t : BitVec 32) (rows : List Nat) (cost : Nat) : State :=
  let left := (core s n).commitsHeld.erase t
  upCore (cw s n R.plasStatus (w64 (1 + b2n (!left.isEmpty) * 2 + t.toNat * 2 ^ 32))) n fun c => { c with
    pendingRows := rows, plasNext := 0, commitsHeld := left, plasCost := cost, plasUnits := [] }

/-- Plasticity of step `t` starts: 8 setup cycles, then the entries (R157, R159). -/
def plasBegin (s : State) (n : Nat) (t : BitVec 32) : State :=
  plasEntries n t [0, 1, 2, 3] (plasOpens s n t (rowsFrom s n 0) 8)

/-- The last weight and trace of the running step are written. -/
def plasFinished (s : State) (n : Nat) : Bool := plasActive s n && (core s n).plasNext = 4

/-- Plasticity of the running step is complete: `PLAS_STEP`, the cost, the snapshot hold (R157, R162, R165). `refused` are
the cycles in which the engine was refused a bank, which `BANK_CONFLICT4` counts too (R105, R162). -/
def plasComplete (s : State) (n refused : Nat) : State :=
  let t := plasRun s n
  let s := cwF (cbump s n (R.bankConflict 4) refused) n R.plasStep 0 32 t.toNat
  let s := cw s n R.plasCycles (w64 (((core s n).plasCost + refused) % 2 ^ 32))
  let s := cwB s n R.plasStatus 0 false
  let s := cw s n R.plasCyclesMax (w64 (max (crF s n R.plasCyclesMax 0 32) (crF s n R.plasCycles 0 32)))
  let s := upCore s n fun c => { c with
    pre := Sparse.clear c.pre fun k => k % 4 = t.toNat % 4
    post := Sparse.clear c.post fun k => k % 2 = t.toNat % 2
    plasNext := 0, pendingRows := [], plasUnits := [] }
  match (core s n).snapshot with
  | some (_, q) => if q = t then cwB s n R.plasStatus 3 true else s
  | none => s

/-- Plasticity of step `t` starts; a core with no valid entry completes it at once, at no cost (R157). -/
def plasStart (s : State) (n : Nat) (t : BitVec 32) : State :=
  if (List.range 4).any fun k => (plasEntry s n k).valid then plasBegin s n t
  else plasComplete (plasOpens s n t [] 0) n 0

/-- COMMIT(t) reaches the Plasticity Engine: it starts, or is held while step t - 1 is not complete or a snapshot is
streamed (R157, R165). DESIGN CHOICE: `COMMIT_HELD` shows either hold (log entry 145). -/
def plasCommit (s : State) (n : Nat) (t : BitVec 32) : State :=
  if plasStep s n = t - 1 ∧ ¬ plasActive s n ∧ ¬ crB s n R.plasStatus 3 then plasStart s n t
  else cwB (upCore s n fun c => { c with commitsHeld := c.commitsHeld ++ [t] }) n R.plasStatus 1 true

/-- A write of `PLAS_MOD` for step `u` is late (R156). -/
def modLate (s : State) (n : Nat) (u : BitVec 32) : Bool :=
  !(plasActive s n && crB s n R.plasStatus 2 && plasRun s n = u)
    && ((core s n).modDefault = some u || (plasStep s n - u).toInt ≥ 0)

/-- `PLAS_MOD` is written with `VALUE` `v` for step `u` (R156, R252). -/
def writeMod (s : State) (n v : Nat) (u : BitVec 32) : State :=
  let s := if modLate s n u then
      let s := cbump s n R.plasModLate 1
      if assigned s n then lateInput s (coreBreath s n) else s
    else s
  cw s n R.plasMod (w64 (v % 256 + u.toNat * 2 ^ 32))

/-- The entry that waits for its modulator can go on (R156). -/
def modArrived (s : State) (n : Nat) : Bool :=
  plasActive s n && crB s n R.plasStatus 2 && crF s n R.plasMod 32 32 = (plasRun s n).toNat

/-- The waiting entry goes on after `cycles` cycles of waiting, and the entries after it (R156, R162). -/
def modGo (s : State) (n cycles : Nat) : State :=
  let k := (core s n).plasNext
  plasEntries n (plasRun s n) ((List.range 4).filter (k ≤ ·)) (cwB (addPlasCycles s n cycles) n R.plasStatus 2 false)

end Sys2Proof.Machine
end

