-- ==== Sys2Proof/Machine/Queues.lean ====
section
/-! DEFINITION. Hardware queues and synchronisation objects: the shared operations (R229 to R268). -/
namespace Sys2Proof.Machine

/-! ### The queue table (R229 to R232) -/

def qAddr (s : State) (n q : Nat) : Nat := scratch n (crF s n R.qConfig 0 15 + 32 * q)
/-- Word k of entry q. -/
def qw (s : State) (n q k : Nat) : W64 := w64 (ldU s (qAddr s n q + 8 * k) 8)
def setQw (s : State) (n q k : Nat) (v : W64) : State := stU s (qAddr s n q + 8 * k) 8 v.toNat
/-- 0 CLOSED, 1 OPEN, 2 DRAINING. -/
def qState (s : State) (n q : Nat) : Nat := fld (qw s n q 0) 0 2
def setQState (s : State) (n q v : Nat) : State := setQw s n q 0 (putFld (qw s n q 0) 0 2 v)
/-- 0 ring, 1 operand, 2 combining. -/
def qKind (s : State) (n q : Nat) : Nat := fld (qw s n q 0) 2 2
def qEpoch (s : State) (n q : Nat) : Nat := fld (qw s n q 0) 4 8
def qJob (s : State) (n q : Nat) : Nat := fld (qw s n q 0) 23 8
def ringSize (s : State) (n q : Nat) : Nat := 2 ^ fld (qw s n q 0) 12 5
def ringAddr (s : State) (n q : Nat) : Nat := fld (qw s n q 1) 0 48
def qResv (s : State) (n q : Nat) : Nat := fld (qw s n q 2) 0 25
def qHead (s : State) (n q : Nat) : Nat := fld (qw s n q 2) 32 25
def qReady (s : State) (n q : Nat) : Nat := fld (qw s n q 3) 0 25
def setResv (s : State) (n q v : Nat) : State := setQw s n q 2 (putFld (qw s n q 2) 0 25 v)
def setHead (s : State) (n q v : Nat) : State := setQw s n q 2 (putFld (qw s n q 2) 32 25 v)
def setReady (s : State) (n q v : Nat) : State := setQw s n q 3 (putFld (qw s n q 3) 0 25 v)
/-- Lanes of a combining queue. -/
def combLanes (s : State) (n q : Nat) : Nat := fld (qw s n q 1) 0 6 + 1
def combBank (s : State) (n q b : Nat) : Nat := scratch n (fld (qw s n q 1) 32 15 + 256 * b)

/-- The queue that local index `r` names: a combining queue also answers for the lanes after its own index (R231). -/
def combOf (s : State) (n r : Nat) : Option Nat :=
  (List.range (r + 1)).find? fun q => qKind s n q = 2 && qState s n q ≠ 0 && r < q + combLanes s n q

/-! ### Ring records -/

/-- A core's Queue/DMA unit reaches the address: core memories and tagged memory. Banks 58 to 63 it does not: flits reach banks
62 and 63 only through the Breath controller, and no ring lies in the others (R30, R319). -/
def ringReach (s : State) (a : Nat) : Bool :=
  match regionOf s a with
  | .coreMem _ _ | .ddr | .hubTagged => true
  | _ => false

/-- A read of a ring's bytes, where the ring lies. -/
def ringLd (s : State) (n q o k : Nat) : Nat :=
  let a := ringAddr s n q + o % ringSize s n q
  if ringReach s a then ldU s a k else 0

/-- A write into a ring at byte offset `o`: core memory directly; tagged memory as whole blocks with fresh tags, unless
ownership or the map forbids it, which faults the job (R315, R347, R345; Table 15-5). -/
def ringSt (s : State) (n q o : Nat) (l : List Byte) : State :=
  let a := ringAddr s n q + o % ringSize s n q
  match regionOf s a with
  | .coreMem _ _ => stN s a l
  | .ddr | .hubTagged =>
    let f := ((granuleOf s a).map (flagOf s)).getD 0
    if f = 1 ∨ f = 3 then raiseJob (ownDeviceFault s) (qJob s n q) 0x08
    else stTagged (qJob s n q) false (l.length / 256 + 2) s a l
  | _ => raiseJob s (qJob s n q) 0x09

/-- Bytes of the record at ring pointer `p`: a PAD covers `LENGTH`, another `UNITS_M1` + 1 units (Table 9-6). -/
def recBytes (s : State) (n q p : Nat) : Nat :=
  if bitAt (w64 (ringLd s n q p 8)) 1 then ringLd s n q (p + 16) 4 else (fld (w64 (ringLd s n q p 8)) 8 7 + 1) * 32
def recPad (s : State) (n q p : Nat) : Bool := bitAt (w64 (ringLd s n q p 8)) 1

/-- Complete messages from ring pointer `p` to `READY`, PAD records not counted (Table 9-14). -/
def countRecs (s : State) (n q : Nat) : Nat → Nat → Nat
  | 0, _ => 0
  | k + 1, p =>
    if p = qReady s n q then 0
    else b2n (!recPad s n q p) + countRecs s n q k ((p + recBytes s n q p) % (2 * ringSize s n q))

/-! ### The status word (R257) -/

def statAddr (s : State) (n q : Nat) : Nat := scratch n (crF s n R.qConfig 16 15 + 4 * q)
def qStat (s : State) (n q : Nat) : W64 := w64 (ldU s (statAddr s n q) 4)

/-- Rewrite the status word; `inc` deliveries or releases are added to its count, and `over` sets OVERRUN (Table 9-14). -/
def noteQ (s : State) (n q inc : Nat) (exceeds : Bool) : State :=
  let old := qStat s n q
  let kind := qKind s n q
  let held := (core s n).combHeld.filter fun h => h.1 = q
  let ready := if kind = 0 then qReady s n q ≠ qHead s n q else if kind = 2 then !held.isEmpty else false
  let full := if kind = 0 then (core s n).grantWait.any fun w => w.q = q
    else if kind = 1 then (core s n).opWait.any fun w => w.q = q else false
  let bank := match held with
    | h :: _ => h.2
    | [] => 0
  let count := if kind = 0 then min (countRecs s n q (2 * ringSize s n q / 32 + 1) (qHead s n q)) 0xFFFF
    else (fld old 16 16 + inc) % 65536
  stU s (statAddr s n q) 4 (qState s n q + b2n ready * 4 + b2n full * 8 + bank * 16 + b2n (bitAt old 5 || exceeds) * 32
    + qEpoch s n q * 256 + count * 65536)

/-! ### Synchronisation objects (R259 to R263) -/

def objAddr (s : State) (n o : Nat) : Nat := scratch n (crF s n R.qConfig 32 15 + 16 * o)
def obj (s : State) (n o : Nat) : W64 := w64 (ldU s (objAddr s n o) 8)
def setObj (s : State) (n o : Nat) (w : W64) : State := stU s (objAddr s n o) 8 w.toNat

/-- `QOP_RESULT`: a code, and the object value or status word (R256). -/
def qopResult (s : State) (n code v : Nat) : State := cw s n R.qopResult (w64 (code % 16 + v % 2 ^ 32 * 2 ^ 32))

/-- Engine `e` waits or polls. -/
def waiting (s : State) (n e : Nat) : Bool := crB s n (R.waitState e) 5

/-- The condition of a WAIT with count `c` (R261). -/
def waitHolds (w : W64) (c : Nat) : Bool :=
  let v := fld w 16 16
  if fld w 0 2 = 0 then v ≥ c else if fld w 0 2 = 1 then v = 1
  else if fld w 0 2 = 2 then Nat.land v (fld w 32 16) = fld w 32 16 else false

/-- What a satisfied WAIT leaves of an object (R261). -/
def waitTake (w : W64) (c : Nat) : W64 :=
  if fld w 0 2 = 0 then putFld w 16 16 (fld w 16 16 - c)
  else if fld w 0 2 = 1 then (if c ≠ 0 then putFld w 16 16 0 else w) else putFld w 16 16 0

/-- Engine `e`'s wait ends with a result code; the outcome of the sequencer's operations stands in `QOP_RESULT`. -/
def endWait (s : State) (n e code v : Nat) : State :=
  let o := crF s n (R.waitState e) 0 5
  let s := if crB s n (R.waitState e) 7 then s else setObj s n o (clrBit (obj s n o) (10 + e))
  let s := cw s n (R.waitState e) 0
  let s := upCore s n fun c => { c with polls := Sparse.del c.polls e, waitFrom := Sparse.del c.waitFrom e }
  if e = 0 then qopResult s n code v else s

/-- Serve the waiters of object `o` in ascending engine ID, each against what the earlier left; a full barrier releases
every waiting party (R261). -/
def serveWaiters (n o : Nat) : List Nat → State → State
  | [], s => s
  | e :: es, s =>
    if waiting s n e && !crB s n (R.waitState e) 7 && crF s n (R.waitState e) 0 5 = o then
      let w := obj s n o
      let c := crF s n (R.waitState e) 16 16
      if waitHolds w c then
        if fld w 0 2 = 2 then
          -- A barrier: this party and every later one is released before VALUE is cleared.
          let rest := es.filter fun x => waiting s n x && !crB s n (R.waitState x) 7 && crF s n (R.waitState x) 0 5 = o
          let s := rest.foldl (fun s x => endWait s n x 0 (fld w 16 16)) (endWait s n e 0 (fld w 16 16))
          setObj s n o (putFld (obj s n o) 16 16 0)
        else serveWaiters n o es (endWait (setObj s n o (waitTake w c)) n e 0 (fld (waitTake w c) 16 16))
      else serveWaiters n o es s
    else serveWaiters n o es s

/-- SIGNAL on object `o` with count `c` by engine `e` (R260, R261): answers whether the object is valid. The cycle counter
of `STAMP_CYCLE` is a free value (log entry 1). -/
def signalObj (s : State) (n o c e : Nat) : Bool × State :=
  let w := obj s n o
  if ¬ bitAt w 3 then (false, s)
  else
    let v := fld w 16 16
    let lim := fld w 32 16
    let clamped := fld w 0 2 = 0 && v + c > lim
    let v' := if fld w 0 2 = 0 then min (v + c) lim else if fld w 0 2 = 1 then 1
      else if fld w 0 2 = 2 then Nat.lor v (2 ^ e) else v
    let s := setObj s n o (putFld (putFld w 16 16 v') 7 3 e)
    let f := freshValue s
    let s := stU (stU f.2 (objAddr s n o + 8) 4 (startStepOf s n).toNat) (objAddr s n o + 12) 4 (fld f.1 0 32)
    let s := cbump s n R.syncSignals 1
    let s := if clamped then cbump s n R.syncSat 1 else s
    (true, serveWaiters n o (List.range 6) s)

/-- The objects, waiter masks and waits of core `n` are frozen: its job is suspended, or a debug halt holds it (R263). -/
def frozen (s : State) (n : Nat) : Bool :=
  (core s n).halted || (assigned s n && brthState s (coreBreath s n) = 3)

/-- The Queue/DMA unit signals object `o` once; a frozen object takes the signal when the freeze ends (R260, R263; DEDUCED,
log entry 101). -/
def unitSignal (s : State) (n o : Nat) : State :=
  if frozen s n then upCore s n fun c => { c with sigHeld := c.sigHeld ++ [o] } else (signalObj s n o 1 5).2

/-- Signals held while core `n` was frozen are applied in their order (R263). -/
def thaw (s : State) (n : Nat) : State :=
  if frozen s n then s
  else (core s n).sigHeld.foldl (fun s o => (signalObj s n o 1 5).2) (upCore s n fun c => { c with sigHeld := [] })

/-- The same for every core of breath `j`'s job. -/
def thawJob (s : State) (j : Nat) : State :=
  (coresOf s j).foldl (fun s n => if (core s n).sigHeld.isEmpty then s else thaw s n) s

/-- The signal of a queue with `SIG_EN`, by the Queue/DMA unit (R243, R249). -/
def qSignal (s : State) (n q : Nat) : State :=
  let w := qw s n q 0
  if bitAt w 17 then unitSignal s n (fld w 18 5) else s

/-- An engine's reset leaves its objects ABANDONED, and every wait on them ends so (R262). -/
def abandon (s : State) (n e : Nat) : State :=
  (List.range 32).foldl (fun s o =>
    let w := obj s n o
    if bitAt w 3 && fld w 4 3 = e then
      (List.range 6).foldl (fun s x =>
        if waiting s n x && !crB s n (R.waitState x) 7 && crF s n (R.waitState x) 0 5 = o then endWait s n x 2 (fld w 16 16) else s)
        (setObj s n o (setBit w 2))
    else s) s

/-! ### Receiving: requests, grants, records (R238 to R245) -/

/-- ARG of a queue answer (R239). -/
def qArg (q seq : Nat) : Nat := q * 2 ^ 18 + seq % 65536 * 4

/-- Answer a sender, counting GRANTs, NACKs and DUPLICATEs (Table 9-4, Table 9-16). -/
def qAnswer (s : State) (n src code q seq : Nat) : State :=
  let s := if code = 0x10 then cbump s n R.qGrants 1 else if code = 0x17 then cbump s n R.qDup 1
    else cbump s n R.qNackSent 1
  coreSend s n (mkStatus src n code (qArg q seq))

/-- Sender table entry k (R244). -/
def sndAddr (s : State) (n q k : Nat) : Nat := scratch n (fld (qw s n q 3) 32 15 + 4 * k)
def snd (s : State) (n q k : Nat) : W64 := w64 (ldU s (sndAddr s n q k) 4)
def setSnd (s : State) (n q k src seq : Nat) : State :=
  stU s (sndAddr s n q k) 4 (src % 2048 + 2048 + seq % 65536 * 65536)
def sndCount (s : State) (n q : Nat) : Nat := fld (qw s n q 3) 48 4 + 1
def sndOf (s : State) (n q src : Nat) : Option Nat :=
  (List.range (sndCount s n q)).find? fun k => bitAt (snd s n q k) 11 && fld (snd s n q k) 0 11 = src
def sndFree (s : State) (n q : Nat) : Option Nat :=
  (List.range (sndCount s n q)).find? fun k => !bitAt (snd s n q k) 11

/-- Bytes that a message of `b` bytes needs: with the PAD record before it where it would wrap (R242). -/
def ringNeed (r resv b : Nat) : Nat := let toEnd := r - resv % r; if b ≤ toEnd then b else toEnd + b
/-- Bytes in use (R242). -/
def ringUsed (r resv head : Nat) : Nat := (resv + 2 * r - head) % (2 * r)
/-- The ring has space for a message of `b` bytes (R242). -/
def ringFits (s : State) (n q b : Nat) : Bool :=
  let r := ringSize s n q
  ringNeed r (qResv s n q) b ≤ r - ringUsed r (qResv s n q) (qHead s n q)

/-- `READY` moves over the complete records that follow it; answers how many messages it passed (R243). -/
def advanceReady (n q : Nat) : Nat → State → Nat → Nat × State
  | 0, s, k => (k, s)
  | fuel + 1, s, k =>
    let p := qReady s n q
    if (core s n).complete.contains (q, p) then
      let s := upCore s n fun c => { c with complete := c.complete.erase (q, p) }
      let pad := recPad s n q p
      advanceReady n q fuel (setReady s n q ((p + recBytes s n q p) % (2 * ringSize s n q))) (k + b2n (!pad))
    else (k, s)

/-- The signals of `k` new complete messages, one each (R243). -/
def qSignals (n q : Nat) : Nat → State → State
  | 0, s => s
  | k + 1, s => qSignals n q k (qSignal s n q)

/-- A record is complete: `READY`, the status word, the signals (R243). -/
def completeRec (s : State) (n q p : Nat) : State :=
  let s := upCore s n fun c => { c with complete := c.complete ++ [(q, p)] }
  let r := advanceReady n q (2 * ringSize s n q / 32 + 1) s 0
  qSignals n q r.1 (noteQ r.2 n q 0 false)

/-- Header bytes of a record. -/
def mkHeader (h0 h1 h2 : Nat) : List Byte := leBytes 8 h0 ++ leBytes 8 h1 ++ leBytes 8 h2 ++ leBytes 8 0

/-- A PAD record of `len` bytes at ring pointer `p`, complete at once (R242, R243). -/
def padRec (s : State) (n q p len : Nat) : State :=
  completeRec (ringSt s n q p (mkHeader 3 0 len)) n q p

/-- Reserve `b` bytes, writing the PAD record that R242 asks for; answers the record's ring pointer. -/
def reserve (s : State) (n q b : Nat) : Nat × State :=
  let r := ringSize s n q
  let p := qResv s n q
  let toEnd := r - p % r
  if b > toEnd then
    let p' := (p + toEnd) % (2 * r)
    (p', padRec (setResv s n q ((p' + b) % (2 * r))) n q p toEnd)
  else (p, setResv s n q ((p + b) % (2 * r)))

/-- Grant a request: reserve, record the sequence, answer GRANT (R242, R244). -/
def grant (s : State) (n : Nat) (w : QReq) : State :=
  let r := reserve s n w.q (32 * w.units)
  let s := upCore r.2 n fun c => { c with resv := c.resv ++ [⟨w.q, w.src, w.units, w.seq, r.1⟩] }
  let s := match sndOf s n w.q w.src with
    | some k => setSnd s n w.q k w.src w.seq
    | none => s
  qAnswer (noteQ s n w.q 0 false) n w.src 0x10 w.q w.seq

/-- A request can be granted now: a free reservation slot, space, and no older request of its queue waits (R238). -/
def grantable (s : State) (n : Nat) (w : QReq) : Bool :=
  (core s n).resv.length < 32 && ringFits s n w.q (32 * w.units)

/-- A queue request arrives (R238, R242, R244): STATE, kind, sender table, length, then grant, wait or busy. -/
def qreq (s : State) (n q src units seq : Nat) : State :=
  if qState s n q ≠ 1 then qAnswer s n src 0x12 q seq
  else if qKind s n q ≠ 0 then qAnswer s n src 0x18 q seq
  else
    let w : QReq := ⟨q, src, units, seq⟩
    let go (s : State) : State :=
      if 32 * units > ringSize s n q / 2 then qAnswer s n src 0x14 q seq
      else if (core s n).grantWait.any (fun x => x.q = q) || !grantable s n w then
        if (core s n).grantWait.length ≥ 32 then qAnswer s n src 0x11 q seq
        else noteQ (upCore s n fun c => { c with grantWait := c.grantWait ++ [w] }) n q 0 false
      else grant s n w
    match sndOf s n q src with
    | some k =>
      let d := (seq + 65536 - fld (snd s n q k) 16 16) % 65536
      if d = 0 ∨ d ≥ 32768 then qAnswer s n src 0x17 q seq else go s
    | none =>
      match sndFree s n q with
      | some k => go (setSnd s n q k src (seq + 65535))
      | none => qAnswer s n src 0x16 q seq

/-- A DRAINING queue with no record and no reservation left becomes CLOSED (R233). -/
def drainDone (s : State) (n q : Nat) : State :=
  let empty := if qKind s n q = 0 then qHead s n q = qResv s n q && !(core s n).resv.any (fun r => r.q = q)
    else if qKind s n q = 1 then !(core s n).opWait.any (fun w => w.q = q)
    else !(core s n).combHeld.any fun h => h.1 = q
  if qState s n q = 2 && empty then noteQ (setQState s n q 0) n q 0 false else s

/-- Bytes that body flits carry (R240). -/
def bodyBytes (l : List Flit) : List Byte := l.flatMap fun f => leBytes 4 (ff f 0 32)

/-- Fields of a DESC_HEAD (Table 9-5). -/
def hQidx (f : Flit) : Nat := ff f 39 6
def hEpoch (f : Flit) : Nat := ff f 31 8
def hUnits (f : Flit) : Nat := ff f 24 7 + 1
def hKind (f : Flit) : Nat := ff f 22 2

/-- A whole message arrives at ring queue `q`: checked against EPOCH and the granted SEQ, written at its place, completed;
or discarded with a PAD record over its reservation and NACK_EPOCH (R243, R244). One that has no reservation comes from
before a CLOSE, an OPEN or a restore, which void them: its epoch is not the queue's, and it is discarded and answered so
(R233, R267). DESIGN CHOICE: that of a queue which is CLOSED, or whose epoch it still names, is answered NACK_CLOSED (log
entry 146). -/
def queueMessage (s : State) (n : Nat) (head : Flit) (msg : List Byte) : State :=
  let q := hQidx head
  let src := fSrc head
  let seq := fld (w64 (leNat (msg.take 8))) 16 16
  if qKind s n q ≠ 0 then qAnswer s n src 0x18 q seq
  else
    match (core s n).resv.find? fun r => r.q = q && r.src = src with
    | none => qAnswer s n src (if qState s n q ≠ 0 ∧ hEpoch head ≠ qEpoch s n q then 0x13 else 0x12) q seq
    | some r =>
      let s := upCore s n fun c => { c with resv := c.resv.erase r }
      let bad := hEpoch head ≠ qEpoch s n q || seq ≠ r.seq
      let s := if bad then padRec (qAnswer s n src 0x13 q r.seq) n q r.at_ (32 * r.units)
        else
          let m := (msg ++ List.replicate (32 * r.units) 0).take (32 * r.units)
          let b0 := (m.headD 0) ||| 1
          completeRec (cbump (ringSt s n q r.at_ (b0 :: m.drop 1)) n R.qMsgIn 1) n q r.at_
      drainDone s n q

/-- An error record of one unit in the core's own queue 63 (R245, Table 9-9). -/
def errorRecord (s : State) (n src code dest seq : Nat) : State :=
  if qState s n 63 ≠ 1 ∨ qKind s n 63 ≠ 0 ∨ ¬ ringFits s n 63 32 then cbump s n R.qErrqDrop 1
  else
    let r := reserve s n 63 32
    let b := mkHeader (1 + 8 + src % 2048 * 2 ^ 32 + dest % 65536 * 2 ^ 48) (code % 256 + seq % 65536 * 65536) (nowNs s)
    completeRec (ringSt r.2 n 63 r.1 b) n 63 r.1

/-! ### Sending (R235 to R237, R245) -/

def bindAddr (s : State) (n b : Nat) : Nat := scratch n (crF s n R.qConfig 48 15 + 8 * b)
def binding (s : State) (n b : Nat) : W64 := w64 (ldU s (bindAddr s n b) 8)
def setBinding (s : State) (n b : Nat) (w : W64) : State := stU s (bindAddr s n b) 8 w.toNat

/-- A QREQ to queue `dest` (Table 9-2). -/
def mkQreq (dest units seq src : Nat) : Flit :=
  let d := dest / 64
  w64 (mkHead 0xA 0 false (d % 32) (d / 32 % 32) + 3 * 2 ^ 43 + dest % 64 * 2 ^ 37 + (units - 1) % 128 * 2 ^ 30
    + seq % 65536 * 2 ^ 14 + src % 2048 * 2)

/-- The flits of a message (Table 9-5): one head, and one body for each 4 bytes. -/
def messageFlits (dest epoch src kind : Nat) (msg : List Byte) : List Flit :=
  let d := dest / 64
  let u := cdiv msg.length 32
  w64 (mkHead 4 3 false (d % 32) (d / 32 % 32) + dest % 64 * 2 ^ 39 + epoch % 256 * 2 ^ 31 + (u - 1) % 128 * 2 ^ 24
      + kind * 2 ^ 22 + src % 2048 * 2)
    :: (List.range (8 * u)).map fun k =>
      w64 (mkHead 5 3 false (d % 32) (d / 32 % 32) + src % 2048 * 2 ^ 34 + leNat ((msg.drop (4 * k)).take 4))

/-- The message as it leaves: `SEQ`, `SRC` and `QUEUE` of its header are the sender's (Table 9-6). -/
def stampHeader (msg : List Byte) (seq src dest : Nat) : List Byte :=
  let h0 := w64 (leNat (msg.take 8))
  let h0 := putFld (putFld (putFld (clrBit h0 0) 16 16 seq) 32 11 src) 48 16 dest
  leBytes 8 h0.toNat ++ msg.drop 8

/-- The destination takes messages without a grant: its entry is an operand queue. DESIGN CHOICE: a binding does not
tell the kind of its queue, so the sender goes by the destination's entry (log entry 17). -/
def noGrant (s : State) (dest : Nat) : Bool := qKind s (dest / 64 % 1024) (dest % 64) = 1

/-- A send of core `n` ends: the binding's sequence moves on, and its object is signalled (R235, R237). -/
def sendDone (s : State) (n : Nat) (x : Send) : State :=
  let w := binding s n x.bind
  let s := setBinding s n x.bind (putFld w 24 16 (x.seq + 1))
  let s := upCore s n fun c => { c with sends := c.sends.erase x }
  if bitAt w 41 then unitSignal s n (fld w 42 5) else s

/-- The message leaves on VC3 (R237). -/
def sendMsg (s : State) (n : Nat) (x : Send) : State :=
  let s := coreSendAll n (messageFlits x.dest x.epoch n 0 (stampHeader x.msg x.seq n x.dest)) s
  sendDone (cbump s n R.qMsgOut 1) n x

/-- Begin the oldest send to each destination core that has none under way: a QREQ, or the message itself where no grant
is needed (R236, R237). A send not begun holds sequence 65,536. -/
def beginSends (n : Nat) : Nat → State → State
  | 0, s => s
  | k + 1, s =>
    let l := (core s n).sends
    match l.find? fun x => x.seq = 65536 && (l.find? fun y => y.dest / 64 = x.dest / 64) = some x with
    | none => s
    | some x =>
      let w := binding s n x.bind
      let y : Send := { x with seq := fld w 24 16, epoch := fld w 16 8 }
      let s := upCore s n fun c => { c with sends := c.sends.map fun z => if z = x then y else z }
      if noGrant s y.dest then beginSends n k (sendMsg s n y)
      else beginSends n k (coreSend s n (mkQreq y.dest (y.msg.length / 32) y.seq n))

/-- SEND on binding `b` of the message at scratch offset `off` (Table 9-12): answers the result code. -/
def sendOp (s : State) (n b off : Nat) : Nat × State :=
  let w := binding s n b
  if ¬ bitAt w 40 then (3, s)
  else if (core s n).sends.length ≥ 8 then (4, s)
  else
    let a := scratch n (off % 32768)
    let units := fld (w64 (ldU s a 8)) 8 7 + 1
    let x : Send := ⟨b, fld w 0 16, 65536, 0, ldN s a (32 * units), none⟩
    (0, beginSends n 8 (upCore s n fun c => { c with sends := c.sends ++ [x] }))

/-- A send of core `n` that the answer (queue index, sequence, responder) belongs to. -/
def sendOf (s : State) (n : Nat) (f : Flit) : Option Send :=
  (core s n).sends.find? fun x => x.dest = fSrc f * 64 + ff f 30 6 && x.seq = ff f 14 16

/-! ### Queue operations (R233, R243, R256) -/

/-- Void the reservations and waiting requests of a queue, answering NACK_CLOSED (Table 9-12). -/
def voidQ (s : State) (n q : Nat) (reservations : Bool) : State :=
  let c := core s n
  let s := upCore s n fun c => { c with
    grantWait := c.grantWait.filter fun w => w.q ≠ q
    resv := if reservations then c.resv.filter fun r => r.q ≠ q else c.resv }
  let s := (c.grantWait.filter fun w => w.q = q).foldl (fun s w => qAnswer s n w.src 0x12 q w.seq) s
  if reservations then (c.resv.filter fun r => r.q = q).foldl (fun s r => qAnswer s n r.src 0x12 q r.seq) s else s

/-- Forget what a queue holds inside the unit: records beyond READY, held banks, a pending delivery. -/
def forgetQ (s : State) (n q : Nat) : State :=
  upCore s n fun c => { c with
    complete := c.complete.filter fun r => r.1 ≠ q
    combHeld := c.combHeld.filter fun h => h.1 ≠ q
    opWait := c.opWait.filter fun w => w.q ≠ q
    untaken := c.untaken.filter fun x => x ≠ q
    resv := c.resv.filter fun r => r.q ≠ q
    grantWait := c.grantWait.filter fun w => w.q ≠ q }

/-- OPEN (R233): next epoch, everything emptied. -/
def openQ (s : State) (n q : Nat) : State :=
  let w := qw s n q 0
  let s := setQw s n q 0 (putFld (putFld w 0 2 1) 4 8 (fld w 4 8 + 1))
  let s := forgetQ s n q
  let s := if qKind s n q = 0 then
      let s := setReady (setHead (setResv s n q 0) n q 0) n q 0
      stZ s (sndAddr s n q 0) (4 * sndCount s n q)
    else if qKind s n q = 2 then
      stZ (stZ s (combBank s n q 0) (4 * combLanes s n q)) (combBank s n q 1) (4 * combLanes s n q)
    else s
  noteQ (stU s (statAddr s n q) 4 0) n q 0 false

/-- CLOSE (R233): closed at once; requests and reservations void, records discarded, the epoch unchanged. -/
def closeQ (s : State) (n q : Nat) : State :=
  let waits := (core s n).opWait.filter fun w => w.q = q
  let s := voidQ s n q true
  let s := waits.foldl (fun s w => qAnswer s n (fld (w64 (leNat (w.msg.take 8))) 32 11) 0x12 q
    (fld (w64 (leNat (w.msg.take 8))) 16 16)) s
  let s := forgetQ (setQState s n q 0) n q
  let s := if qKind s n q = 0 then setReady (setHead s n q (qResv s n q)) n q (qResv s n q) else s
  noteQ s n q 0 false

/-- DRAIN (R233): no new messages; closed by itself once empty. Only an OPEN queue drains: else BAD_STATE (log entry
18). -/
def drainQ (s : State) (n q : Nat) : Nat × State :=
  if qState s n q ≠ 1 then (3, s)
  else
    let s := voidQ (setQState s n q 2) n q false
    (0, drainDone (noteQ s n q 0 false) n q)

/-- Skip the PAD records at `HEAD` (R243). -/
def skipPads (n q : Nat) : Nat → State → State
  | 0, s => s
  | k + 1, s =>
    let p := qHead s n q
    if p ≠ qReady s n q ∧ recPad s n q p then
      skipPads n q k (setHead s n q ((p + recBytes s n q p) % (2 * ringSize s n q)))
    else s

/-- CONSUME (R243, Table 9-12): the record at `HEAD` and the PADs after it, or the oldest held bank, zeroed. With nothing
to consume: BAD_STATE (log entry 18). -/
def consumeQ (s : State) (n q : Nat) : Nat × State :=
  if qKind s n q = 0 then
    let p := qHead s n q
    if p = qReady s n q then (3, s)
    else
      let s := setHead s n q ((p + recBytes s n q p) % (2 * ringSize s n q))
      let s := skipPads n q (2 * ringSize s n q / 32 + 1) s
      (0, drainDone (noteQ s n q 0 false) n q)
  else if qKind s n q = 2 then
    match (core s n).combHeld.find? fun h => h.1 = q with
    | none => (3, s)
    | some h =>
      let s := stZ s (combBank s n q h.2) (4 * combLanes s n q)
      let s := upCore s n fun c => { c with combHeld := c.combHeld.erase h }
      (0, drainDone (noteQ s n q 0 false) n q)
  else (3, s)

/-- A wait of engine `e` begins: `WAIT_STATE`, its start, and whether it has a time limit (R261, R264). A POLL shows the low
five bits of its queue's index in `OBJ` (DESIGN CHOICE: the field holds no more; log entry 147). -/
def beginWait (s : State) (n e o c us : Nat) (poll : Bool) : State :=
  let s := cw s n (R.waitState e) (w64 (o % 32 + 32 + b2n poll * 128 + c % 65536 * 65536 + us % 2 ^ 24 * 2 ^ 40))
  upCore s n fun k => { k with waitFrom := Sparse.set (fun _ => 0) k.waitFrom e (nowNs s * 2 + b2n (us ≠ 0)) }

/-- INIT (Table 9-12, Table 9-13): TYPE, VALUE and LIMIT from W0; the owner; not ABANDONED, nobody waits. -/
def initObj (s : State) (n o : Nat) (w : W64) (e : Nat) : State :=
  setObj s n o (w64 (fld w 0 2 + 8 + e * 16 + fld w 16 16 * 65536 + fld w 32 16 * 2 ^ 32))

/-- WAIT (R261): the result code when it returns at once. -/
def waitObj (s : State) (n o c us e : Nat) : Option (Nat × Nat) × State :=
  let w := obj s n o
  if ¬ bitAt w 3 then (some (3, 0), s)
  else if bitAt w 2 then (some (2, fld w 16 16), s)
  else if waitHolds w c then
    let w' := waitTake w c
    let s := setObj s n o w'
    -- A full barrier releases every waiting party with this one.
    let s := if fld w 0 2 = 2 then (List.range 6).foldl (fun s x =>
        if waiting s n x && !crB s n (R.waitState x) 7 && crF s n (R.waitState x) 0 5 = o then endWait s n x 0 0 else s) s
      else s
    (some (0, fld w' 16 16), s)
  else (none, beginWait (setObj s n o (setBit w (10 + e))) n e o c us false)

/-- Status word AND mask equals the value (R258). -/
def pollHolds (s : State) (n q mask want : Nat) : Bool := Nat.land (qStat s n q).toNat mask = want

/-- One operation as `QOP_CMD` spells it (Table 9-12), by engine `e` or from port B. -/
def qop (s : State) (n : Nat) (cmd arg : W64) (e : Nat) (portB : Bool) : State :=
  let op := fld cmd 0 4
  let q := fld cmd 4 6
  let o := fld cmd 10 5
  let c := fld cmd 16 16
  if op ≥ 9 ∨ (portB ∧ 5 ≤ op) then qopResult s n 5 0
  else if op = 0 then let s := openQ s n q; qopResult s n 0 (qStat s n q).toNat
  else if op = 1 then let s := closeQ s n q; qopResult s n 0 (qStat s n q).toNat
  else if op = 2 then let r := drainQ s n q; qopResult r.2 n r.1 (qStat r.2 n q).toNat
  else if op = 3 then let r := consumeQ s n q; qopResult r.2 n r.1 (qStat r.2 n q).toNat
  else if op = 4 then let r := sendOp s n q (fld arg 0 15); qopResult r.2 n r.1 0
  else if op = 5 then
    if pollHolds s n q (fld arg 0 32) (fld arg 32 32) then qopResult s n 0 (qStat s n q).toNat
    else
      let s := beginWait s n e q 0 0 true
      upCore s n fun k => { k with polls := Sparse.set (fun _ => 0) k.polls e (q * 2 ^ 64 + arg.toNat + 1) }
  else if op = 6 then qopResult (initObj s n o arg e) n 0 (fld arg 16 16)
  else if op = 7 then
    let r := signalObj s n o c e
    qopResult r.2 n (if r.1 then 0 else 3) (fld (obj r.2 n o) 16 16)
  else
    match waitObj s n o c (fld arg 0 24) e with
    | (some r, s) => qopResult s n r.1 r.2
    | (none, s) => s

/-! ### Combining queues (R249 to R251) -/

/-- Release bank `b`: held, counted, signalled (R249). -/
def releaseBank (s : State) (n q b : Nat) : State :=
  let s := upCore s n fun c => { c with combHeld := c.combHeld ++ [(q, b)] }
  qSignal (noteQ (cbump s n R.combReleases 1) n q 1 false) n q

/-- QUEUE_OVERRUN (R250): `Q_FAULT`, the sticky bit, and the job's fault (Table 15-5). -/
def qOverrun (s : State) (n q : Nat) : State :=
  let s := cw s n R.qFault (w64 (1 + q * 256 + (startStepOf s n).toNat * 2 ^ 32))
  let s := noteQ s n q 0 true
  if assigned s n then raise s (coreBreath s n) 0x05 (startStepOf s n).toNat else s

/-- A REDUCE flit adds into its lane (R249, R250). -/
def combine (s : State) (n : Nat) (f : Flit) : State :=
  match combOf s n (fRid f) with
  | none => s
  | some q =>
    let b := fRStep f % 2
    if (core s n).combHeld.contains (q, b) then qOverrun s n q
    else
      let a := combBank s n q b + 4 * (fRid f - q)
      let s := stU s a 4 (ldU s a 4 + fValue f)
      let w1 := qw s n q 1
      if bitAt w1 6 then
        let c := ldU s (combBank s n q b + 4 * (combLanes s n q - 1)) 4
        if c = fld w1 16 16 then releaseBank s n q b else if c > fld w1 16 16 then qOverrun s n q else s
      else s

/-- COMMIT(t) releases bank t mod 2 of every barrier-mode queue (R43, R249); a core without queue structures has none
(log entry 36). -/
def combCommit (s : State) (n : Nat) (t : BitVec 32) : State :=
  if !queuesUsed s n then s else
  (List.range 64).foldl (fun s q =>
    if qKind s n q = 2 && qState s n q ≠ 0 && !bitAt (qw s n q 1) 6 && (combOf s n q = some q)
        && !(core s n).combHeld.contains (q, t.toNat % 2)
    then releaseBank s n q (t.toNat % 2) else s) s

/-! ### Core registers as engines and accesses see them -/

/-- `Q_STATUS` (Table 9-16). -/
def qStatusRead (s : State) (n : Nat) : W64 :=
  let c := core s n
  w64 (c.grantWait.length % 64 + c.resv.length % 64 * 256 + c.sends.length % 16 * 65536
    + b2n (!c.opWait.isEmpty) * 2 ^ 20 + c.binds.length % 16 * 2 ^ 24)

/-- An EXT port waits for the step that is loaded to be final (R180). -/
def extHeld (s : State) (n q : Nat) : Bool :=
  (crB s n R.ovbStatus 0 || rollbackPending s n)
    && (core s n).loadedStep = BitVec.ofNat 32 (fld (w64 (popWord s n (fld (qw s n q 1) 2 4) 6)) 32 32)

/-- The buffered emission on which the Neuron Engine stalls: the first that has no place among the 64 (R94). -/
def stalledOn (s : State) (n : Nat) : Option EmitEntry := (core s n).emitQ[64]?

/-- `CORE_STATUS` (Table 3-10). `INTAKE_BUSY` shows an event that waits for the Synapse Engine, `SPLIT_WAIT` a START that
R41 holds, `FWD_BUSY` split flits that wait at the local port (DESIGN CHOICE for the first and the last, whose condition the
table does not give: log entry 148). -/
def coreStatusRead (s : State) (n : Nat) : W64 :=
  let c := core s n
  let splitWait := match c.startHeld with
    | some t => isHome s n && !(commitStep s n = t - 1 && splitComplete s n t)
    | none => false
  putBit (putBit (putBit (cr s n R.coreStatus) 4 (c.rx.any fun f => fType f ≤ 1)) 5 splitWait)
    6 (s.mesh.offers.any fun o => o.node = n && fType o.f = 2)

/-- `OVB_STATUS` (Table 7-4): `SPEC` is kept, the rest shows the structures as they stand; before the first update no step
is loaded, and the register shows its reset value. -/
def ovbStatusRead (s : State) (n : Nat) : W64 :=
  let c := core s n
  let mreadHold := match c.startHeld with
    | some t => !mreadDone s n (t - 2)
    | none => false
  w64 (b2n (crB s n R.ovbStatus 0) + b2n (ovbOn s n && rollbackPending s n) * 2
    + b2n ((stalledOn s n).any fun e => e.kind ≠ 0) * 4 + b2n mreadHold * 8
    + b2n (c.opWait.any fun w => fld (qw s n w.q 1) 0 2 = 0 && extHeld s n w.q) * 16 + c.dirty.length % 8192 * 2 ^ 16
    + (if c.loaded.isEmpty && c.loadedStep = 0xFFFFFFFF then 0 else c.loadedStep.toNat) * 2 ^ 32)

/-- `NE_STATUS` (Table 4-6). While an update stalls, `POP` and `GROUP` are those of the emission that waits for a place; how
far the engine's program counter stands then is a free value, which the reader supplies (log entry 143). -/
def neStatusRead (s : State) (n : Nat) : W64 :=
  let held := b2n (core s n).startHeld.isSome * 2 ^ 25
  match stalledOn s n with
  | some e => w64 (e.group / 256 % 16 + e.group % 256 * 256 + fld (freshValue s).1 0 7 * 65536 + 2 ^ 24 + held)
  | none => w64 held

/-- A read of core register `r` (a multiple of 8). `QOP_CMD` is write-only and reads 0 (R10, R268). -/
def coreRegRead (s : State) (n r : Nat) : W64 :=
  if r = R.qStatus then qStatusRead s n else if r = R.coreStatus then coreStatusRead s n
  else if r = R.ovbStatus then ovbStatusRead s n else if r = R.neStatus then neStatusRead s n
  else if r = R.qopCmd then 0 else cr s n r

/-- The bits of a register that an access of this width writes (R9). -/
def widthMask : Width → W64
  | .whole => ones 63 0
  | .lowHalf => ones 31 0
  | .highHalf => ones 63 32
  | .other => 0

/-- The value of a register after a write: RW bits take the written value, W1C bits clear where 1 is written, all others
keep theirs (Table 0-6, R9, R10). -/
def writeBits (i : RegInfo) (old v : W64) (acc : Width) : W64 :=
  let m := widthMask acc
  let rw := i.rw &&& m
  let w1 := i.w1c &&& m &&& v
  ((old &&& ~~~ rw) ||| (v &&& rw)) &&& ~~~ w1

/-- A write of core register `r`: the effects of `QOP_CMD` and `PLAS_MOD`, else the access code (R9, R156, R256). -/
def coreRegStore (s : State) (n r : Nat) (acc : Width) (v : W64) (e : Nat) (portB : Bool) : State :=
  if r = R.qopCmd then
    (match acc with
     | .whole | .lowHalf => qop s n v (cr s n R.qopArg) e portB
     | _ => s)
  else if r = R.plasMod then
    let w := writeBits (coreInfo n r) (cr s n r) v acc
    match acc with
    | .whole | .highHalf => writeMod s n (fld w 0 8) (BitVec.ofNat 32 (fld w 32 32))
    | _ => cw s n r w
  else cw s n r (writeBits (coreInfo n r) (cr s n r) v acc)

/-! ### Operand delivery (R246 to R248, R252) -/

/-- The port of operand queue `q` is free (Table 9-10, R127, R180, R252). `taken` says that the Core Sequencer has read `REG`
since the last delivery: its program is no part of the block's state (log entry 100). -/
def portFree (s : State) (n q : Nat) (taken : Bool) : Bool :=
  let w1 := qw s n q 1
  let port := fld w1 0 2
  if port = 0 then
    let w6 := w64 (popWord s n (fld w1 2 4) 6)
    let ext := BitVec.ofNat 32 (fld w6 32 32)
    let held := (core s n).untaken.contains q
    (!held || (core s n).loadedStep = ext || (startStepOf s n - ext).toInt > 0) && !extHeld s n q
  else if port = 1 then true
  else
    let gate := fld w1 19 2
    if gate = 0 then true
    else if gate = 1 then !(core s n).untaken.contains q || (plasStep s n - BitVec.ofNat 32 (crF s n R.plasMod 32 32)).toInt ≥ 0
    else taken || !(core s n).untaken.contains q

/-- A late input of core `n`, counted in `Q_LATE` (R71, R128, R247). -/
def qLateInput (s : State) (n : Nat) : State :=
  let s := cbump s n R.qLate 1
  if assigned s n then lateInput s (coreBreath s n) else s

/-- Read the descriptor's blocks, checked against the job of the queue (R248, R326); an error is the job fault it
raises. -/
def fetchBlocks (job : Nat) : Nat → State → Nat → List Byte × Option Nat × State
  | 0, s, _ => ([], none, s)
  | k + 1, s, a =>
    match readBlock s a (some job) true with
    | (.good d, s) => let r := fetchBlocks job k s (a + 256); (d ++ r.1, r.2.1, r.2.2)
    | (.poisoned _, s) => ([], some 0x07, bump s R.poisonConsumed 1)
    | (.refused, s) => ([], some 0x08, s)
    | (.unmapped, s) => ([], some 0x09, s)

/-- One ROW entry as an event of step `e` (R84, R247). It is not counted in the barrier (R44): its flit carries VC 3, which
no event has, so that a deferred entry is told from an event. -/
def rowFlit (entry : W64) (e : BitVec 32) (n : Nat) : Flit :=
  mkEvent (if bitAt entry 20 then 0 else 1) 3 false (xOf n) (yOf n) 0 0 (fld entry 0 12) e.toNat false (fld entry 12 8) 0

/-- Take a flit in; what no barrier counts leaves the received counts as they were (R44, R247). -/
def acceptAny (s : State) (n : Nat) (f : Flit) : State :=
  let old := (core s n).recv
  let s := acceptEvent s n f
  if fVc f = 3 then upCore s n fun c => { c with recv := old } else s

/-- Take the deferred event in slot `k` back in. -/
def takeDeferredAny (s : State) (n k : Nat) : State :=
  let old := (core s n).recv
  let f := w64 (ldU s (deferAddr s n k) 8)
  let s := takeDeferred s n k
  if fVc f = 3 then upCore s n fun c => { c with recv := old } else s

/-- The entries of a ROW delivery (R247). -/
def rowEntries (n : Nat) (step : BitVec 32) : List Nat → State → State
  | [], s => s
  | w :: r, s =>
    let late := (commitStep s n - step).toInt ≥ 0
    let e := if late then commitStep s n + 1 else step
    let s := if late then qLateInput s n else s
    rowEntries n step r (acceptAny s n (rowFlit (w64 w) e n))

/-- SEQREG words: each as a write of bits [31:0] and then of bits [63:32] (Table 9-10, R9). -/
def seqWords (n reg : Nat) : Nat → Nat → List Byte → State → State
  | 0, _, _, s => s
  | k + 1, i, l, s =>
    let v := w64 (leNat (l.take 8))
    let s := coreRegStore s n (reg + 8 * i) .lowHalf v 5 false
    seqWords n reg k (i + 1) (l.drop 8) (coreRegStore s n (reg + 8 * i) .highHalf v 5 false)

/-- Deliver an operand message to its port (Table 9-10). -/
def deliverOp (s : State) (n q : Nat) (msg : List Byte) : State :=
  let w1 := qw s n q 1
  let h0 := w64 (leNat (msg.take 8))
  let step := BitVec.ofNat 32 (leNat ((msg.drop 8).take 4))
  let len := leNat ((msg.drop 16).take 4)
  let pay := (msg.drop 32).take len
  let s := upCore s n fun c => { c with untaken := q :: c.untaken.filter fun x => x ≠ q }
  let s :=
    if fld w1 0 2 = 0 then
      let p := fld w1 2 4
      let w4 := w64 (popWord s n p 4)
      let bytes := 2 * (fld w4 13 12 + 1)
      let r := if bitAt h0 2 then fetchBlocks (qJob s n q) (cdiv (leNat ((msg.drop 40).take 4)) 256) s (leNat ((msg.drop 32).take 6))
        else (pay, none, s)
      match r.2.1 with
      | some code => raiseJob r.2.2 (qJob s n q) code
      | none =>
        let base := fld (w64 (popWord s n p 6)) 0 15
        let s := stN r.2.2 (scratch n base) ((r.1 ++ List.replicate bytes 0).take bytes)
        let a := scratch n (crF s n R.neConfig 0 15 + 64 * p + 52)
        let late := ((core s n).loadedStep - step).toInt ≥ 0 || (commitStep s n - step).toInt ≥ 0
        let s := stU s a 4 step.toNat
        if late then qLateInput s n else s
    else if fld w1 0 2 = 1 then
      let s := rowEntries n step (((List.range (pay.length / 4)).map fun i => leNat ((pay.drop (4 * i)).take 4))) s
      upCore s n fun c => { c with untaken := c.untaken.erase q }
    else
      let s := seqWords n (fld w1 8 11) (fld w1 21 2 + 1) 0 (pay ++ List.replicate 32 0) s
      if fld w1 19 2 = 0 then upCore s n fun c => { c with untaken := c.untaken.erase q } else s
  qSignal (noteQ s n q 1 false) n q

end Sys2Proof.Machine
end

