-- ==== Sys2Proof/Machine/CoreCmd.lean ====
section
/-! DEFINITION. Commands of a core's own step work: START, COMMIT and HOLD, the update, emissions, reports, intake,
rollback, split dendrites and plasticity (R39 to R49, R75 to R100, R157 to R185). -/
namespace Sys2Proof.Machine

/-! ### START, COMMIT, HOLD (R55, R76) -/

/-- The line in which a flit waits at a local port: flits of one line are taken in the order in which they came (R87, R100,
R199). Messages keep to their source, BULK to its circuit's label. -/
def rxLine (f : Flit) : Nat :=
  let t := fType f
  if t ≤ 1 then fVc f else if t = 2 then 4 else if t = 3 then 5 else if t = 6 then 6
  else if t = 0xA || t = 0xB then 7 else if t = 4 then 16 + fSrc f else if t = 5 then 16 + ff f 34 11 else 3000 + fLabel f

/-- Flit `f` is the next of its line at the local port of core `n`. -/
def nextLocal (s : State) (n : Nat) (f : Flit) : Bool := ((core s n).rx.find? fun g => rxLine g = rxLine f) = some f

/-- Take a flit that waits at the core's local port. -/
def takeLocal (s : State) (n : Nat) (f : Flit) : State := upCore s n fun c => { c with rx := c.rx.erase f }

/-- An engine takes flit `f`, the next of its line, unless the core is halted (R26, R87). -/
def engineTakes (s : State) (n : Nat) (f : Flit) (eff : State → State) : State :=
  if stopped s n || !nextLocal s n f then s else eff (takeLocal s n f)

/-- The barrier flit of breath `j` of this kind and step is the next at core `n`, which is not halted (R26, R55). -/
def barrierHere (s : State) (n j kind : Nat) (t : BitVec 32) : Bool :=
  !stopped s n && nextLocal s n (bcastOf s j kind t)

/-- The core obeys barrier flits of this breath: it is assigned, and to it (R76). -/
def obeys (s : State) (n j : Nat) : Bool := assigned s n && coreBreath s n = j

/-- START(t): recorded, and update t begun or held; an uncorrectable word in what the update loads faults the job before its
group executes (R39, R76, R109, R135). A START that finds another one held waits behind it (R109). -/
def coreStart (s : State) (n j : Nat) (t : BitVec 32) (ue : Option BadLoad) : State :=
  if ¬ barrierHere s n j 0 t ∨ (obeys s n j ∧ (core s n).startHeld.isSome) then s
  else
    let s := takeLocal s n (bcastOf s j 0 t)
    if obeys s n j then startUpdate s n t ue else s

def execCoreStart (n : CoreId) (j : BreathId) (t : BitVec 32) (ue : Option BadLoad) (s : State) :=
  act s fun s => coreStart s n.val j.val t ue

/-- Forward the split slots of step t + 1: value and count flits leave on VC2 (R97). -/
def splitForward (s : State) (n : Nat) (t : BitVec 32) : State :=
  let r := forwardAll n (t + 1) (List.range 16) s []
  coreSendAll n r.2 (cbump r.1 n R.splitFwdFlits r.2.length)

/-- COMMIT(t): `COMMIT_STEP`, plasticity of t, split forwarding of t + 1, barrier-mode banks, and the loaded step is no
longer speculative (R43, R76, R97, R157, R172, R249). -/
def coreCommit (s : State) (n j : Nat) (t : BitVec 32) (ue : Lost) : State :=
  if ¬ barrierHere s n j 1 t then s
  else
    let s := takeLocal s n (bcastOf s j 1 t)
    if ¬ obeys s n j then s
    else
      let s := engineLost s n t ue
      let s := cwB (cwF s n R.coreStep 32 32 t.toNat) n R.coreStatus 7 true
      let s := cwB s n R.ovbStatus 0 (crB s n R.ovbStatus 0 && (core s n).loadedStep ≠ t + 1)
      plasCommit (combCommit (splitForward s n t) n t) n t

def execCoreCommit (n : CoreId) (j : BreathId) (t : BitVec 32) (ue : Lost) (s : State) :=
  act s fun s => coreCommit s n.val j.val t ue

/-- HOLD: `UPDATE_BUSY` is cleared once the work started is complete; the core idles until the next START (R76). -/
def coreHold (s : State) (n j : Nat) (t : BitVec 32) : State :=
  if ¬ barrierHere s n j 2 t then s
  else
    let s := takeLocal s n (bcastOf s j 2 t)
    if obeys s n j then cwB s n R.coreStatus 3 false else s

def execCoreHold (n : CoreId) (j : BreathId) (t : BitVec 32) (s : State) := act s fun s => coreHold s n.val j.val t

/-- A held START begins its update once nothing holds it any more (R41, R109, R158, R184). -/
def execHeldUpdateStart (n : CoreId) (ue : Option BadLoad) (s : State) :=
  act s fun s =>
    match (core s n.val).startHeld with
    | some t => if !stopped s n.val && mayUpdate s n.val t then runUpdate s n.val t ue else s
    | none => s

/-! ### Emission and reports (R48, R49, R92, R94, R198, R205) -/

/-- The emit unit's next flit may leave in cycle `cyc`: by the shaper, or for VC0 in its turn and by a token, with local input
credit, and not fenced (R94, R198, R205, R222). -/
def emitReady (s : State) (n cyc : Nat) (f : Flit) : Bool :=
  !stopped s n && !holdsBack s n n f && (misaddressed f ||
    (roomAt s n f && if fVc f = 0 then tokenOk s n && vc0Turn s n cyc 3 else shapeOk s n))

/-- The emit buffer without the flit at its head; an entry is freed with its last flit (R94). -/
def popEmit (s : State) (n : Nat) : State :=
  upCore s n fun c => { c with emitQ := match c.emitQ with
    | ⟨_, _, []⟩ :: r => r
    | ⟨_, _, [_]⟩ :: r => r
    | ⟨k, g, _ :: fs⟩ :: r => ⟨k, g, fs⟩ :: r
    | [] => [] }

/-- The work of an update is over when the emit buffer no longer holds it up (R94). -/
def noteBusy (s : State) (n : Nat) : State := cwB s n R.coreStatus 3 (crB s n R.coreStatus 3 && !(core s n).emitQ.isEmpty)

/-- What a flit of an entry of kind `k` counts as it leaves (R94, R177). -/
def countEmit (s : State) (n k : Nat) : State :=
  let s := cbump s n R.emitFlits 1
  if k = 0 then s else upCore (cbump s n (if k = 1 then R.ovbAntiSent else R.ovbFreshSent) 1) n fun c => { c with rolled := true }

/-- One flit leaves the emit unit (R94): counted, shaped, put into the router. `stalled` are the cycles for which the full
buffer has stalled the Neuron Engine since the flit before it. -/
def emitOne (s : State) (n cyc stalled : Nat) : State :=
  let s := tokensTo (shapeTo s n cyc) n cyc
  match (core s n).emitQ with
  | ⟨k, _, f :: _⟩ :: _ =>
    if emitReady s n cyc f then
      let s := popEmit (if updateStalled s n then cbump s n R.emitStallCycles stalled else s) n
      if misaddressed f then noteBusy (coreInject s n f cyc) n
      else noteBusy (coreInject (countEmit (if fVc f = 0 then tokenTake s n else shapeTake s n) n k) n f cyc) n
    else s
  | _ => s

def execEmitFlit (n : CoreId) (cyc stalled : Nat) (s : State) := act s fun s => emitOne s n.val cyc stalled

/-- A barrier report of core `n` (R48, Table 2-1). -/
def mkReport (s : State) (n kind tag value : Nat) : Flit := mkReduce 3 0 63 (n / 32) (0x600 + 4 * coreBreath s n + kind) tag value

/-- Send the unreported delta of a (kind, tag) pair, once 32 cycles have passed since the last (R48). -/
def sendReport (s : State) (n : Nat) (kind : RepKind) (tag cyc : Nat) : State :=
  let k := if kind = .sent then 0 else 1
  let c := core s n
  let d := Sparse.get (fun _ => 0) (if kind = .sent then c.sent else c.recv) tag
  let s := tokensTo s n cyc
  let f := mkReport s n k tag d
  if d = 0 ∨ cyc < Sparse.get (fun _ => 0) c.reportAt (k * 4 + tag) ∨ stopped s n ∨ ¬ tokenOk s n ∨ ¬ roomAt s n f
      ∨ holdsBack s n n f then s
  else
    let s := upCore s n fun c => { c with
      sent := if kind = .sent then Sparse.set (fun _ => 0) c.sent tag 0 else c.sent
      recv := if kind = .sent then c.recv else Sparse.set (fun _ => 0) c.recv tag 0
      reportAt := Sparse.set (fun _ => 0) c.reportAt (k * 4 + tag) (cyc + 32) }
    coreInject (tokenTake s n) n f cyc

def execBarrierReportSend (n : CoreId) (kind : RepKind) (tag : StepTag) (cyc : Nat) (s : State) :=
  act s fun s => sendReport s n.val kind tag.val cyc

/-- DONE(t) may be sent (R49, R94, R179). -/
def doneMay (s : State) (n : Nat) (t : BitVec 32) : Bool :=
  let c := core s n
  let tag := t.toNat % 4
  !stopped s n && c.emitQ.isEmpty && !inRouter s n tag
    && Sparse.get (fun _ => 0) c.sent tag = 0
    && (!ovbOn s n || (crB s n R.coreStatus 7 && (commitStep s n - (t - 1)).toInt ≥ 0
          && !(c.loadedStep = t && rollbackPending s n)))

/-- The core sends the oldest DONE(t) that it owes, once (R49). -/
def sendDoneFlit (s : State) (n cyc : Nat) : State :=
  let s := tokensTo s n cyc
  match (core s n).doneDue with
  | [] => s
  | t :: r =>
    let f := mkReport s n 2 (t.toNat % 4) 1
    if doneMay s n t ∧ tokenOk s n ∧ roomAt s n f ∧ ¬ holdsBack s n n f then
      let s := cwB (upCore s n fun c => { c with doneDue := r }) n R.coreStatus 3 false
      coreInject (tokenTake s n) n f cyc
    else s

def execDoneSend (n : CoreId) (cyc : Nat) (s : State) := act s fun s => sendDoneFlit s n.val cyc

/-! ### Intake (R75, R81 to R87, R160, R191) -/

/-- The deferral area is full and the event must be deferred: the Synapse Engine stalls (R160). -/
def intakeStalled (s : State) (n : Nat) (f : Flit) : Bool :=
  assigned s n && mustDefer s n f && (core s n).deferred.length ≥ 64

/-- An event is taken in; a deferred event that has become eligible goes first (R160). -/
def execEventIntake (n : CoreId) (f : Flit) (ue : Lost) (s : State) :=
  act s fun s =>
    if fType f > 1 ∨ intakeStalled s n.val f ∨ (nextDeferred s n.val).isSome then s
    else engineTakes s n.val f fun s => acceptEvent (engineLost s n.val (startStepOf s n.val) ue) n.val f

def execDeferredIntake (n : CoreId) (ue : Lost) (s : State) :=
  act s fun s =>
    match nextDeferred s n.val with
    | some k => if stopped s n.val then s else takeDeferredAny (engineLost s n.val (startStepOf s n.val) ue) n.val k
    | none => s

/-! ### Rollback (R176 to R179) -/

/-- A pass runs when the Neuron Engine is free and a dirty bit is set (R176). -/
def execRollbackPass (n : CoreId) (ue : Lost) (s : State) :=
  act s fun s =>
    if !(core s n.val).dirty.isEmpty && !updateStalled s n.val && !stopped s n.val
    then rollbackPass (engineLost s n.val (core s n.val).loadedStep ue) n.val else s

/-! ### Reduction flits at a core (R75, R99, R249) -/

def execSplitValue (n : CoreId) (f : Flit) (ue : Lost) (s : State) :=
  act s fun s =>
    if fType f = 2 ∧ 0x400 ≤ fRid f ∧ fRid f < 0x7F0
    then engineTakes s n.val f fun s => splitValue (engineLost s n.val (startStepOf s n.val) ue) n.val f else s

def execSplitCount (n : CoreId) (f : Flit) (s : State) :=
  act s fun s =>
    if fType f = 2 ∧ 0x7F0 ≤ fRid f then engineTakes s n.val f fun s => splitCountFlit s n.val f else s

/-- A REDUCE flit to a combining queue; one with a reserved RID is discarded and counted in `SPLIT_STRAY` (R75, R249). -/
def execCombineContribution (n : CoreId) (f : Flit) (s : State) :=
  act s fun s =>
    if fType f = 2 ∧ fRid f < 0x400 then
      engineTakes s n.val f fun s => if fRid f < 0x40 then combine s n.val f else cbump s n.val R.splitStray 1
    else s

/-! ### Plasticity (R156, R157, R165) -/

/-- The oldest held COMMIT starts its plasticity once the step before it is complete and no snapshot is streamed (R157,
R165). -/
def execPlasticityHeldStart (n : CoreId) (ue : Lost) (s : State) :=
  act s fun s =>
    match (core s n.val).commitsHeld with
    | t :: _ =>
      if plasStep s n.val = t - 1 ∧ ¬ plasActive s n.val ∧ ¬ crB s n.val R.plasStatus 3 ∧ ¬ stopped s n.val
      then plasStart (engineLost s n.val t ue) n.val t else s
    | [] => s

/-- The modulator arrives after `cycles` cycles of waiting (R156, R162). -/
def execModWaitEnd (n : CoreId) (cycles : Nat) (ue : Lost) (s : State) :=
  act s fun s =>
    if modArrived s n.val && !stopped s n.val then modGo (engineLost s n.val (plasRun s n.val) ue) n.val cycles else s

/-- The running plasticity ends; its banks have been refused to it in `refused` cycles (R157, R162). -/
def execPlasticityComplete (n : CoreId) (refused : Nat) (s : State) :=
  act s fun s => if plasFinished s n.val && !stopped s n.val then plasComplete s n.val refused else s

end Sys2Proof.Machine
end

