-- ==== Sys2Proof/Machine/Integrity.lean ====
section
/-! DEFINITION. Errors that the memories' own codes meet: DDR5 beats, words of hub SRAM and of core memories, and port B
writes that a port A write discards (R29, R30, R34, R313, R314, R324, R328, R329). -/
namespace Sys2Proof.Machine

/-! ### DDR5 (R34, R313, R314, R324) -/

/-- DDR5 channel of an address (R313). -/
def ddrChannel (a : Nat) : Nat := (a / 256 % 4) ^^^ (a / 4096 % 4)

/-- D, the end of the data region (R34). -/
def ddrEnd (s : State) : Nat := (rd s R.ddrDataEnd).toNat

/-- Address of the tag of the DDR5 block at `a` (R34). -/
def ddrTagAddr (s : State) (a : Nat) : Nat := ddrEnd s + a / 256 * 8

/-- Poison the block at rest at `a`, once (R324). -/
def poisonNew (s : State) (a : Nat) : State := if bitAt (tagAt s a) 56 then s else poisonBlock s a

/-- The tag that takes the place of one that an uncorrectable error has destroyed (R324). -/
def lostTag : W64 := setBit 0 56

/-- Channel of a beat of the DDR5 block at `a`, in its data or in its tag, which lies at an address of its own (R34, R313). -/
def beatChannel (s : State) (a : Nat) (inTag : Bool) : Nat := ddrChannel (if inTag then ddrTagAddr s a else a)

/-- A corrected beat of the block at `a` (R314). -/
def ddrCorrected (s : State) (a : Nat) (inTag : Bool) : State := bump s (R.ddrCe (beatChannel s a inTag)) 1

/-- The tag of the block at `a` is lost: it is rewritten poisoned (R324). -/
def tagLost (s : State) (a : Nat) : State :=
  if bitAt (tagAt s a) 56 then setTag s a lostTag else bump (setTag s a lostTag) R.poisonSet 1

/-- The 32-bit beat at `b` is lost: its contents are open (log entry 83). -/
def loseBeat (s : State) (b : Nat) : State := let v := freshValue s; stU v.2 (b / 4 * 4) 4 (fld v.1 0 32)

/-- An uncorrectable beat of the block at `a`, in its data at `b` or in its tag, met by a read (`source` 0) or by patrol (1)
(R314, R324, R330). -/
def ddrLost (s : State) (a b : Nat) (inTag : Bool) (source : Nat) : State :=
  let k := beatChannel s a inTag
  let s := if inTag then tagLost s a else poisonNew (loseBeat s b) a
  errLog (setB (bump s (R.ddrUe k) 1) R.memAlarm 0) a source none

/-! ### Hub SRAM (R329) -/

/-- The row map entry at (port, row) is repaired from the image of the job that wrote it, which faults; one that no job
wrote is rewritten invalid (R329). -/
def repairRow (s : State) (p row : Nat) : State :=
  match (List.range 64).find? fun j => jobState s j ≠ 0 && (jobOf s j).rowMaps.contains (p, row) with
  | some j => raise s j 0x0A (brth s j).started.toNat
  | none => stU s (0x001001E80000 + p * 0x4000 + 4 * row) 4 0

/-- An uncorrectable word of hub SRAM (R329). -/
def hubWordLost (s : State) (a : Nat) : State :=
  let s := bump s R.hubSramUe 1
  if a < 0x001001D00000 then
    errLog (setB (poisonNew (loseWord s a) a) R.memAlarm 1) a 4 none
  else if a < 0x001001E00000 then
    let b := hubSram + (a - 0x001001D00000) / 8 * 256
    let s := setB s R.memAlarm 1
    let s := if b < 0x001001D00000 then tagLost s b else s
    errLog s a 4 none
  else
    let s := errLog (setB s R.memAlarm 2) a 4 none
    if 0x001001E80000 ≤ a ∧ a < 0x001001F00000 then
      let e := (a - 0x001001E80000) / 4
      repairRow (repairRow s (e / 4096) (e % 4096)) ((e + 1) / 4096) ((e + 1) % 4096)
    else if 0x001001F80000 ≤ a then
      let j := (a - 0x001001F80000) / 0x2000
      if jobState s j ≠ 0 then raise s j 0x0A (brth s j).started.toNat else s
    else if 0x001001F00000 ≤ a then loseWord s a
    else s

/-! ### Errors that an access meets (R314, R328, R329) -/

/-- The block or word that an error's address belongs to: for a tag, its block. -/
def errBlock (s : State) (a : Nat) : Nat :=
  let d := ddrEnd s
  if a < d then a / 256 * 256
  else if a < d + d / 32 then (a - d) / 8 * 256
  else match regionOf s a with
    | .hubTagged => a / 256 * 256
    | .hubTags => hubSram + (a - 0x001001D00000) / 8 * 256
    | _ => a / 8 * 8

/-- A read of `n` bytes at `a` meets the error at `e`: whole blocks and their tags in tagged memory, else words. -/
def errMet (s : State) (a n : Nat) (e : MemErr) : Bool :=
  (if isTagged s a then a / 256 * 256 else a / 8 * 8) ≤ errBlock s e.addr && errBlock s e.addr < a + n

/-- What the code of a memory reports of one beat or word that a read meets. -/
def memErr (s : State) (e : MemErr) : State :=
  let d := ddrEnd s
  if e.addr < d + d / 32 then
    let tag := decide (d ≤ e.addr)
    (if e.bad then ddrLost s (errBlock s e.addr) e.addr tag 0 else ddrCorrected s (errBlock s e.addr) tag)
  else match regionOf s e.addr with
    | .hubTagged | .hubTags | .hubSys | .hubDual =>
      if e.bad then hubWordLost s (e.addr / 8 * 8) else bump s R.hubSramCe 1
    | .coreMem n off =>
      if off ≥ 0x78000 then s
      else if e.bad then coreWordLost s n (off / 8 * 8) 2 (startStepOf s n) else bump s (R.sramCe (dieOf n)) 1
    | _ => s

/-- A read of `n` bytes at `a` meets those of the errors that lie there. -/
def meetErrs (s : State) (errs : List MemErr) (a n : Nat) : State := (errs.filter (errMet s a n)).foldl memErr s

/-! ### Both ports of a dual-port memory (R29, R30) -/

/-- The words that `n` bytes at `a` touch. -/
def wordsFrom (a n : Nat) : List Nat := (List.range (cdiv (a % 8 + n) 8)).map fun k => a / 8 * 8 + 8 * k

/-- The words of a list keep what they held before: the port B write to them is discarded (R29). -/
def keepWords (before : State) (lost : List Nat) (s : State) : State :=
  lost.foldl (fun s w => stU s w 8 (ldU before w 8)) s

/-- Port A of banks 62 and 63 can write the word at `w` in the present cycle: Chanter the completion entry that it wrote last,
the Breath controller the scratch of a breath in use (R30, log entry 93). -/
def portAWrites (s : State) (w : Nat) : Bool :=
  s.mbox.portA.contains w || (0x001001F80000 ≤ w && w < 0x001002000000 && brthState s ((w - 0x001001F80000) / 0x2000) ≠ 0)

/-- A write of PCIe to banks 62 and 63; `raced` says that port A writes each word that it can in the same cycle, and the port B
write of such a word is lost and counted (R29, R30). -/
def stDual (s : State) (a : Nat) (l : List Byte) (raced : Bool) : State :=
  let lost := if raced then (wordsFrom a l.length).filter (portAWrites s) else []
  bump (keepWords s lost (stN s a l)) R.hubWriteLost lost.length

end Sys2Proof.Machine
end

