-- ==== Sys2Proof/Machine/Mbox.lean ====
section
/-! DEFINITION. How Chanter serves Mbozor commands: entries, visibility, order, duplicates, completions and the change
journal (R352 to R354, R366 to R376, R388, R390, R391). -/
namespace Sys2Proof.Machine

/-- A command as Chanter reads it: its source and the eight words, those beyond `LENGTH` as 0 (R367). -/
structure Cmd where
  src : Src
  words : List W64
  digest : Nat
  deriving DecidableEq, Repr

/-- Word `Ci` of a command. -/
def Cmd.c (c : Cmd) (i : Nat) : W64 := c.words.getD i 0
/-- Field of word `Ci`. -/
def Cmd.f (c : Cmd) (i lo n : Nat) : Nat := fld (c.c i) lo n
/-- Header fields (Table 14-1). -/
def Cmd.opcode (c : Cmd) : Nat := c.f 0 0 16
def Cmd.tag (c : Cmd) : Nat := c.f 0 16 16
def Cmd.fence (c : Cmd) : Bool := bitAt (c.c 0) 32
def Cmd.noDup (c : Cmd) : Bool := bitAt (c.c 0) 33
def Cmd.length (c : Cmd) : Nat := c.f 0 40 3

/-- The command that eight words of an entry spell; its digest covers the words up to `LENGTH` (R367, R374). -/
def Cmd.ofWords (src : Src) (l : List W64) : Cmd :=
  let n := fld (l.getD 0 0) 40 3
  { src := src, words := l.take (n + 1) ++ List.replicate (7 - n) 0, digest := crc32c (bytesOf (l.take (n + 1))) }

/-- Index of a command's duplicate record: mailbox 0–7, or 8 for the relay record (R374, R388). -/
def srcRecord : Src → Nat
  | .ring m => m.val
  | .relay _ => 8

/-- The mailbox's indices (Table 13-8). -/
def cmdPi (s : State) (m : Nat) : Nat := rdF s (R.mbCmdPi m) 0 16
def cmdCi (s : State) (m : Nat) : Nat := rdF s (R.mbCmdCi m) 0 16
def cplPi (s : State) (m : Nat) : Nat := rdF s (R.mbCplPi m) 0 16
def cplCi (s : State) (m : Nat) : Nat := rdF s (R.mbCplCi m) 0 16

/-- `a - b` on free-running 16-bit indices (R352). -/
def idxSub (a b : Nat) : Nat := (a + 65536 - b) % 65536

/-- The completion ring holds 256 entries that the host has not freed (R354). -/
def cplFull (s : State) (m : Nat) : Bool := idxSub (cplPi s m) (cplCi s m) ≥ 256

/-- Address of entry `i` of a ring (R352). -/
def ringEntry (m : Nat) (completion : Bool) (i : Nat) : Nat := ringBase m completion + (i % 256) * 64

/-- The eight words of the command entry at `MB_CMD_CI` (R352, R367). -/
def frontWords (s : State) (m : Nat) : List W64 := wordsOf 8 (ldN s (ringEntry m false (cmdCi s m)) 64)

/-- The package is a worker of a tree, and takes relayed commands (R388). -/
def isWorker (s : State) : Bool := rdF s R.peerTree 0 2 ≥ 2

/-- The command that a source offers: visible to Chanter (R353), or relayed to a worker (R388). -/
def cmdAt (s : State) : Src → Option Cmd
  | .ring m =>
    if rdB s (R.mbStatus m.val) 0 ∧ cmdCi s m.val ≠ cmdPi s m.val
    then some (Cmd.ofWords (.ring m) (frontWords s m.val)) else none
  | .relay e => if isWorker s ∧ e.length = 8 then some (Cmd.ofWords (.relay e) e) else none

/-- A command of this source is still running in the foreground (R370). -/
def fgRunning (s : State) (k : Nat) : Bool := s.mbox.runs.any fun r => !r.background && (srcRecord r.src) = k
/-- A command of this source is still running. -/
def anyRunning (s : State) (k : Nat) : Bool := s.mbox.runs.any fun r => (srcRecord r.src) = k

/-- Mailbox `m` has a command that Chanter can start (R354, R367, R370). -/
def ready (s : State) (m : Fin 8) : Bool :=
  match cmdAt s (.ring m) with
  | some c => !fgRunning s m.val && !cplFull s m.val && !(c.fence && anyRunning s m.val)
  | none => false

/-- Chanter starts this source's command next: mailbox 0 before any other, the others round-robin (R373). None starts
between the acceptance of POWER_STATE 2 and the entry (R421). -/
def startable (s : State) : Src → Bool
  | .ring m =>
    !s.chip.standbyAsked && ready s m && (m.val = 0 || (!ready s 0 &&
      ((List.range 7).map fun i => (s.mbox.lastServed + i) % 7 + 1).find? (fun k => ready s (Fin.ofNat 8 k)) = some m.val))
  | .relay e => !s.chip.standbyAsked && (cmdAt s (.relay e)).isSome && !fgRunning s 8

/-! ### The change journal -/

/-- What a change is recorded as: kind, target, and the CRC-32C of the old and the new value (Table 14-7). -/
structure Change where
  kind : Nat
  target : Nat
  old : Nat
  new : Nat
  deriving DecidableEq, Repr

/-- Where Chanter keeps the ring of 4,096 entries in bank 60: above the flag table. DESIGN CHOICE (log entry 3). -/
def journalBase : Nat := 0x001001E40000

/-- Append a journal entry (R390, Table 14-7). -/
def journal (s : State) (opcode source mailbox status tag : Nat) (ch : Change) : State :=
  let a := journalBase + (s.mbox.journalSeq % 4096) * 32
  let s := stU s a 8 (nowNs s)
  let s := stU s (a + 8) 8 (opcode % 65536 + (source % 8) * 2 ^ 16 + (mailbox % 8) * 2 ^ 19 + (status % 256) * 2 ^ 24
    + (tag % 65536) * 2 ^ 32)
  let s := stU s (a + 16) 8 (ch.target % 2 ^ 60 + (ch.kind % 16) * 2 ^ 60)
  let s := stU s (a + 24) 8 (ch.old % 2 ^ 32 + (ch.new % 2 ^ 32) * 2 ^ 32)
  { s with mbox := { s.mbox with
      journalSeq := (s.mbox.journalSeq + 1) % 2 ^ 32, journalHeld := min (s.mbox.journalHeld + 1) 4096 } }

/-- `SOURCE` and `MAILBOX` of a command's journal entry (Table 14-7). -/
def srcJournal : Src → Nat × Nat
  | .ring m => (if m.val = 7 then 1 else 0, m.val)
  | .relay _ => (4, 0)

/-- CRC-32C of a value's `n` little-endian bytes (R391). -/
def crcOf (n v : Nat) : Nat := crc32c (leBytes n v)

/-- Journal Chanter's own action, with the fault or action code as tag (Table 14-8, 0xFF03). -/
def journalOwn (s : State) (code : Nat) (ch : Change) : State := journal s 0xFF03 3 0 0 code ch

/-- Journal an action of Chanter's that follows no fault. The spec names no action codes: `TAG` is a free value (Table
14-8; log entry 1). -/
def journalAct (s : State) (ch : Change) : State :=
  let v := freshValue s
  journalOwn v.2 (fld v.1 0 16) ch

/-- Journal a reset of the given type (Table 15-7; Table 14-8, 0xFF04). -/
def journalReset (s : State) (code : Nat) : State := journal s 0xFF04 3 0 0 0 ⟨0, code, 0, 0⟩

/-! ### Completions -/

/-- A condition of R373 fails for the commands of mailbox 0 that have not started (R472). -/
def bellsFail (s : State) : State :=
  { s with mbox := { s.mbox with bells := s.mbox.bells.map fun b => (b.1, b.2.1, false) } }

/-- Chanter has written the `n` words from `a` by port A (R30). -/
def notePortA (s : State) (a n : Nat) : State :=
  { s with mbox := { s.mbox with portA := (List.range n).map fun k => a + 8 * k } }

/-- Write a completion entry of mailbox `m`: entry, index, then `CPL_PENDING` (R354). -/
def writeCompletion (s : State) (m : Nat) (words : List W64) : State :=
  let a := ringEntry m true (cplPi s m)
  let s := notePortA (stN s a (bytesOf words)) a words.length
  let s := wr s (R.mbCplPi m) (w64 ((cplPi s m + 1) % 65536))
  let s := setB s (R.mbStatus m) 2
  if cplFull s m then (if m = 0 then bellsFail (setB s (R.mbStatus 0) 3) else setB s (R.mbStatus m) 3) else s

/-- Complete to `src`: an entry of its ring, held while the ring is full (R354); a relayed command's goes back to the
manager (R388). -/
def putCompletion (s : State) (src : Src) (words : List W64) : State :=
  match src with
  | .ring m =>
    if cplFull s m.val then { s with mbox := { s.mbox with held := s.mbox.held ++ [(m.val, words)] } }
    else writeCompletion s m.val words
  | .relay _ => { s with mbox := { s.mbox with relayOut := words :: s.mbox.relayOut } }

/-- Write held completions of mailbox `m` while its ring has space. -/
def flushHeld (m : Nat) : Nat → State → State
  | 0, s => s
  | k + 1, s =>
    match s.mbox.held.find? fun e => e.1 = m with
    | some e =>
      if cplFull s m then s
      else flushHeld m k (writeCompletion { s with mbox := { s.mbox with held := s.mbox.held.erase e } } m e.2)
    | none => s

/-- The eight words of a completion (Table 14-2). -/
def cplWords (opcode tag status : Nat) (dup : Bool) (detail seq : Nat) (p : List W64) : List W64 :=
  w64 (opcode % 65536 + (tag % 65536) * 2 ^ 16 + (status % 256) * 2 ^ 32 + b2n dup * 2 ^ 40)
    :: w64 (detail % 2 ^ 32 + (seq % 2 ^ 32) * 2 ^ 32) :: (p.take 6 ++ List.replicate (6 - p.length) 0)

/-- Keep a completion: it replaces the record of the same tag, or the oldest of 256 (R374). -/
def keep (s : State) (k tag digest : Nat) (words : List W64) : State :=
  let l := (Sparse.get (fun _ => []) s.mbox.kept k).filter fun r => r.tag ≠ tag
  { s with mbox := { s.mbox with
      kept := Sparse.set (fun _ => []) s.mbox.kept k (⟨tag, digest, words⟩ :: l.take 255) } }

/-- Answer of a command's meaning. -/
inductive Ans where
  /-- It completes now. -/
  | ends (s : State) (status detail : Nat) (p : List W64) (change : Option Change)
  /-- It has started, and completes later: in the background, or while its mailbox waits (R370). -/
  | runs (s : State) (background : Bool) (locks : List Lock) (aux : List Nat)

/-- A command that changes nothing and completes with a status. -/
def Ans.fail (s : State) (status detail : Nat) : Ans := .ends s status detail [] none
/-- A command that only reads. -/
def Ans.reads (s : State) (p : List W64) : Ans := .ends s 0 0 p none

/-- Complete a command: journal entry, completion entry and kept record (R354, R374, R391). -/
def complete (s : State) (src : Src) (opcode tag digest : Nat) (status detail : Nat) (p : List W64)
    (change : Option Change) : State :=
  let seq := if change.isSome then s.mbox.journalSeq else 0xFFFFFFFF
  let s := match change with
    | some ch => journal s opcode (srcJournal src).1 (srcJournal src).2 status tag ch
    | none => s
  let words := cplWords opcode tag status false detail seq p
  keep (putCompletion s src words) (srcRecord src) tag digest words

/-- `MB_START_MAX`: the interval from the doorbell that made command `ci` of mailbox 0 visible to its start (R472). -/
def noteBell (s : State) (ci : Nat) : State :=
  match s.mbox.bells.find? fun b => 1 ≤ idxSub b.1 ci && idxSub b.1 ci ≤ 256 with
  | some (pi, t, ok) =>
    let s := { s with mbox := { s.mbox with
        bells := s.mbox.bells.filter fun b => !(b.1 = pi && idxSub pi ci = 1) } }
    if ok then
      let d := min (nowNs s - t) 0xFFFFFFFF
      let w := rd s (R.mbStartMax 0)
      let w := putFld w 0 32 (max (fld w 0 32) d)
      wr s (R.mbStartMax 0) (if d > 20000 then putFld w 32 32 (satAdd 32 (fld w 32 32) 1) else w)
    else s
  | none => s

/-- Take the command out of its ring (R373). -/
def takeFront (s : State) : Src → State
  | .ring m =>
    let s := if m.val = 0 then noteBell s (cmdCi s 0) else s
    let s := wr s (R.mbCmdCi m.val) (w64 ((cmdCi s m.val + 1) % 65536))
    if m.val = 0 then s else { s with mbox := { s.mbox with lastServed := m.val } }
  | .relay _ => s

/-- Index of the first parameter word with a bit that is not named (R380). -/
def badWord (c : Cmd) (masks : List Nat) : Option Nat :=
  ((List.range 7).map (· + 1)).find? fun i => c.c i &&& ~~~ (w64 (masks.getD (i - 1) 0)) ≠ 0

/-- The number of background commands (R370). -/
def bgCount (s : State) : Nat := (s.mbox.runs.filter fun r => r.background).length

/-- A lock is held by a running command of the given kind (R371). -/
def lockHeld (s : State) (background : Bool) (l : List Lock) : Bool :=
  s.mbox.runs.any fun r => r.background = background && r.locks.any fun x => l.contains x

/-- Run a command that is neither a duplicate nor malformed. -/
def runCmd (c : Cmd) (a : Ans) : State :=
  match a with
  | .ends s status detail p ch => complete s c.src c.opcode c.tag c.digest status detail p ch
  | .runs s bg locks aux =>
    let s := if !bg && srcRecord c.src = 0 then bellsFail s else s
    { s with mbox := { s.mbox with
        nextRun := s.mbox.nextRun + 1
        runs := s.mbox.runs ++ [⟨s.mbox.nextRun, c.src, c.words, c.digest, bg, locks, aux⟩] } }

/-- The kept completion of a repeated command (R374). -/
def keptOf (s : State) (c : Cmd) : Option Kept :=
  (Sparse.get (fun _ => []) s.mbox.kept (srcRecord c.src)).find? fun k => k.tag = c.tag && k.digest = c.digest

/-- The same command is still running (R374). -/
def stillRunning (s : State) (c : Cmd) : Bool :=
  s.mbox.runs.any fun r => (srcRecord r.src) = (srcRecord c.src) && r.digest = c.digest && fld (r.words.getD 0 0) 16 16 = c.tag

/-- Serve a visible command: duplicates first (R374), then the header and parameter checks (R367, R380), then locks
(R371), then its meaning. -/
def serveCmd (masks : List Nat) (locks : List Lock) (body : Cmd → State → Ans) (c : Cmd) (s : State) : State :=
  let s := takeFront s c.src
  if !c.noDup && (keptOf s c).isSome then
    match keptOf s c with
    | some k => putCompletion s c.src (setBit (k.words.getD 0 0) 40 :: k.words.drop 1)
    | none => s
  else if !c.noDup && stillRunning s c then
    putCompletion s c.src (cplWords c.opcode c.tag 0x01 true 0 0xFFFFFFFF [])
  else if c.f 0 34 6 ≠ 0 then runCmd c (.fail s 0x11 0)
  else match badWord c masks with
    | some i => runCmd c (.fail s 0x11 i)
    | none => if lockHeld s true locks then runCmd c (.fail s 0x14 0) else runCmd c (body c s)

/-- The row of opcode `op`: Chanter starts the command of this source if that is the command it starts next. A command
that needs a lock held by a foreground command waits (R371). -/
def serve (op : Nat) (masks : List Nat) (locks : Cmd → List Lock) (body : Cmd → State → Ans) (src : Src) (s : State) :
    State :=
  match cmdAt s src with
  | none => s
  | some c =>
    if c.opcode = op ∧ startable s src ∧ ¬ lockHeld s false (locks c)
    then serveCmd masks (locks c) body c s else s

/-- The running command with number `id`. -/
def runOf (s : State) (id : Nat) : Option Run := s.mbox.runs.find? fun r => r.id = id

/-- Take a running command off the list. -/
def dropRun (s : State) (id : Nat) : State :=
  { s with mbox := { s.mbox with runs := s.mbox.runs.filter fun r => r.id ≠ id } }

/-- The ring of a running command has space for its completion (R354). -/
def canComplete (s : State) : Src → Bool
  | .ring m => !cplFull s m.val
  | .relay _ => true

/-- A running command ends: its completion is written (R370). -/
def endRun (s : State) (r : Run) (status detail : Nat) (p : List W64) (change : Option Change) : State :=
  complete (dropRun s r.id) r.src (fld (r.words.getD 0 0) 0 16) (fld (r.words.getD 0 0) 16 16) r.digest status detail p
    change

/-- The opcode of a running command. -/
def Run.opcode (r : Run) : Nat := fld (r.words.getD 0 0) 0 16
/-- Field of a running command's word `Ci`. -/
def Run.f (r : Run) (i lo n : Nat) : Nat := fld (r.words.getD i 0) lo n

/-- A change without a single value: old 0, new the digest (R391). -/
def Cmd.digestChange (c : Cmd) (kind target : Nat) : Option Change := some ⟨kind, target, 0, c.digest⟩
def Run.digestChange (r : Run) (kind target : Nat) : Option Change := some ⟨kind, target, 0, r.digest⟩

end Sys2Proof.Machine
end

