-- ==== Sys2Proof/Machine/Dma.lean ====
section
/-! DEFINITION. The hub DMA engines (R253, R333 to R337) and the teardown of circuits that end at them. -/
namespace Sys2Proof.Machine

/-- `DMA_STATUS.STATE`: 0 IDLE, 1 BUSY, 2 DONE, 3 FAULT (Table 12-9). -/
def dmaState (s : State) (e : Nat) : Nat := rdF s (R.dmaStatus e) 0 2
def dmaReceives (s : State) (e : Nat) : Bool := rdB s (R.dmaCtrl e) 0
def dmaChecks (s : State) (e : Nat) : Bool := rdB s (R.dmaCtrl e) 1
def dmaJob (s : State) (e : Nat) : Nat := rdF s (R.dmaCtrl e) 2 8
def dmaBlocks (s : State) (e : Nat) : Nat := rdF s (R.dmaLen e) 0 31 / 256

def dmaRunOf (s : State) (e : Nat) : DmaRun := Sparse.get (fun _ => {}) s.mesh.dmas e
def setDmaRun (s : State) (e : Nat) (r : DmaRun) : State :=
  { s with mesh := { s.mesh with dmas := Sparse.set (fun _ => {}) s.mesh.dmas e r } }

/-- The engine's destination is a core memory: which core. -/
def dmaCore (s : State) (e : Nat) : Option Nat :=
  match regionOf s (rdF s (R.dmaDst e) 0 48) with
  | .coreMem n _ => some n
  | _ => none

/-! ### Copies to a core: bind, circuit, stream (R206, R207, R209, R253) -/

/-- Engine `e` sends flits to core `n`, in order. -/
def dmaSend (e n : Nat) : List Flit → State → State
  | [], s => s
  | f :: r, s => dmaSend e n r (hubSend s (0x600 + e) n f)

/-- Circuit number of the engine. -/
def dmaCircuit (s : State) (e : Nat) : Nat := rdF s (R.dmaCtrl e) 10 3

/-- The bulk bind of engine `e` to core `n` (Table 9-11). -/
def dmaBind (s : State) (e n : Nat) : List Flit :=
  messageFlits (n * 64) 0 (0x600 + e) 1 (leBytes 8 (rdF s (R.dmaDst e) 0 48 % 0x100000 + dmaCircuit s e * 2 ^ 32)
    ++ leBytes 8 (dmaBlocks s e) ++ leBytes 16 0)

/-- CIRCUIT_SETUP (7) or CIRCUIT_TEARDOWN (8) of engine `e` to core `n` (Table 8-5). -/
def dmaSetup (s : State) (e n type : Nat) : Flit :=
  let c := dmaCircuit s e
  w64 (mkHead type 3 false (n % 32) (n / 32 % 32) + rdF s (R.dmaCtrl e) 13 4 * 2 ^ 41 + c * 2 ^ 38 + c * 2 ^ 35
    + (0x600 + e) * 2)

/-- The 44 BULK flits of a block and its tag (R209, Table 8-6). -/
def bulkFlits (label : Nat) (data : List Byte) (tag : W64) : List Flit :=
  let l := data.take 256 ++ leBytes 8 tag.toNat
  (List.range 44).map fun i =>
    w64 (9 * 2 ^ 60 + 3 * 2 ^ 58 + label % 8 * 2 ^ 55 + b2n (i = 43) * 2 ^ 54 + i * 2 ^ 48 + leNat ((l.drop (6 * i)).take 6))

/-- A start reaches engine `e`: a busy engine discards it and records `START_LOST` (R333). A copy to a core sends its bind
and, behind it, its setup (R253). -/
def dmaStart (s : State) (e : Nat) : State :=
  if dmaState s e = 1 then setB s (R.dmaStatus e) 2
  else
    let s := wr s (R.dmaStatus e) (putFld (putFld (putFld (rd s (R.dmaStatus e)) 0 2 1) 4 4 0) 32 32 0)
    match dmaCore s e with
    | some n =>
      if dmaReceives s e ∨ dmaBlocks s e = 0 then s
      else dmaSend e n (dmaBind s e n ++ [dmaSetup s e n 7]) (setDmaRun s e { phase := 1 })
    | none => s

/-- A transfer ends: its state, and the interrupt when `IRQ_EN` asks for it (R334). -/
def dmaEnd (s : State) (e st : Nat) : State :=
  let s := setDmaRun (wrF s (R.dmaStatus e) 0 2 st) e {}
  if rdB s (R.dmaCtrl e) 17 then sendMsix s (rdF s (R.dmaCtrl e) 18 6) else s

/-- The job fault that a DMA fault means, where Table 15-5 has one: POISON, OWNERSHIP or UNMAPPED. For a refused circuit
or a broken stream it has none, and the code is a free value (log entry 1). -/
def dmaJobCode (s : State) (fault : Nat) : Nat × State :=
  if fault = 1 ∨ fault = 5 then (7, s) else if fault = 2 then (8, s) else if fault = 3 then (9, s)
  else let v := freshValue s; (fld v.1 0 8, v.2)

/-- An engine stops on a fault of Table 12-7 at address `a`; with `CHECK_JOB` its job faults (R334). -/
def dmaFault (s : State) (e fault a : Nat) : State :=
  let s := wr (wrF s (R.dmaStatus e) 4 4 fault) (R.dmaFaultAddr e) (w64 (a % 2 ^ 48))
  let s := if dmaChecks s e then let c := dmaJobCode s fault; raiseJob c.2 (dmaJob s e) c.1 else s
  dmaEnd s e 3

/-- Outcome of a copy: the state, and the fault with its address if one stopped it. -/
abbrev CopyEnd := State × Option (Nat × Nat)

/-- One block more is complete. -/
def dmaCount (s : State) (e : Nat) : State := wrF s (R.dmaStatus e) 32 32 (rdF s (R.dmaStatus e) 32 32 + 1)

/-- Tag of a block as its mover carries it: the source's job and `ANY_JOB`, or for host memory the engine's job with
`CHECK_JOB`, else any job. -/
def dmaTag (s : State) (e a : Nat) : Nat × Bool :=
  if isTagged s a then (fld (tagAt s a) 32 8, bitAt (tagAt s a) 57)
  else if dmaChecks s e then (dmaJob s e, false) else (0, true)

/-- Copy `k` blocks from index `i` to memory of the hub or the host (R325, R333, R334). -/
def dmaCopy (e src dst : Nat) : Nat → State → Nat → CopyEnd
  | 0, s, _ => (s, none)
  | k + 1, s, i =>
    let a := src + 256 * i
    let d := dst + 256 * i
    let t := dmaTag s e a
    match readBlock s a (if dmaChecks s e then some (dmaJob s e) else none) true with
    | (.unmapped, s) => (s, some (3, a))
    | (.refused, s) => (s, some (2, a))
    | (.poisoned data, s) =>
      match writeBlock s d data t.1 t.2 true true with
      | (.good _, s) =>
        dmaCopy e src dst k (dmaCount (if regionOf s d = .host then setB s (R.dmaStatus e) 3 else s) e) (i + 1)
      | (.unmapped, s) => (s, some (3, d))
      | (_, s) => (s, some (2, d))
    | (.good data, s) =>
      match writeBlock s d data t.1 t.2 false true with
      | (.good _, s) => dmaCopy e src dst k (dmaCount s e) (i + 1)
      | (.unmapped, s) => (s, some (3, d))
      | (_, s) => (s, some (2, d))

/-- Read `k` blocks from index `i` and send each as BULK to core `n`. A poisoned or failed block is bound for a core memory:
it is not sent, and the job of the core faults (R326, R333, R334). -/
def dmaStream (e n src : Nat) : Nat → State → Nat → CopyEnd
  | 0, s, _ => (s, none)
  | k + 1, s, i =>
    let a := src + 256 * i
    let t := dmaTag s e a
    match readBlock s a (if dmaChecks s e then some (dmaJob s e) else none) true with
    | (.unmapped, s) => (s, some (3, a))
    | (.refused, s) => (s, some (2, a))
    | (.poisoned _, s) =>
      let s := bump s R.poisonConsumed 1
      (if assigned s n ∧ ¬ (dmaChecks s e ∧ dmaJob s e = coreJob s n) then raiseJob s (coreJob s n) 7 else s, some (1, a))
    | (.good data, s) =>
      let tag := mkTag (crc32c data) t.1 i false t.2 false false
      dmaStream e n src k (dmaCount (dmaSend e n (bulkFlits (dmaCircuit s e) data tag) s) e) (i + 1)

/-- The stream of engine `e` leaves for core `n`, and behind its last BULK flit the teardown (R207). The reads of a transfer
fall together at this moment (log entry 21). -/
def dmaStreams (s : State) (e n : Nat) : State :=
  let r := dmaStream e n (rdF s (R.dmaSrc e) 0 48) (dmaBlocks s e) s 0
  let s := dmaSend e n [dmaSetup r.1 e n 8] (setDmaRun r.1 e { dmaRunOf r.1 e with phase := 2 })
  match r.2 with
  | some (code, a) => dmaFault s e code a
  | none => s

/-- Engine `e` takes a STATUS response of code `code` from core `n` (R207, R245, R254, Table 12-7): CIRCUIT_ACCEPTED lets the
stream leave, unless the bind has still to be repeated; a refusal brings a teardown and the fault. NACK_BUSY of the bind
waits 2 µs, as `Q_RETRY_US` resets (DESIGN CHOICE: a hub engine has no such register; log entry 149). -/
def dmaAnswer (s : State) (e n code : Nat) : State :=
  let r := dmaRunOf s e
  let dst := rdF s (R.dmaDst e) 0 48
  if dmaState s e ≠ 1 ∨ dmaCore s e ≠ some n ∨ r.phase = 0 then s
  else if code = 0x30 then
    (if r.phase ≠ 1 then s else if r.busy.isSome then setDmaRun s e { r with accepted := true } else dmaStreams s e n)
  else if 0x31 ≤ code ∧ code ≤ 0x34 then dmaFault (dmaSend e n [dmaSetup s e n 8] s) e 4 dst
  else if code = 0x11 then setDmaRun s e { r with busy := some (timeAdd (nowNs s) 2000) }
  else if code = 0x20 then setDmaRun s e { r with phase := 3 }
  else if code = 0x21 then dmaFault s e 5 dst
  else s

/-- The bind that a core has refused as busy is repeated, and an accepted circuit's stream leaves behind it (R245, R253). -/
def dmaRetry (s : State) (e : Nat) : State :=
  let r := dmaRunOf s e
  match r.busy, dmaCore s e with
  | some t, some n =>
    if timeDiff t (nowNs s) < 0 then s
    else
      let s := dmaSend e n (dmaBind s e n) (setDmaRun s e { r with busy := none })
      if r.accepted then dmaStreams s e n else s
  | _, _ => s

/-- A transfer ends (R333, R334): a copy in the hub, whose accesses fall together at its end (log entry 21); a copy to a core
once the core has answered; a stream once every block has arrived. `errs` are the errors that the copy's reads meet (R314,
R329). -/
def dmaDone (s : State) (e : Nat) (errs : List MemErr) : State :=
  if dmaState s e ≠ 1 then s
  else if dmaReceives s e then
    (if rdF s (R.dmaStatus e) 32 32 ≥ dmaBlocks s e then dmaEnd s e 2 else s)
  else if (dmaCore s e).isSome then
    (if (dmaRunOf s e).phase = 3 ∨ dmaBlocks s e = 0 then dmaEnd s e 2 else s)
  else
    let src := rdF s (R.dmaSrc e) 0 48
    match dmaCopy e src (rdF s (R.dmaDst e) 0 48) (dmaBlocks s e) (meetErrs s errs src (256 * dmaBlocks s e)) 0 with
    | (s, none) => dmaEnd s e 2
    | (s, some (code, a)) => dmaFault s e code a

def execDmaDone (e : DmaId) (errs : List MemErr) (s : State) := act s fun s => dmaDone s e.val errs

/-! ### Streams received (R333) -/

/-- The engine that receives the stream of source `src`. -/
def receiverOf (s : State) (src : Nat) : Option Nat :=
  (List.range 8).find? fun e => dmaState s e = 1 && dmaReceives s e && rdF s (R.dmaSrc e) 0 10 = src

/-- A block of a stream arrives at its engine: checked against its place in the stream, stored with address `SEQ`
(R333). -/
def dmaReceive (s : State) (e : Nat) (data : List Byte) (tag : W64) : State :=
  let i := rdF s (R.dmaStatus e) 32 32
  let d := rdF s (R.dmaDst e) 0 48 + 256 * i
  let r := checkBlock s data tag i (if dmaChecks s e then some (dmaJob s e) else none) none
  if r.1 = .good then
    match writeBlock r.2 d data (fld tag 32 8) (bitAt tag 57) false true with
    | (.good _, s) => dmaCount s e
    | (.unmapped, s) => dmaFault s e 3 d
    | (_, s) => dmaFault s e 2 d
  else dmaFault r.2 e 6 d

/-- The stream of a receiving engine is torn down early (Table 12-7). -/
def streamCut (s : State) (src : Nat) : State :=
  match receiverOf s src with
  | some e =>
    if rdF s (R.dmaStatus e) 32 32 < dmaBlocks s e
    then dmaFault s e 6 (rdF s (R.dmaDst e) 0 48 + 256 * rdF s (R.dmaStatus e) 32 32) else s
  | none => s

def execCircuitTeardown (node : Node) (p : Port) (f : Flit) (s : State) :=
  act s fun s =>
    if fType f ≠ 8 then s
    else
      let k := nodeIx node
      let before := circCount s k
      let t := circuitTeardown s k (portIx p) f
      if k ≥ 1024 ∧ portIx p = 1 ∧ circCount t k < before then streamCut t (fSrc f) else t

end Sys2Proof.Machine
end

