-- ==== Sys2Proof/Machine/QueueCmd.lean ====
section
/-! DEFINITION. Commands of the hardware queues and synchronisation objects: operations, requests, grants, messages,
bulk binds, circuit replies and register accesses over the mesh (R233 to R264, R351). -/
namespace Sys2Proof.Machine

/-! ### Operations (R233, R256, R258 to R261) -/

/-- Write `QOP_ARG`, then `QOP_CMD`: from the Core Sequencer, which must not be waiting, or from port B (R256). -/
def queueOp (s : State) (n : Nat) (cmd arg : W64) (portB : Bool) : State :=
  if stopped s n || (!portB && waiting s n 0) then s else qop (cw s n R.qopArg arg) n cmd arg 0 portB

def execQueueOpen (n : CoreId) (q : QIdx) (portB : Bool) (s : State) :=
  act s fun s => queueOp s n.val (w64 (16 * q.val)) (cr s n.val R.qopArg) portB
def execQueueClose (n : CoreId) (q : QIdx) (portB : Bool) (s : State) :=
  act s fun s => queueOp s n.val (w64 (1 + 16 * q.val)) (cr s n.val R.qopArg) portB
def execQueueDrain (n : CoreId) (q : QIdx) (portB : Bool) (s : State) :=
  act s fun s => queueOp s n.val (w64 (2 + 16 * q.val)) (cr s n.val R.qopArg) portB
def execQueueConsume (n : CoreId) (q : QIdx) (portB : Bool) (s : State) :=
  act s fun s => queueOp s n.val (w64 (3 + 16 * q.val)) (cr s n.val R.qopArg) portB
def execQueueSend (n : CoreId) (b : QIdx) (off : BitVec 20) (portB : Bool) (s : State) :=
  act s fun s => queueOp s n.val (w64 (4 + 16 * b.val)) (off.setWidth 64) portB
def execQueuePoll (n : CoreId) (q : QIdx) (mask want : BitVec 32) (s : State) :=
  act s fun s => queueOp s n.val (w64 (5 + 16 * q.val)) (w64 (mask.toNat + want.toNat * 2 ^ 32)) false

/-- A reserved operation code, or an operation on an object from port B: BAD_OP (R256). -/
def execQopReserved (n : CoreId) (cmd : W64) (portB : Bool) (s : State) :=
  act s fun s =>
    if fld cmd 0 4 ≥ 9 ∨ (portB ∧ 5 ≤ fld cmd 0 4) then queueOp s n.val cmd (cr s n.val R.qopArg) portB else s

/-- A polled status word matches (R258); the engine's wait stays as it is while it is frozen (R263). -/
def pollDone (s : State) (n e : Nat) : State :=
  let v := Sparse.get (fun _ => 0) (core s n).polls e - 1
  let arg := w64 v
  let q := v / 2 ^ 64
  if waiting s n e && crB s n (R.waitState e) 7 && !stopped s n && !frozen s n
      && pollHolds s n q (fld arg 0 32) (fld arg 32 32)
  then endWait s n e 0 (qStat s n q).toNat else s

def execPollSatisfied (n : CoreId) (e : EngId) (s : State) := act s fun s => pollDone s n.val e.val

/-- An engine may run an operation on an object: it does not wait, its core is not stopped, and its job is not suspended
(R261, R263). -/
def mayObject (s : State) (n e : Nat) : Bool := !stopped s n && !waiting s n e && !frozen s n

/-- INIT by engine `e` (Table 9-12). -/
def execSyncInit (n : CoreId) (o : ObjId) (value : W64) (e : EngId) (s : State) :=
  act s fun s =>
    if ¬ mayObject s n.val e.val then s
    else if e.val = 0 then qop (cw s n.val R.qopArg value) n.val (w64 (6 + 1024 * o.val)) value 0 false
    else initObj s n.val o.val value e.val

/-- SIGNAL by engine `e` with the count in `value`[15:0] (R260). -/
def execSyncSignal (n : CoreId) (o : ObjId) (value : W64) (e : EngId) (s : State) :=
  act s fun s =>
    if ¬ mayObject s n.val e.val then s
    else if e.val = 0 then
      qop s n.val (w64 (7 + 1024 * o.val + fld value 0 16 * 65536)) (cr s n.val R.qopArg) 0 false
    else (signalObj s n.val o.val (fld value 0 16) e.val).2

/-- WAIT by engine `e`: the time limit in `value`[23:0], the count in `value`[47:32] (R261). Engines 1 to 4 never wait
(R259). -/
def execSyncWait (n : CoreId) (o : ObjId) (value : W64) (e : EngId) (s : State) :=
  act s fun s =>
    if ¬ mayObject s n.val e.val ∨ (1 ≤ e.val ∧ e.val ≤ 4) then s
    else if e.val = 0 then
      let arg := w64 (fld value 0 24)
      qop (cw s n.val R.qopArg arg) n.val (w64 (8 + 1024 * o.val + fld value 32 16 * 65536)) arg 0 false
    else (waitObj s n.val o.val (fld value 32 16) (fld value 0 24) e.val).2

/-- A timed wait whose remaining time is 0 ends with TIMEOUT (R261, R263). -/
def waitExpired (s : State) (n e : Nat) : Bool :=
  waiting s n e && !crB s n (R.waitState e) 7 && Sparse.get (fun _ => 0) (core s n).waitFrom e % 2 = 1
    && crF s n (R.waitState e) 40 24 = 0 && !stopped s n && !frozen s n

def execWaitTimeout (n : CoreId) (e : EngId) (s : State) :=
  act s fun s =>
    if waitExpired s n.val e.val then
      let o := crF s n.val (R.waitState e.val) 0 5
      endWait (cbump s n.val R.syncTimeouts 1) n.val e.val 1 (fld (obj s n.val o) 16 16)
    else s

/-- A wait that has lasted `LEND_THRESHOLD` parks its engine (R264). -/
def execEnginePark (n : CoreId) (e : EngId) (s : State) :=
  act s fun s =>
    let w := R.waitState e.val
    let start := Sparse.get (fun _ => 0) (core s n.val).waitFrom e.val / 2
    if waiting s n.val e.val && !crB s n.val w 6 && nowNs s ≥ start + rdF s R.lendThreshold 0 32
    then cbump (cwB s n.val w 6 true) n.val R.lendParks 1 else s

/-! ### Requests (R238, R242) -/

def execQreq (n : CoreId) (f : Flit) (s : State) :=
  act s fun s =>
    if fType f = 0xA ∧ ff f 43 2 = 3 then
      engineTakes s n.val f fun s => qreq s n.val (ff f 37 6) (ff f 1 11) (ff f 30 7 + 1) (ff f 14 16)
    else s

/-- The oldest waiting request of a queue is granted once it can be (R238, R242). -/
def execWaitingGrant (n : CoreId) (q : QIdx) (s : State) :=
  act s fun s =>
    match (core s n.val).grantWait.find? fun w => w.q = q.val with
    | some w =>
      if grantable s n.val w && !stopped s n.val then
        grant (upCore s n.val fun c => { c with grantWait := c.grantWait.erase w }) n.val w
      else s
    | none => s

/-! ### Answers to senders (R237, R244, R245, R281) -/

/-- Messages that hub source `src` is sending. -/
def hubSends (s : State) (src : Nat) : List Send := Sparse.get (fun _ => []) s.mesh.hubSends src
def setHubSends (s : State) (src : Nat) (l : List Send) : State :=
  { s with mesh := { s.mesh with hubSends := Sparse.set (fun _ => []) s.mesh.hubSends src l } }

/-- The send that an answer belongs to. -/
def answered (l : List Send) (f : Flit) : Option Send :=
  l.find? fun x => x.dest = fSrc f * 64 + ff f 30 6 && x.seq = ff f 14 16

/-- A hub endpoint takes an answer that its hub port holds. -/
def takeHub (s : State) (f : Flit) (eff : State → State) : State :=
  if s.mesh.hubRx.contains f then eff { s with mesh := { s.mesh with hubRx := s.mesh.hubRx.erase f } } else s

/-- Bell channel of a hub source, whose binding is `BELL_BIND` (R235). -/
def bellOf (src : Nat) : Option Nat := if 0x500 ≤ src ∧ src < 0x600 then some (src - 0x500) else none

/-- A hub send ends: the binding's sequence moves on when the message has left. -/
def hubSendEnds (s : State) (src : Nat) (x : Send) (sent : Bool) : State :=
  let s := setHubSends s src ((hubSends s src).erase x)
  match bellOf src with
  | some c => if sent then wrF s (R.bellBind c) 24 16 (x.seq + 1) else s
  | none => s

/-- Hub source `src` sends several flits to core `n`, in order. -/
def hubSendAll (src n : Nat) : List Flit → State → State
  | [], s => s
  | f :: r, s => hubSendAll src n r (hubSend s src n f)

/-- A hub message leaves on VC3. -/
def hubSendMsg (s : State) (src : Nat) (x : Send) : State :=
  let n := x.dest / 64 % 1024
  hubSendEnds (hubSendAll src n (messageFlits x.dest x.epoch src 0 (stampHeader x.msg x.seq src x.dest)) s) src x true

/-- A hub endpoint begins a message to a ring queue with a QREQ, or sends it at once to an operand queue (R237). -/
def hubSendBegin (s : State) (src : Nat) (x : Send) : State :=
  let s := setHubSends s src (hubSends s src ++ [x])
  if noGrant s x.dest then hubSendMsg s src x
  else hubSend s src (x.dest / 64 % 1024) (mkQreq x.dest (x.msg.length / 32) x.seq src)

/-- A queue answer is a STATUS form CTRL_RESP (Table 9-3). -/
def isStatus (f : Flit) : Bool := fType f = 0xB && bitAt f 44
def fCode (f : Flit) : Nat := ff f 36 8

def execGrant (who : Endpoint) (f : Flit) (s : State) :=
  act s fun s =>
    if ¬ (isStatus f ∧ fCode f = 0x10) then s
    else match who with
      | .core n => engineTakes s n.val f fun s =>
          match sendOf s n.val f with
          | some x => beginSends n.val 8 (sendMsg s n.val x)
          | none => s
      | w =>
        takeHub s f fun s =>
          match answered (hubSends s (srcOf w)) f with
          | some x => hubSendMsg s (srcOf w) x
          | none => s

/-- The send ends as delivered, and `Q_DUP` counts it (R244, Table 9-4). -/
def execDuplicate (who : Endpoint) (f : Flit) (s : State) :=
  act s fun s =>
    if ¬ (isStatus f ∧ fCode f = 0x17) then s
    else match who with
      | .core n => engineTakes s n.val f fun s =>
          let s := cbump s n.val R.qDup 1
          match sendOf s n.val f with
          | some x => beginSends n.val 8 (sendDone s n.val x)
          | none => s
      | w =>
        takeHub s f fun s =>
          match answered (hubSends s (srcOf w)) f with
          | some x => hubSendEnds s (srcOf w) x true
          | none => s

/-- NACK codes of queues and bulk binds (Table 9-4). -/
def isNack (c : Nat) : Bool := (0x11 ≤ c && c ≤ 0x16) || c = 0x18 || c = 0x21

/-- A core's NACK: counted; NACK_BUSY waits for its retry, any other code ends the send with an error record (R245). -/
def coreNack (s : State) (n : Nat) (f : Flit) : State :=
  let s := cbump s n R.qNackReceived 1
  let x := sendOf s n f
  if fCode f = 0x11 then
    match x with
    | some x => upCore s n fun c => { c with sends := c.sends.map fun y =>
        if y = x then { y with busy := some (timeAdd (nowNs s) (crF s n R.qRetryUs 0 8 * 1000)) } else y }
    | none => s
  else
    let s := errorRecord s n (fSrc f) (fCode f) (fSrc f * 64 + ff f 30 6) (ff f 14 16)
    match x with
    | some x => beginSends n 8 (upCore s n fun c => { c with sends := c.sends.erase x })
    | none => s

/-- A Bell channel records a NACK, and drops the result that it is still sending (R281). A NACK that comes after the message
has left finds none. -/
def bellNack (s : State) (c : Nat) (f : Flit) : State :=
  let s := bump (wrF s (R.bellStatus c) 8 8 (fCode f)) (R.bellNacks c) 1
  let src := 0x500 + c
  match answered (hubSends s src) f with
  | some x =>
    let s := hubSendEnds s src x false
    { s with conv := { s.conv with results := s.conv.results.filter fun r => !(r.chan = c && r.going) } }
  | none => s

/-- A hub sender's NACK (R245): a Bell channel's drops the result; NACK_BUSY of another sender waits for its retry, and any
other code ends the send. -/
def hubNack (s : State) (src : Nat) (f : Flit) : State :=
  match bellOf src with
  | some c => bellNack s c f
  | none =>
    match answered (hubSends s src) f with
    | none => s
    | some x =>
      if fCode f = 0x11 then
        setHubSends s src ((hubSends s src).map fun y => if y = x then { y with busy := some (timeAdd (nowNs s) 2000) } else y)
      else hubSendEnds s src x false

def execNackReceived (who : Endpoint) (f : Flit) (s : State) :=
  act s fun s =>
    if ¬ (isStatus f ∧ isNack (fCode f)) then s
    else match who with
      | .core n => engineTakes s n.val f fun s => coreNack s n.val f
      | .dma e => takeHub s f fun s => dmaAnswer s e.val (fSrc f) (fCode f)
      | w => takeHub s f fun s => hubNack s (srcOf w) f

/-- The retry gap after a NACK_BUSY has passed: the QREQ or the bulk bind is repeated (R245). A core's Queue/DMA unit sends no
bind of its own: no operation of Table 9-12 asks it to. -/
def execNackBusyRetry (who : Endpoint) (s : State) :=
  act s fun s =>
    let due (x : Send) : Bool := match x.busy with
      | some t => timeDiff t (nowNs s) ≥ 0
      | none => false
    match who with
    | .core n =>
      match (core s n.val).sends.find? due with
      | some x =>
        if stopped s n.val then s
        else
          let s := upCore s n.val fun c => { c with sends := c.sends.map fun y => if y = x then { y with busy := none } else y }
          coreSend s n.val (mkQreq x.dest (x.msg.length / 32) x.seq n.val)
      | none => s
    | .dma e => dmaRetry s e.val
    | w =>
      let src := srcOf w
      match (hubSends s src).find? due with
      | some x =>
        let s := setHubSends s src ((hubSends s src).map fun y => if y = x then { y with busy := none } else y)
        hubSend s src (x.dest / 64 % 1024) (mkQreq x.dest (x.msg.length / 32) x.seq src)
      | none => s

/-! ### Messages (R240 to R248, R351) -/

/-- Change granule `g`'s flag at a handoff: HOST to DEVICE from the host, DEVICE to HOST from any other sender (R351). -/
def handoffGranule (src : Nat) (s : State) (g : Nat) : State :=
  let old := if src = 0x630 then 1 else 2
  if granuleFree g ∧ flagOf s g = old then setFlag s g (3 - old) else s

/-- The granules of a descriptor change hands; a part of a granule is left and counted (R351). -/
def handoff (s : State) (src addr bytes : Nat) : State :=
  let first := cdiv addr 65536
  let last := (addr + bytes) / 65536
  let base := if addr < hubSram then 0 else 1047552 - hubSram / 65536
  let s := (List.range (last - first)).foldl (fun s i => handoffGranule src s (base + first + i)) s
  let parts := b2n (addr % 65536 ≠ 0) + b2n ((addr + bytes) % 65536 ≠ 0)
  if parts = 0 then s else bump s R.ownHandoffPartial 1

/-- A message's payload asks for a handoff (Tables 9-6, 9-7). -/
def wantsHandoff (msg : List Byte) : Bool :=
  bitAt (w64 (leNat (msg.take 8))) 2 && bitAt (w64 (leNat ((msg.drop 40).take 8))) 33

/-- Head and bodies stand next at the local port of core `n`, which is not halted, and the message is whole: 8 bodies for each
unit, all from the head's source (R236, R240). A message that waits at an operand queue holds up VC3 (R246). -/
def messageHere (s : State) (n : Nat) (head : Flit) (bodies : List Flit) : Bool :=
  !stopped s n && (core s n).opWait.isEmpty && fType head = 4 && bodies.length = 8 * hUnits head
    && (bodies.all fun b => fType b = 5)
    && (((core s n).rx.filter fun g => rxLine g = rxLine head).take (1 + bodies.length) = head :: bodies)

/-- The Queue/DMA unit takes a whole message (R240). -/
def takeMessage (s : State) (n : Nat) (head : Flit) (bodies : List Flit) (eff : State → State) : State :=
  if messageHere s n head bodies then
    eff (upCore s n fun c => { c with rx := (head :: bodies).foldl (fun l f => l.erase f) c.rx })
  else s

/-- A message for a ring queue, or of a kind that no queue takes; a handoff follows a complete record (R243, R351). -/
def ringMessage (s : State) (n : Nat) (head : Flit) (msg : List Byte) : State :=
  let q := hQidx head
  if hKind head ≠ 0 then qAnswer s n (fSrc head) 0x18 q 0
  else
    let before := crF s n R.qMsgIn 0 32
    let s := queueMessage s n head msg
    if wantsHandoff msg ∧ crF s n R.qMsgIn 0 32 ≠ before then
      handoff s (fSrc head) (leNat ((msg.drop 32).take 6)) (leNat ((msg.drop 40).take 4))
    else s

def execQueueMessage (n : CoreId) (head : Flit) (bodies : List Flit) (s : State) :=
  act s fun s =>
    if fType head = 4 ∧ hKind head ≠ 1 ∧ qKind s n.val (hQidx head) ≠ 1 then
      takeMessage s n.val head bodies fun s => ringMessage s n.val head (bodyBytes bodies)
    else s

/-- A message for an operand queue: refused by state, sender or epoch, else it waits for the port (R246, R244). -/
def operandMessage (s : State) (n : Nat) (head : Flit) (msg : List Byte) : State :=
  let q := hQidx head
  let seq := fld (w64 (leNat (msg.take 8))) 16 16
  if qState s n q ≠ 1 then qAnswer s n (fSrc head) 0x12 q seq
  else if fSrc head ≠ fld (qw s n q 1) 32 11 then qAnswer s n (fSrc head) 0x15 q seq
  else if hEpoch head ≠ qEpoch s n q then qAnswer s n (fSrc head) 0x13 q seq
  else noteQ (upCore s n fun c => { c with opWait := c.opWait ++ [⟨q, msg⟩] }) n q 0 false

def execOperandMessage (n : CoreId) (head : Flit) (bodies : List Flit) (s : State) :=
  act s fun s =>
    if fType head = 4 ∧ hKind head = 0 ∧ qKind s n.val (hQidx head) = 1 then
      takeMessage s n.val head bodies fun s => operandMessage s n.val head (bodyBytes bodies)
    else s

/-- The oldest waiting message of an operand queue is delivered once its port is free (R246, R252); it has waited `held`
cycles. -/
def execOperandDelivery (n : CoreId) (q : QIdx) (held : Nat) (taken : Bool) (s : State) :=
  act s fun s =>
    match (core s n.val).opWait.find? fun w => w.q = q.val with
    | some w =>
      if portFree s n.val q.val taken && !stopped s n.val then
        let s := cbump s n.val R.qHeldCycles held
        let s := upCore s n.val fun c => { c with opWait := c.opWait.erase w }
        let s := cbump s n.val R.qMsgIn 1
        drainDone (deliverOp s n.val q.val w.msg) n.val q.val
      else s
    | none => s

/-! ### Bulk binds and blocks (R253, R254) -/

/-- The fields of Table 9-11. -/
def mkBind (src : Nat) (msg : List Byte) : Bind :=
  let b0 := w64 (leNat (msg.take 8))
  { src := src, circuit := fld b0 32 3, offset := fld b0 0 20, blocks := leNat ((msg.drop 8).take 4)
    sig := if bitAt b0 35 then some (fld b0 36 5) else none }

/-- A bulk bind takes one of 8 places, by (SRC, CIRCUIT), or is answered NACK_BUSY (R253). -/
def bulkBind (s : State) (n : Nat) (head : Flit) (msg : List Byte) : State :=
  let b := mkBind (fSrc head) msg
  let l := (core s n).binds.filter fun x => !(x.src = b.src && x.circuit = b.circuit)
  if l.length ≥ 8 then qAnswer s n (fSrc head) 0x11 (hQidx head) 0
  else upCore s n fun c => { c with binds := l ++ [b] }

def execBulkBind (n : CoreId) (head : Flit) (bodies : List Flit) (s : State) :=
  act s fun s =>
    if fType head = 4 ∧ hKind head = 1 then
      takeMessage s n.val head bodies fun s => bulkBind s n.val head (bodyBytes bodies)
    else s

/-- A direct write to core `n` while its job runs takes the job out of R70 (R104, R164). -/
def directWrite (s : State) (n : Nat) : State :=
  if assigned s n ∧ jobState s (coreBreath s n) = 3 then outsideDet s (coreBreath s n) else s

/-- Offsets whose direct write R104 and R164 name: the plastic window, scratch and the registers. -/
def directOffset (off : Nat) : Bool := (0x38000 ≤ off && off < 0x40000) || (0x70000 ≤ off && off < 0x80000)

/-- The Plasticity Engine may write the word at `off` in the same cycle as port B: the running step processes its row (R29,
R163). -/
def plasWrites (s : State) (n off : Nat) : Bool :=
  plasActive s n && 0x38000 ≤ off && off < 0x40000
    && (core s n).plasUnits.any fun u => u.1 < off / 8 * 8 + 8 && off / 8 * 8 < u.1 + u.2

/-- Write through port B into the core's stride: memory, or registers word by word; unmapped offsets discard (R32). `raced` says
that port A writes each word that it can in the same cycle: the port B write of such a word is lost and counted (R29). -/
def portBWrite (n : Nat) (raced : Bool) : List W64 → State → Nat → State
  | [], s, _ => s
  | w :: r, s, off =>
    let s := if raced && plasWrites s n off then cbump s n R.plasWriteLost 1
      else if off < 0x78000 then stU s (coreBase n + off) 8 w.toNat
      else if off < 0x80000 then coreRegStore s n (off - 0x78000) .whole w 0 true else s
    portBWrite n raced r s (off + 8)

/-- Job of a core's check (R322). -/
def jobCheck (s : State) (n : Nat) : Option Nat := if assigned s n then some (coreJob s n) else none

/-- A bind's last block has arrived: the answer, the bind freed, the signal; a block that failed faults the job of the bind
(R254, R326). -/
def bindDone (s : State) (n : Nat) (b : Bind) : State :=
  let s := upCore s n fun c => { c with binds := c.binds.filter fun x => !(x.src = b.src && x.circuit = b.circuit) }
  let s := coreSend s n (mkStatus b.src n (if b.bad then 0x21 else 0x20) 0)
  let s := if b.bad ∧ assigned s n then raiseJob s (coreJob s n) 0x07 else s
  match b.sig with
  | some o => unitSignal s n o
  | none => s

/-- A complete block on a circuit: checked against its place in the stream, written or not, and counted (R254); a direct write
of a running job's core is noted (R164). -/
def bulkBlock (s : State) (n src circuit : Nat) (data : List Byte) (tag : W64) (raced : Bool) : State :=
  match (core s n).binds.find? fun x => x.src = src && x.circuit = circuit with
  | none => cbump s n R.bulkUnbound 44
  | some b =>
    let r := checkBlock s data tag b.done (jobCheck s n) none
    let good := r.1 = .good
    let off := b.offset + 256 * b.done
    let s := if good then
        let s := cbump (portBWrite n raced (wordsOf 32 data) r.2 off) n R.bulkBlocks 1
        if directOffset off then directWrite s n else s
      else cbump r.2 n R.bulkTagErr 1
    let b' := { b with done := b.done + 1, bad := b.bad || !good }
    let s := upCore s n fun c => { c with binds := c.binds.map fun x => if x = b then b' else x }
    if b'.done ≥ b'.blocks then bindDone s n b' else s

/-- Label of the circuit that ends at core `n` from this source and circuit number (R206). -/
def labelOf (s : State) (n src circuit : Nat) : Option Nat :=
  (List.range 8).find? fun l => Sparse.get (fun _ => 0) (core s n).labels l = src * 8 + circuit + 1

/-- A block is complete at core `n` when its 44 BULK flits stand next on the circuit's label (R209). -/
def blockHere (s : State) (n src circuit : Nat) (data : List Byte) (tag : W64) : Bool :=
  !stopped s n && data.length = 256 && match labelOf s n src circuit with
    | some l => (((core s n).rx.filter fun g => fType g = 9 && fLabel g = l).take 44) = bulkFlits l data tag
    | none => false

/-- R209, R254. -/
def execBulkBlock (n : CoreId) (src : BitVec 12) (circuit : Fin 8) (data : List Byte) (tag : W64) (raced : Bool) (s : State) :=
  act s fun s =>
    if ¬ blockHere s n.val src.toNat circuit.val data tag then s
    else
      let l := (labelOf s n.val src.toNat circuit.val).getD 0
      bulkBlock (upCore s n.val fun c => { c with rx := (bulkFlits l data tag).foldl (fun l f => l.erase f) c.rx })
        n.val src.toNat circuit.val data tag raced

/-- A circuit's source is answered: CIRCUIT_ACCEPTED lets BULK start, a refusal makes the source send a teardown with
the same circuit number and destination (R207). -/
def circuitAnswer (s : State) (n : Nat) (f : Flit) : State :=
  let k := ff f 33 3
  let g := Sparse.get (fun _ => 0) (core s n).circOut k
  if g = 0 then s
  else if fCode f = 0x30 then
    upCore s n fun c => { c with circOut := Sparse.set (fun _ => 0) c.circOut k (setBit g 0) }
  else
    let s := upCore s n fun c => { c with circOut := Sparse.set (fun _ => 0) c.circOut k 0 }
    coreSend s n (putFld (clrBit g 0) 60 4 8)

def execCircuitReply (n : CoreId) (f : Flit) (s : State) :=
  act s fun s =>
    if isStatus f ∧ 0x30 ≤ fCode f ∧ fCode f ≤ 0x34 then
      engineTakes s n.val f fun s => circuitAnswer s n.val f
    else s

/-! ### Register and memory access (R184, R255) -/

/-- The step that a membrane read of step tag `g` asks for: the step of that tag from one before `COMMIT_STEP` to two
after it. -/
def mreadStep (s : State) (n g : Nat) : BitVec 32 :=
  let c := commitStep s n
  let d := (g + 4 - c.toNat % 4) % 4
  if d = 3 then c - 1 else c + BitVec.ofNat 32 d

/-- A READ is a membrane read: from a hub DMA engine, of neuron state, on a core with `MREAD` = 1 (R184, R280). -/
def isMread (s : State) (n : Nat) (f : Flit) : Bool :=
  let w := ff f 22 17
  crB s n R.ovbConfig 0 && ff f 39 4 ≥ 5 && ff f 39 4 ≤ 12 && 0xC000 ≤ w && w < 0xD000

/-- The 64-bit word that a READ names (R27, R32, R184, R255). -/
def readWord (s : State) (n : Nat) (f : Flit) : W64 :=
  let off := 8 * ff f 22 17
  if isMread s n f ∧ (core s n).loadedStep = mreadStep s n (ff f 13 2) + 1 ∧ (core s n).loaded.contains (ff f 22 17 - 0xC000)
  then w64 (ldU s (coreBase n + off + 0x8000) 8)
  else if off < 0x78000 then w64 (ldU s (coreBase n + off) 8)
  else if off < 0x80000 then coreRegRead s n (off - 0x78000)
  else ones 63 0

/-- A DATA form response (Table 9-3). -/
def mkData (rq tag v : Nat) : Flit :=
  w64 (mkHead 0xB 0 false 63 0 + rq % 16 * 2 ^ 40 + tag % 256 * 2 ^ 32 + v % 2 ^ 32)

/-- A READ is carried out and answered; the membrane read marked last answers its step (R184, R255). -/
def ctrlRead (s : State) (n : Nat) (f : Flit) : State :=
  let w := readWord s n f
  let v := if bitAt f 21 then fld w 32 32 else fld w 0 32
  let s := if isMread s n f && bitAt f 20 then upCore s n fun c => { c with mread := some (mreadStep s n (ff f 13 2)) } else s
  coreSend s n (mkData (ff f 39 4) (ff f 13 8) v)

/-- A CTRL flit of operation `op` (Table 9-2). -/
def isCtrl (f : Flit) (op : Nat) : Bool := fType f = 0xA && ff f 43 2 = op

def execCtrlRead (n : CoreId) (f : Flit) (s : State) :=
  act s fun s => if isCtrl f 0 then engineTakes s n.val f fun s => ctrlRead s n.val f else s

def execCtrlWriteA (n : CoreId) (f : Flit) (s : State) :=
  act s fun s =>
    if isCtrl f 1 then engineTakes s n.val f fun s => upCore s n.val fun c =>
      { c with writeA := Sparse.set (fun _ => 0) c.writeA (ff f 39 4) (f.toNat + 1) }
    else s

/-- Registers whose writes configure the core: those with stored bits, but for the operand of queue operations (R104,
R256). -/
def isCoreConfig (n r : Nat) : Bool := (coreInfo n r).rw ≠ 0 && r ≠ R.qopArg

/-- A write of a core register from outside: its effect, R104, and the journal entry of every host write of a register of
an assigned core, but for those of W1C and RO registers (R391, Table 14-8). -/
def coreRegWrite (s : State) (n r : Nat) (acc : Width) (v : W64) (host : Bool) : State :=
  let old := cr s n r
  let noted := host && assigned s n && ((coreInfo n r).rw ≠ 0 || r = R.qopCmd)
  let s := coreRegStore s n r acc v 0 true
  let s := if isCoreConfig n r then directWrite s n else s
  if noted then
    journal s 0xFF01 2 0 0 0 ⟨4, n + (0x78000 + r) * 1024, if r = R.qopCmd then crcOf 8 0 else crcOf 8 old.toNat,
      if r = R.qopCmd then crcOf 8 v.toNat else crcOf 8 (cr s n r).toNat⟩
  else s

/-- A WRITE_D completes the write that its WRITE_A addressed: done, lost to a port A write of the same word, or discarded
(R29, R32, R255). -/
def ctrlWrite (s : State) (n : Nat) (f : Flit) (raced : Bool) : State :=
  let rq := ff f 39 4
  let a := Sparse.get (fun _ => 0) (core s n).writeA rq
  if a = 0 then s
  else
    let g := w64 (a - 1)
    let off := 8 * ff g 22 17
    let half := bitAt g 21
    let data := ff f 7 32
    let s := upCore s n fun c => { c with writeA := Sparse.del c.writeA rq }
    let dst := if rq = 0 then 0x630 else if rq < 5 then 0x618 + rq - 1 else 0x600 + rq - 5
    let arg := rq * 2 ^ 20 + ff g 13 8 * 2 ^ 12
    if raced && plasWrites s n off then coreSend (cbump s n R.plasWriteLost 1) n (mkStatus dst n 1 arg)
    else if off < 0x78000 then
      let s := stU s (coreBase n + off + 4 * b2n half) 4 data
      coreSend (if directOffset off then directWrite s n else s) n (mkStatus dst n 0 arg)
    else if off < 0x80000 then
      let s := if half then coreRegWrite s n (off - 0x78000) .highHalf (w64 (data * 2 ^ 32)) (rq = 0)
        else coreRegWrite s n (off - 0x78000) .lowHalf (w64 data) (rq = 0)
      coreSend s n (mkStatus dst n 0 arg)
    else coreSend s n (mkStatus dst n 2 arg)

def execCtrlWriteD (n : CoreId) (f : Flit) (raced : Bool) (s : State) :=
  act s fun s => if isCtrl f 2 then engineTakes s n.val f fun s => ctrlWrite s n.val f raced else s

/-- A requester takes a response to its access, kept by `RQ`; a core takes a BULK_DONE, a hub DMA engine what answers its bind
or its circuit (R207, R239, R245, R254). -/
def execCtrlResp (who : Endpoint) (f : Flit) (s : State) :=
  act s fun s =>
    if fType f ≠ 0xB then s
    else match who with
      | .core n => if isStatus f ∧ fCode f = 0x20 then engineTakes s n.val f fun s => s else s
      | w => takeHub s f fun s =>
          let rq := if bitAt f 44 then ff f 32 4 else ff f 40 4
          let s := { s with mesh := { s.mesh with resp := Sparse.set (fun _ => 0) s.mesh.resp rq f } }
          match w with
          | .dma e => if isStatus f ∧ fCode f ≥ 0x20 then dmaAnswer s e.val (fSrc f) (fCode f) else s
          | _ => s

end Sys2Proof.Machine
end

