-- ==== Sys2Proof/Machine/Links.lean ====
section
/-! DEFINITION. Link health and control words of mesh and peer links, and the sending of peer frames (R213 to R220,
R357 to R364). -/
namespace Sys2Proof.Machine

/-! ### Link directions by name -/

/-- Key of a link direction's state: mesh links by node and output, outgoing peer port p at 10,000 + p. -/
def linkOf : LinkId → Nat
  | .mesh node out => linkKey (nodeIx node) (portIx out)
  | .peer p => 10000 + p.val
/-- Key of the receiving side of peer port `p`. -/
def peerIn (p : Nat) : Nat := 10100 + p

/-- The link exists. -/
def linkExists : LinkId → Bool
  | .mesh node out => portIx out < 4 && (neighbour (nodeIx node) (portIx out)).isSome
  | .peer _ => true

/-- State of a link direction (Tables 8-15, 8-16, 13-12). -/
def stateOf (s : State) : LinkId → Nat
  | .mesh node out => linkState s (nodeIx node) (portIx out)
  | .peer p => rdF s (R.peerStatus p.val) 0 2
def setStateOf (s : State) (l : LinkId) (v : Nat) : State :=
  match l with
  | .mesh node out => setLinkState s (nodeIx node) (portIx out) v
  | .peer p => wrF s (R.peerStatus p.val) 0 2 v

/-! ### The package tree (R361) -/

def pkgId (s : State) : Nat := rdF s R.pkgId 0 4
/-- `PEER_TREE.ROLE`: 0 STANDALONE, 1 MANAGER, 2 FIRST_TIER, 3 SECOND_TIER. -/
def peerRole (s : State) : Nat := rdF s R.peerTree 0 2
def portInUse (s : State) (p : Nat) : Bool := rdB s R.peerTree (4 + p)

/-- Parent of a package (Table 13-13). -/
def parentOf (k : Nat) : Nat := if k ≤ 4 then 0 else (k - 5) / 3 + 1

/-- Packages in the subtree that the manager's port `p` leads to (R361). -/
def subtree (p : Nat) : List Nat := (List.range 16).filter fun k => k = p + 1 || (4 < k && parentOf k = p + 1)

/-- Child ports that lead towards packages holding parts of breath `j`'s job (R47, R364). The manager knows the parts from
the JOB_LOADs that it has relayed (DEDUCED); which they are on a worker the spec leaves open (log entry 19). -/
def childPorts (s : State) (j : Nat) : List Nat :=
  if ¬ (jobOf s j).hier then []
  else if peerRole s = 1 then
    (List.range 4).filter fun p => portInUse s p
      && (subtree p).any fun k => (Sparse.get (fun _ => 0) s.mbox.parts (jobId s j)).testBit k
  else (jobOf s j).ports

/-- A job has a part beyond peer port `p`. -/
def farSide (s : State) (j p : Nat) : Bool :=
  jobState s j ≠ 0 && (jobOf s j).hier && ((childPorts s j).contains p || (brthHier s j && p = 0))

/-! ### Losses, replays and retrains -/

/-- A link's loss of UP, or a timeout, as the L0 job's condition `RETRY` (R468). -/
def failLink (s : State) : LinkId → State
  | .mesh node out => failRetry s (nodeIx node) (portIx out)
  | .peer p => (List.range 64).foldl (fun s j => if brthL0 s j && farSide s j p.val then failCond s j 2 else s) s

/-- A peer link enters RETRAIN (R360). -/
def retrain (s : State) (l : LinkId) : State :=
  match l with
  | .mesh node out => startRetrain s (nodeIx node) (portIx out)
  | .peer p =>
    if rdF s (R.peerStatus p.val) 0 2 ≥ 2 then s
    else
      let k := linkOf l
      failLink (bump (setStateOf (setLink s k { link s k with run := 0, disc := 0 }) l 2) (R.peerRetrains p.val) 1) l

/-- One replay (R214, R215, R359). -/
def replayed (s : State) (l : LinkId) : State :=
  match l with
  | .mesh node out => countReplay s (nodeIx node) (portIx out)
  | .peer p =>
    let k := linkOf l
    let h := link s k
    let s := setLink (bump s (R.peerReplays p.val) 1) k { h with run := h.run + 1, window := h.window + 1 }
    if h.run + 1 ≥ 8 then retrain s l else s

/-! ### Links that go down -/

/-- A link's fall: its alarm, its flits, and the jobs that use it (R220, R360). -/
def fall (s : State) (l : LinkId) : State :=
  match l with
  | .mesh node out => linkDown s (nodeIx node) (portIx out)
  | .peer p =>
    let k := linkOf l
    let lost := (link s k).replay.length + (Sparse.get (fun _ => []) s.mesh.peerQ p.val).length
    let s := failLink (bump (setB (clrB (setStateOf s l 3) (R.peerStatus p.val) 2) R.peerAlarm 1) (R.peerDownDrops p.val) lost) l
    let s := setLink s k { link s k with replay := [], run := 0, fails := 0 }
    let s := { s with mesh := { s.mesh with peerQ := Sparse.set (fun _ => []) s.mesh.peerQ p.val [] } }
    (List.range 64).foldl (fun s j => if farSide s j p.val then raise s j 0x0D (brth s j).started.toNat else s) s

/-- A link goes DOWN, which Chanter journals with the fault code of its jobs (R220, R360, Table 14-8). -/
def goesDown (s : State) (l : LinkId) : State :=
  let code := match l with
    | .mesh _ _ => 0x0C
    | .peer _ => 0x0D
  journalOwn (fall s l) code ⟨10, 0, crcOf 1 (stateOf s l), crcOf 1 3⟩

/-! ### Ports of the package tree (R361) -/

/-- Port of this package towards package `k` (R361). -/
def peerPort (s : State) (k : Nat) : Option Nat :=
  let me := pkgId s
  let p : Option Nat :=
    if peerRole s = 0 ∨ k = me then none
    else if peerRole s = 1 then some ((if k ≤ 4 then k else parentOf k) - 1)
    else if peerRole s = 2 ∧ k > 4 ∧ parentOf k = me then some (k - 4 - 3 * (me - 1))
    else some 0
  match p with
  | some q => if portInUse s q then some q else none
  | none => none

/-! ### Peer frames (R358, R359) -/

/-- A frame from its fields (Table 13-11). -/
def mkFrame (payload : Flit) (pkg seq : Nat) : Frame :=
  let v := payload.toNat * 2 ^ 16 + pkg % 16 * 2 ^ 12 + seq % 4096
  BitVec.ofNat 96 (v * 2 ^ 16 + crc16 (beBytes 10 v))

def peerQueue (s : State) (p : Nat) : List (Nat × Flit) := Sparse.get (fun _ => []) s.mesh.peerQ p
def setPeerQueue (s : State) (p : Nat) (l : List (Nat × Flit)) : State :=
  { s with mesh := { s.mesh with peerQ := Sparse.set (fun _ => []) s.mesh.peerQ p l } }

/-- A flit can leave by peer port `p`: the link is up, with a credit of its VC and replay space (R359). -/
def peerCanSend (s : State) (p : Nat) (f : Flit) : Bool :=
  let h := link s (10000 + p)
  rdF s (R.peerStatus p) 0 2 ≤ 1 && h.replay.length < 512 && h.used.getD (fVc f) 0 < bufCap (fVc f)

/-- Put a flit on a peer link. -/
def putPeer (s : State) (p pkg : Nat) (f : Flit) : State :=
  let k := 10000 + p
  let h := link s k
  let s := setLink s k { h with
    next := h.next + 1, replay := h.replay ++ [(h.next, f)], used := h.used.set (fVc f) (h.used.getD (fVc f) 0 + 1) }
  let fr := mkFrame f pkg h.next
  let old := Sparse.get (fun _ => []) s.outs.peer p
  bump { s with outs := { s.outs with peer := Sparse.set (fun _ => []) s.outs.peer p (fr :: old) } } (R.peerFramesTx p) 1

/-- Send what waits at peer port `p`, VC0 first, as far as credit allows (R359). -/
def flushPeer (p : Nat) : Nat → State → State
  | 0, s => s
  | k + 1, s =>
    let l := peerQueue s p
    let pick := match l.find? fun x => fVc x.2 = 0 with
      | some x => if peerCanSend s p x.2 then some x else l.find? fun y => fVc y.2 ≠ 0 && peerCanSend s p y.2
      | none => l.find? fun y => peerCanSend s p y.2
    match pick with
    | some x => flushPeer p k (putPeer (setPeerQueue s p (l.erase x)) p x.1 x.2)
    | none => s

/-- Send a flit to package `pkg`: a TYPE that never crosses is discarded, a package that does not exist is counted, and a
port that is DOWN drops it (R359 to R361). -/
def peerSend (s : State) (pkg : Nat) (f : Flit) : State :=
  let t := fType f
  match peerPort s pkg with
  | none => bump s R.peerNoRoute 1
  | some p =>
    if t = 2 ∨ t = 4 ∨ t = 5 ∨ t = 7 ∨ t = 8 ∨ t = 9 ∨ fVc f > 1 then bump s R.peerBadType 1
    else if rdF s (R.peerStatus p) 0 2 = 3 then bump s (R.peerDownDrops p) 1
    else flushPeer p ((peerQueue s p).length + 1) (setPeerQueue s p (peerQueue s p ++ [(pkg, f)]))

/-! ### Peer barrier traffic (R364) -/

/-- A peer barrier flit of the job bound to breath `j`: kind 0 SENT, 1 RECEIVED, 2 DONE, 3 START, 4 COMMIT, 5 HOLD. -/
def mkPeerBarrier (s : State) (j kind tag value : Nat) : Flit := mkReduce 3 0 63 kind (0x700 + jobId s j) tag value

/-- Package at the far end of port `p`, for traffic between neighbours in the tree. -/
def portPkg (s : State) (p : Nat) : Nat :=
  if peerRole s = 1 then p + 1 else if peerRole s = 2 then (if p = 0 then 0 else 4 + 3 * (pkgId s - 1) + p)
  else parentOf (pkgId s)

/-- Tell the parent package. -/
def sendUp (s : State) (j kind tag value : Nat) : State := peerSend s (portPkg s 0) (mkPeerBarrier s j kind tag value)

/-- Tell every child package that holds a part of the job. -/
def sendDown (s : State) (j kind : Nat) (t : BitVec 32) : State :=
  (childPorts s j).foldl (fun s p => peerSend s (portPkg s p) (mkPeerBarrier s j kind (t.toNat % 4) t.toNat)) s

/-! ### Control words (R213 to R215) -/

/-- Position on the link of the newest flit that an ACK of `a` on lane `lane` covers. A peer link has one lane, and its
ACK gives the low 8 bits of the frame's SEQ (log entry 20). -/
def ackedAt (peer : Bool) (h : Link) (lane a : Nat) : Option Nat :=
  (h.replay.find? fun r => if peer then r.1 % 256 = a else r.1 % 2 = lane && r.1 / 2 % 256 = a).map (·.1)

/-- Take the credits that a control word brings (R213). -/
def takeCredits (h : Link) (w : W64) : Link :=
  (List.range 5).foldl (fun h q =>
    let c := fld w (6 + 3 * q) 3
    let d := (c + 8 - h.seen.getD q 0) % 8
    { h with used := h.used.set q (h.used.getD q 0 - d), seen := h.seen.set q c }) h

/-- What an ACK or NAK leaves in the replay buffer: a NAK of position n acknowledges every position before n. -/
def afterAck (peer : Bool) (h : Link) (w : W64) : List (Nat × Flit) :=
  let lane := fld w 30 1
  match ackedAt peer h lane (fld w 22 8) with
  | none => h.replay
  | some p =>
    if peer then h.replay.filter fun r => r.1 > p
    else if bitAt w 21 then h.replay.filter fun r => r.1 ≥ p + 2
    else h.replay.filter fun r => !(r.1 % 2 = lane && r.1 ≤ p)

/-- A good control word reaches the sender of link `l`. -/
def controlWord (s : State) (l : LinkId) (w : W64) : State :=
  let k := linkOf l
  let peer := match l with
    | .peer _ => true
    | _ => false
  let h := link s k
  let s := setLink s k { takeCredits h w with replay := afterAck peer h w, disc := 0, nakTaken := bitAt w 21 }
  let s := if bitAt w 21 then replayed s l else s
  match l with
  | .peer p => flushPeer p.val ((peerQueue s p.val).length) s
  | _ => s

/-- A control word arrives: good, or with an uncorrectable error, in which case it is discarded, and the third in a row
retrains the link (R213, R219). -/
def takeControl (s : State) (l : LinkId) (w : W64) (good : Bool) : State :=
  if ¬ linkExists l then s
  else if good then controlWord s l w
  else
    let k := linkOf l
    let h := link s k
    let s := setLink s k { h with disc := h.disc + 1 }
    let s := match l with
      | .mesh (.router n) _ => bump s (R.linkCtrlDiscards n.val) 1
      | _ => s
    if h.disc + 1 ≥ 3 then retrain s l else s

def execControlWordReceive (l : LinkId) (word : BitVec 31) (good : Bool) (s : State) :=
  act s fun s => takeControl s l (word.setWidth 64) good

/-- The oldest flit not acknowledged passes its timeout: one replay, unless the sender has taken a NAK in the same cycle
(`merged`), whose replay it is (R215). -/
def replayTimeout (s : State) (l : LinkId) (merged : Bool) : State :=
  let h := link s (linkOf l)
  if ¬ linkExists l ∨ h.replay.isEmpty ∨ stateOf s l > 1 then s
  else if merged ∧ h.nakTaken then setLink s (linkOf l) { h with nakTaken := false }
  else failLink (replayed s l) l

def execReplayTimeout (l : LinkId) (merged : Bool) (s : State) := act s fun s => replayTimeout s l merged

/-! ### Windows and retrains (R218 to R220, R360) -/

/-- Replays that a window allows. -/
def retryBudget (s : State) : LinkId → Nat
  | .mesh _ _ => rdF s R.meshRetryBudget 0 16
  | .peer _ => rdF s R.peerRetryBudget 0 16

/-- A window exceeded its budget: DEGRADED, with the alarm and the time (R218, R360). -/
def degrade (s : State) (l : LinkId) : State :=
  let s := if stateOf s l = 0 then setStateOf s l 1 else s
  match l with
  | .mesh _ _ => failLink (wr (setB s R.meshAlarm 0) R.meshLastDegraded (w64 (nowNs s))) l
  | .peer _ => failLink (setB s R.peerAlarm 0) l

/-- The 1 ms window of a link direction ends (R218). -/
def windowEnd (s : State) (l : LinkId) : State :=
  let k := linkOf l
  let h := link s k
  let s := setLink s k { h with window := 0 }
  if h.window > retryBudget s l then degrade s l
  else if stateOf s l = 1 then setStateOf s l 0 else s

def execRetryWindowEnd (l : LinkId) (s : State) := act s fun s => if linkExists l then windowEnd s l else s

/-- Peer links resume after training: nothing is lost, and credits start again. -/
def resyncLink (s : State) (l : LinkId) : State :=
  match l with
  | .mesh node out => resync s (nodeIx node) (portIx out)
  | .peer p =>
    let k := linkOf l
    let h := link s k
    let used := (List.range 5).map fun q => (h.replay.filter fun r => fVc r.2 = q).length
    let s := setLink s k { h with used := used, seen := [0, 0, 0, 0, 0], run := 0, disc := 0, fails := 0 }
    flushPeer p.val ((peerQueue s p.val).length) s

/-- A link has trained: UP, and of a peer port `PEER_STATUS.TRAINED`, which it keeps until it goes DOWN (log entry 162). -/
def trained (s : State) (l : LinkId) : State :=
  let s := setStateOf s l 0
  match l with
  | .mesh _ _ => s
  | .peer p => setB s (R.peerStatus p.val) 2

/-- A retrain ends: the link resumes, or trains again; the third failure in a row takes it DOWN (R219, R220). -/
def retrainEnd (s : State) (l : LinkId) (up : Bool) : State :=
  if stateOf s l ≠ 2 then s
  else if up then trained (resyncLink s l) l
  else
    let k := linkOf l
    let h := link s k
    if h.fails + 1 ≥ 3 then goesDown s l
    else
      let s := setLink s k { h with fails := h.fails + 1 }
      match l with
      | .mesh (.router n) out => bump s (R.linkRetrains n.val (portIx out)) 1
      | .mesh (.hub _) _ => s
      | .peer p => bump s (R.peerRetrains p.val) 1

def execLinkRetrainEnd (l : LinkId) (up : Bool) (s : State) :=
  act s fun s => if linkExists l then retrainEnd s l up else s

/-- The link crosses between dies (R13, Table 1-2). -/
def isLigature : LinkId → Bool
  | .mesh (.hub _) _ => true
  | .mesh (.router n) out =>
    match neighbour n.val (portIx out) with
    | some (m, _) => m ≥ 1024 || dieOf n.val ≠ dieOf m
    | none => false
  | .peer _ => false

/-- A Ligature module reports loss of lane lock (R219). -/
def execLaneLockLoss (l : LinkId) (s : State) :=
  act s fun s => if linkExists l && isLigature l then retrain s l else s

end Sys2Proof.Machine
end

