-- ==== Sys2Proof/Machine/Converters.lean ====
section
/-! DEFINITION. The converters and the closing of barriers: row maps, Bell channels, Mouthpiece channels, Event Port
input, closure and the start of a step (R38, R53, R269 to R288, R468). -/
namespace Sys2Proof.Machine

/-! ### Channels (Tables 10-1, 10-3) -/

def mpRunning (s : State) (c : Nat) : Bool := rdF s (R.mpStatus c) 0 2 = 1
def mpBreath (s : State) (c : Nat) : Nat := rdF s (R.mpConfig c) 24 6
def mpN (s : State) (c : Nat) : Nat := rdF s (R.mpElems c) 0 13
def bellRunning (s : State) (c : Nat) : Bool := rdF s (R.bellStatus c) 0 2 = 1
def bellBreath (s : State) (c : Nat) : Nat := rdF s (R.bellConfig c) 24 6
def bellN (s : State) (c : Nat) : Nat := rdF s (R.bellElems c) 0 13
def bellMode (s : State) (c : Nat) : Nat := rdF s (R.bellConfig c) 0 3

/-- The fault of the first block of a range that an engine's access for `job` meets, if any: POISON 7, OWNERSHIP 8,
UNMAPPED 9 (R273, R326, R345, R347). -/
def rangeFault (job : Nat) : Nat → State → Nat → Option Nat × State
  | 0, s, _ => (none, s)
  | k + 1, s, a =>
    match regionOf s a with
    | .ddr | .hubTagged =>
      if (granuleOf s a).map (flagOf s) = some 1 then (some 8, ownDeviceFault s)
      else
        let r := checkAt s a (some job)
        if r.1 = .good then rangeFault job k r.2 (a + 256) else (some 7, bump r.2 R.poisonConsumed 1)
    | .hubTags | .hubSys | .hubDual => rangeFault job k s (a + 256)
    | _ => (some 9, s)

/-- An engine of the hub reads `n` bytes at `a` for a job (R273, R278). -/
def engineRead (s : State) (job a n : Nat) : Option Nat × List Byte × State :=
  let first := a / 256 * 256
  let r := rangeFault job (if n = 0 then 0 else (a + n - 1) / 256 + 1 - a / 256) s first
  (r.1, ldN s a n, r.2)

/-- An engine of the hub writes bytes at `a`: tagged memory as whole blocks that any job may read. -/
def engineWrite (s : State) (job a : Nat) (l : List Byte) : State :=
  if isTagged s a then stTagged job true (l.length / 256 + 2) s a l else stN s a l

/-! ### Sums of a breath (R45, R46, R50, R53, R364) -/

/-- A hub participant, or a report, adds to a breath's sums: kind 0 sent, 1 received, 2 done, an 11-bit count. A worker
breath also sends the delta up (R53, R364). -/
def accAdd (s : State) (j kind g v : Nat) : State :=
  let b := brth s j
  let a := accOf b g
  let a := if kind = 0 then { a with sent := a.sent + BitVec.ofNat 32 v }
    else if kind = 1 then { a with recv := a.recv + BitVec.ofNat 32 v }
    else { a with done := (a.done + v) % 2048 }
  let s := setBrth s j (setAcc b g a)
  if brthHier s j && kind < 2 then sendUp s j kind (g % 4) v else s

/-- A participant completes tag `g` of breath `j` (R50). -/
def accComplete (s : State) (j g who : Nat) : State :=
  let b := brth s j
  let a := accOf b g
  setBrth s j (setAcc b g { a with waiting := a.waiting.erase who })

/-! ### The L0 job's conditions (R468, R469) -/

def streamValid (s : State) (k : Nat) : Bool := rdB s (R.epStreamA k) 0
def streamBreath (s : State) (k : Nat) : Nat := rdF s (R.epStreamA k) 18 6
/-- Stream `k` is valid and of EVENTS: its frames inject flits (R287). -/
def streamInjects (s : State) (k : Nat) : Bool := streamValid s k && rdB s (R.epStreamA k) 1

/-- Another job has a core in the job's rows, or a hub endpoint bound to another job injects at the job's hub ports. -/
def rowShared (s : State) (j : Nat) : Bool :=
  let y0 := rectY0 s j
  let y1 := rectY1 s j
  ((List.range 64).any fun k => k ≠ j && jobState s k ≠ 0 && rectY0 s k ≤ y1 && y0 ≤ rectY1 s k)
    || ((List.range 256).any fun c => mpRunning s c && mpBreath s c ≠ j
        && (let p := rdF s (R.mpRoute c) 41 5; y0 ≤ p && p ≤ y1))
    || (List.range 64).any fun k => streamInjects s k && streamBreath s k ≠ j
        && (let p := rdF s (R.epStreamB k) 41 5; y0 ≤ p && p ≤ y1)

/-- Conditions of Table 19-1 that fail by what holds now: bits 1, 4, 6 and 7. -/
def condsNow (s : State) (j : Nat) : Nat :=
  b2n (rdB s R.pwrAlarm 2 || rdB s R.pwrAlarm 4 || rdF s R.pwrL0Freq 0 7 < 40) * 2
    + b2n (brthState s j ≠ 2) * 16
    + b2n (haltHold s j || (List.range 1024).any fun n => (core s n).halted && onPath s j n) * 64
    + b2n (rowShared s j) * 128

/-- Step `t` starts: the conditions that fail already (R468). -/
def openL0 (s : State) (j : Nat) (t : BitVec 32) : State :=
  if brthL0 s j then setBrth s j (setCond (brth s j) t.toNat (condsNow s j)) else s

/-- The step that closes is recorded as outside conditions if any failed (R468, R469). -/
def noteL0 (s : State) (j : Nat) (t : BitVec 32) : State :=
  if ¬ brthL0 s j then s
  else
    let c := condOf (brth s j) t.toNat ||| condsNow s j
    recordOut (setBrth s j { setCond (brth s j) t.toNat 0 with closedAt := some (nowNs s) }) j t c

/-! ### Bell channels (R278 to R281) -/

/-- Reference step of a Bell channel (R278). -/
def bellRef (s : State) (c : Nat) : BitVec 32 := Sparse.get (fun _ => 0xFFFFFFFF) s.conv.bellRef c
def setBellRef (s : State) (c : Nat) (t : BitVec 32) : State :=
  { s with conv := { s.conv with bellRef := Sparse.set (fun _ => 0xFFFFFFFF) s.conv.bellRef c t } }

def bellJob (s : State) (c : Nat) : Nat := rdF s (R.bellConfig c) 16 8

/-- A channel's access fails: the channel and its job fault (R273, Table 12-5). -/
def bellFault (s : State) (c code : Nat) : State := raiseJob (wrF s (R.bellStatus c) 0 2 2) (bellJob s c) code

/-- Bytes of an element's state: Σ[0], Σ[1], N[0], N[1], R (R278). -/
def bellElem (l : List Byte) (e k n : Nat) : Nat := leNat ((l.drop (16 * e + k)).take n)

/-- Step of a flit's tag against a reference step (R83, R278). -/
def stepFrom (ref : BitVec 32) (g : Nat) : BitVec 32 :=
  ref + 1 + BitVec.ofNat 32 ((g + 4 - (ref + 1).toNat % 4) % 4)

/-- Channel `c` takes in a flit for element `el` (R270, R278). -/
def bellTake (s : State) (c el : Nat) (f : Flit) : State :=
  let s := bump s (R.bellFlits c) 1
  let s := if fAnti f then bump s (R.bellAnti c) 1 else s
  let b := (stepFrom (bellRef s c) (fStep f)).toNat % 2
  let a := rdF s (R.bellStateAddr c) 0 48 + 16 * el
  let r := engineRead s (bellJob s c) a 16
  match r.1 with
  | some code => bellFault r.2.2 c code
  | none =>
    let x : Int := if fType f = 1 then (fPayload f : Int) - rdF s (R.bellConfig c) 30 8 else 1
    let d : Int := if fAnti f then -1 else 1
    let sum := ux 32 ((leNat ((r.2.1.drop (4 * b)).take 4) : Int) + d * x)
    let cnt := ux 16 ((leNat ((r.2.1.drop (8 + 2 * b)).take 2) : Int) + d)
    engineWrite (engineWrite r.2.2 (bellJob s c) (a + 4 * b) (leBytes 4 sum)) (bellJob s c) (a + 8 + 2 * b)
      (leBytes 2 cnt)

/-- An element's result and next R in step `t`, and whether it was a multiple (Table 10-2). -/
def bellResult (mode leak zp kw : Nat) (t : BitVec 32) (sig n : Int) (r : Nat) : Nat × Nat × Bool :=
  if mode = 0 then (ux 32 n, r, false)
  else if mode = 1 then
    let v := ux 32 (sx 32 r - rs true (sx 32 r) leak + sig)
    (v, v, false)
  else if mode = 2 then
    (if n ≠ 0 then
      let v := (min (max (sig + (zp : Int)) 0) 255).toNat
      (v, v, decide (n > 1))
     else (r, r, false))
  else if mode = 3 then
    let v := ux 32 (sx 32 r + sig)
    (ux 32 ((v : Int) + zp), v, false)
  else
    let r' := if n > 0 ∧ r = 0xFFFFFFFF then t.toNat % kw else r
    if t.toNat % kw = kw - 1 then (r', 0xFFFFFFFF, false) else (r', r', false)

/-- A result is formed (`BELL_SAMPLES`), and held for delivery, or dropped when two are held already (R281). -/
def holdResult (s : State) (c : Nat) (t : BitVec 32) (vals : List Nat) : State :=
  let s := bump s (R.bellSamples c) 1
  if (s.conv.results.filter fun r => r.chan = c).length ≥ 2 then setB (bump s (R.bellOverflow c) 1) (R.bellStatus c) 2
  else
    { s with conv := { s.conv with results := s.conv.results ++ [(⟨c, t, vals, 0, false⟩ : BellRes)] } }

/-- CTRL READ of neuron `i` for step `t` (R280, Table 9-2). -/
def mkMread (n i var dma : Nat) (t : BitVec 32) (last : Bool) : Flit :=
  w64 (mkHead 0xA 0 false (n % 32) (n / 32 % 32) + (5 + dma) * 2 ^ 39 + (0xC000 + i) * 2 ^ 22 + var / 2 * 2 ^ 21
    + (t.toNat % 4 + b2n last * 128) * 2 ^ 13)

/-- Issue the membrane reads of step `t` (R280). -/
def issueReads (c n first var dma cnt : Nat) (t : BitVec 32) : Nat → State → Nat → State
  | 0, s, _ => s
  | k + 1, s, e =>
    issueReads c n first var dma cnt t k (hubSend s (0x600 + dma) n (mkMread n (first + e) var dma t (e + 1 = cnt))) (e + 1)

/-- Membrane reads of channel `c` under way: with Overblow a step closes while the reads of the one before are out (R280). -/
def mreadOf (s : State) (c : Nat) : List MemRead := Sparse.get (fun _ => []) s.conv.mread c
def setMread (s : State) (c : Nat) (m : List MemRead) : State :=
  { s with conv := { s.conv with mread := Sparse.set (fun _ => []) s.conv.mread c m } }

/-- A MEMBRANE_READ channel samples step `t`; with `OVB_DEPTH` = 0 the next START is withheld until the last response
(R280). -/
def bellReads (s : State) (c : Nat) (t : BitVec 32) : State :=
  let w := rd s (R.bellElems c)
  let cnt := fld w 0 13
  let s := setMread s c (mreadOf s c ++ [⟨t, [], cnt⟩])
  let j := bellBreath s c
  let s := if ovbDepth s j = 0 then setBrth s j { brth s j with withheld := true } else s
  let s := if cnt = 0 then s else noteCtrlAccess s (fld w 32 10)
  issueReads c (fld w 32 10) (fld w 16 12) (rdF s (R.bellConfig c) 11 2) (rdF s (R.bellActions c) 8 3) cnt t cnt s 0

/-- Channel `c` samples step `t` (R279, Table 10-2): results, banks zeroed. -/
def bellSample (s : State) (c : Nat) (t : BitVec 32) : State :=
  let s := wrF (setBellRef s c t) (R.bellStatus c) 32 32 t.toNat
  if bellMode s c = 5 then bellReads s c t
  else
    let n := bellN s c
    let a := rdF s (R.bellStateAddr c) 0 48
    let r := engineRead s (bellJob s c) a (16 * n)
    match r.1 with
    | some code => bellFault r.2.2 c code
    | none =>
      let cfg := rd s (R.bellConfig c)
      let b := t.toNat % 2
      let kw := fld cfg 38 8
      let out := (List.range n).map fun e =>
        (bellResult (bellMode s c) (fld cfg 6 5) (fld cfg 30 8) kw t (sx 32 (bellElem r.2.1 e (4 * b) 4))
          (sx 16 (bellElem r.2.1 e (8 + 2 * b) 2)) (bellElem r.2.1 e 12 4), e)
      let bytes := out.flatMap fun x =>
        let sums := if b = 0 then [0, bellElem r.2.1 x.2 4 4] else [bellElem r.2.1 x.2 0 4, 0]
        let cnts := if b = 0 then [0, bellElem r.2.1 x.2 10 2] else [bellElem r.2.1 x.2 8 2, 0]
        sums.flatMap (leBytes 4) ++ cnts.flatMap (leBytes 2) ++ leBytes 4 x.1.2.1
      let s := engineWrite r.2.2 (bellJob s c) a bytes
      let s := bump s (R.bellMulti c) (out.filter fun x => x.1.2.2).length
      if bellMode s c = 4 ∧ t.toNat % kw ≠ kw - 1 then s else holdResult s c t (out.map fun x => x.1.1)

/-- The Bell channels of breath `j` sample step `t` (R279). -/
def bellSampleAll (s : State) (j : Nat) (t : BitVec 32) : State :=
  (List.range 256).foldl (fun s c =>
    if bellRunning s c && bellBreath s c = j && (t - bellRef s c).toInt > 0 then bellSample s c t else s) s

/-! ### Closure (R53) -/

/-- An automatic checkpoint falls due after step `t`, unless a checkpoint or test of the job runs (R405). -/
def autoCheckpoint (s : State) (j : Nat) (t : BitVec 32) : State :=
  let k := (jobOf s j).interval
  if k ≠ 0 ∧ (t.toNat + 1) % k = 0 ∧ jobState s j = 3 ∧ (jobOf s j).ckpt = none ∧ ¬ (jobOf s j).testing
      ∧ ¬ (brth s j).asked.contains 3 ∧ ¬ brthHier s j
  then askSuspend s j 3 else s

/-- B(t) closes: the tag is free, COMMIT(t) goes out, the Bell channels sample (R43, R53, R279). -/
def closeStep (s : State) (j : Nat) (t : BitVec 32) : State :=
  let b := brth s j
  let a := accOf b t.toNat
  let busy := min (timeDiff a.start (nowNs s)).toNat 0xFFFFFFFF
  let s := if busy > rdF s (R.brthBusyMax j) 0 32 then wr s (R.brthBusyMax j) (w64 busy) else s
  let s := setBrth s j (setAcc { b with closed := t } t.toNat {})
  let s := noteOpen (wr s (R.brthClosed j) (w64 (t.toNat + 2 ^ 32))) j
  let s := sendDown (sendBcast s j 1 t) j 4 t
  autoCheckpoint (bellSampleAll (noteL0 s j t) j t) j t

/-- The closure test of breath `j`, once for each step that may be open (R53, R364). -/
def closeTest : Nat → State → Nat → State
  | 0, s, _ => s
  | k + 1, s, j =>
    let b := brth s j
    if brthState s j = 0 ∨ brthState s j = 4 ∨ b.closed = b.started then s
    else
      let t := b.closed + 1
      let a := accOf b t.toNat
      let full := a.done = rectCores s j ∧ a.started ∧ a.waiting = []
      if brthHier s j then
        (if full ∧ ¬ a.upDone then sendUp (setBrth s j (setAcc b t.toNat { a with upDone := true })) j 2 (t.toNat % 4) 1
         else s)
      else if a.done > rectCores s j ∨ (full ∧ (a.recv - a.sent).toInt > 0) then
        raise (wr s (R.brthFault j) (w64 (2 + t.toNat * 2 ^ 32))) j 0x02 t.toNat
      else if full ∧ a.recv = a.sent then closeTest k (closeStep s j t) j
      else s

/-- A report or a hub participant's count, and the closure test after it (R53). -/
def barrierAdd (s : State) (j kind g v : Nat) : State := closeTest 2 (accAdd s j kind g v) j
/-- A hub participant completes a tag, and the closure test after it (R50, R53). -/
def barrierComplete (s : State) (j g who : Nat) : State := closeTest 2 (accComplete s j g who) j

/-! ### Hub participants' flits (R45, R363, R468) -/

/-- The hub cycle of the present moment (1.6 GHz). -/
def hubCycle (s : State) : Nat := nowNs s * 8 / 5

/-- A VC0 flit of the L0 job at hub port `p` in hub cycle `cyc`: more than 4 in 32 cycles exceed the envelope (Table
19-1). -/
def noteEnvelope (s : State) (j p cyc : Nat) (f : Flit) : State :=
  if fVc f = 0 ∧ brthL0 s j then
    let l := (Sparse.get (fun _ => []) s.conv.vc0At p).filter fun c => cyc < c + 32
    let s := { s with conv := { s.conv with vc0At := Sparse.set (fun _ => []) s.conv.vc0At p (cyc :: l) } }
    if l.length ≥ 4 then failCond (bump s (R.l0EnvExcess j) 1) j 0 else s
  else s

/-- A hub participant of breath `j` injects a flit: into the mesh at hub port `p`, or to another package where entry `k`
of `PEER_INJ` says so; it counts as sent (R45, R363). -/
def participantSend (s : State) (j k p cyc : Nat) (f : Flit) : State :=
  if rdB s (R.peerInj k) 0 then peerSend (accAdd s j 0 (fStep f) (sentCount f)) (rdF s (R.peerInj k) 1 4) f
  else if misaddressed f || fDx f = 63 then hubInject s p (fSrc f) f
  else hubInject (noteEnvelope (accAdd s j 0 (fStep f) (sentCount f)) j p cyc f) p (fSrc f) f

/-- A hub participant may inject a flit now: towards another package, or at a hub port that takes it at once, and on VC1 with
its shaper's leave (R205, R222). -/
def participantReady (s : State) (k p src : Nat) (f : Flit) : Bool :=
  (fVc f ≠ 1 || shapeOk s src) && (rdB s (R.peerInj k) 0 || hubReady s p src f)

/-- It takes the shaper's 64 for a VC1 flit (R205). -/
def participantTake (s : State) (src : Nat) (f : Flit) : State := if fVc f = 1 then shapeTake s src else s

/-- An event of a hub participant by its routing entry, laid out as Table 3-6 (R271, R286). -/
def hubFlit (s : State) (route : W64) (j index step src : Nat) (graded : Option Nat) : Flit :=
  let mc := bitAt route 1
  mkEvent (if graded.isSome then 1 else 0) (if brthL0 s j then 0 else 1) mc (fld route 2 6) (fld route 8 5)
    (if mc then fld route 13 5 else 0) (if mc then fld route 18 5 else 0) (fld route 23 12 + index) step false
    (graded.getD 0) src

/-! ### Mouthpiece channels (R142, R271 to R276) -/

def mpRuns (s : State) (c : Nat) : List MpRun := Sparse.get (fun _ => []) s.conv.mp c
def setMpRuns (s : State) (c : Nat) (l : List MpRun) : State :=
  let s := { s with conv := { s.conv with mp := Sparse.set (fun _ => []) s.conv.mp c l } }
  wr s (R.mpStatus c) (putBit (rd s (R.mpStatus c)) 3 (!l.isEmpty))

def mpJob (s : State) (c : Nat) : Nat := rdF s (R.mpConfig c) 16 8
def mpPos (s : State) (c : Nat) : Nat := rdF s (R.mpStatus c) 8 8
def mpPositions (s : State) (c : Nat) : Nat := 2 ^ rdF s (R.mpElems c) 24 4
/-- Bytes of a vector in the ring (R273). -/
def vectorBytes (n : Nat) : Nat := cdiv (2 * n) 256 * 256

/-- A channel's access fails: the channel is FAULTED, its samplings end, and its job faults (R273). -/
def mpFault (s : State) (c code : Nat) : State :=
  raiseJob (wrF (setMpRuns s c []) (R.mpStatus c) 0 2 2) (mpJob s c) code

/-- Number of ones of a number below 256. -/
def popcount8 (x : Nat) : Nat := ((List.range 8).filter fun i => (x / 2 ^ i) % 2 = 1).length

/-- The configuration registers of a Mouthpiece channel, `MP_CONFIG` to `MP_STATE_ADDR` (Table 10-1). -/
def mpRegs (s : State) (c : Nat) : List W64 := (List.range 8).map fun k => rd s (R.mpConfig c + 8 * k)
def putMpRegs (s : State) (c : Nat) (l : List W64) : State :=
  ((List.range 8).zip l).foldl (fun s e => wr s (R.mpConfig c + 8 * e.1) e.2) s

/-- What a sampling does goes by the configuration with which it began (R276). -/
def mpUnder (s : State) (c : Nat) (cfg : List W64) (f : State → State) : State :=
  if cfg = mpRegs s c then f s else putMpRegs (f (putMpRegs s c cfg)) c (mpRegs s c)

/-- Smoothed value of an element (R142). -/
def smooth (v m smsh : Int) : Int := rs true (v * m) smsh.toNat

/-- One block of the rotation (R142, R143). -/
def rotate (u : List Int) : List Int :=
  (List.range u.length).map fun i =>
    (List.range u.length).foldl (fun r j => if popcount8 (Nat.land i j) % 2 = 0 then r + u.getD j 0 else r - u.getD j 0) 0

/-- The rotation, block by block. -/
def rotateAll (b : Nat) : Nat → List Int → List Int
  | 0, _ => []
  | k + 1, l => if l.isEmpty then [] else rotate (l.take b) ++ rotateAll b k (l.drop b)

/-- Quantised code before the clamp (R142). -/
def quant (r : Int) (qmant qsh z : Nat) : Int := rs true (r * qmant) qsh + z

/-- The codes q[k] of a vector, with the saturations and clamps counted (R142). DESIGN CHOICE: u saturates as sat(x, 20)
says, to −524,288 at the low end, where Table 5-1 gives ±524,287 (log entry 150). -/
def mpCodes (s : State) (c : Nat) (v : List Int) : List Nat × State :=
  let cfg := rd s (R.mpConfig c)
  let smoothEn := bitAt cfg 6
  let mult := ldN s (rdF s (R.mpMultAddr c) 0 48) (2 * mpN s c)
  let smsh : Int := if smoothEn then rdF s (R.mpElems c) 16 5 else 15
  let u := (List.range v.length).map fun k =>
    smooth (v.getD k 0) (if smoothEn then (leNat ((mult.drop (2 * k)).take 2) : Int) else 0x8000) smsh
  let lg := fld cfg 32 4
  let b := if lg = 0 then 1 else 2 ^ lg
  let r := rotateAll b (v.length + 1) (u.map fun x => sat x 20)
  let q := r.map fun x => quant x (rdF s (R.mpQuant c) 0 16) (rdF s (R.mpQuant c) 16 6) (fld cfg 56 8)
  let s := bump s (R.mpSmoothSat c) (u.filter fun x => satHit x 20).length
  let s := bump s (R.mpQuantClamp c) (q.filter fun x => decide (x < 0) || decide (x > 255)).length
  (q.map fun x => (min (max x 0) 255).toNat, s)

/-- What an element emits, and its next state byte (R275). `emit` holds row offsets (index or n + index) and payloads. -/
structure MpOut where
  st : Nat
  emit : List (Nat × Option Nat)
  deriving DecidableEq, Repr

/-- The procedure of R275 for element `k`: `q` is absent in a TTFS sampling without a vector. -/
def mpElement (cfg : W64) (n : Nat) (slot : BitVec 32) (hash : Nat → Nat) (k st : Nat) (q : Option Nat) : MpOut :=
  let z := fld cfg 56 8
  let thresh := fld cfg 48 8
  let kw := fld cfg 40 8
  let qk := q.getD 0
  match fld cfg 0 3 with
  | 0 => ⟨st, if bitAt cfg 5 ∧ qk = z then [] else [(k, some qk)]⟩
  | 1 =>
    if qk = st then ⟨st, []⟩
    else
      let p := (min (max (128 + (qk : Int) - st) 0) 255).toNat
      ⟨ux 8 ((st : Int) + p - 128), [(k, some p)]⟩
  | 2 => let a := st + qk; ⟨a % 256, if a ≥ 256 then [(k, none)] else []⟩
  | 3 => ⟨st, if hash k % 256 < qk then [(k, none)] else []⟩
  | 4 =>
    let m := slot.toNat % kw
    let st := if m = 0 then (match q with
        | some v => if v > z then (255 - v) * kw / 256 else 255
        | none => 255) else st
    ⟨st, if st = m then [(k, none)] else []⟩
  | 5 =>
    let up := qk ≥ thresh
    ⟨qk, if ¬ bitAt cfg 8 then (if up then [(k, none)] else [])
      else if up ∧ st < thresh then [(k, none)]
      else if bitAt cfg 9 ∧ ¬ up ∧ st ≥ thresh then [(n + k, none)] else []⟩
  | _ => ⟨st, []⟩

/-- The channel's mode uses its state bytes: all but DIRECT_GRADED and RATE_POISSON (R275). -/
def mpHasState (s : State) (c : Nat) : Bool := !([0, 3].contains (rdF s (R.mpConfig c) 0 3))

/-- Form a sampling's flits and advance the state bytes (R275); with `MP_ROUTE.VALID` = 0 none are injected (R271). -/
def mpForm (s : State) (c : Nat) (slot : BitVec 32) (v : Option (List Int)) : Option Nat × List Flit × State :=
  let n := mpN s c
  let cfg := rd s (R.mpConfig c)
  let j := mpBreath s c
  let t := slot - 1
  let q := match v with
    | some l => mpCodes s c l
    | none => ([], s)
  let a := rdF s (R.mpStateAddr c) 0 48
  let r := if mpHasState s c then engineRead q.2 (mpJob s c) a n else (none, List.replicate n 0, q.2)
  match r.1 with
  | some code => (some code, [], r.2.2)
  | none =>
    let hash := fun k => hash32 (jobOf s j).seed t.toNat (jobOf s j).pkg (0x400 + c) k 0xC0
    let out := (List.range n).map fun k =>
      mpElement cfg n slot hash k ((r.2.1.getD k 0).toNat) (if v.isSome then some (q.1.getD k 0) else none)
    let new := out.map fun o => BitVec.ofNat 8 o.st
    let s := if new = r.2.1 then r.2.2 else engineWrite r.2.2 (mpJob s c) a new
    let route := rd s (R.mpRoute c)
    let flits := out.flatMap fun o => o.emit.map fun e => hubFlit s route j e.1 (t.toNat % 4) (0x400 + c) e.2
    (none, if bitAt route 0 then flits else [], s)

/-- Channel `c` marks the tag of slot `slot` complete (R276). -/
def mpComplete (s : State) (c : Nat) (slot : BitVec 32) : State :=
  accComplete s (mpBreath s c) ((slot - 1).toNat % 4) (0x400 + c)

/-- A sampling has its flits: it goes on to inject them, or is complete (R276). -/
def mpReady (s : State) (c : Nat) (slot : BitVec 32) (flits : List Flit) : State :=
  if flits.isEmpty then mpComplete s c slot
  else setMpRuns s c (mpRuns s c ++ [{ slot := slot, flits := flits, cfg := mpRegs s c }])

/-- A sampling that has to wait: for its vector, or for the fetch ahead of it (R275, R276). A channel that injects nothing
marks its tag complete at the sampling itself (R271). -/
def mpWait (s : State) (c : Nat) (slot : BitVec 32) (vec : Option Nat) : State :=
  let s := setMpRuns s c (mpRuns s c ++ [{ slot := slot, vec := vec, waits := vec.isNone, cfg := mpRegs s c }])
  if rdB s (R.mpRoute c) 0 then s else mpComplete s c slot

/-- The stamps of R273: the ring position whose vector is taken, if any, with late vectors dropped or counted. -/
def mpScan (c : Nat) (slot : BitVec 32) : Nat → State → Option Nat × State
  | 0, s => (none, s)
  | k + 1, s =>
    let p := mpPos s c
    let a := rdF s (R.mpStampAddr c) 0 48 + 8 * p
    let st := w64 (ldU s a 8)
    let d := (BitVec.ofNat 32 (fld st 0 32) - slot).toInt
    if ¬ bitAt st 32 ∨ d > 0 then (none, s)
    else
      let s := if d < 0 then lateInput (bump s (R.mpLate c) 1) (mpBreath s c) else s
      let next (s : State) := wrF s (R.mpStatus c) 8 8 ((p + 1) % mpPositions s c)
      if d < 0 ∧ rdB s (R.mpConfig c) 7 then
        mpScan c slot k (next (engineWrite s (mpJob s c) a (leBytes 8 (clrBit st 32).toNat)))
      else (some p, next s)

/-- The values of an Event Port buffer (R274). -/
def bufValues (s : State) (c n : Nat) : List Int :=
  (List.range n).map fun k => sx 16 (Sparse.get (fun _ => 0) s.conv.inBuf (c * 4096 + k))

/-- A run has still to form its flits. -/
def MpRun.open_ (r : MpRun) : Bool := r.vec.isSome || r.waits

/-- A sampling that takes no vector: nothing, but for TTFS, which runs its procedure at every sampling, and from the state
that a fetch under way is to set (R275). -/
def mpNothing (s : State) (c : Nat) (slot : BitVec 32) : State :=
  if rdF s (R.mpConfig c) 0 3 = 4 then
    if (mpRuns s c).any MpRun.open_ then mpWait s c slot none else
    match mpForm s c slot none with
    | (some code, _, s) => mpFault s c code
    | (none, l, s) => mpReady s c slot l
  else mpComplete s c slot

/-- Channel `c` samples slot `slot` (R272 to R276). With `TRIG` = 1 the first sampling after an arm action clears `ARMED`. -/
def mpSample (s : State) (c : Nat) (slot : BitVec 32) : State :=
  let s := wrF s (R.mpStatus c) 32 32 slot.toNat
  let cfg := rd s (R.mpConfig c)
  let window := fld cfg 0 3 ≠ 4 || slot.toNat % fld cfg 40 8 = 0
  let trig := bitAt cfg 4
  let armed := rdB s (R.mpStatus c) 2
  let s := if trig then clrB s (R.mpStatus c) 2 else s
  if ¬ window ∨ (trig ∧ ¬ armed) then mpNothing s c slot
  else
    if bitAt cfg 3 then
      match mpForm (bump s (R.mpSamples c) 1) c slot (some (bufValues s c (mpN s c))) with
      | (some code, _, s) => mpFault s c code
      | (none, l, s) => mpReady s c slot l
    else
      match mpScan c slot (mpPositions s c) s with
      | (some p, s) => mpWait (bump s (R.mpSamples c) 1) c slot (some p)
      | (none, s) => mpNothing (bump s (R.mpEmpty c) 1) c slot

/-- A run whose turn has come forms its flits, from vector `v` or without one: it goes on to inject them, or is complete. -/
def mpFormRun (s : State) (c : Nat) (r : MpRun) (v : Option (List Int)) : State :=
  match mpForm s c r.slot v with
  | (some code, _, s) => mpFault s c code
  | (none, l, s) =>
    if l.isEmpty then closeTest 2 (mpComplete (setMpRuns s c ((mpRuns s c).erase r)) c r.slot) (mpBreath s c)
    else setMpRuns s c ((mpRuns s c).map fun y => if y = r then { r with vec := none, waits := false, flits := l } else y)

/-- The samplings that waited for a fetch form their flits in turn, up to the next fetch (R275). -/
def mpFollow (c : Nat) : Nat → State → State
  | 0, s => s
  | k + 1, s =>
    match (mpRuns s c).find? MpRun.open_ with
    | some r => if r.waits then mpFollow c k (mpUnder s c r.cfg fun s => mpFormRun s c r none) else s
    | none => s

/-- The fetch of run `r` finishes: its tags are checked, `VALID` is cleared, the codes are formed (R273, R275, R276). `errs` are
the errors that the fetch meets (R314, R329). -/
def mpTakeVector (s : State) (c : Nat) (r : MpRun) (errs : List MemErr) : State :=
  let p := r.vec.getD 0
  let n := mpN s c
  let v := rdF s (R.mpInAddr c) 0 48 + p * vectorBytes n
  let x := engineRead (meetErrs s errs v (vectorBytes n)) (mpJob s c) v (vectorBytes n)
  match x.1 with
  | some code => mpFault x.2.2 c code
  | none =>
    let a := rdF s (R.mpStampAddr c) 0 48 + 8 * p
    let s := engineWrite x.2.2 (mpJob s c) a (leBytes 8 (clrBit (w64 (ldU s a 8)) 32).toNat)
    mpFormRun s c r (some ((List.range n).map fun k => sx 16 (leNat ((x.2.1.drop (2 * k)).take 2))))

/-- The oldest fetch of channel `c` finishes, and the samplings behind it go on. -/
def mpFetched (s : State) (c : Nat) (errs : List MemErr) : State :=
  match (mpRuns s c).find? fun r => r.vec.isSome with
  | none => s
  | some r => mpFollow c (mpRuns s c).length (mpUnder s c r.cfg fun s => mpTakeVector s c r errs)

def execMpFetchDone (c : Chan) (errs : List MemErr) (s : State) := act s fun s => mpFetched s c.val errs

/-- The flit at the front of run `r` of channel `c` is injected in hub cycle `cyc`; with the last the tag is complete. `rest`
are the run's flits behind it, `more` the runs behind that one. -/
def mpLeave (s : State) (c cyc : Nat) (r : MpRun) (f : Flit) (rest : List Flit) (more : List MpRun) : State :=
  let src := 0x400 + c
  let p := rdF s (R.mpRoute c) 41 5
  if participantReady s c p src f then
    let j := mpBreath s c
    let s := participantSend (bump (participantTake s src f) (R.mpFlits c) 1) j c p cyc f
    if rest.isEmpty then barrierComplete (setMpRuns s c more) j ((r.slot - 1).toNat % 4) src
    else setMpRuns s c ({ r with flits := rest } :: more)
  else s

/-- Channel `c` injects the next flit of its oldest sampling in hub cycle `cyc`, its shaper allowing (R205, R276), and
marks the tag complete with the last. -/
def mpInject (s : State) (c cyc : Nat) : State :=
  match mpRuns s c with
  | r :: more =>
    match r.flits with
    | f :: rest => mpUnder (shapeTo s (0x400 + c) cyc) c r.cfg fun s => mpLeave s c cyc r f rest more
    | [] => s
  | [] => s

def execMpInject (c : Chan) (cyc : Nat) (s : State) := act s fun s => mpInject s c.val cyc

/-! ### Event Port input (R286, R287) -/

/-- Words in use in the input FIFO (`EP_STATUS`): a frame takes its header, payload and trailer. -/
def fifoWords (s : State) : Nat := (s.conv.epIn.map fun f => f.2.2.length + 2).sum
/-- Show the FIFO, and ask for a FLOW frame at its thresholds (R288). -/
def noteFifo (s : State) (before : Nat) : State :=
  let w := fifoWords s
  let s := wrF s R.epStatus 16 15 w
  if ¬ rdB s R.epConfig 3 then s
  else if before ≤ 12288 ∧ w > 12288 ∧ ¬ rdB s R.epStatus 2 then
    setB { s with conv := { s.conv with flow := s.conv.flow ++ [true] } } R.epStatus 2
  else if before ≥ 4096 ∧ w < 4096 ∧ rdB s R.epStatus 2 then
    clrB { s with conv := { s.conv with flow := s.conv.flow ++ [false] } } R.epStatus 2
  else s

/-- The elements that a VALUES frame writes (Table 10-4). -/
def writeValues (c : Nat) : Nat → List Nat → State → State
  | _, [], s => s
  | k, w :: r, s =>
    let put (m : Sparse Nat) (i v : Nat) := Sparse.set (fun _ => 0) m (c * 4096 + i) v
    let b := put (put s.conv.inBuf k (w % 65536)) (k + 1) (w / 65536 % 65536)
    writeValues c (k + 2) r { s with conv := { s.conv with inBuf := b } }

/-- Take a frame at the sampling of slot `slot` by breath `j` (R286): values into the buffer, or events towards the mesh. -/
def takeFrame (s : State) (j : Nat) (slot : BitVec 32) (h : Nat) (sl : Nat) (pay : List Nat) : State :=
  let k := h / 2 ^ 23 % 64
  let late := sx 16 (ux 16 ((sl : Int) - slot.toNat)) < 0
  let s := if late then lateInput (bump s R.epLate 1) j else s
  if h / 2 ^ 29 = 1 then writeValues (rdF s (R.epStreamA k) 2 8) (h / 2 ^ 11 % 4096) pay s
  else
    let route := rd s (R.epStreamB k)
    let out := pay.map fun w =>
      let g := if w / 2 ^ 11 % 2 = 1 then some (w / 2 ^ 12 % 256) else none
      (⟨j, k, fld route 41 5, hubFlit s route j (w / 2 ^ 20 % 4096) ((slot - 1).toNat % 4) 0x620 g⟩ : EpFlit)
    if bitAt route 0 then { s with conv := { s.conv with epOut := s.conv.epOut ++ out } } else s

/-- Frames leave the FIFO in order while the head's stream is valid, belongs to breath `j` and is not later than the slot
(R286). -/
def takeFrames (j : Nat) (slot : BitVec 32) : List (Nat × Nat × List Nat) → State → State
  | [], s => { s with conv := { s.conv with epIn := [] } }
  | (h, sl, pay) :: r, s =>
    if streamValid s (h / 2 ^ 23 % 64) ∧ streamBreath s (h / 2 ^ 23 % 64) = j ∧ sx 16 (ux 16 ((sl : Int) - slot.toNat)) ≤ 0
    then takeFrames j slot r (takeFrame s j slot h sl pay)
    else { s with conv := { s.conv with epIn := (h, sl, pay) :: r } }

/-- The Event Port has flits of breath `j` and tag `g` to inject. -/
def epWaits (s : State) (j g : Nat) : Bool := s.conv.epOut.any fun x => x.breath = j && fStep x.f = g

/-- In hub cycle `cyc` the Event Port injects the flits that its shaper and the hub ports allow, in order; with the last of a
tag the tag is complete (R205, R286). -/
def epSend (cyc : Nat) : Nat → State → State
  | 0, s => s
  | k + 1, s =>
    match s.conv.epOut with
    | [] => s
    | x :: rest =>
      if participantReady s (256 + x.stream) x.port 0x620 x.f then
        let s := participantTake { s with conv := { s.conv with epOut := rest } } 0x620 x.f
        let s := participantSend s x.breath (256 + x.stream) x.port cyc x.f
        epSend cyc k (if epWaits s x.breath (fStep x.f) then s else barrierComplete s x.breath (fStep x.f) 0x620)
      else s

/-- The Event Port's injection in hub cycle `cyc`. -/
def epInject (s : State) (cyc : Nat) : State :=
  if s.conv.epOut.isEmpty then s else epSend cyc s.conv.epOut.length (shapeTo s 0x620 cyc)

/-- An output fills a lane slot; at a hub port the sources behind it inject in that cycle. DESIGN CHOICE: the table has no row
for the Event Port's injection, so FLIT_SEND at a hub port carries it (log entry 151). -/
def flitSend (s : State) (node o cyc : Nat) : State :=
  sendSlot (if node ≥ 1024 then epInject s cyc else s) node o cyc

def execFlitSend (node : Node) (out : Port) (cyc : Nat) (s : State) :=
  act s fun s => flitSend s (nodeIx node) (portIx out) cyc

/-! ### A step starts (R38, R272) -/

/-- Hub participants of breath `j` for a step whose START is formed now (R47, R276). -/
def participants (s : State) (j : Nat) : List Nat :=
  (((List.range 256).filter fun c => mpRunning s c && mpBreath s c = j).map fun c => 0x400 + c)
    ++ (if (List.range 64).any fun k => streamValid s k && streamBreath s k = j then [0x620] else [])
    ++ ((childPorts s j).map fun p => 0x628 + p)

/-- START(t) has been formed: every converter of the breath samples slot t + 1, the Event Port first, since a VALUES
frame is written before its channel takes the buffer (R272, R286). -/
def stepSampling (s : State) (j : Nat) : State :=
  let t := (brth s j).started
  let s := openL0 (sendDown s j 3 t) j t
  let slot := t + 1
  let before := fifoWords s
  let s := noteFifo (takeFrames j slot s.conv.epIn s) before
  let s := if epWaits s j (t.toNat % 4) then s else accComplete s j (t.toNat % 4) 0x620
  let s := (List.range 256).foldl (fun s c => if mpRunning s c && mpBreath s c = j then mpSample s c slot else s) s
  closeTest 2 (epInject s (hubCycle s)) j

/-- The Breath forms START(t) of its next step (R38, R56). -/
def beginStep (s : State) (j : Nat) : State :=
  stepSampling (sendBcast (startStep s j (participants s j)) j 0 (nextStep s j)) j

/-- A worker breath forwards its manager's START(t) (R72, R364). -/
def workerStart (s : State) (j : Nat) (t : BitVec 32) : State :=
  let b := brth s j
  let acc := { accOf b t.toNat with waiting := participants s j, started := true, start := nowNs s }
  let s := setBrth s j (setAcc { b with started := t, resumed := false, haltLag := false, begun := true } t.toNat acc)
  let s := wr (wr s (R.stepCount j) (w64 t.toNat)) (R.brthLastStart j) (w64 (nowNs s))
  stepSampling (sendBcast (noteOpen s j) j 0 t) j

def execStepStart (j : BreathId) (s : State) := act s fun s => if mayStart s j.val then beginStep s j.val else s

end Sys2Proof.Machine
end

