-- ==== Sys2Proof/Machine/Timers.lean ====
section
/-! DEFINITION. The timers (R297 to R309): ticks, compare, freeze, make-up after P-STANDBY, and the register rules. -/
namespace Sys2Proof.Machine

/-- Timer `i` is the low half of a cascade (R298). -/
def isCascade (s : State) (i : Nat) : Bool := i % 2 = 0 && rdB s (R.tmrConfig i) 3
/-- Timer `i` is the high half of a cascade: its block reads as 0 (R298). -/
def isHighHalf (s : State) (i : Nat) : Bool := i % 2 = 1 && rdB s (R.tmrConfig (i - 1)) 3
/-- The timer that a name stands for: a cascade is named by either half (R298). -/
def tmrOf (s : State) (i : Nat) : Nat := if isHighHalf s i then i - 1 else i
/-- Width of the count in bits. -/
def tmrWidth (s : State) (i : Nat) : Nat := if isCascade s i then 64 else 32

def tmrEnabled (s : State) (i : Nat) : Bool := rdB s (R.tmrConfig i) 0
def tmrFrozen (s : State) (i : Nat) : Bool := rdB s (R.tmrStatus i) 1
/-- Running (R297). -/
def tmrRunning (s : State) (i : Nat) : Bool := tmrEnabled s i && !tmrFrozen s i && s.chip.phase ≠ .standby
/-! ### Gates (R297, R310) -/

/-- The pads are held from P-STANDBY entry to `PAD_RELEASE` (R424). -/
def padHold (s : State) : Bool := rdB s R.pwrState 3

/-- `GPIO_IN`: an output's ball shows the level it drives, or holds while the pads are held (R424, R457). -/
def gpioRead (s : State) : W64 :=
  let dir := BitVec.ofNat 16 (rdF s R.gpioDir 0 16)
  let out := if padHold s then s.chip.padGpio else BitVec.ofNat 16 (rdF s R.gpioOut 0 16)
  w64 ((out &&& dir) ||| (s.chip.gpioIn &&& ~~~ dir)).toNat

/-- Breath `j` counts as running for the gates (R310). -/
def breathGate (s : State) (j : Nat) : Bool := brthState s j = 2 && !haltHold s j

/-- Throttle is active: f_c is below 2.0 GHz while a core is demanding (R431). -/
def throttled (s : State) : Bool := rdF s R.pwrCap 0 7 < 80 && rdF s R.pwrCap 16 11 > 0

/-- The level of the input that timer `i`'s gate selects (Table 11-5). -/
def gateInput (s : State) (i : Nat) : Option Bool :=
  let w := rd s (R.tmrConfig i)
  match fld w 20 3 with
  | 1 => some s.chip.frameSync
  | 2 => some s.chip.evtFrm
  | 3 => some (bitAt (gpioRead s) (fld w 24 6 % 16))
  | 4 => some (breathGate s (fld w 24 6))
  | 5 => some (throttled s)
  | _ => none

/-- The gate is open: no source is selected, or the input is at `GATE_LEVEL` (R297). A reserved source leaves it closed. -/
def gateOpen (s : State) (i : Nat) : Bool :=
  rdF s (R.tmrConfig i) 20 3 = 0 || gateInput s i = some (rdB s (R.tmrConfig i) 23)

/-- `GATE_OPEN` shows the gate as the timer sees it (R297). -/
def noteGate (s : State) (i : Nat) : State :=
  if isHighHalf s i || rdB s (R.tmrStatus i) 9 = gateOpen s i then s
  else wr s (R.tmrStatus i) (putBit (rd s (R.tmrStatus i)) 9 (gateOpen s i))

/-! ### Counts and operations -/

def tmrCount (s : State) (i : Nat) : Nat := rdF s (R.tmrCount i) 0 (tmrWidth s i)
def tmrCompare (s : State) (i : Nat) : Nat := rdF s (R.tmrCompare i) 0 (tmrWidth s i)
def tmrReload (s : State) (i : Nat) : Nat := rdF s (R.tmrReload i) 0 (tmrWidth s i)
def setCount (s : State) (i v : Nat) : State := wr s (R.tmrCount i) (w64 (v % 2 ^ tmrWidth s i))

/-- Latch the count at a stop (R302). -/
def latchStop (s : State) (i : Nat) : State :=
  { s with tim := { s.tim with latch := Sparse.set (fun _ => 0) s.tim.latch i (tmrCount s i) } }

/-- Set `ENABLE` (R306). -/
def tmrStart (s : State) (i : Nat) : State := setB s (R.tmrConfig i) 0
/-- Clear `ENABLE`, which latches the count (R302, R306). -/
def tmrStop (s : State) (i : Nat) : State :=
  clrB (if tmrEnabled s i then latchStop s i else s) (R.tmrConfig i) 0
/-- Copy the count into `TMR_CAPTURE` (R306). -/
def tmrCaptureOp (s : State) (i : Nat) : State :=
  setB (wr s (R.tmrCapture i) (w64 (tmrCount s i))) (R.tmrStatus i) 10

/-- Operation 1 start, 2 stop, 3 capture on the timer named `i` (R306, R307). -/
def tmrOp (s : State) (op i : Nat) : State :=
  let i := tmrOf s i
  if op = 1 then tmrStart s i else if op = 2 then tmrStop s i else if op = 3 then tmrCaptureOp s i else s

/-- A timer action on the timer named `i` acts in the next cycle (R306). -/
def tmrNext (s : State) (op i : Nat) : State :=
  if op = 0 then s else { s with tim := { s.tim with ops := s.tim.ops ++ [(op, i)] } }

/-- The actions of the last cycle act: a stop wins over a start, also one that a trigger has made, and a capture is carried
out as well (R306, R307). -/
def actOps (s : State) : State :=
  let l := s.tim.ops
  let stopped (i : Nat) : Bool := s.tim.trigStop.contains (tmrOf s i)
  let run (s : State) (e : Nat × Nat) : State := tmrOp s e.1 e.2
  let s := { s with tim := { s.tim with ops := [], trigStop := [] } }
  let s := (l.filter fun e => e.1 = 1 && !stopped e.2).foldl run s
  (l.filter fun e => e.1 = 3).foldl run ((l.filter fun e => e.1 = 2).foldl run s)

/-- The next tick makes the count equal to COMPARE (R299, R300). -/
def tickMatches (s : State) (i : Nat) : Bool := (tmrCount s i + 1) % 2 ^ tmrWidth s i = tmrCompare s i
/-- In PERIODIC mode a match writes RELOAD; else the count goes on (R299). Mode 0b11 is reserved and counts as FREE
(log entry 8). -/
def tickCount (s : State) (i : Nat) : Nat :=
  if rdF s (R.tmrConfig i) 1 2 = 1 ∧ tickMatches s i then tmrReload s i else (tmrCount s i + 1) % 2 ^ tmrWidth s i
/-- The next tick wraps the count from all-ones to 0 (R299). -/
def tickWraps (s : State) (i : Nat) : Bool := tmrCount s i + 1 = 2 ^ tmrWidth s i && tickCount s i = 0

/-- One tick of timer `i`: the count moves, and `MATCH` and `OVF` record what fired; a ONESHOT match clears `ENABLE`
(R299). The actions are carried out by the caller. -/
def tickCore (s : State) (i : Nat) : State :=
  let m := tickMatches s i
  let w := tickWraps s i
  let one := rdF s (R.tmrConfig i) 1 2 = 2
  let s := setCount s i (tickCount s i)
  let s := if m then setB s (R.tmrStatus i) 4 else s
  let s := if w then setB s (R.tmrStatus i) 5 else s
  if m && one then tmrStop s i else s

/-- A tick of a frozen timer is lost (R303). -/
def tickLost (s : State) (i : Nat) : State := wr s (R.tmrLost i) (w64 (satAdd 16 (rdF s (R.tmrLost i) 0 16) 1))

/-- A compare takes effect: `CMP_BEHIND` from the present count (R300). -/
def cmpEffect (s : State) (i v : Nat) : State :=
  let w := tmrWidth s i
  let d := (v + 2 ^ w - tmrCount s i) % 2 ^ w
  let s := wr s (R.tmrCompare i) (w64 (v % 2 ^ w))
  wr s (R.tmrStatus i) (putBit (rd s (R.tmrStatus i)) 3 (d = 0 || d ≥ 2 ^ (w - 1)))

/-- A write of `TMR_COMPARE` (R300, R301). -/
def cmpWrite (s : State) (i : Nat) (acc : Width) (v : W64) : State :=
  if isHighHalf s i then s
  else if isCascade s i then
    match acc with
    | .whole => cmpEffect { s with tim := { s.tim with cmpLow := Sparse.del s.tim.cmpLow i } } i v.toNat
    | .lowHalf => { s with tim := { s.tim with cmpLow := Sparse.set (fun _ => 0) s.tim.cmpLow i (fld v 0 32 + 1) } }
    | .highHalf =>
      let low := Sparse.get (fun _ => 0) s.tim.cmpLow i
      let lo := if low = 0 then rdF s (R.tmrCompare i) 0 32 else low - 1
      cmpEffect { s with tim := { s.tim with cmpLow := Sparse.del s.tim.cmpLow i } } i (lo + fld v 32 32 * 2 ^ 32)
    | .other => s
  else match acc with
    | .whole | .lowHalf => cmpEffect s i (fld v 0 32)
    | _ => s

/-- A write of `TMR_CTRL.FREEZE` (R303). -/
def freezeWrite (s : State) (i : Nat) (f : Bool) : State :=
  if isHighHalf s i then s
  else
    let s := wr s (R.tmrCtrl i) (w64 (b2n f))
    if f && !tmrFrozen s i then setB (latchStop s i) (R.tmrStatus i) 1
    else if !f then clrB s (R.tmrStatus i) 1 else s

/-- `WR_DROP` (R298, R304). -/
def wrDrop (s : State) (i : Nat) : State := setB s (R.tmrStatus i) 8

/-- A write of `TMR_COUNT` or `TMR_RELOAD`: only while stopped or frozen (R304). -/
def countWrite (s : State) (i o : Nat) (v : W64) : State :=
  if isHighHalf s i then s
  else if tmrEnabled s i && !tmrFrozen s i then wrDrop s i
  else wr s o (w64 (v.toNat % 2 ^ tmrWidth s i))

/-- The registers of a timer that a cascade widens to 64 bits (R298). -/
def wideRegs (i : Nat) : List Nat := [R.tmrCount i, R.tmrCompare i, R.tmrReload i, R.tmrCapture i]

/-- Timers `i` and `i` + 1 join: the low half is timer `i`'s, the high half timer `i` + 1's (R298; for COMPARE, RELOAD, CAPTURE
and the count at the last stop log entry 152). -/
def joinHalves (s : State) (i : Nat) : State :=
  let s := ((wideRegs i).zip (wideRegs (i + 1))).foldl (fun s o => wr s o.1 (w64 (rdF s o.1 0 32 + rdF s o.2 0 32 * 2 ^ 32))) s
  let lat (k : Nat) : Nat := Sparse.get (fun _ => 0) s.tim.latch k
  { s with tim := { s.tim with
      latch := Sparse.set (fun _ => 0) s.tim.latch i (lat i % 2 ^ 32 + lat (i + 1) % 2 ^ 32 * 2 ^ 32)
      cmpLow := Sparse.del s.tim.cmpLow i } }

/-- A cascade parts: each timer keeps its half (R298). -/
def splitHalves (s : State) (i : Nat) : State :=
  let s := ((wideRegs i).zip (wideRegs (i + 1))).foldl (fun s o =>
    wr (wr s o.2 (w64 (rdF s o.1 32 32))) o.1 (w64 (rdF s o.1 0 32))) s
  let lat := Sparse.get (fun _ => 0) s.tim.latch i
  { s with tim := { s.tim with
      latch := Sparse.set (fun _ => 0) (Sparse.set (fun _ => 0) s.tim.latch i (lat % 2 ^ 32)) (i + 1) (lat / 2 ^ 32)
      cmpLow := Sparse.del s.tim.cmpLow i } }

/-- A write of `TMR_CONFIG`: while running only `ENABLE` changes; `CASCADE` changes only while both timers are stopped,
and exists in even timers only (R298, R304). -/
def configWrite (s : State) (i : Nat) (v : W64) : State :=
  if isHighHalf s i then s
  else
    let old := rd s (R.tmrConfig i)
    let v := if i % 2 = 1 then clrBit v 3 else v
    let casc := bitAt old 3 != bitAt v 3
    if (tmrRunning s i && setBit old 0 ≠ setBit v 0)
        || (casc && (bitAt old 0 || rdB s (R.tmrConfig (i + 1)) 0)) then wrDrop s i
    else
      let s := if bitAt old 0 && !bitAt v 0 then latchStop s i else s
      let s := wr s (R.tmrConfig i) v
      noteGate (if ¬ casc then s else if bitAt v 3 then joinHalves s i else splitHalves s i) i

/-- The value a read of timer `i`'s count returns, and the state after it (R302). -/
def countRead (s : State) (i : Nat) : W64 × State :=
  if isHighHalf s i then (0, s)
  else if tmrRunning s i then (w64 (Sparse.get (fun _ => 0) s.tim.latch i), setB s (R.tmrStatus i) 2)
  else (rd s (R.tmrCount i), s)

/-- Make-up of one timer for `e` elapsed always-on ticks (R309). -/
def makeup (s : State) (e i : Nat) : State :=
  if isHighHalf s i || !tmrEnabled s i || tmrFrozen s i || rdF s (R.tmrConfig i) 20 3 ≠ 0 then s
  else
    let w := tmrWidth s i
    let pre := rdF s (R.tmrConfig i) 4 16
    let cyc := rdF s (R.tmrPrescCnt i) 0 16 + 1600 * e
    let n := cyc / (pre + 1)
    let s := wr s (R.tmrPrescCnt i) (w64 (cyc % (pre + 1)))
    let count := tmrCount s i
    let cmp := tmrCompare s i
    let rel := tmrReload s i
    let mode := rdF s (R.tmrConfig i) 1 2
    if mode = 1 then
      let p0 := (cmp + 2 ^ w - rel) % 2 ^ w
      let p := if p0 = 0 then 2 ^ w else p0
      let q := ((count + 2 ^ w - rel) % 2 ^ w) % p
      let s := if q + n ≥ p then setB s (R.tmrStatus i) 6 else s
      setCount s i (rel + (q + n) % p)
    else if mode = 2 then
      if n ≥ (cmp + 2 ^ w - count) % 2 ^ w then
        setB (clrB (latchStop (setCount s i cmp) i) (R.tmrConfig i) 0) (R.tmrStatus i) 6
      else setCount s i (count + n)
    else
      let d := (cmp + 2 ^ w - count) % 2 ^ w
      let d := if d = 0 then 2 ^ w else d
      let s := if n ≥ d then setB s (R.tmrStatus i) 6 else s
      let s := if count + n ≥ 2 ^ w then setB s (R.tmrStatus i) 7 else s
      setCount s i (count + n)

/-- Make-up of every timer at the exit from P-STANDBY (R309). -/
def makeupAll (s : State) (e : Nat) : State := (List.range 128).foldl (fun s i => makeup s e i) s

/-- Entry into P-STANDBY is a stop of every timer (R302). -/
def latchAll (s : State) : State :=
  (List.range 128).foldl (fun s i => if isHighHalf s i then s else latchStop s i) s

/-! ### The TIME_OUT pad (R296, R424) -/

/-- The ball shows the pulse, or its inverse, unless the pads are held. -/
def driveTout (s : State) : State :=
  if padHold s then s
  else { s with outs := { s.outs with timeOut := (s.tim.toutLeft != 0).xor (rdB s R.toutConfig 1) } }

/-- One cycle of the pulse under way. -/
def toutCycle (s : State) : State :=
  if s.tim.toutLeft = 0 then s else driveTout { s with tim := { s.tim with toutLeft := s.tim.toutLeft - 1 } }

/-- Timers and time-base configuration return to their reset values (R296, R308, R416). -/
def timersReset (s : State) : State :=
  driveTout { s with
    regs := Sparse.clear s.regs fun o =>
      (R.tmrConfig 0 ≤ o && o < R.tmrConfig 128) || (R.tmrIrqPend 0 ≤ o && o ≤ R.tmrIrqPend 1)
        || (R.timeHiLatch ≤ o && o ≤ R.timePulseOvr)
    tim := {} }

end Sys2Proof.Machine
end

