-- ==== Sys2Proof/Machine/HubPort.lean ====
section
/-! DEFINITION. Hub ports, the delivery of Bell results, the Event Port's links and peer frames (R51, R269, R270, R280 to
R288, R358 to R364). -/
namespace Sys2Proof.Machine

/-! ### Hub ports (R20, R51, R270) -/

/-- Row map entry of ROW `row` at hub port `p` (R269). -/
def rowMap (s : State) (p row : Nat) : W64 := w64 (ldU s (0x001001E80000 + p * 0x4000 + 4 * row) 4)

/-- The Bell channel to which an event at hub port `p` goes, if any (R270). -/
def rowChannel (s : State) (p : Nat) (f : Flit) : Option Nat :=
  let e := rowMap s p (fRow f)
  let c := fld e 1 10 - 0x100
  if bitAt e 0 ∧ 0x100 ≤ fld e 1 10 ∧ fld e 1 10 < 0x200 ∧ bellRunning s c ∧ fld e 11 12 < bellN s c then some c else none

/-- An event at a hub port is delivered or discarded, and counts as received (R46, R270). -/
def hubEvent (s : State) (p : Nat) (f : Flit) : State :=
  match rowChannel s p f with
  | some c => barrierAdd (bellTake s c (fld (rowMap s p (fRow f)) 11 12) f) (bellBreath s c) 1 (fStep f) 1
  | none =>
    let s := bump s R.hubRowmapMiss 1
    match srcBreath s (fSrc f) with
    | some j => barrierAdd s j 1 (fStep f) 1
    | none => s

/-- A BULK flit reaches the circuit that ends at this hub port: its engine takes each block once it is complete (R209,
R333). -/
def hubBulk (s : State) (p : Nat) (f : Flit) : State :=
  match circMatch s (1024 + p) 1 (fLabel f) with
  | none => s
  | some k =>
    let key := p * 8 + k
    let old := if ff f 48 6 = 0 then [] else Sparse.get (fun _ => []) s.mesh.bulkIn key
    let l := old ++ leBytes 6 (ff f 0 48)
    let put (s : State) (l : List Byte) : State :=
      { s with mesh := { s.mesh with bulkIn := Sparse.set (fun _ => []) s.mesh.bulkIn key l } }
    if ff f 48 6 ≠ 43 then put s l
    else match receiverOf s (fld (circ s (1024 + p) k) 32 11) with
      | some e => dmaReceive (put s []) e (l.take 256) (w64 (leNat (l.drop 256)))
      | none => put s []

/-- The next flit of hub port `p`'s mesh link arrives (R51, R75, R270). A flit on a VC that is not its TYPE's is
discarded (R191); so is one that no hub endpoint takes. -/
def hubArrive (s : State) (p : Nat) (f : Flit) (epoch : Nat) : State :=
  if nextRx s (1024 + p) 1 ≠ some f then s else
  let s := freeSlot (takeRx s (1024 + p) 1) (1024 + p) 1 (creditQueue f)
  let t := fType f
  if ¬ vcOk f then s
  else if t ≤ 1 then echoFor (hubEvent s p f) (1024 + p) f epoch
  else if t = 3 then
    let r := fRid f
    if 0x600 ≤ r ∧ r < 0x700 ∧ r % 4 < 3 then barrierAdd s ((r - 0x600) / 4) (r % 4) (fRStep f) (fValue f) else s
  else if t = 6 ∨ t = 0xB then { s with mesh := { s.mesh with hubRx := s.mesh.hubRx ++ [f] } }
  else if t = 9 then hubBulk s p f
  else s

def execHubPortFlit (p : HubPort) (f : Flit) (epoch : Nat) (s : State) := act s fun s => hubArrive s p.val f epoch

/-! ### Results (R280 to R282) -/

/-- A pulse on trigger source `src` sets out to every timer that selects it (R307). -/
def trigPulse (s : State) (src : Nat) : State :=
  (List.range 128).foldl (fun s i =>
    if !isHighHalf s i && rdF s (R.tmrConfig i) 30 9 = src && rdF s (R.tmrConfig i) 39 2 ≠ 0 then
      { s with tim := { s.tim with
          trigPulses := Sparse.set (fun _ => 0) s.tim.trigPulses i (Sparse.get (fun _ => 0) s.tim.trigPulses i + 1) } }
    else s) s

/-- The actions after a delivery, in order (R282). -/
def bellActions (s : State) (c : Nat) : State :=
  let a := rd s (R.bellActions c)
  let s := if bitAt a 0 then sendMsix s (fld a 1 6) else s
  let s := if bitAt a 7 ∧ bellMode s c ≠ 5 then dmaStart s (fld a 8 3) else s
  if bitAt a 11 then trigPulse s c else s

/-- A result has been delivered: it is held no more, and the actions follow (R281, R282). -/
def delivered (s : State) (r : BellRes) : State :=
  let s := { s with conv := { s.conv with results := s.conv.results.erase r } }
  bellActions (clrB s (R.bellStatus r.chan) 2) r.chan

/-- A message with its header, padded to whole units (Table 9-6). -/
def mkMessage (desc : Bool) (step user : Nat) (payload : List Byte) : List Byte :=
  let units := 1 + cdiv payload.length 32
  mkHeader (b2n desc * 4 + (units - 1) * 256) (step % 2 ^ 32 + user % 2 ^ 32 * 2 ^ 32) payload.length
    ++ (payload ++ List.replicate 32 0).take (32 * (units - 1))

/-- Replace a held result. -/
def setResult (s : State) (r r' : BellRes) : State :=
  { s with conv := { s.conv with results := s.conv.results.map fun x => if x = r then r' else x } }

/-- Begin a channel's message through `BELL_BIND` (R235, R281). -/
def bellSend (s : State) (r : BellRes) (msg : List Byte) : State :=
  let w := rd s (R.bellBind r.chan)
  if ¬ bitAt w 40 then s
  else
    let s := setResult s r { r with going := true }
    hubSendBegin s (0x500 + r.chan) ⟨0, fld w 0 16, fld w 24 16, fld w 16 8, msg, none⟩

/-- Bytes of one buffer position (R281). -/
def bufferBytes (n : Nat) : Nat := cdiv (4 * n) 256 * 256

/-- Write the result buffer's blocks; answers the job fault of a refused or unmapped block. -/
def writeResult (job : Nat) : Nat → State → Nat → List Byte → Option Nat × State
  | 0, s, _, _ => (none, s)
  | k + 1, s, a, l =>
    match writeBlock s a ((l.take 256) ++ List.replicate (256 - (l.take 256).length) 0) job false false true with
    | (.good _, s) => writeResult job k s (a + 256) (l.drop 256)
    | (.refused, s) => (some 8, s)
    | (_, s) => (some 9, s)

/-- The oldest held result of channel `c` is delivered to its queue or buffer (R281). A message is delivered once it has
left, and its actions follow then; the Event Port sends its frames itself. -/
def bellDeliver (s : State) (c : Nat) : State :=
  match s.conv.results.find? fun r => r.chan = c with
  | none => s
  | some r =>
    let cfg := rd s (R.bellConfig c)
    let vals := r.vals.flatMap fun v => leBytes 4 v
    let out := fld cfg 3 2
    if r.going then (if (hubSends s (0x500 + c)).isEmpty then delivered s r else s)
    else if out = 0 then bellSend s r (mkMessage false r.step.toNat c vals)
    else if out = 1 then
      let w := bufferBytes r.vals.length
      let a := rdF s (R.bellOutAddr c) 0 48 + (r.step.toNat % 2 ^ fld cfg 52 4) * w
      match writeResult (bellJob s c) (w / 256) s a vals with
      | (some code, s) => bellFault s c code
      | (none, s) =>
        if bitAt cfg 5 then bellSend s r (mkMessage true r.step.toNat c (leBytes 8 a ++ leBytes 8 w ++ leBytes 16 0))
        else delivered s r
    else s

def execBellDelivery (c : Chan) (s : State) := act s fun s => bellDeliver s c.val

/-- The reads of channel `c` that an answer belongs to: the oldest of the step tag that it carries (R280). -/
def mreadFor (s : State) (c : Nat) (f : Flit) : Option MemRead :=
  (mreadOf s c).find? fun m => m.step.toNat % 4 = ff f 32 2

/-- A response to a membrane read (R280): with the last, the result is formed and the START is withheld no more. -/
def mreadTake (s : State) (c : Nat) (m : MemRead) (f : Flit) : State :=
  let v := if rdF s (R.bellConfig c) 11 2 % 2 = 1 then ff f 16 16 else ff f 0 16
  let vals := m.vals ++ [ux 32 (sx 16 v)]
  if m.left > 1 then
    setMread s c ((mreadOf s c).map fun x => if x = m then { m with vals := vals, left := m.left - 1 } else x)
  else
    let s := setMread s c ((mreadOf s c).erase m)
    let j := bellBreath s c
    let more := (List.range 256).any fun k => bellBreath s k = j && !(mreadOf s k).isEmpty
    holdResult (setBrth s j { brth s j with withheld := (brth s j).withheld && more }) c m.step vals

def mreadResponse (s : State) (c : Nat) (f : Flit) : State :=
  match mreadFor s c f with
  | none => s
  | some m => takeHub s f fun s => mreadTake s c m f

def execMembraneReadResponse (c : Chan) (f : Flit) (s : State) :=
  act s fun s =>
    if fType f = 0xB ∧ ¬ bitAt f 44 ∧ ff f 40 4 = 5 + rdF s (R.bellActions c.val) 8 3 then mreadResponse s c.val f else s

/-! ### The Event Port's links (R283 to R288) -/

/-- Bytes of a frame's words, each from its most significant byte (R284). -/
def frameBytes (l : List Nat) : List Byte := l.flatMap (beBytes 4)

/-- CRC of a frame over its header, payload and slot (R284). -/
def frameCrc (head : Nat) (pay : List Nat) (slot : Nat) : Nat := crc16 (frameBytes (head :: pay) ++ beBytes 2 slot)

/-- Why a frame with a good length is discarded as badly formed (R285). RESULTS frames, and frames of the other kind than
their stream's, count so too (log entry 22). -/
def frameBad (s : State) (h : Nat) : Bool :=
  let ft := h / 2 ^ 29
  let k := h / 2 ^ 23 % 64
  if ft = 7 then false
  else if ft ≠ 1 ∧ ft ≠ 2 then true
  else if ¬ streamValid s k ∨ b2n (rdB s (R.epStreamA k) 1) ≠ ft - 1 then true
  else ft = 1 && h / 2 ^ 11 % 4096 + 2 * (h % 2048 + 1) > mpN s (rdF s (R.epStreamA k) 2 8)

/-- A frame arrives on EVT_IN (R285, R288). -/
def evtIn (s : State) (l : List Nat) : State :=
  match l with
  | [] => s
  | h :: rest =>
    let pay := rest.dropLast
    let tr := rest.getLastD 0
    if l.length ≠ h % 2048 + 3 then bump s R.epFormatErr 1
    else if frameCrc h pay (tr / 65536) ≠ tr % 65536 then bump s R.epCrcErr 1
    else if frameBad s h then bump s R.epFormatErr 1
    else if h / 2 ^ 29 = 7 then
      let s := bump s R.epFramesIn 1
      if rdB s R.epConfig 3 then wr s R.epStatus (putBit (rd s R.epStatus) 1 (pay.headD 0 % 2 = 1)) else s
    else if fifoWords s + l.length > 16384 then bump s R.epDrop 1
    else
      let before := fifoWords s
      noteFifo { bump s R.epFramesIn 1 with
        conv := { s.conv with epIn := s.conv.epIn ++ [(h, tr / 65536, pay)] } } before

def execEvtInFrame (words : List (BitVec 32)) (s : State) :=
  act s fun s => if rdB s R.epConfig 0 then evtIn s (words.map fun w => w.toNat) else s

/-- Send a frame on EVT_OUT. -/
def putEvt (s : State) (head : Nat) (pay : List Nat) (slot : Nat) : State :=
  let fr := head :: pay ++ [slot * 65536 + frameCrc head pay slot]
  bump { s with outs := { s.outs with evt := fr :: s.outs.evt } } R.epFramesOut 1

/-- The next frame on EVT_OUT: a FLOW frame ahead of RESULTS, or the next part of the oldest result (R287, R288),
but none while the pads are held (R424). With
`FLOW_EN` = 0 FLOW frames are neither sent nor obeyed (R288). The slot of a FLOW frame is a free value. -/
def evtOut (s : State) : State :=
  let flow := rdB s R.epConfig 3
  if ¬ rdB s R.epConfig 1 ∨ (flow ∧ rdB s R.epStatus 1) ∨ rdB s R.pwrState 3 then s
  else match if flow then s.conv.flow else [] with
    | x :: more =>
      let v := freshValue { s with conv := { s.conv with flow := more } }
      putEvt v.2 (7 * 2 ^ 29) [b2n x] (fld v.1 0 16)
    | [] =>
      match s.conv.results.find? fun r => rdF s (R.bellConfig r.chan) 3 2 = 2 with
      | none => s
      | some r =>
        let pay := (r.vals.drop r.sent).take 2048
        let head := 4 * 2 ^ 29 + rdF s (R.bellConfig r.chan) 46 6 * 2 ^ 23 + r.sent % 4096 * 2 ^ 11 + (pay.length - 1)
        let s := putEvt s head pay (r.step.toNat % 65536)
        if r.sent + pay.length ≥ r.vals.length then delivered s r
        else setResult s r { r with sent := r.sent + pay.length }

def execEvtOutFrame (s : State) := act s evtOut

/-- `EP_STATUS.IN_CLK` follows the clock (R283). -/
def execEvtInClockLoss (s : State) := act s fun s => clrB s R.epStatus 0
def execEvtInClockReturn (s : State) := act s fun s => setB s R.epStatus 0

/-! ### Peer frames (R358 to R364) -/

/-- The package suspends its part of a hierarchy job: HOLD from the manager (R364). -/
def workerHold (s : State) (j : Nat) (t : BitVec 32) : State :=
  let s := sendDown (sendBcast (setBrthState s j 3) j 2 t) j 5 t
  if jobState s j = 3 then setJobState s j 4 else s

/-- A peer barrier flit from port `p` (R364). -/
def peerBarrier (s : State) (p : Nat) (f : Flit) : State :=
  match breathOf s (fRid f - 0x700) with
  | none => s
  | some j =>
    let t := BitVec.ofNat 32 (fValue f)
    let b := brth s j
    let kind := fDy f
    if brthState s j = 4 ∨ brthState s j = 0 then s
    else if kind ≤ 1 then barrierAdd s j kind (fRStep f) (fValue f)
    else if kind = 2 then barrierComplete s j (fRStep f) (0x628 + p)
    else if ¬ brthHier s j ∨ p ≠ 0 then s
    else if kind = 3 then
      (if t = b.started + 1 then
        -- It ends a HOLD too: what was frozen goes on.
        let s := setJobState (setBrthState s j 2) j (if jobState s j = 4 then 3 else jobState s j)
        workerStart (thawJob s j) j t else s)
    else if kind = 4 then (if t = b.closed + 1 then closeStep s j t else s)
    else if kind = 5 then workerHold s j t
    else s

/-- A flit is taken in from peer port `p`: MARK cleared, SRC the port's; it enters the mesh at hub port DY, and is not
counted as sent here (R359, R363). -/
def peerTakeIn (s : State) (p : Nat) (f : Flit) : State :=
  let t := fType f
  if t = 3 then (if 0x700 ≤ fRid f ∧ fRid f < 0x800 then peerBarrier s p f else s)
  else if t ≤ 1 then hubInject (shapeTo s (0x628 + p) (hubCycle s)) (fDy f) (0x628 + p) (putFld (clrBit f 57) 1 11 (0x628 + p))
  else bump s R.peerBadType 1

/-- The receiver of a peer link answers by its next control frame: one lane, ACK the SEQ accepted last (R213, R214, R359; log
entry 20). -/
def peerControl (h : Link) (nak : Bool) : Link := { h with ctl := controlBits 0 (h.expect + 255) nak h.freed, nak := nak }

/-- A frame arrives at peer port `p` (R358, R359, R361). -/
def peerFrame (s : State) (p : Nat) (fr : Frame) : State :=
  let v := fr.toNat
  let k := peerIn p
  let h := link s k
  let payload := w64 (v / 2 ^ 32)
  if crc16 (beBytes 10 (v / 65536)) ≠ v % 65536 then
    setLink (bump s (R.peerCrcErr p) 1) k (if h.nak then h else peerControl h true)
  else if fType payload = 0xF then
    (if bitAt payload 56 then controlWord s (.peer (Fin.ofNat 4 p)) (w64 (fld payload 0 31)) else s)
  else if v / 65536 % 4096 ≠ h.expect % 4096 then s
  else
    let q := fVc payload
    let s := setLink s k (peerControl { h with
      expect := h.expect + 1, freed := h.freed.set q ((h.freed.getD q 0 + 1) % 8) } false)
    let pkg := v / 2 ^ 28 % 16
    let s := if pkg = pkgId s ∨ (peerPort s pkg).isSome then bump s (R.peerFramesRx p) 1 else s
    if pkg = pkgId s then peerTakeIn s p payload else peerSend s pkg payload

def execPeerFrame (p : Fin 4) (fr : Frame) (s : State) :=
  act s fun s => if rdF s (R.peerStatus p.val) 0 2 ≤ 1 then peerFrame s p.val fr else s

end Sys2Proof.Machine
end

