-- ==== Sys2Proof/Machine/Time.lean ====
section
/-! DEFINITION. Device time, captures, TIME_OUT, timer events, step scheduling events and the deadlock detector (R56 to
R64, R263 to R266, R289 to R311). -/
namespace Sys2Proof.Machine

/-! ### Breath events (R59 to R63) -/

/-- Start pulses on their way to breath `j` (R60). -/
def startPulses (s : State) (j : Nat) : Nat := Sparse.get (fun _ => 0) s.tim.startPulses j
def setStartPulses (s : State) (j k : Nat) : State :=
  { s with tim := { s.tim with startPulses := Sparse.set (fun _ => 0) s.tim.startPulses j k } }

/-- A start action reaches breath `j`; two that merge set `BRTH_PULSE_OVR.TIMER` and count as one (R60). -/
def execTimerStartAction (j : BreathId) (merged : Bool) (s : State) :=
  act s fun s =>
    let k := if merged then 2 else 1
    if startPulses s j.val < k then s
    else
      let s := setStartPulses s j.val (startPulses s j.val - k)
      startAction (if merged then setB s (R.brthPulseOvr j.val) 1 else s) j.val

def execStepOverrun (j : BreathId) (s : State) :=
  act s fun s => if overrun s j.val then overrunFault s j.val else s

/-- Misses and slips of breath `j` so far. -/
def frameFaults (s : State) (j : Nat) : Nat := (rd s (R.brthFrameMiss j)).toNat + (rd s (R.brthFrameSlip j)).toNat

/-- The L0 job's condition `FRAME` fails when a miss or a slip is counted (R468). -/
def noteFrameCond (before : State) (j : Nat) (s : State) : State :=
  if brthL0 s j && frameFaults s j ≠ frameFaults before j then failCond s j 3 else s

def execFrameMiss (j : BreathId) (s : State) :=
  act s fun s => if missDue s j.val then noteFrameCond s j.val (assumeAnchor s j.val) else s

def execFrameArmMissing (j : BreathId) (s : State) :=
  act s fun s => if armDue s j.val then noteFrameCond s j.val (armMissing s j.val) else s

/-! ### Captures (R294, R295) -/

/-- The value captured: floor(T - 1.25 ns) (R294). -/
def capture (s : State) : Nat := (s.time - 5368709120) / 2 ^ 32

/-- Add to a 32-bit counter that wraps. -/
def wrapBump (s : State) (o : Nat) : State := wr s o (w64 ((rdF s o 0 32 + 1) % 2 ^ 32))

/-- An edge reaches breath `j`; a merged one sets `BRTH_PULSE_OVR.FRAME` with it (R63, R295). -/
def edgeTo (cap : Nat) (merged : Bool) (s : State) (j : Nat) : State :=
  if brthMode s j ≠ 1 then s
  else
    let s' := noteFrameCond s j (frameEdge (cap / max (framePeriod s j) 1 + 2) s j cap)
    if merged then
      let s' := setB s' (R.brthPulseOvr j) 0
      if brthL0 s' j then failCond s' j 3 else s'
    else s'

/-- A capture of FRAME_SYNC_IN (R294, R295, R307). -/
def frameSync (s : State) (merged : Bool) : State :=
  if ¬ rdB s R.timeCapConfig 2 then s
  else
    let cap := capture s
    let s := wrapBump (wr s R.fsCapture (w64 cap)) R.fsCount
    let s := if merged then setB s R.timePulseOvr 1 else s
    trigPulse ((List.range 64).foldl (edgeTo cap merged) s) 0x100

def execFrameSyncCapture (merged : Bool) (s : State) := act s fun s => frameSync s merged

/-- A capture of PPS_IN (R294, R295, R307). -/
def execPpsCapture (merged : Bool) (s : State) :=
  act s fun s =>
    if ¬ rdB s R.timeCapConfig 0 then s
    else
      let s := wrapBump (wr s R.ppsCapture (w64 (capture s))) R.ppsCount
      trigPulse (if merged then setB s R.timePulseOvr 0 else s) 0x101

/-! ### TIME_OUT (R296) -/

/-- The first pulse that starts no earlier than device time (R296). -/
def nextPulse (s : State) : Option Nat :=
  if ¬ rdB s R.toutConfig 0 then none
  else
    let start := (rd s R.toutStart).toNat
    let p := rdF s R.toutPeriod 0 48
    -- Device time with its fraction: a start within the present ns is past.
    let now := cdiv s.time (2 ^ 32)
    if now ≤ start then some start
    else if p = 0 then none
    else some (start + cdiv (now - start) p * p)

/-- A write of the TIME_OUT registers, or a step of device time, sets the next pulse. -/
def aimPulse (s : State) : State := { s with tim := { s.tim with toutNext := nextPulse s } }

/-- A pulse begins: it lasts `TOUT_WIDTH` ns, rounded up to whole cycles of 0.625 ns (R296). It reaches the ball unless the
pads are held (R424). -/
def timeOut (s : State) : State :=
  match s.tim.toutNext with
  | some t =>
    if rdB s R.toutConfig 0 ∧ t ≤ nowNs s then
      let p := rdF s R.toutPeriod 0 48
      driveTout { s with
        outs := { s.outs with
          pulses := if padHold s then s.outs.pulses else (t, rdF s R.toutWidth 0 32) :: s.outs.pulses }
        tim := { s.tim with
          toutNext := if p = 0 then none else some (t + p), toutLeft := cdiv (rdF s R.toutWidth 0 32 * 8) 5 } }
    else s
  | none => s

def execTimeOutPulse (s : State) := act s timeOut

/-! ### Timer events (R299, R305 to R307) -/

/-- An arm pulse for Mouthpiece channel `c`: one that is not RUNNING discards it; one less than 4 cycles behind the last
merges with it, and sets `MP_PULSE_OVR.ARM` (R24, R272, R305). -/
def mpArm (s : State) (c : Nat) : State :=
  if ¬ mpRunning s c then s
  else
    let last := Sparse.get (fun _ => 0) s.tim.armAt c
    if last ≠ 0 ∧ s.tim.cycle + 1 < last + 4 then setB s (R.mpPulseOvr c) 0
    else setB { s with tim := { s.tim with armAt := Sparse.set (fun _ => 0) s.tim.armAt c (s.tim.cycle + 1) } } (R.mpStatus c) 2

/-- Timer `i`'s interrupt action (R305). -/
def timerIrq (s : State) (i v : Nat) : State := sendMsix (setB s (R.tmrIrqPend (i / 64)) (i % 64)) v

/-- Step-start pulses set out to the timer-driven breaths that timer `i`, or its cascade, drives (R60, R305). -/
def stepPulse (s : State) (i : Nat) (both : Bool) : State :=
  (List.range 64).foldl (fun s j =>
    if brthMode s j = 2 && tmrOf s (rdF s (R.brthConfig j) 8 7) = i then
      let s := setStartPulses s j (startPulses s j + 1)
      if both then setB s (R.brthPulseOvr j) 1 else s
    else s) s

/-- An action set (Table 11-6). `other` is the set that the same tick also carries out: an action that both hold for one
target is one pulse, and sets the target's overrun flag (R305). `first` says which of the two carries it. -/
def runActions (s : State) (i : Nat) (a : W64) (other : Option W64) (first : Bool) : State :=
  let dupIrq := bitAt a 0 && (other.map fun o => bitAt o 0 && fld o 1 6 = fld a 1 6) = some true
  let s := if bitAt a 0 ∧ (first ∨ ¬ dupIrq) then timerIrq s i (fld a 1 6) else s
  let dupStep := bitAt a 7 && (other.map fun o => bitAt o 7) = some true
  let s := if bitAt a 7 ∧ (first ∨ ¬ dupStep) then stepPulse s i dupStep else s
  let c := fld a 9 8
  let dupArm := bitAt a 8 && (other.map fun o => bitAt o 8 && fld o 9 8 = c) = some true
  let s := if bitAt a 8 ∧ (first ∨ ¬ dupArm) then
      (let s := mpArm s c
       if dupArm ∧ mpRunning s c then setB s (R.mpPulseOvr c) 0 else s) else s
  let e := fld a 18 3
  let dupDma := bitAt a 17 && (other.map fun o => bitAt o 17 && fld o 18 3 = e) = some true
  let s := if bitAt a 17 ∧ (first ∨ ¬ dupDma) then dmaStart s e else s
  tmrNext s (fld a 21 2) (fld a 23 7)

/-- One tick of timer `i`, with the actions of what it fires, the match's first (R299, R305). -/
def tick (s : State) (i : Nat) : State :=
  let m := tickMatches s i
  let w := tickWraps s i
  let acts := rd s (R.tmrAct i)
  let ma := w64 (fld acts 0 32)
  let oa := w64 (fld acts 32 32)
  let s := tickCore s i
  let s := if m then runActions s i ma (if w then some oa else none) true else s
  if w then runActions s i oa (if m then some ma else none) (!m) else s

/-- Timer `i` counts: it runs and its gate is open (R297). -/
def counts (s : State) (i : Nat) : Bool := !isHighHalf s i && tmrRunning s i && gateOpen s i

/-- The tick that makes the count equal to COMPARE (R299). -/
def execTimerMatch (i : TimerId) (s : State) :=
  act s fun s =>
    if counts s i.val && tickMatches s i.val then tick (wr s (R.tmrPrescCnt i.val) 0) i.val else s

/-- The tick that wraps the count to 0 (R299). -/
def execTimerOverflow (i : TimerId) (s : State) :=
  act s fun s =>
    if counts s i.val && tickWraps s i.val then tick (wr s (R.tmrPrescCnt i.val) 0) i.val else s

/-- A trigger pulse reaches timer `i` and acts; two that merge are one, and a Bell channel's overrun flag is set (R282, R307).
A start action of the same cycle gives way to its stop. -/
def timerTrigger (s : State) (i : Nat) (merged : Bool) : State :=
  let k := if merged then 2 else 1
  let have_ := Sparse.get (fun _ => 0) s.tim.trigPulses i
  if have_ < k then s
  else
    let s := { s with tim := { s.tim with trigPulses := Sparse.set (fun _ => 0) s.tim.trigPulses i (have_ - k) } }
    let src := rdF s (R.tmrConfig i) 30 9
    let s := if merged ∧ src < 256 then setB s (R.bellPulseOvr src) 0 else s
    let op := rdF s (R.tmrConfig i) 39 2
    let s := if op = 2 then { s with tim := { s.tim with trigStop := tmrOf s i :: s.tim.trigStop } } else s
    tmrOp s op i

def execTimerTrigger (i : TimerId) (merged : Bool) (s : State) := act s fun s => timerTrigger s i.val merged

/-- The level at an input ball that a gate selects (Table 11-5). A breath and the throttle give their own. -/
def setInput (s : State) (i : Nat) (level : Bool) : State :=
  let w := rd s (R.tmrConfig i)
  let sel := fld w 20 3
  if sel = 1 then { s with chip := { s.chip with frameSync := level } }
  else if sel = 2 then { s with chip := { s.chip with evtFrm := level } }
  else if sel = 3 then
    let k := fld w 24 6 % 16
    { s with chip := { s.chip with gpioIn := if level then s.chip.gpioIn ||| BitVec.ofNat 16 (2 ^ k)
        else s.chip.gpioIn &&& ~~~ BitVec.ofNat 16 (2 ^ k) } }
  else s

def execTimerGateChange (i : TimerId) (on : Bool) (s : State) :=
  act s fun s =>
    if isHighHalf s i.val || rdF s (R.tmrConfig i.val) 20 3 = 0 then s
    else noteGate (setInput s i.val (on == rdB s (R.tmrConfig i.val) 23)) i.val

/-! ### Reads with effects of their own (R290, R302) -/

/-- What a host read returns. -/
def answerRead (s : State) (l : List Byte) (ep : Bool) : State := { s with outs := { s.outs with read := l, readEp := ep } }

/-- A 32-bit read of `TIME_NOW`[31:0] latches the high half (R290). -/
def execTimeNowLowRead (s : State) :=
  act s fun s => answerRead (wr s R.timeHiLatch (w64 (nowNs s / 2 ^ 32))) (leBytes 4 (nowNs s)) false

def execTmrCountRead (i : TimerId) (s : State) :=
  act s fun s => let r := countRead s i.val; answerRead r.2 (leBytes 8 r.1.toNat) false

/-! ### The 1 µs tick and the timer clock (R263, R264, R289, R291, R293, R297) -/

/-- One microsecond of the waits of core `n`'s engine `e` (R263, R264). -/
def waitTick (n : Nat) (s : State) (e : Nat) : State :=
  let w := R.waitState e
  if ¬ waiting s n e then s
  else
    let s := if crB s n w 6 then cbump s n R.lendParkedUs 1 else s
    if Sparse.get (fun _ => 0) (core s n).waitFrom e % 2 = 1 ∧ crF s n w 40 24 > 0 ∧ ¬ frozen s n
    then cwF s n w 40 24 (crF s n w 40 24 - 1) else s

/-- What a sweep finds active: the last router, and whether the hub is (R222 to R224). -/
def sweepFinds (s : State) : Option Nat × Bool :=
  (((List.range 1024).filter fun n => rdB s (R.rtrDrain n) 0 || nodeFenced s n).getLast?, rdB s R.hubDrain 0 || hubFenced s)

/-- Every `DRAIN_ACTIVE` bit cleared by a sweep (R222, step 4). -/
def clearDrainBits (s : State) : State :=
  { s with regs := Sparse.clear s.regs fun o =>
      o = R.hubDrain || (0x100000 ≤ o && o < 0x180000 && o % 0x200 = 0x18) }

/-- `SWEEPS` counts `k` more (Table 8-16). -/
def addSweeps (s : State) (k : Nat) : State := wrF s R.meshDrainStatus 8 8 (min (rdF s R.meshDrainStatus 8 8 + k) 255)

/-- The unclean sweeps of the last microsecond: the spec leaves their number to their timing, and it is a free value (R222;
log entry 1). -/
def sweepTick (s : State) : State :=
  match s.mesh.drains with
  | d :: rest =>
    let b := sweepFinds s
    if rdF s R.meshDrainStatus 0 2 ≠ 2 ∨ b = (none, false) then s
    else
      let v := freshValue s
      let k := v.1.toNat % 256
      if k = 0 then v.2
      else
        let s := noteAllDrain (clearDrainBits (addSweeps v.2 k))
        { s with mesh := { s.mesh with drains := { d with found := b } :: rest } }
  | [] => s

/-- The 1 µs tick: shapers, sweeps and wait timeouts (R205, R222, R263, R293). -/
def microTick (s : State) (at_ : List (Nat × Nat)) : State :=
  let s := sweepTick <| shapeTick { s with chip := { s.chip with lastTick := nowNs s / 1000 } } at_
  s.cores.foldl (fun s c => if c.2.waitFrom.isEmpty then s else (List.range 6).foldl (waitTick c.1) s) s

/-- Device time has passed a multiple of 1,000 ns since the last tick. -/
def tickDue (s : State) : Bool := s.chip.lastTick < nowNs s / 1000

def execDeviceTimeTick (at_ : List (Nat × Nat)) (s : State) := act s fun s => if tickDue s then microTick s at_ else s

/-- The slew share of a cycle, in 2^-32 ns (R291). -/
def slewShare (s : State) : Int :=
  let k : Int := (rd s R.timeIncr).toNat / 1024
  if s.tim.slew > 0 then min s.tim.slew k else max s.tim.slew (-k)

/-- One timer-clock cycle of timer `i`: the prescaler counts, and a tick moves the count, or is lost while frozen (R297,
R303). -/
def timerCycle (s : State) (i : Nat) : State :=
  let s := noteGate s i
  if isHighHalf s i || !tmrEnabled s i || !gateOpen s i then s
  else
    let c := rdF s (R.tmrPrescCnt i) 0 16
    if c < rdF s (R.tmrConfig i) 4 16 then wr s (R.tmrPrescCnt i) (w64 (c + 1))
    else
      let s := wr s (R.tmrPrescCnt i) 0
      if tmrFrozen s i then tickLost s i else tick s i

/-- One timer-clock cycle: device time advances by `TIME_INCR` and the slew share, the timer actions of the cycle before act,
and every timer counts. It is what a
step does when no command waits (log entry 6). -/
def clockCycle (s : State) : State :=
  let k := slewShare s
  let s := { s with
    time := ((s.time : Int) + (rd s R.timeIncr).toNat + k).toNat
    tim := { s.tim with slew := s.tim.slew - k, cycle := s.tim.cycle + 1 } }
  toutCycle ((List.range 128).foldl timerCycle (actOps s))

/-- The timer clock runs: the package is neither held in a cold reset, nor asleep, nor off, and its clock runs (R297,
R309, R462). -/
def clocked (s : State) : Bool :=
  s.chip.refclk && s.chip.phase ≠ .coldHeld && s.chip.phase ≠ .standby && s.chip.phase ≠ .off

/-- A step without a command: a cycle changes neither the queue, nor firmware and fuses, nor reset and TAP. -/
def idle (s : State) : State :=
  if clocked s then settle s (keepQueue s (keepStore s (keepPins s (clockCycle s) true))) else s

/-! ### The deadlock detector (R265, R266) -/

/-- `WAITING` of core `n` (R265). -/
def coreWaits (s : State) (n : Nat) : Bool :=
  let c := core s n
  !c.sends.isEmpty || !c.opWait.isEmpty || (List.range 6).any fun e => waiting s n e

/-- One sample of breath `j` (R265). -/
def quietSample (s : State) (j : Nat) : State :=
  let l := coresOf s j
  if l.isEmpty || haltHold s j || brthState s j = 3 then s
  else if l.any fun n => s.mesh.moved.contains n then wrF s (R.dlQuiet j) 0 32 0
  else if (brthState s j = 1 || brthState s j = 2) && l.any (coreWaits s) then
    wrF s (R.dlQuiet j) 0 32 (min (rdF s (R.dlQuiet j) 0 32 + 1) 0xFFFFFFFF)
  else s

def execDeadlockSample (s : State) :=
  act s fun s =>
    let s := (List.range 64).foldl quietSample s
    { s with mesh := { s.mesh with moved := [] } }

/-- The window of breath `j` in µs (R265). -/
def quietWindow (s : State) (j : Nat) : Nat :=
  let w := rdF s (R.dlWindow j) 0 32
  if w = 0 then max (cdiv (4 * period s j) 1000) 5000 else w

/-- The quiet count has reached the window (R265). -/
def execDeadlock (j : BreathId) (s : State) :=
  act s fun s =>
    let j := j.val
    if (brthState s j = 1 || brthState s j = 2) && rdF s (R.dlQuiet j) 0 32 ≥ quietWindow s j && !rdB s (R.dlQuiet j) 32 then
      raise (setB s (R.dlQuiet j) 32) j 0x06 (brth s j).started.toNat
    else s

end Sys2Proof.Machine
end

