-- ==== Sys2Proof/Machine/Budget.lean ====
section
/-! DEFINITION. The power manager's model of a core island, and the test of a power limit against what is reserved
(R428 to R430). Powers are held in units of 10^-18 mW, in which the model is exact. -/
namespace Sys2Proof.Machine

/-- One mW. -/
def mW : Nat := 10 ^ 18

/-- V(f) for frequency code `c` (f = 25 MHz × c), in 10^-7 V (R428). -/
def voltOf (c : Nat) : Nat := 4750000 + 46875 * c

/-- p(f, V): a RUN island at code `c` on a die whose voltage is that of code `d` (R429). -/
def runPower (c d : Nat) : Nat := 12625 * c * voltOf d ^ 2 + 588000000000 * voltOf d

/-- An IDLE island on a die whose voltage is that of code `d` (Table 16-4). -/
def idlePower (d : Nat) : Nat := 588000000000 * voltOf d

/-- A NAP island: 0.8 mW (Table 16-4). -/
def napPower : Nat := 8 * 10 ^ 17

/-- Whole mW, rounded half up. DEDUCED from the figures of the worked example of R432 (log entry 27). -/
def toMw (p : Nat) : Nat := (p + mW / 2) / mW

/-- `CORE_STATUS.ISLAND`: 0 RUN, 1 IDLE, 2 NAP, 3 OFF (Table 3-10). -/
def island (s : State) (n : Nat) : Nat := crF s n R.coreStatus 0 2
def setIsland (s : State) (n v : Nat) : State := cwF s n R.coreStatus 0 2 v

/-- Number of the L0 job's cores. -/
def l0Cores (s : State) : Nat := match l0Breath s with
  | some j => (coresOf s j).length
  | none => 0

/-- The reservation for `n` cores (R429). -/
def reservation (s : State) (n : Nat) : Nat :=
  let c := rdF s R.pwrL0Freq 0 7
  n * runPower c c

/-- Cores of RUNNING jobs other than that of breath `l0`. -/
def runningCores (s : State) (l0 : Option Nat) : Nat :=
  ((List.range 64).map fun j => if jobState s j = 3 && some j ≠ l0 then (coresOf s j).length else 0).sum

/-- A limit of `w` W holds `PWR_UNCORE_MIN`, the reservation of an L0 job on breath `l0` with `n` cores, and every RUNNING
non-L0 core at 0.4 GHz (R430). -/
def limitHolds (s : State) (w : Nat) (l0 : Option Nat) (n : Nat) : Bool :=
  w * 1000 * mW ≥ rdF s R.pwrUncoreMin 0 32 * mW + reservation s n + runningCores s l0 * runPower 16 16

/-- `PWR_LIMIT` may take the value `w` (R430). -/
def limitOk (s : State) (w : Nat) : Bool := 40 ≤ w && w ≤ 95 && limitHolds s w (l0Breath s) (l0Cores s)

/-- A refused limit (R430). -/
def refuseLimit (s : State) : State := setB s R.pwrAlarm 3

/-- T_max of the grade fitted, in °C (R432). -/
def tMax : Int := if Config.extended then 105 else 100

/-- The package's power state (Table 16-1). -/
def pwrStateCode (s : State) : Nat :=
  if s.chip.phase = .standby then 2
  else if ((List.range 64).any fun j => let t := jobState s j; t = 1 || t = 3 || t = 5 || t = 8) || bgCount s > 0 then 0
  else 1

end Sys2Proof.Machine
end

