-- ==== Sys2Proof/Machine/RegAccess.lean ====
section
/-! DEFINITION. Reads and writes of registers from outside the cores: what a read shows, the writes with effects of
their own, and the journal entries of BAR0 writes (R9 to R11, R341, R349, R353 to R356, R391, R424, R430, R439). -/
namespace Sys2Proof.Machine

/-! ### Reads -/

/-- `TIME_SLEW`: the slew still to apply, in whole ns (Table 11-2). -/
def slewNs (s : State) : W64 := w64 (ux 32 (s.tim.slew.tdiv 4294967296))

/-- `PWR_L0` (Table 16-8). -/
def pwrL0Read (s : State) : W64 := w64 (toMw (reservation s (l0Cores s)) % 2 ^ 32 + l0Cores s * 2 ^ 32)

/-- Restarts of the job of breath `j` in the last 60 minutes of device time (R403). -/
def recentRestarts (s : State) (j : Nat) : Nat :=
  ((jobOf s j).restarts.filter fun t => nowNs s < t + 3600000000000).length

/-- 24 h in ns: the age at which a core is due for its test (R412). -/
def testAge : Nat := 86400000000000

/-- Core `n` is due for its test (R412). -/
def testDue (s : State) (n : Nat) : Bool := (core s n).testAt + testAge ≤ nowNs s

/-- Device time at which the test of breath `j`'s job is forced; 0 when no core is due (R413, Table 15-9). -/
def testForced (s : State) (j : Nat) : Nat :=
  match (((coresOf s j).filter (testDue s)).map fun n => ((core s n).testAt + testAge).toNat) with
  | [] => 0
  | t :: l => l.foldl min t + (jobOf s j).deferHours * 3600000000000

/-- A register of breath `j`'s block, at offset `r` (Tables 2-5, 15-9, 19-2). -/
def breathRead (s : State) (j r : Nat) (o : Nat) : W64 :=
  if r = 0xD0 then w64 (oldestAcc s j).sent.toNat
  else if r = 0xD8 then w64 (oldestAcc s j).recv.toNat
  else if r = 0xE0 then
    let a := oldestAcc s j
    w64 (a.done + b2n (a.started && a.waiting.isEmpty) * 65536)
  else if 0x100 ≤ r ∧ r < 0x138 ∧ jobState s j = 0 then 0
  else if r = 0x110 then putFld (rd s o) 0 16 (min (recentRestarts s j) 65535)
  else if r = 0x120 then w64 (testForced s j)
  else if 0x138 ≤ r ∧ r < 0x150 ∧ ¬ brthL0 s j then 0
  else rd s o

/-- A register of timer `i`'s block, at offset `r` (Tables 11-4, 11-7; R298, R302). -/
def timerRead (s : State) (i r o : Nat) : W64 :=
  if isHighHalf s i then 0
  else if r = 0x10 then putBit (rd s o) 0 (tmrRunning s i)
  else if r = 0x18 then (countRead s i).1
  else rd s o

/-- A register of router `n`'s block, at offset `r` (Table 8-15). -/
def routerRead (s : State) (n r o : Nat) : W64 :=
  if r = 0x08 then rtrStatusRead s n
  else if r = 0x10 then rtrOcc s n
  else if r = 0x18 then putBit (rd s o) 0 (rdB s o 0 || nodeFenced s n)
  else rd s o

/-- What a read of the hub register at offset `o` shows. -/
def hubPeek (s : State) (o : Nat) : W64 :=
  if o = R.stepping then rd s o + w64 (b2n Config.extended * 256)
  else if o = R.irqSummary then w64 (irqSummary s)
  else if o = R.timeNow then w64 (nowNs s)
  else if o = R.timeSlew then slewNs s
  else if o = R.pwrState then putFld (rd s o) 0 3 (pwrStateCode s)
  else if o = R.pwrL0 then pwrL0Read s
  else if o = R.gpioIn then gpioRead s
  else if o = R.hubDrain then putBit (rd s o) 0 (rdB s o 0 || hubFenced s)
  else if 0x40000 ≤ o ∧ o < 0x48000 then breathRead s ((o - 0x40000) / 0x200) (o % 0x200) o
  else if 0x54000 ≤ o ∧ o < 0x58000 then timerRead s ((o - 0x54000) / 0x80) (o % 0x80) o
  else if 0x100000 ≤ o ∧ o < 0x180000 then routerRead s ((o - 0x100000) / 0x200) (o % 0x200) o
  else rd s o

/-- What a read of hub register `o` changes: `STALE` of a running timer (R302), and the highest epoch value since
read (Table 16-8). -/
def hubReadEffect (s : State) (o : Nat) : State :=
  if 0x54000 ≤ o ∧ o < 0x58000 ∧ o % 0x80 = 0x18 then (countRead s ((o - 0x54000) / 0x80)).2
  else if o = R.pwrMeasured then wrF s o 32 32 0
  else s

/-- The bytes of a register access of `n` bytes at byte offset `o`, given the register's value (R9). -/
def regBytes (v : W64) (o n : Nat) : List Byte :=
  if n = 8 ∧ o % 8 = 0 then leBytes 8 v.toNat
  else if n = 4 ∧ o % 4 = 0 then leBytes 4 (fld v (8 * (o % 8)) 32)
  else List.replicate n 0xFF

/-- An access of `n` bytes at byte offset `o` has a width and alignment that registers take (R9). -/
def regAligned (o n : Nat) : Bool := (n = 8 && o % 8 = 0) || (n = 4 && o % 4 = 0)

/-- A host read of `n` bytes at hub register offset `o` (R9, R290). -/
def hubReadBytes (s : State) (o n : Nat) : List Byte × State :=
  if ¬ regAligned o n then (List.replicate n 0xFF, s)
  else
    let r := o / 8 * 8
    let s' := if r = R.timeNow ∧ n = 4 ∧ o % 8 = 0 then wr s R.timeHiLatch (w64 (nowNs s / 2 ^ 32)) else hubReadEffect s r
    (regBytes (hubPeek s r) o n, s')

/-! ### Writes with effects of their own -/

/-- The doorbell: the two conditions of R353, and `DB_ERROR` where the mailbox is not served yet (R393). -/
def doorbell (s : State) (m v : Nat) : State :=
  let ci := cmdCi s m
  if rdB s (R.mbStatus m) 0 ∧ idxSub v ci ≤ 256 ∧ idxSub (cmdPi s m) ci ≤ idxSub v ci then
    let ok := !fgRunning s 0 && !cplFull s 0
    let s := if m = 0 ∧ v ≠ cmdPi s 0 then
        { s with mbox := { s.mbox with bells := s.mbox.bells ++ [(v, nowNs s, ok)] } } else s
    wr s (R.mbCmdPi m) (w64 v)
  else setB s (R.mbStatus m) 1

/-- The host frees completion entries (R354). -/
def freeCompletions (s : State) (m v : Nat) : State :=
  let s := wr s (R.mbCplCi m) (w64 v)
  if cplFull s m then s else flushHeld m (s.mbox.held.length) (clrB s (R.mbStatus m) 3)

/-- An ownership change by register includes a granule whose flag is fixed, or that does not exist (R350). -/
def rangeFixed (g n : Nat) : Bool :=
  n = 0 || !(granuleFree g) || !(granuleFree (g + n - 1)) || (g < 1016800 && g + n > 1016800)

/-- A write of `OWN_XFER_CTRL` (R349, R350). -/
def ownXferWrite (s : State) (w v : W64) : State :=
  if bitAt v 32 ∧ rdB s R.ownXferStatus 0 then setB s R.ownXferStatus 3
  else
    let s := wr s R.ownXferCtrl w
    if ¬ bitAt v 32 then s
    else
      let g := rdF s R.ownXferFirst 0 20
      let n := fld w 0 21
      if rangeFixed g n then setB s R.ownXferStatus 2
      else setB (setFlags s g n (fld w 24 2)) R.ownXferStatus 0

/-- A write of a TIME_OUT register: one that leaves a width below 10 ns, or not below a period that is not 0, is
discarded (R296). -/
def toutWrite (s : State) (o : Nat) (w : W64) : State :=
  let width := if o = R.toutWidth then fld w 0 32 else rdF s R.toutWidth 0 32
  let period := if o = R.toutPeriod then fld w 0 48 else rdF s R.toutPeriod 0 48
  if width < 10 ∨ (period ≠ 0 ∧ width ≥ period) then s else aimPulse (wr s o w)

/-- Unmasking a vector sends the message that waits (R356). -/
def msixWrite (s : State) (o : Nat) (w : W64) : State :=
  let v := (o - 0x10000) / 16
  let s := wr s o w
  if ¬ rdB s (R.msixData v) 32 ∧ rdB s R.msixPba v then sendMsix (clrB s R.msixPba v) v else s

/-- Release of the pads held since P-STANDBY entry: the balls show the present levels again (R424). -/
def padRelease (s : State) (v : W64) : State := if bitAt v 0 then driveTout (clrB s R.pwrState 3) else s

/-- A register of timer `i`'s block (R298, R300 to R304). `w` is the value that the access code gives. -/
def timerWrite (s : State) (i r o : Nat) (acc : Width) (v w : W64) : State :=
  if isHighHalf s i then s
  else if r = 0x00 then configWrite s i w
  else if r = 0x08 then (if acc = .highHalf then s else freezeWrite s i (bitAt v 0))
  else if r = 0x18 ∨ r = 0x28 then countWrite s i o w
  else if r = 0x20 then cmpWrite s i acc v
  else wr s o w

/-- The job of a source is running: a direct write to a live table takes it out of R70 (R221, KL-06). -/
def outsideSrc (s : State) (src : Nat) : State :=
  match srcBreath s src with
  | some j => if jobState s j = 3 then outsideDet s j else s
  | none => s

/-- The same for the job that a circuit serves. -/
def outsideCircuit (s : State) (e : W64) : State :=
  match circuitBreath s (fld e 32 11) with
  | some j => if bitAt e 0 ∧ jobState s j = 3 then outsideDet s j else s
  | none => s

/-- A direct write of a circuit entry of router `n` (R210, R221). -/
def circWrite (s : State) (n k : Nat) (w : W64) : State :=
  outsideCircuit (outsideCircuit (setCirc s n k w) (circ s n k)) w

/-- A direct write of the peer injection entry `k`: a Mouthpiece channel's, or an Event Port stream's (R221, R363). -/
def injWrite (s : State) (k : Nat) (w : W64) : State :=
  let s := wr s (R.peerInj k) w
  if k < 256 then outsideSrc s (0x400 + k)
  else if streamValid s (k - 256) ∧ jobState s (streamBreath s (k - 256)) = 3 then outsideDet s (streamBreath s (k - 256))
  else s

/-- A write of `EP_CONFIG`: with `FLOW_EN` = 0 no pause holds and no FLOW frame waits (R288). -/
def epWrite (s : State) (w : W64) : State :=
  let s := wr s R.epConfig w
  if bitAt w 3 then s else clrB { s with conv := { s.conv with flow := [] } } R.epStatus 1

/-- A write of the hub register at offset `o`, a multiple of 8: its own effect where it has one, else the bits of its
access code, within the ranges that rules of their own give (R9, R10, R11, R202). -/
def hubStore (s : State) (o : Nat) (acc : Width) (v : W64) : State :=
  let v := v &&& widthMask acc
  let w := writeBits (hubInfo o) (rd s o) v acc
  if acc = .other then s
  else if 0x1000 ≤ o ∧ o < 0x1800 ∧ o % 0x100 = 0 then (if acc = .highHalf then s else doorbell s ((o - 0x1000) / 0x100) (fld v 0 16))
  else if 0x1000 ≤ o ∧ o < 0x1800 ∧ o % 0x100 = 0x18 then
    (if acc = .highHalf then s else freeCompletions s ((o - 0x1000) / 0x100) (fld v 0 16))
  else if o = R.ownXferCtrl then ownXferWrite s w v
  else if R.toutStart ≤ o ∧ o ≤ R.toutWidth then toutWrite s o w
  else if o = R.epConfig then epWrite s w
  else if o = R.toutConfig then driveTout (aimPulse (wr s o w))
  else if o = R.pwrLimit then (if limitOk s (fld w 0 7) then wr s o w else refuseLimit s)
  else if o = R.meshShape then (if 1 ≤ fld w 8 7 ∧ fld w 8 7 ≤ 64 ∧ fld w 0 8 ≤ 64 then wr s o w else s)
  else if o = R.pwrL0Freq then (if (l0Breath s).isSome then s else wr s o w)
  else if o = R.padRelease then padRelease s v
  else if 0x10000 ≤ o ∧ o < 0x10400 ∧ o % 16 = 8 then msixWrite s o w
  else if 0x54000 ≤ o ∧ o < 0x58000 then timerWrite s ((o - 0x54000) / 0x80) (o % 0x80) o acc v w
  else if 0x81000 ≤ o ∧ o < 0x81400 ∧ o % 0x80 = 0x20 then (if bitAt v 0 then dmaStart s ((o - 0x81000) / 0x80) else s)
  else if 0x5400 ≤ o ∧ o < 0x5E00 then
    injWrite s ((o - 0x5400) / 8) w
  else if 0x100000 ≤ o ∧ o < 0x180000 ∧ o % 0x200 = 0 then
    -- A mark threshold out of its range is discarded (R202).
    (if 4 ≤ fld w 0 6 ∧ fld w 0 6 ≤ 32 then wr s o w else s)
  else if o = R.hubDrain then noteHub (wr s o w)
  else if 0x100000 ≤ o ∧ o < 0x180000 ∧ o % 0x200 = 0x18 then noteRouter (wr s o w) ((o - 0x100000) / 0x200)
  else if 0x100000 ≤ o ∧ o < 0x180000 ∧ 0x100 ≤ o % 0x200 ∧ o % 0x200 < 0x140 then
    circWrite s ((o - 0x100000) / 0x200) (o % 0x200 / 8 - 32) w
  else wr s o w

/-- A write-only bit of register `o` takes effect in state `s` (R391). -/
def woTaken (s : State) (o : Nat) (v : W64) : Bool :=
  (o = R.padRelease && bitAt v 0 && padHold s)
    || (o = R.ownXferCtrl && bitAt v 32 && !rdB s R.ownXferStatus 0)
    || (0x81000 ≤ o && o < 0x81400 && o % 0x80 = 0x20 && bitAt v 0 && dmaState s ((o - 0x81000) / 0x80) ≠ 1)

/-- A write of BAR0 is journalled when it changes an RW or WO field, but for the mailbox index registers (R391). -/
def journalled (s t : State) (o : Nat) (v : W64) : Bool :=
  o < 0x100000 && !(0x1000 ≤ o && o < 0x1800)
    && (((rd s o ^^^ rd t o) &&& (hubInfo o).rw) ≠ 0 || woTaken s o v)

/-- A write of the hub register at offset `o` from PCIe, or from the management port: its effect and its journal entry
(R391, Table 14-8). -/
def hubRegWrite (s : State) (o : Nat) (acc : Width) (v : W64) (mgmt : Bool) : State :=
  let t := hubStore s o acc v
  let v := v &&& widthMask acc
  if acc ≠ .other ∧ journalled s t o v then
    let ch : Change := if woTaken s o v then ⟨3, o, crcOf 8 0, crcOf 8 v.toNat⟩
      else ⟨3, o, crcOf 8 (rd s o).toNat, crcOf 8 (rd t o).toNat⟩
    journal t 0xFF00 (if mgmt then 1 else 2) (if mgmt then 7 else 0) 0 0 ch
  else t

/-! ### The rows that name a register -/

def execDoorbell (m : Fin 8) (value : W64) (s : State) :=
  actServed s fun s => hubRegWrite s (R.mbCmdPi m.val) .whole value false

def execMbCplCiWrite (m : Fin 8) (value : W64) (s : State) :=
  actServed s fun s => hubRegWrite s (R.mbCplCi m.val) .whole value false

def execTmrCompareWrite (i : TimerId) (acc : Width) (value : W64) (s : State) :=
  act s fun s => hubRegWrite s (R.tmrCompare i.val) acc value false

def execTmrFreezeWrite (i : TimerId) (freeze : Bool) (s : State) :=
  act s fun s => hubRegWrite s (R.tmrCtrl i.val) .whole (w64 (b2n freeze)) false

def execDmaGo (e : DmaId) (value : W64) (s : State) := act s fun s => hubRegWrite s (R.dmaGo e.val) .whole value false

/-- A write of `OWN_XFER_CTRL`; one with `GO` = 1 starts the change (R349). -/
def execOwnXferStart (value : W64) (s : State) := act s fun s => hubRegWrite s R.ownXferCtrl .whole value false

/-- The rewrite of the flags ends (R349). -/
def execOwnXferDone (s : State) :=
  act s fun s => if rdB s R.ownXferStatus 0 then setB (clrB s R.ownXferStatus 0) R.ownXferStatus 1 else s

def execPadRelease (value : W64) (s : State) := act s fun s => hubRegWrite s R.padRelease .whole value false

/-- A core cannot be accessed through port B: a debug halt makes the access wait (R26). -/
def portWaits (s : State) (n : Nat) : Bool := (core s n).halted

/-- A host access waits for the end of core `n`'s halt (R26). -/
def holdAccess (s : State) (n : Nat) (x : HeldAccess) : State := upCore s n fun c => { c with hostWaits := c.hostWaits ++ [x] }

/-- Core `n` lies in the rectangle of a loaded job. -/
def inJob (s : State) (n : Nat) : Bool := (List.range 64).any fun j => (coresOf s j).contains n

/-- An access wakes a NAP or OFF island (R426). An OFF island comes up with undefined contents, but for a core of a
loaded job, whose memory a reset keeps (Table 15-8). The island is then IDLE. -/
def wakeIsland (s : State) (n : Nat) : State :=
  if island s n < 2 then s
  else
    let s := if island s n = 3 ∧ ¬ inJob s n then (let r := freeBytes 0x78000 s; stN r.2 (coreBase n) r.1) else s
    setIsland s n 1

/-- A register write by the host (R9): a hub register at a multiple of 8, or a core's through port B, which waits for a
halted core and wakes an island that sleeps (R26, R104, R391, R426, R468). -/
def execRegisterWrite (a : RegAddr) (acc : Width) (value : W64) (s : State) :=
  act s fun s => match a with
    | .hub o => if o % 8 = 0 ∧ o < 0x1000000 then hubRegWrite s o acc value false else s
    | .core n r =>
      if r % 8 ≠ 0 ∨ r ≥ 0x8000 ∨ acc = .other then s
      else if portWaits s n.val then holdAccess s n.val (.reg r acc (value &&& widthMask acc))
      else coreRegWrite (noteCtrlAccess (wakeIsland s n.val) n.val) n.val r acc (value &&& widthMask acc) true

end Sys2Proof.Machine
end

