-- ==== Sys2Proof/Machine/HostMem.lean ====
section
/-! DEFINITION. The host's window, host memory, the management port, and the scrubbing of memories (R26, R31, R32, R323
to R331, R339, R343, R347, R348, R378). -/
namespace Sys2Proof.Machine

/-! ### Inbound slots (R343) -/

/-- The slot of a BAR2 offset. -/
def slotOf (s : State) (o : Nat) : W64 := rd s (R.winSlot (o / 0x10000000))
/-- A slot maps: valid, and not of a reserved mode. -/
def slotMaps (w : W64) : Bool := bitAt w 48 && fld w 49 2 ≤ 1
def slotVerified (w : W64) : Bool := slotMaps w && fld w 49 2 = 1
/-- Device address of a BAR2 offset. -/
def slotAddress (w : W64) (o : Nat) : Nat := fld w 16 32 * 65536 + o % 0x10000000
/-- First offset of a verified slot's tag area (R323). -/
def tagArea : Nat := 0xF800000

/-- Log a host access that the flag of its granule refuses, once for the access: at its first byte in the granule, which
`first` or the address tells (R348, Table 13-6). -/
def ownHostViolation (s : State) (first : Bool) (a o flag : Nat) (write : Bool) : State :=
  if ¬ first ∧ a % 65536 ≠ 0 then s else
  let s := bump s R.ownViolation 1
  let s := wr s R.ownViolAddr (w64 a)
  let s := wr s R.ownViolInfo (w64 (b2n write + flag * 2 + o / 0x10000000 * 16))
  setB (wr s R.ownViolTime (w64 (nowNs s))) R.ownAlarm 0

/-- Flag of the granule of an address; FREE where none applies. -/
def flagAt (s : State) (a : Nat) : Nat := match granuleOf s a with
  | some g => flagOf s g
  | none => 0

/-- Last closed step of breath `j`. -/
def lastClosed (s : State) (j : Nat) : Nat := (brth s j).closed.toNat

/-- `TARGET` of a journal entry about a job (Table 14-7). -/
def jobTarget (s : State) (j : Nat) : Nat := jobId s j + lastClosed s j * 256

/-- The first window write to core memory of a running job since its start takes the job out of R70, and is journalled
(R104, Table 14-8). The entry's values are those of the bytes written (log entry 28). -/
def noteWindowWrite (s : State) (n : Nat) (old new : List Byte) : State :=
  let j := coreBreath s n
  if assigned s n ∧ jobState s j = 3 ∧ ¬ (jobOf s j).windowNoted then
    let s := outsideDet s j
    let s := setJob s j { jobOf s j with windowNoted := true }
    journal s 0xFF02 2 0 0 0 ⟨1, jobTarget s j, crc32c old, crc32c new⟩
  else s

/-! ### Writes through the window -/

/-- The width of an access of `n` bytes at byte offset `o`, with the value put in its place (R9). -/
def regAccess (o : Nat) (data : List Byte) : Width × W64 :=
  if data.length = 8 ∧ o % 8 = 0 then (.whole, w64 (leNat data))
  else if data.length = 4 ∧ o % 8 = 0 then (.lowHalf, w64 (leNat data))
  else if data.length = 4 ∧ o % 8 = 4 then (.highHalf, w64 (leNat data * 2 ^ 32))
  else (.other, 0)

/-- A host write through port B of core `n`'s memory or registers, at offset `off` (R29, R31, R32, R104, R163). `raced` says that
the Plasticity Engine writes each word that it can in the same cycle: the write of such a word is lost and counted. -/
def coreWindow (s : State) (n off : Nat) (data : List Byte) (single raced : Bool) : State :=
  let s := noteCtrlAccess (wakeIsland s n) n
  let a := coreBase n + off
  if off < 0x78000 then
    let lost := if raced then (wordsFrom a data.length).filter fun w => plasWrites s n (w - coreBase n) else []
    let t := keepWords s lost (stN (noteWindowWrite s n (ldN s a data.length) data) a data)
    cbump t n R.plasWriteLost lost.length
  else
    let r := regAccess off data
    if single ∧ r.1 ≠ .other then coreRegWrite s n (off / 8 * 8 - 0x78000) r.1 r.2 true else s

/-- A write of bytes that lie in one 256-byte block, through a normal slot, to device address `a`. `single` tells that
they are the whole access, `first` that they are its first (R31, R32, R343, R347). One for a halted core waits until the halt ends (R26). -/
def windowPiece (s : State) (w : W64) (o a : Nat) (data : List Byte) (single first raced : Bool) : State :=
  let f := flagAt s a
  match regionOf s a with
  | .ddr | .hubTagged =>
    if f ≥ 2 then ownHostViolation s first a o f true else stTagged (fld w 52 8) (bitAt w 51) 2 s a data
  | .hubTags | .hubSys => if f ≥ 2 then ownHostViolation s first a o f true else stN s a data
  | .hubDual => if f ≥ 2 then ownHostViolation s first a o f true else stDual s a data raced
  | .coreMem n off =>
    if portWaits s n then holdAccess s n (.write off data single raced) else coreWindow s n off data single raced
  | .hubReg off =>
    let r := regAccess off data
    if single then hubRegWrite s (off / 8 * 8) r.1 r.2 false else s
  | .host | .unmapped => s

/-- A block that arrives through a verified slot is checked against the tag the host has stored (R323). -/
def verifiedBlock (s : State) (a : Nat) (data : List Byte) : State :=
  let tg := tagAt s a
  let r := checkBlock s data tg (a / 256) none none
  -- The block has been written (R316).
  let tg := clrBit tg 59
  if r.1 = .good then setTag (stN r.2 a data) a (setBit tg 58)
  else
    let s := setTag (stN r.2 a data) a (setBit tg 56)
    let s := bump (bump s R.poisonSet 1) R.verifyFail 1
    errLog (setB s R.memAlarm 3) a 6 none

/-- Whole blocks through a verified slot, in order: one that its granule's flag refuses is dropped and logged. -/
def verifiedBlocks (o : Nat) : Nat → Bool → State → Nat → List Byte → State
  | 0, _, s, _, _ => s
  | k + 1, first, s, a, l =>
    let f := flagAt s a
    let s := if f ≥ 2 then ownHostViolation s first a o f true else verifiedBlock s a (l.take 256)
    verifiedBlocks o k false s (a + 256) (l.drop 256)

/-- Every block of a range lies in tagged memory. -/
def allTagged (s : State) (a : Nat) : Nat → Bool
  | 0 => true
  | k + 1 => isTagged s a && allTagged s (a + 256) k

/-- Write bytes of tags through the tag area of a verified slot, from area offset `k`; [63:60] stay 0 (R316, R323). -/
def tagBytes (base : Nat) : List Byte → State → Nat → State
  | [], s, _ => s
  | b :: r, s, k =>
    let a := base + k / 8 * 256
    let s := if k / 8 < 1015808 ∧ isTagged s a then
        let t := putFld (putFld (tagAt s a) (8 * (k % 8)) 8 b.toNat) 60 4 0
        setTag s a (clrBit (clrBit t 56) 58) else s
    tagBytes base r s (k + 1)

/-- A host write through a verified slot (R323, R343). -/
def verifiedAccess (s : State) (w : W64) (o : Nat) (data : List Byte) : State :=
  let f := o % 0x10000000
  let base := fld w 16 32 * 65536
  if f ≥ tagArea then tagBytes base data s (f - tagArea)
  else
    let n := data.length / 256
    if f % 256 ≠ 0 ∨ data.length % 256 ≠ 0 ∨ f + data.length > tagArea ∨ ¬ allTagged s (base + f) n then
      bump s R.verifyFail 1
    else verifiedBlocks o n true s (base + f) data

/-- A host write from BAR2 offset `o`, block by block (R343, R344). -/
def windowWrite (single raced : Bool) : Nat → Bool → State → Nat → List Byte → State
  | 0, _, s, _, _ => s
  | k + 1, first, s, o, l =>
    if l.isEmpty then s
    else
      let n := min l.length (256 - o % 256)
      let w := slotOf s o
      let s := if slotMaps w then windowPiece s w o (slotAddress w o) (l.take n) single first raced else s
      windowWrite single raced k false s (o + n) (l.drop n)

/-- A host write through BAR2: of a verified slot by R323, else by R343. -/
def hostWrite (s : State) (o : Nat) (data : List Byte) (raced : Bool) : State :=
  if slotVerified (slotOf s o) then verifiedAccess s (slotOf s o) o data
  else windowWrite (decide (data.length ≤ 256 - o % 256)) raced (data.length / 256 + 2) true s o data

def execHostWindowWrite (o : BitVec 32) (data : List Byte) (raced : Bool) (s : State) :=
  actServed s fun s => hostWrite s o.toNat data raced

/-- A host write through a verified slot (R323). -/
def execVerifiedWrite (o : BitVec 32) (data : List Byte) (s : State) :=
  act s fun s =>
    if slotVerified (slotOf s o.toNat) then verifiedAccess s (slotOf s o.toNat) o.toNat data else s

/-! ### Reads through the window -/

/-- Bytes of a read, whether it touched a bad block (R327), and whether it touched a bad word of bank 62 (R375). -/
structure HostBytes where
  bytes : List Byte
  bad : Bool := false
  ringBad : Bool := false
  deriving DecidableEq, Repr

/-- A host read, or part of one, with the state after it. -/
abbrev Piece := HostBytes × State

/-- All bits ones (R343). -/
def onesPiece (n : Nat) (s : State) : Piece := ({ bytes := List.replicate n 0xFF }, s)

/-- `n` bytes at `a`, as they are once the read has met its errors. -/
def metPiece (s : State) (errs : List MemErr) (a n : Nat) : Piece :=
  let s := meetErrs s errs a n
  ({ bytes := ldN s a n }, s)

/-- A read of `n` bytes that lie in one 256-byte block, at device address `a` (R32, R314, R327, R347, R375). -/
def readPiece (s : State) (o a n : Nat) (single first : Bool) (errs : List MemErr) : Piece :=
  let f := flagAt s a
  match regionOf s a with
  | .ddr | .hubTagged =>
    if f = 2 then onesPiece n (ownHostViolation s first a o f false)
    else
      let r := checkAt (meetErrs s errs a n) a none
      ({ bytes := ldN r.2 a n, bad := r.1 = .poisoned }, r.2)
  | .hubTags | .hubSys =>
    if f = 2 then onesPiece n (ownHostViolation s first a o f false) else metPiece s errs a n
  | .hubDual =>
    if f = 2 then onesPiece n (ownHostViolation s first a o f false)
    else
      let r := metPiece s errs a n
      ({ r.1 with ringBad := errs.any fun e => e.bad && errMet s a n e }, r.2)
  | .coreMem c off =>
    let s := noteCtrlAccess (wakeIsland s c) c
    if off < 0x78000 then metPiece s errs a n
    else if single ∧ regAligned off n then ({ bytes := regBytes (coreRegRead s c (off / 8 * 8 - 0x78000)) off n }, s)
    else onesPiece n s
  | .hubReg off => if single then (let r := hubReadBytes s off n; ({ bytes := r.1 }, r.2)) else onesPiece n s
  | .host | .unmapped => onesPiece n s

/-- `n` bytes of the tag area of a verified slot (R323). -/
def readTagBytes (s : State) (base k n : Nat) : List Byte :=
  (List.range n).map fun i =>
    let a := base + (k + i) / 8 * 256
    if (k + i) / 8 < 1015808 ∧ isTagged s a then BitVec.ofNat 8 (fld (tagAt s a) (8 * ((k + i) % 8)) 8) else 0xFF

/-- A host read from BAR2 offset `o`, block by block. -/
def windowRead (single : Bool) (errs : List MemErr) : Nat → Bool → State → Nat → Nat → Piece
  | 0, _, s, _, _ => onesPiece 0 s
  | k + 1, first, s, o, n =>
    if n = 0 then onesPiece 0 s
    else
      let m := min n (256 - o % 256)
      let w := slotOf s o
      let r : Piece :=
        if ¬ slotMaps w then onesPiece m s
        else if slotVerified w ∧ o % 0x10000000 ≥ tagArea then
          ({ bytes := readTagBytes s (fld w 16 32 * 65536) (o % 0x10000000 - tagArea) m }, s)
        else readPiece s o (slotAddress w o) m single first errs
      let x := windowRead single errs k false r.2 (o + m) (n - m)
      (⟨r.1.bytes ++ x.1.bytes, r.1.bad || x.1.bad, r.1.ringBad || x.1.ringBad⟩, x.2)

/-- The first halted core that a host read reaches (R26). -/
def readWaits (s : State) : Nat → Nat → Nat → Option Nat
  | 0, _, _ => none
  | k + 1, o, n =>
    if n = 0 then none
    else
      let m := min n (256 - o % 256)
      let w := slotOf s o
      let here := if slotMaps w && !(slotVerified w && o % 0x10000000 ≥ tagArea) then
          (match regionOf s (slotAddress w o) with
           | .coreMem c _ => if portWaits s c then some c else none
           | _ => none) else none
      here.or (readWaits s k (o + m) (n - m))

/-- A host read through BAR2 (R327, R375): its bytes, EP on a read that touched a bad block or a bad word of bank 62. One that reaches a halted core waits for
the halt to end (R26, R340). -/
def hostRead (s : State) (o n : Nat) (errs : List MemErr) : State :=
  match readWaits s (n / 256 + 2) o n with
  | some c => holdAccess s c (.read o n)
  | none =>
    let r := windowRead (decide (n ≤ 256 - o % 256)) errs (n / 256 + 2) true s o n
    answerRead (if r.1.bad then bump r.2 R.hostPoisonRead 1 else r.2) r.1.bytes (r.1.bad || r.1.ringBad)

def execHostWindowRead (o : BitVec 32) (n : Nat) (errs : List MemErr) (s : State) :=
  actServed s fun s => hostRead s o.toNat n errs

/-- An access that waited for core `n`'s halt is carried out (R26). -/
def takeHeld (n : Nat) (s : State) : HeldAccess → State
  | .write off data single raced => coreWindow s n off data single raced
  | .reg r acc v => coreRegWrite (noteCtrlAccess (wakeIsland s n) n) n r acc v true
  | .read o k => hostRead s o k []

/-- The halt of core `n` has ended: what waited for it is carried out in order (R26). -/
def serveHeld (s : State) (n : Nat) : State :=
  (core s n).hostWaits.foldl (takeHeld n) (upCore s n fun c => { c with hostWaits := [] })

/-- A device read of host memory ends: 256 bytes, or a failure that delivers them as a poisoned block (R339). -/
def execHostMemoryCompletion (a : BitVec 64) (data : List Byte) (ok : Bool) (s : State) :=
  act s fun s =>
    if data.length ≠ 256 then s
    else { s with hostRd := ⟨a.toNat, data, !ok⟩ :: s.hostRd.filter fun b => b.addr ≠ a.toNat }

/-! ### The management port (R377 to R379, Table 14-5) -/

/-- The port's static address (R377). -/
def mgmtStatic : BitVec 7 := 0x5A

/-- The port answers a transfer: in I3C at its dynamic address, or at the static one until it has one; a legacy transfer at
0x5A (R377; log entry 153). -/
def mgmtAnswers (s : State) : MgmtXfer → Bool
  | .i3c a => a = s.mbox.mgmtDyn.getD mgmtStatic
  | .smbus a => a = mgmtStatic
  | .setdasa _ _ => false

/-- The bus mode follows what the controller drives (R377, R379). -/
def mgmtMode (s : State) (x : MgmtXfer) : State :=
  let i3c := match x with
    | .smbus _ => false
    | _ => true
  { s with mbox := { s.mbox with mgmtI3c := i3c } }

/-- SETDASA gives the port a dynamic address (R377). -/
def setDasa (s : State) (static dyn : BitVec 7) : State :=
  if static = mgmtStatic then mgmtMode { s with mbox := { s.mbox with mgmtDyn := some dyn } } (.setdasa static dyn) else s

/-- A completion waits in mailbox 7, and the port can signal it: not from the entry into P-STANDBY to the end of the exit
(R379, R455). -/
def mgmtPending (s : State) : Bool := rdB s (R.mbStatus 7) 2 && live s

/-- The port holds ALERT# low: in SMBus mode (R379). -/
def alertLow (s : State) : Bool := mgmtPending s && !s.mbox.mgmtI3c

/-- The mandatory data byte of the in-band interrupt that the port raises in I3C mode (R379). -/
def inBand (s : State) : Option Byte := if mgmtPending s && s.mbox.mgmtI3c then some 0x07 else none


/-- The hub register that pointer `p` names, of mailbox 7 or of the identity registers. -/
def mgmtReg (p : Nat) : Option Nat :=
  if p < 0x40 then some (0x1700 + p / 8 * 8) else if 0x9000 ≤ p ∧ p < 0x9070 then some ((p - 0x9000) / 8 * 8) else none

/-- Bytes of a write transfer from pointer `p`: whole aligned registers of mailbox 7, and bytes of its command ring. -/
def mgmtBytes : Nat → State → Nat → List Byte → State
  | 0, s, _, _ => s
  | k + 1, s, p, l =>
    match l with
    | [] => { s with mbox := { s.mbox with mgmtPtr := p } }
    | b :: r =>
      if p < 0x40 ∧ p % 8 = 0 ∧ l.length ≥ 8 then
        mgmtBytes k (hubRegWrite s (0x1700 + p) .whole (w64 (leNat (l.take 8))) true) (p + 8) (l.drop 8)
      else
        let s := if 0x1000 ≤ p ∧ p < 0x5000 then stB s (ringBase 7 false + (p - 0x1000)) b else s
        mgmtBytes k s ((p + 1) % 65536) r

/-- A write transfer on the management bus (R377, R378). -/
def mgmtWrite (s : State) (x : MgmtXfer) (ptr : BitVec 16) (data : List Byte) : State :=
  match x with
  | .setdasa a d => setDasa s a d
  | _ => if mgmtAnswers s x then mgmtBytes (data.length + 1) (mgmtMode s x) ptr.toNat data else s

def execMgmtPortWrite (x : MgmtXfer) (ptr : BitVec 16) (data : List Byte) (s : State) :=
  actServed s fun s => mgmtWrite s x ptr data

/-- `n` bytes of a read transfer: a register's bytes come from the value latched at its first byte. -/
def mgmtReadBytes : Nat → State → List Byte → State
  | 0, s, acc => { s with mbox := { s.mbox with mgmtRead := acc } }
  | k + 1, s, acc =>
    let p := s.mbox.mgmtPtr
    let s := match mgmtReg p with
      | some o => if p % 8 = 0 then { s with mbox := { s.mbox with mgmtLatch := hubPeek s o } } else s
      | none => s
    let b : Byte :=
      if (mgmtReg p).isSome then BitVec.ofNat 8 (fld s.mbox.mgmtLatch (8 * (p % 8)) 8)
      else if 0x1000 ≤ p ∧ p < 0x5000 then ldB s (ringBase 7 false + (p - 0x1000))
      else if 0x5000 ≤ p ∧ p < 0x9000 then ldB s (ringBase 7 true + (p - 0x5000)) else 0
    mgmtReadBytes k { s with mbox := { s.mbox with mgmtPtr := (p + 1) % 65536 } } (acc ++ [b])

def execMgmtPortRead (x : MgmtXfer) (n : Nat) (s : State) :=
  actServed s fun s => if mgmtAnswers s x then mgmtReadBytes n (mgmtMode s x) [] else s

/-! ### Scrubbing (R328 to R331) -/

/-- The patrol period in ns (R330). -/
def patrolPeriod (s : State) : Nat := rdF s R.patrolPeriod 0 8 * 3600000000000

/-- Patrol's next read, which does not tell the beat of an error (log entry 83): the address moves on, and a pass ends at the end of the data region (R330). -/
def patrolRead (s : State) (ecc : Ecc) (inTag : Bool) : State :=
  let ended := nowNs s ≥ s.power.patrolFrom + patrolPeriod s
  let dataEnd := (rd s R.ddrDataEnd).toNat
  if dataEnd = 0 ∨ (s.power.patrolDone ∧ ¬ ended) then s
  else
    let s := if s.power.patrolDone then
        { s with power := { s.power with patrolFrom := s.power.patrolFrom + patrolPeriod s, patrolDone := false } } else s
    let a := rdF s R.patrolStatus 0 48
    let s := match ecc with
      | .clean => s
      | .corrected => ddrCorrected s a inTag
      | .uncorrectable => let v := freshValue s; ddrLost v.2 a (a + v.1.toNat % 64 * 4) inTag 1
    if a + 256 ≥ dataEnd then
      let s := { s with power := { s.power with patrolDone := true } }
      wr s R.patrolStatus (w64 ((rdF s R.patrolStatus 48 16 + 1) % 65536 * 2 ^ 48))
    else wrF s R.patrolStatus 0 48 (a + 256)

def execPatrolScrubRead (ecc : Ecc) (inTag : Bool) (s : State) := act s fun s => patrolRead s ecc inTag

/-- The period ends before its pass is complete (R330). -/
def execPatrolLate (s : State) :=
  act s fun s =>
    if ¬ s.power.patrolDone ∧ rd s R.ddrDataEnd ≠ 0 ∧ nowNs s ≥ s.power.patrolFrom + patrolPeriod s then
      setB { s with power := { s.power with patrolFrom := s.power.patrolFrom + patrolPeriod s } } R.memAlarm 4
    else s

/-- SRAM scrub's next read, of the word at device address `a` (R331). What a correction writes back is what the word
holds, so a write-back discarded because another write raced it leaves the same word. -/
def sramScrub (s : State) (a : Nat) (ecc : Ecc) : State :=
  if a % 8 ≠ 0 then s
  else match regionOf s a with
    | .coreMem n off =>
      if off ≥ 0x78000 ∨ (core s n).halted ∨ (core s n).testing then s
      else
        let s := wakeIsland s n
        (match ecc with
         | .clean => s
         | .corrected => bump s (R.sramCe (dieOf n)) 1
         | .uncorrectable => coreWordLost s n off 3 (startStepOf s n))
    | .hubTagged | .hubTags | .hubSys | .hubDual =>
      (match ecc with
       | .clean => s
       | .corrected => bump s R.hubSramCe 1
       | .uncorrectable => hubWordLost s a)
    | _ => s

def execSramScrubRead (a : Nat) (ecc : Ecc) (_raced : Bool) (s : State) := act s fun s => sramScrub s a ecc

/-- A refresh, calibration or tracking of a DDR5 channel pauses the channel and changes nothing (R433). -/
def execDdrCalibration (_ch : Fin 4) (_zq : Bool) (s : State) := act s fun s => s

end Sys2Proof.Machine
end

