-- ==== Sys2Proof/Machine/Mbozor.lean ====
section
/-! DEFINITION. Mbozor commands on the package, its queues, time, ownership, memory, telemetry and journal (R380,
Table 14-4). -/
namespace Sys2Proof.Machine

/-! ### Shared parts -/

/-- Bits [hi:0] of a parameter word. -/
def low (hi : Nat) : Nat := 2 ^ (hi + 1) - 1
/-- The 48-bit mask of a device address. -/
def adr : Nat := 2 ^ 48 - 1

/-- BAD_PARAM, BAD_STATE, NOT_FOUND, NO_RESOURCE, UNMAPPED and INTEGRITY (Table 14-3). -/
def Ans.badParam (s : State) (word : Nat) : Ans := .fail s 0x11 word
def Ans.badState (s : State) (code : Nat) : Ans := .fail s 0x12 code
def Ans.notFound (s : State) : Ans := .fail s 0x13 0
def Ans.noResource (s : State) : Ans := .fail s 0x15 0
def Ans.unmapped (s : State) (a : Nat) : Ans := .fail s 0x1A (a % 2 ^ 32)
def Ans.integrity (s : State) (a : Nat) : Ans := .fail s 0x19 (a % 2 ^ 32)

/-- A command on a job names it by ID; its meaning works on the job's breath. -/
def onJob (s : State) (id : Nat) (k : Nat → Ans) : Ans :=
  match breathOf s id with
  | some j => k j
  | none => .notFound s

/-- Lock of core `n`: its job's, or its own (R371). -/
def coreLock (s : State) (n : Nat) : Lock := if assigned s n then .job (coreJob s n) else .core n

/-- Job and breath to which converter channel or stream `c` of a kind is bound (0 Mouthpiece, 1 Bell, 2 stream). -/
def convJob (s : State) (kind c : Nat) : Nat :=
  if kind = 0 then rdF s (R.mpConfig c) 16 8 else if kind = 1 then rdF s (R.bellConfig c) 16 8
  else rdF s (R.epStreamA c) 10 8

/-- Lock of a converter channel: that of the job it is bound to, or its own (R371). -/
def convLock (s : State) (kind c : Nat) : Lock :=
  if (breathOf s (convJob s kind c)).isSome then .job (convJob s kind c) else .conv kind c

/-- The command waits for the debug halt of core `n` to end before it reads or writes there (R26, KL-01). -/
def unlessHalted (s : State) (src : Src) (core : Cmd → Nat) (eff : State → State) : State :=
  match cmdAt s src with
  | some c => if portWaits s (core c) then s else eff s
  | none => s

/-- The first of the `n` bytes' blocks at `a` may not be named, or the address is no multiple of 256 (R369). -/
def checkRange (s : State) (a n word : Nat) (k : Ans) : Ans :=
  if a % 256 ≠ 0 then .badParam s word
  else match firstUnmapped s a (cdiv n 256) with
    | some b => .unmapped s b
    | none => k

/-- A result of bytes goes to a destination: too small a one completes with BAD_PARAM (R449, R451); else whole blocks are
written (R369). -/
def deliver (s : State) (a word avail availWord : Nat) (l : List Byte) (k : State → Ans) : Ans :=
  if avail < cdiv l.length 256 * 256 then .badParam s availWord
  else checkRange s a l.length word (k (writeBlocks (cdiv l.length 256) s a l))

/-- Read `n` source bytes at `a`, with the job check `job` (R369). -/
def withSource (s : State) (job : Option Nat) (a n word : Nat) (k : List Byte → State → Ans) : Ans :=
  checkRange s a n word (match readSource job (cdiv n 256) s a with
    | (.data l, s) => k (l.take n) s
    | (.unmapped b, s) => .unmapped s b
    | (.integrity b, s) => .integrity s b)

/-- A change of one value of `n` bytes (R391). -/
def valueChange (kind target n old new : Nat) : Option Change := some ⟨kind, target, crcOf n old, crcOf n new⟩

/-! ### Package (0x00) -/

/-- The answer of IDENTIFY; in recovery `LEVEL` is 0 (R445). -/
def identifyBody (_ : Cmd) (s : State) : Ans :=
  let level := if s.chip.phase = .recovery then 0 else 4
  .reads s [w64 (level + 4 * 256 + s.boot.version % 2 ^ 32 * 2 ^ 32), hubPeek s R.stepping,
    w64 (s.boot.slot % 2 + s.boot.svn % 2 ^ 32 * 2 ^ 32)]

def execIdentify (src : Src) (s : State) := actServed s fun s => serve 0x0001 [] (fun _ => []) identifyBody src s

def execNop (src : Src) (s : State) := act s fun s => serve 0x0002 [] (fun _ => []) (fun _ s => .reads s []) src s

/-- Jobs loaded and cores marked bad. -/
def jobsLoaded (s : State) : Nat := ((List.range 64).filter fun j => 2 ≤ jobState s j).length
def coresBad (s : State) : Nat := ((List.range 1024).filter fun n => (core s n).bad).length

def deviceStatusBody (_ : Cmd) (s : State) : Ans :=
  .reads s [w64 (pwrStateCode s + rdF s R.ddrConfig 0 1 * 256 + jobsLoaded s * 2 ^ 16 + coresBad s * 2 ^ 32),
    w64 (nowNs s)]

def execDeviceStatus (src : Src) (s : State) := act s fun s => serve 0x0003 [] (fun _ => []) deviceStatusBody src s

/-- POWER_LIMIT (R430). -/
def powerLimitBody (c : Cmd) (s : State) : Ans :=
  let old := rdF s R.pwrLimit 0 7
  let w := c.f 1 0 7
  if limitOk s w then .ends (wrF s R.pwrLimit 0 7 w) 0 0 [w64 old] (valueChange 10 0 1 old w)
  else .badParam (refuseLimit s) 1

def execPowerLimit (src : Src) (s : State) := act s fun s => serve 0x0004 [low 6] (fun _ => []) powerLimitBody src s

/-- POWER_STATE (R420). -/
def powerStateBody (c : Cmd) (s : State) : Ans :=
  let v := c.f 1 0 2
  let now := pwrStateCode s
  if v = 3 then .badParam s 1
  else if v < 2 then (if now = v then .reads s [] else .badState s now)
  else if now ≠ 1 || (List.range 8).any (fun e => dmaState s e = 1) || padHold s then .badState s now
  else .ends { s with chip := { s.chip with standbyAsked := true } } 0 0 [] (valueChange 10 0 1 1 2)

def execPowerState (src : Src) (s : State) := act s fun s => serve 0x0005 [low 1] (fun _ => []) powerStateBody src s

/-- The link that LINK_RETRAIN names. -/
def retrainLink (c : Cmd) : Option LinkId :=
  let k := c.f 1 0 2
  let n := c.f 1 2 10
  let l : LinkId :=
    if k = 0 then .mesh (.router (Fin.ofNat 1024 n)) (match c.f 1 12 3 with
      | 0 => .north
      | 1 => .east
      | 2 => .south
      | 3 => .west
      | _ => .loc)
    else if k = 1 then .mesh (.hub (Fin.ofNat 32 n)) .east
    else .peer (Fin.ofNat 4 n)
  if k = 3 || (k = 0 && c.f 1 12 3 > 3) || (k = 1 && n ≥ 32) || (k = 2 && n ≥ 4) || (k ≠ 0 && c.f 1 12 3 ≠ 0)
    || !linkExists l then none else some l

/-- LINK_RETRAIN: the training succeeds or fails for good; a link already DOWN stays so on failure (R220, R360). -/
def linkRetrainBody (up : Bool) (c : Cmd) (s : State) : Ans :=
  match retrainLink c with
  | none => .badParam s 1
  | some l =>
    let old := stateOf s l
    let t := retrain (setStateOf s l 0) l
    if up then
      let t := retrainEnd t l true
      .ends t 0 0 [w64 (stateOf t l)] (valueChange 10 0 1 old (stateOf t l))
    else
      let t := if old = 3 then setStateOf t l 3 else goesDown t l
      .ends t 0x1B 0 [w64 (stateOf t l)] none

def execLinkRetrain (src : Src) (up : Bool) (s : State) :=
  act s fun s => serve 0x0006 [low 14] (fun _ => []) (linkRetrainBody up) src s

/-! ### Jobs, read and set (0x01) -/

def jobQueryBody (c : Cmd) (s : State) : Ans :=
  onJob s (c.f 1 0 8) fun j =>
    .reads s [w64 (jobState s j + j * 256 + b2n (brthL0 s j) * 2 ^ 14), rd s (R.stepCount j),
      w64 (min (recentRestarts s j) 65535),
      w64 (rdF s (R.jobState j) 16 8 + rdF s (R.jobState j) 32 32 * 2 ^ 32)]

def execJobQuery (src : Src) (s : State) := act s fun s => serve 0x0108 [low 7] (fun _ => []) jobQueryBody src s

/-- JOB_POLICY (R403, R405, R413). -/
def jobPolicyBody (c : Cmd) (s : State) : Ans :=
  if c.f 3 0 16 > 72 then .badParam s 3
  else onJob s (c.f 1 0 8) fun j =>
    .ends (setJob s j { jobOf s j with limit := c.f 2 0 16, interval := c.f 2 16 16, deferHours := c.f 3 0 16 }) 0 0 []
      (c.digestChange 1 (jobTarget s j))

/-- The lock of the job that C1 names. -/
def c1Job (c : Cmd) : List Lock := [.job (c.f 1 0 8)]

def execJobPolicy (src : Src) (s : State) :=
  act s fun s => serve 0x0109 [low 7, low 31, low 15] c1Job jobPolicyBody src s

/-- Give the cores of breath `j`'s job, and the breath, a value of the L0 bit (R399). -/
def setL0 (s : State) (j : Nat) (v : Bool) : State :=
  (coresOf s j).foldl (fun s n => cwB s n R.coreConfig 4 v) (wr s (R.brthConfig j) (putBit (rd s (R.brthConfig j)) 3 v))

/-- JOB_SET_L0 (R399, R430). -/
def jobSetL0Body (c : Cmd) (s : State) : Ans :=
  onJob s (c.f 1 0 8) fun j =>
    let v := bitAt (c.c 1) 8
    if jobState s j ≠ 2 ∧ jobState s j ≠ 6 then .badState s (jobState s j)
    else if v ∧ ((l0Breath s ≠ none ∧ l0Breath s ≠ some j)
        ∨ ¬ limitHolds s (rdF s R.pwrLimit 0 7) (some j) (coresOf s j).length) then .noResource s
    else .ends (setL0 s j v) 0 0 [] (c.digestChange 1 (jobTarget s j))

def execJobSetL0 (src : Src) (s : State) := act s fun s => serve 0x010A [low 8] c1Job jobSetL0Body src s

/-- BREATH_LAG_LIMIT, in any state (Table 14-4). -/
def breathLagLimitBody (c : Cmd) (s : State) : Ans :=
  if c.f 2 0 8 = 0 then .badParam s 2
  else onJob s (c.f 1 0 8) fun j =>
    .ends (wr s (R.brthLagLimit j) (w64 (c.f 2 0 8))) 0 0 []
      (valueChange 1 (jobTarget s j) 1 (lagLimit s j) (c.f 2 0 8))

def execBreathLagLimit (src : Src) (s : State) :=
  act s fun s => serve 0x0202 [low 7, low 7] c1Job breathLagLimitBody src s

/-- BREATH_CLEAR (R73). -/
def breathClearBody (c : Cmd) (s : State) : Ans :=
  onJob s (c.f 1 0 8) fun j => .ends (clearBreathCounters s j) 0 0 [] (c.digestChange 1 (jobTarget s j))

def execBreathClear (src : Src) (s : State) := act s fun s => serve 0x0203 [low 7] c1Job breathClearBody src s

/-! ### Queues (0x05) -/

def c1Core (c : Cmd) : Nat := c.f 1 6 10

/-- QUEUE_OP (R233). -/
def queueOpBody (c : Cmd) (s : State) : Ans :=
  let n := c.f 1 6 10
  let q := c.f 1 0 6
  let op := c.f 1 16 4
  if op > 2 then .badParam s 1
  else
    let s := wakeIsland s n
    let r := if op = 0 then (0, openQ s n q) else if op = 1 then (0, closeQ s n q) else drainQ s n q
    if r.1 ≠ 0 then .badState s (qState s n q)
    else .ends r.2 0 0 [w64 (qEpoch r.2 n q)] (c.digestChange 6 (c.f 1 0 16))

def execQueueOp (src : Src) (s : State) :=
  act s fun s => unlessHalted s src c1Core fun s =>
    serve 0x0501 [low 19] (fun c => [.queue (c.f 1 0 16)]) queueOpBody src s

/-- QUEUE_QUERY. -/
def queueQueryBody (c : Cmd) (s : State) : Ans :=
  let s := wakeIsland s (c1Core c)
  .reads s [qw s (c1Core c) (c.f 1 0 6) 0, qStat s (c1Core c) (c.f 1 0 6)]

def execQueueQuery (src : Src) (s : State) :=
  act s fun s => unlessHalted s src c1Core fun s => serve 0x0502 [low 15] (fun _ => []) queueQueryBody src s

/-- The binding that QUEUE_BIND names, and the state with another value in it. -/
def bindRead (s : State) (kind n b : Nat) : W64 :=
  if kind = 0 then binding s n b else if kind = 1 then rd s (R.bellBind n)
  else Sparse.get (fun _ => 0) s.mbox.hostBinds b
def bindWrite (s : State) (kind n b : Nat) (v : W64) : State :=
  if kind = 0 then setBinding s n b v else if kind = 1 then wr s (R.bellBind n) v
  else { s with mbox := { s.mbox with hostBinds := Sparse.set (fun _ => 0) s.mbox.hostBinds b v } }

/-- QUEUE_BIND: with `CURRENT_EPOCH`, the epoch of the destination queue as it stands is put into the binding (R235). -/
def queueBindBody (c : Cmd) (s : State) : Ans :=
  let kind := c.f 1 0 2
  let n := c.f 1 2 10
  let b := c.f 1 12 6
  if kind = 3 ∨ (kind = 1 ∧ (n > 255 ∨ b ≠ 0)) ∨ (kind = 2 ∧ n ≠ 0) then .badParam s 1
  else
    let s := if kind = 0 then wakeIsland s n else s
    let d := c.f 2 0 16
    let s := if bitAt (c.c 1) 18 then wakeIsland s (d / 64) else s
    let v := if bitAt (c.c 1) 18 then putFld (c.c 2) 16 8 (qEpoch s (d / 64) (d % 64)) else c.c 2
    let old := bindRead s kind n b
    .ends (bindWrite s kind n b v) 0 0 [old]
      (valueChange (if kind = 0 then 2 else if kind = 1 then 5 else 10)
        (if kind = 0 then n else if kind = 1 then 1 + n * 4 else 0) 8 old.toNat v.toNat)

/-- Lock of a binding's owner. -/
def bindLock (s : State) (c : Cmd) : List Lock :=
  if c.f 1 0 2 = 0 then [coreLock s (c.f 1 2 10)] else if c.f 1 0 2 = 1 then [convLock s 1 (c.f 1 2 8)] else []

def execQueueBind (src : Src) (s : State) :=
  act s fun s => unlessHalted s src (fun c => if c.f 1 0 2 = 0 then c.f 1 2 10 else 1024) fun s =>
    serve 0x0503 [low 18, low 46] (bindLock s) queueBindBody src s

/-- ENGINE_RESET: the engine's objects are abandoned; the Queue/DMA unit also loses its sends and reservations, and
answers each waiting requester NACK_CLOSED (R385). -/
def engineResetBody (c : Cmd) (s : State) : Ans :=
  let n := c.f 1 0 10
  let e := c.f 1 10 3
  if e ≠ 0 ∧ e ≠ 5 then .badParam s 1
  else
    let s := abandon (wakeIsland s n) n e
    let s := cw s n (R.waitState e) 0
    let s := upCore s n fun k => { k with
      polls := Sparse.set (fun _ => 0) k.polls e 0, waitFrom := Sparse.set (fun _ => 0) k.waitFrom e 0 }
    let s := if e = 5 then
        let s := (List.range 64).foldl (fun s q => voidQ s n q true) s
        upCore s n fun k => { k with sends := [], writeA := [] }
      else s
    .ends (directWrite s n) 0 0 [] (c.digestChange 2 n)

def execEngineReset (src : Src) (s : State) :=
  act s fun s => unlessHalted s src (fun c => c.f 1 0 10) fun s =>
    serve 0x0504 [low 12] (fun c => [coreLock s (c.f 1 0 10)]) engineResetBody src s

/-! ### Time (0x07) -/

/-- A step of device time by `d` ns (R291, R292, R293, R296). -/
def stepTime (s : State) (d : Int) : State :=
  let t := ((s.time : Int) + d * 2 ^ 32) % (2 ^ 96 : Nat)
  let s := (List.range 64).foldl (fun s j => shiftBreath s j d) { s with time := t.toNat }
  let s := wr s R.timeLastStep (w64 (ux 64 d))
  let s := if nowNs s / 1000 < s.chip.lastTick then { s with chip := { s.chip with lastTick := nowNs s / 1000 } } else s
  aimPulse s

/-- TIME_ADJUST (R291, R387). -/
def timeAdjustBody (c : Cmd) (s : State) : Ans :=
  let kind := c.f 1 0 2
  let v := (c.c 2).toNat
  let nominal := (hubReset R.timeIncr).toNat
  let ends (t : State) : Ans := .ends t 0 0 [w64 (nowNs t)] (c.digestChange 10 0)
  if kind = 0 then
    (if ((v : Int) - nominal).natAbs * 1000000 > 500 * nominal then .badParam s 2
     else ends (wr s R.timeIncr (c.c 2)))
  else if kind = 1 then
    let total := s.tim.slew + sx 32 v * 4294967296
    (if v ≥ 2 ^ 32 ∨ total.natAbs > (2 ^ 31 - 1) * 4294967296 then .badParam s 2
     else ends { s with tim := { s.tim with slew := total } })
  else if kind = 2 then ends (stepTime s (sx 64 v))
  else .badParam s 1

def execTimeAdjust (src : Src) (s : State) :=
  actTime s fun s => serve 0x0701 [low 1, low 63] (fun _ => [.time]) timeAdjustBody src s

/-! ### Ownership and memory (0x08) -/

/-- OWN_SET (R350). -/
def ownSetBody (c : Cmd) (s : State) : Ans :=
  let g := c.f 1 0 20
  let n := c.f 2 0 21
  if ¬ granuleFree g then .badParam s 1
  else if n = 0 ∨ rangeFixed g n then .badParam s 2
  else .ends (setFlags s g n (c.f 3 0 2)) 0 0 [] (c.digestChange 7 (g + n * 2 ^ 20))

def execOwnSet (src : Src) (s : State) :=
  act s fun s => serve 0x0801 [low 19, low 20, low 1] (fun _ => [.ownership]) ownSetBody src s

/-- OWN_QUERY: a granule beyond the last one reads as 0. -/
def ownQueryBody (c : Cmd) (s : State) : Ans :=
  .reads s [w64 ((List.range 32).map fun k =>
    (if c.f 1 0 20 + k < 1048064 then flagOf s (c.f 1 0 20 + k) else 0) * 4 ^ k).sum]

def execOwnQuery (src : Src) (s : State) := act s fun s => serve 0x0802 [low 19] (fun _ => []) ownQueryBody src s

/-- MEM_FILL starts once its range is checked (R369). -/
def memFillBody (c : Cmd) (s : State) : Ans :=
  let a := (c.c 1).toNat
  let n := c.f 2 0 32
  if n % 256 ≠ 0 then .badParam s 2
  else checkRange s a n 1 (if bgCount s ≥ 4 then .fail s 0x14 0 else .runs s true [] [])

def execMemFill (src : Src) (s : State) :=
  act s fun s => serve 0x0803 [low 63, low 31, low 8] (fun _ => []) memFillBody src s

/-- Write `n` zero blocks from `a` with the job's tags (R320, R369). -/
def fillBlocks (job : Nat) (anyJob : Bool) : Nat → State → Nat → State
  | 0, s, _ => s
  | n + 1, s, a => fillBlocks job anyJob n (writeBlock s a (List.replicate 256 0) job anyJob false false).2 (a + 256)

/-- A background command of opcode `op` ends, if it runs and its ring can take the completion (R370). -/
def finish (s : State) (id op : Nat) (k : Run → State) : State :=
  match runOf s id with
  | some r => if r.opcode = op ∧ canComplete s r.src then k r else s
  | none => s

def memFillDone (s : State) (r : Run) : State :=
  let a := (r.words.getD 1 0).toNat
  let n := r.f 2 0 32 / 256
  match firstUnmapped s a n with
  | some b => endRun s r 0x1A (b % 2 ^ 32) [] none
  | none =>
    endRun (fillBlocks (r.f 3 0 8) (bitAt (r.words.getD 3 0) 8) n s a) r 0 0 [] (r.digestChange 10 0)

def execMemFillDone (id : Nat) (s : State) := act s fun s => finish s id 0x0803 (memFillDone s)

/-! ### Telemetry and counters (0x09) -/

/-- Set 0: 64 entries of 4 bytes (Table 16-6); where sensor k lies the spec leaves open (log entry 30). -/
def thermalSet (s : State) : List Byte :=
  (List.range 64).flatMap fun k => leBytes 4 (ux 16 (s.chip.temps.getD k 0) + k * 2 ^ 16 + (Config.sensorPlace k).toNat * 2 ^ 24)

/-- Set 1: 13 rails of 16 bytes; power is voltage times current, and the total the package's (Table 16-6). -/
def railSet (s : State) : List Byte :=
  (List.range 13).flatMap fun k =>
    let m := Config.railMeasured k s.free
    if k = 12 then leBytes 8 12 ++ leBytes 8 (rdF s R.pwrMeasured 0 32)
    else leBytes 8 (k + m.1.toNat * 2 ^ 16 + m.2.toNat * 2 ^ 32)
      ++ leBytes 8 (m.1.toNat * m.2.toNat / 1000 % 2 ^ 32)

/-- Offsets of the hub tables that hold counters, as first offset and number of registers. DESIGN CHOICE (log entry
31). -/
def hubTables : List (Nat × Nat) :=
  [(0x31a0, 6), (0x5000, 48), (0x50000, 108), (0x52000, 9), (0x80000, 35), (0x82000, 47)]

/-- Entry count and entries of a set (R435; sets 2 to 4: log entry 31). -/
def telemetry (s : State) (k : Nat) : Nat × List Byte :=
  if k = 0 then (64, thermalSet s)
  else if k = 1 then (13, railSet s)
  else if k = 2 then
    (1024, (List.range 1024).flatMap fun n => (List.range 32).flatMap fun r => leBytes 8 (cr s n (8 * r)).toNat)
  else if k = 3 then
    (1024, (List.range 1024).flatMap fun n => (List.range 64).flatMap fun r =>
      leBytes 8 (hubPeek s (0x100000 + 0x200 * n + 8 * r)).toNat)
  else
    let l := hubTables.flatMap fun t => (List.range t.2).map fun i => t.1 + 8 * i
    (l.length, l.flatMap fun o => leBytes 8 (hubPeek s o).toNat)

/-- TELEMETRY_READ (R435). -/
def telemetryReadBody (c : Cmd) (s : State) : Ans :=
  let k := c.f 1 0 4
  if k > 4 then .badParam s 1
  else
    let t := telemetry s k
    let l := leBytes 8 (nowNs s) ++ leBytes 8 (k + t.1 * 2 ^ 16) ++ t.2
    deliver { s with free := s.free + 1 } (c.c 2).toNat 2 (c.f 3 0 32) 3 l fun s => .reads s [w64 l.length]

def execTelemetryRead (src : Src) (s : State) :=
  act s fun s => serve 0x0901 [low 3, low 63, low 31] (fun _ => []) telemetryReadBody src s

/-- A counter of the core register block: of the Neuron Engine and plasticity, or of the rest (R102, R138, R168). -/
def coreCounter (neuron : Bool) (r : Nat) : Bool :=
  if neuron then (0x358 ≤ r && r < 0x380) || (0x428 ≤ r && r < 0x460) || r = R.plasBadEntry
  else (0x40 ≤ r && r < 0xB0) || (0xC0 ≤ r && r < 0xF8) || (0x510 ≤ r && r < 0x558) || (0x670 ≤ r && r < 0x700)

/-- A counter of a router's block (Table 8-15). -/
def routerCounter (r : Nat) : Bool := (0x20 ≤ r && r < 0x40) || (0x48 ≤ r && r < 0xE8)

/-- A hub counter of scope 2 memory, 3 peer, 4 converter or 5 ownership. -/
def hubCounter (scope o : Nat) : Bool :=
  if scope = 2 then (0x80040 ≤ o && o < 0x80100) || (0x82000 ≤ o && o < 0x82178)
  else if scope = 3 then
    o = R.peerNoRoute || o = R.peerBadType || (0x5040 ≤ o && o < 0x5140 && 8 ≤ o % 0x40 && o % 0x40 < 0x38)
  else if scope = 4 then
    (0x60000 ≤ o && o < 0x70000 && 0x48 ≤ o % 0x100 && o % 0x100 < 0x78)
      || (0x70000 ≤ o && o < 0x80000 && 0x38 ≤ o % 0x100 && o % 0x100 < 0x68)
      || (0x52010 ≤ o && o ≤ 0x52040)
  else o = R.ownViolation || o = R.ownDeviceFaults || o = R.ownHandoffPartial

/-- `DEFER_OCC` cleared: the most held at once is what is held now (Table 6-3). -/
def occNow (w : W64) : W64 := w64 (fld w 0 7 * 257)

/-- Clear the counters of a scope over cores `a` to `b` (Table 14-4). -/
def clearCounters (s : State) (scope a b : Nat) : State :=
  if scope = 0 ∨ scope = 6 then
    let s := { s with coreRegs := Sparse.clear s.coreRegs fun k =>
        a ≤ k / 0x8000 && k / 0x8000 ≤ b && coreCounter (scope = 6) (k % 0x8000) }
    if scope = 6 then
      (List.range (b + 1 - a)).foldl (fun s k => cw s (a + k) R.deferOcc (occNow (cr s (a + k) R.deferOcc))) s
    else s
  else { s with regs := Sparse.clear s.regs fun o =>
      if scope = 1 then
        0x100000 + 0x200 * a ≤ o && o < 0x100000 + 0x200 * (b + 1) && routerCounter ((o - 0x100000) % 0x200)
      else hubCounter scope o }

/-- COUNTERS_CLEAR. -/
def countersClearBody (c : Cmd) (s : State) : Ans :=
  let scope := c.f 1 0 4
  let a := c.f 1 4 10
  let b := c.f 1 14 10
  if scope > 6 ∨ a > b then .badParam s 1
  else .ends (clearCounters s scope a b) 0 0 [] (c.digestChange 10 0)

def execCountersClear (src : Src) (s : State) :=
  act s fun s => serve 0x0902 [low 23] (fun _ => []) countersClearBody src s

/-! ### Cores (0x0A, 0x0B) -/

def fieldTestQueryBody (c : Cmd) (s : State) : Ans :=
  let k := core s (c.f 1 0 10)
  .reads s [w64 (((nowNs s : Int) - k.testAt).toNat / 3600000000000 % 2 ^ 32 + b2n k.testFailed * 2 ^ 32)]

def execFieldTestQuery (src : Src) (s : State) :=
  act s fun s => serve 0x0A02 [low 9] (fun _ => []) fieldTestQueryBody src s

/-- CORE_MARK: of an unassigned core (R414). -/
def coreMarkBody (c : Cmd) (s : State) : Ans :=
  let n := c.f 1 0 10
  let v := bitAt (c.c 1) 10
  if assigned s n then .badState s (jobState s (coreBreath s n))
  else .ends (upCore s n fun k => { k with bad := v }) 0 0 [] (valueChange 2 n 1 (b2n (core s n).bad) (b2n v))

def execCoreMark (src : Src) (s : State) :=
  act s fun s => serve 0x0A03 [low 10] (fun c => [coreLock s (c.f 1 0 10)]) coreMarkBody src s

/-- `HALT_HOLD` of breath `j`: while a core of its job is halted. Once the halts end, R59 applies again from the next
start (R68). -/
def noteHalt (s : State) (j : Nat) : State :=
  let h := (coresOf s j).any fun n => (core s n).halted
  if h = haltHold s j then s
  else
    let s := wr s (R.brthStatus j) (putBit (rd s (R.brthStatus j)) 6 h)
    if h then s else setBrth s j { brth s j with haltLag := true }

/-- A halt of core `n` on the L0 job's paths: condition `HALT` of Table 19-1 (R468). -/
def noteHaltCond (s : State) (n : Nat) : State :=
  match l0Breath s with
  | some j => if onPath s j n then failCond s j 6 else s
  | none => s

/-- Every breath's `HALT_HOLD` (R68). -/
def noteHalts (s : State) : State := (List.range 64).foldl noteHalt s

/-- Core `n` is halted or runs on; once it runs, the signals and the host accesses that waited take effect (R26, R263). -/
def setHalt (s : State) (n : Nat) (h : Bool) : State :=
  let t := noteHalts (cwB (upCore s n fun k => { k with halted := h, haltReq := some (nowNs s) }) n R.coreStatus 2 h)
  if h then noteHaltCond t n else serveHeld (thaw t n) n

/-- Can a halt or resume request merge with the one before it? That lies less than 4 cycles of the slowest core clock,
0.4 GHz, back (R24). -/
def haltMerges (s : State) (n : Nat) : Bool :=
  match (core s n).haltReq with
  | some t => decide (t ≤ nowNs s ∧ nowNs s < t + 10)
  | none => false

/-- CORE_HALT and CORE_RESUME (R26). A request that merges with the one before it is not acted on again (R24, R103). -/
def haltBody (h merged : Bool) (c : Cmd) (s : State) : Ans :=
  let n := c.f 1 0 10
  let old := (core s n).halted
  let t := if merged && haltMerges s n then cwB s n R.corePulseOvr 0 true else setHalt s n h
  .ends t 0 0 [coreStatusRead t n]
    (if old = (core t n).halted then none else valueChange 2 n 1 (b2n old) (b2n (core t n).halted))

def execCoreHalt (src : Src) (merged : Bool) (s : State) :=
  act s fun s => serve 0x0B01 [low 9] (fun c => [coreLock s (c.f 1 0 10)]) (haltBody true merged) src s
def execCoreResume (src : Src) (merged : Bool) (s : State) :=
  act s fun s => serve 0x0B02 [low 9] (fun c => [coreLock s (c.f 1 0 10)]) (haltBody false merged) src s

/-! ### The journal (0x0D) -/

/-- Is sequence `a` before `b` (32-bit wrapping)? -/
def seqBefore (a b : Nat) : Bool := decide ((BitVec.ofNat 32 a - BitVec.ofNat 32 b).toInt < 0)

/-- First sequence to write and the number of entries (R392). -/
def journalSpan (s : State) (first count : Nat) : Nat × Nat :=
  let next := s.mbox.journalSeq
  let oldest := (next + 2 ^ 32 - s.mbox.journalHeld) % 2 ^ 32
  let f := if seqBefore first oldest then oldest else first
  (f, if seqBefore f next then min count ((next + 2 ^ 32 - f) % 2 ^ 32) else 0)

/-- JOURNAL_READ (R392). -/
def journalReadBody (c : Cmd) (s : State) : Ans :=
  let n := c.f 2 0 13
  if n = 0 ∨ n > 4096 then .badParam s 2
  else
    let r := journalSpan s (c.f 1 0 32) n
    let l := (List.range r.2).flatMap fun i => ldN s (journalBase + (r.1 + i) % 4096 * 32) 32
    checkRange s (c.c 3).toNat (r.2 * 32) 3
      (.reads (writeBlocks (cdiv l.length 256) s (c.c 3).toNat l)
        [w64 (r.1 + r.2 * 2 ^ 32),
          w64 ((s.mbox.journalSeq + 2 ^ 32 - s.mbox.journalHeld) % 2 ^ 32 + s.mbox.journalSeq * 2 ^ 32)])

def execJournalRead (src : Src) (s : State) :=
  act s fun s => serve 0x0D01 [low 31, low 12, low 63] (fun _ => []) journalReadBody src s

/-! ### The hierarchy (0x0E) -/

def hierQueryBody (_ : Cmd) (s : State) : Ans := .reads s [rd s R.peerTree, w64 s.mbox.present.toNat]

def execHierQuery (src : Src) (s : State) := act s fun s => serve 0x0E02 [] (fun _ => []) hierQueryBody src s

/-- HIER_DISCOVER, on the manager only (R389). -/
def hierDiscoverBody (_ : Cmd) (s : State) : Ans :=
  if peerRole s ≠ 1 then .fail s 0x1C 0
  else if bgCount s ≥ 4 then .fail s 0x14 0
  else .runs s true [] []

def execHierDiscover (src : Src) (s : State) :=
  act s fun s => serve 0x0E01 [] (fun _ => []) hierDiscoverBody src s

/-- Discovery ends: packages present, `PKG_ID` and `PEER_TREE` of the manager (R361). -/
def hierDiscoverDone (s : State) (mask : BitVec 16) (r : Run) : State :=
  let m := mask ||| 1
  let old := (rd s R.peerTree).toNat
  let tree := 1 + m.toNat / 2 % 16 * 16
  let s := { s with mbox := { s.mbox with present := m } }
  let s := wr (wr s R.peerTree (w64 tree)) R.pkgId 0
  endRun s r 0 0 [w64 m.toNat] (valueChange 8 0 8 old tree)

def execHierDiscoverDone (id : Nat) (mask : BitVec 16) (s : State) :=
  act s fun s => finish s id 0x0E01 (hierDiscoverDone s mask)

/-- HIER_RELAY: the entry goes to the worker, and the command waits for its answer (R388, R389). -/
def hierRelayBody (c : Cmd) (s : State) : Ans :=
  let p := c.f 1 0 4
  if peerRole s ≠ 1 then .fail s 0x1C 0
  else if p = 0 ∨ ¬ s.mbox.present.getLsbD p then .badParam s 1
  else if (match peerPort s p with
    | some q => stateOf s (.peer (Fin.ofNat 4 q)) == 3
    | none => true) = true then .fail s 0x1B 0
  else withSource s none (c.c 2).toNat 64 2 fun l s =>
    checkRange s (c.c 3).toNat 64 3
      (.runs { s with mbox := { s.mbox with relayTo := (s.mbox.nextRun, p, wordsOf 8 l) :: s.mbox.relayTo } } false [] [])

def execHierRelay (src : Src) (s : State) :=
  act s fun s => serve 0x0E03 [low 3, low 63, low 63] (fun _ => []) hierRelayBody src s

/-- The packages that hold parts of a job, once package `p` has completed command `w` with OK (R362). -/
def notePart (s : State) (p : Nat) (w : List W64) : State :=
  let op := fld (w.getD 0 0) 0 16
  let id := fld (w.getD (if op = 0x0101 then 3 else 1) 0) 0 8
  let m := BitVec.ofNat 16 (Sparse.get (fun _ => 0) s.mbox.parts id)
  let b := BitVec.ofNat 16 (2 ^ p)
  let put (v : BitVec 16) := { s with mbox := { s.mbox with parts := Sparse.set (fun _ => 0) s.mbox.parts id v.toNat } }
  if op = 0x0101 then put (m ||| b) else if op = 0x0107 then put (m &&& ~~~ b) else s

/-- Relayed command `id` waits no more. -/
def dropRelay (s : State) (id : Nat) : State :=
  { s with mbox := { s.mbox with relayTo := s.mbox.relayTo.filter fun x => x.1 ≠ id } }

/-- The worker's completion arrives and is written at C3 (R388). -/
def relayAnswer (s : State) (entry : List W64) (r : Run) : State :=
  let l := (bytesOf entry).take 64
  let s := match s.mbox.relayTo.find? fun x => x.1 = r.id with
    | some x => if fld (entry.getD 0 0) 32 8 = 0 then notePart s x.2.1 x.2.2 else s
    | none => s
  endRun (writeBlocks 1 (dropRelay s r.id) (r.words.getD 3 0).toNat l) r 0 0 [w64 (fld (entry.getD 0 0) 32 8)]
    (r.digestChange 8 (r.f 1 0 4))

def execHierRelayAnswer (id : Nat) (entry : List W64) (s : State) :=
  act s fun s => if entry.length = 8 then finish s id 0x0E03 (relayAnswer s entry) else s

/-- No answer within 100 ms (R388). Both packages journal a relayed command, so the manager's entry is made here too. -/
def execHierRelayTimeout (id : Nat) (s : State) :=
  act s fun s => finish s id 0x0E03 fun r => endRun (dropRelay s r.id) r 0x1F 0 [] (r.digestChange 8 (r.f 1 0 4))

/-! ### Malformed commands -/

/-- The opcodes of Table 14-4. -/
def opcodes : List Nat :=
  [0x0001, 0x0002, 0x0003, 0x0004, 0x0005, 0x0006, 0x0101, 0x0102, 0x0103, 0x0104, 0x0105, 0x0106, 0x0107, 0x0108,
   0x0109, 0x010A, 0x010B, 0x0201, 0x0202, 0x0203, 0x0301, 0x0302, 0x0303, 0x0304, 0x0401, 0x0402, 0x0501, 0x0502,
   0x0503, 0x0504] ++
  [0x0601, 0x0602, 0x0603, 0x0701, 0x0801, 0x0802, 0x0803, 0x0901, 0x0902, 0x0A01, 0x0A02, 0x0A03, 0x0B01, 0x0B02,
   0x0B03, 0x0C01, 0x0C02, 0x0C03, 0x0C04, 0x0C05, 0x0D01, 0x0E01, 0x0E02, 0x0E03]

/-- The opcodes that Chanter, or in recovery the ROM, serves (R380, R445). -/
def servedOp (s : State) (op : Nat) : Bool :=
  if s.chip.phase = .recovery then [0x0001, 0x0C03, 0x0C04, 0x0C05].contains op else opcodes.contains op

/-- A command whose opcode is not served completes with BAD_OPCODE (R376). -/
def badOpcode (s : State) (src : Src) : State :=
  match cmdAt s src with
  | some c =>
    if startable s src ∧ ¬ servedOp s c.opcode
    then serveCmd (List.replicate 7 (low 63)) [] (fun _ s => .fail s 0x10 0) c s else s
  | none => s

def execBadOpcode (src : Src) (s : State) := actServed s fun s => badOpcode s src

/-- The word of the entry of mailbox `m`'s command ring at index `ci` that an error has destroyed: the header, or one of words
1 to 7, which the row leaves open (log entry 1). -/
def badEntryWord (s : State) (m : Nat) (headerBad : Bool) : Nat × State :=
  let e := ringEntry m false (cmdCi s m)
  if headerBad then (e, s) else let v := freshValue s; (e + 8 * (1 + v.1.toNat % 7), v.2)

/-- Chanter finds an uncorrectable word in the entry of mailbox `m` that it would start: it does not run the command, and
the completion is not kept (R329, R374, R375). -/
def entryError (s : State) (m : Fin 8) (headerBad : Bool) : State :=
  match cmdAt s (.ring m) with
  | some c =>
    if startable s (.ring m) then
      let b := badEntryWord s m headerBad
      putCompletion (takeFront (hubWordLost b.2 b.1) (.ring m)) (.ring m)
        (cplWords (if headerBad then 0xFFFF else c.opcode) (if headerBad then 0xFFFF else c.tag) 0x20 false 0
          0xFFFFFFFF [])
    else s
  | none => s

def execEntryError (m : Fin 8) (headerBad : Bool) (s : State) := actServed s fun s => entryError s m headerBad

end Sys2Proof.Machine
end

