-- ==== Sys2Proof/Machine/Image.lean ====
section
/-! DEFINITION. The job image: its container and the load checks (R16 to R18, R80, R93, R97, R133, R143, R149, R150, R169,
R232, R269, R271, R275, R279, R287, R381, R394 to R398, R477). -/
namespace Sys2Proof.Machine

/-! ### The container (R394, R395) -/

/-- A section (Table 15-2). -/
structure Sect where
  ty : Nat
  isMutable : Bool
  core : Nat
  dest : Nat
  off : Nat
  len : Nat
  digest : List Byte
  deriving DecidableEq, Repr

/-- A container as read (Table 15-1). -/
structure Image where
  data : List Byte
  rect : W64
  seed : Nat
  pkg : Nat
  hier : Bool
  ckptBase : Nat
  slotBytes : Nat
  sects : List Sect
  deriving DecidableEq, Repr

/-- Word at byte offset `o` of a byte list. -/
def wordAt (l : List Byte) (o : Nat) : W64 := w64 (leNat ((l.drop o).take 8))

/-- Corners of the image's rectangle, and its cores. -/
def Image.x0 (i : Image) : Nat := fld i.rect 0 5
def Image.y0 (i : Image) : Nat := fld i.rect 8 5
def Image.x1 (i : Image) : Nat := fld i.rect 16 5
def Image.y1 (i : Image) : Nat := fld i.rect 24 5
def Image.cores (i : Image) : List Nat := rectList i.x0 i.y0 i.x1 i.y1

/-- Data of a section. -/
def Image.bytesOf (i : Image) (x : Sect) : List Byte := (i.data.drop x.off).take x.len

/-- Entry `k` of the section table. -/
def sectAt (data : List Byte) (tbl k : Nat) : Sect :=
  let o := tbl + 64 * k
  let e0 := wordAt data o
  let e1 := wordAt data (o + 8)
  { ty := fld e0 0 8, isMutable := bitAt e0 8, core := fld e0 16 10, dest := fld e0 32 32, off := fld e1 0 32
    len := fld e1 32 32, digest := (data.drop (o + 32)).take 32 }

/-- Where a section of a type may lie within its core's stride: from, and up to (Table 15-3). -/
def sectRegion (ty : Nat) : Option (Nat × Nat) :=
  match ty with
  | 1 => some (0x78000, 0x80000)
  | 2 => some (0, 0x40000)
  | 3 => some (0x38000, 0x40000)
  | 4 => some (0x70000, 0x78000)
  | 5 => some (0x70000, 0x78000)
  | 6 => some (0x60000, 0x68000)
  | _ => none

/-- A section table entry is as R394 and R395 ask: type, `MUTABLE`, alignment, extent, reserved bits and digest. -/
def sectGood (data : List Byte) (tbl k : Nat) : Bool :=
  let x := sectAt data tbl k
  let o := tbl + 64 * k
  let e0 := wordAt data o
  1 ≤ x.ty && x.ty ≤ 10 && x.isMutable = [3, 5, 6].contains x.ty
    && fld e0 9 7 = 0 && fld e0 26 6 = 0 && wordAt data (o + 16) = 0 && wordAt data (o + 24) = 0
    && x.off % 256 = 0 && x.len % 256 = 0 && x.off + x.len ≤ data.length
    && (match sectRegion x.ty with
        | some (lo, hi) => x.dest % 256 = 0 && lo ≤ x.dest && x.dest + x.len ≤ hi
        | none => true)
    && sha256 ((data.drop x.off).take x.len) = x.digest

/-- The header is as Table 15-1 asks. -/
def headerGood (s : State) (data : List Byte) : Bool :=
  let h (k : Nat) := wordAt data (8 * k)
  let r := h 1
  fld (h 0) 0 32 = 0x4F4A5250 && fld (h 0) 32 16 = 1 && fld (h 0) 48 16 = fld (rd s R.memberId) 0 16
    && fld r 0 5 ≤ fld r 16 5 && fld r 8 5 ≤ fld r 24 5
    && fld r 32 11 = (fld r 16 5 + 1 - fld r 0 5) * (fld r 24 5 + 1 - fld r 8 5)
    && r &&& ~~~ (w64 0x7FF1F1F1F1F) = 0
    && fld (h 2) 36 4 = 0 && fld (h 2) 40 8 ≤ 1 && fld (h 2) 48 16 = 0
    && (if fld (h 2) 40 8 = 1 then fld (h 2) 32 4 = pkgId s else fld (h 2) 32 4 = 0)
    && fld (h 3) 48 16 = 0 && fld (h 4) 32 32 = 0 && fld (h 5) 0 64 = data.length
    && fld (h 6) 0 32 % 256 = 0 && 1 ≤ fld (h 6) 32 16 && fld (h 6) 48 16 = 0
    && fld (h 6) 0 32 + 64 * fld (h 6) 32 16 ≤ data.length
    && (List.range 9).all fun k => h (7 + k) = 0

/-- The container that bytes spell. -/
def imageOf (data : List Byte) : Image :=
  let h (k : Nat) := wordAt data (8 * k)
  { data := data, rect := h 1, seed := fld (h 2) 0 32, pkg := fld (h 2) 32 4, hier := fld (h 2) 40 8 = 1
    ckptBase := fld (h 3) 0 48, slotBytes := fld (h 4) 0 32
    sects := (List.range (fld (h 6) 32 16)).map (sectAt data (fld (h 6) 0 32)) }

/-- The container, if header, section table and digests are good (R396, step 1). -/
def parseImage (s : State) (data : List Byte) : Option Image :=
  if data.length ≥ 256 ∧ headerGood s data
      ∧ (List.range (fld (wordAt data 48) 32 16)).all (sectGood data (fld (wordAt data 48) 0 32))
  then some (imageOf data) else none

/-- A section of a core, on the state: registers a write would store, or memory (R394, Table 15-3). `QOP_CMD` and the
other registers without stored bits take nothing. -/
def loadSect (i : Image) (s : State) (x : Sect) : State :=
  let d := i.bytesOf x
  if x.ty = 1 then
    (List.range (x.len / 8)).foldl (fun s k =>
      let r := x.dest - 0x78000 + 8 * k
      cw s x.core r ((cr s x.core r &&& ~~~ (coreInfo x.core r).rw) ||| (wordAt d (8 * k) &&& (coreInfo x.core r).rw))) s
  else stN s (coreBase x.core + x.dest) d

/-- Load the sections of the given types into core `n`, in section-table order. -/
def loadCore (i : Image) (types : List Nat) (s : State) (n : Nat) : State :=
  (i.sects.filter fun x => x.core = n && types.contains x.ty).foldl (loadSect i) s

/-! ### Sections 0x07 to 0x0A (R477) -/

/-- Data of all sections of a type, joined. -/
def Image.joined (i : Image) (ty : Nat) : List Byte := (i.sects.filter fun x => x.ty = ty).flatMap i.bytesOf

/-- Words C1 to C5 of the breath configuration; without a section, the reset values of Tables 2-5 and 2-6. -/
def Image.breathWords (i : Image) : List W64 :=
  if i.sects.any fun x => x.ty = 7 then (List.range 5).map fun k => wordAt (i.joined 7) (8 * k)
  else [0, 0, w64 1000000, w64 10000000, 4]

/-- A converter entry: selector word and register image. -/
structure ConvEntry where
  kind : Nat
  chan : Nat
  words : List W64
  deriving DecidableEq, Repr

/-- Words of a register image by kind (R386). -/
def convWords (kind : Nat) : Nat := if kind = 0 then 8 else if kind = 1 then 6 else 2

/-- A register image with `JOB_ID` and `BREATH` replaced (R477). -/
def rebind (kind job j : Nat) (l : List W64) : List W64 :=
  match l with
  | w :: r => (if kind = 2 then putFld (putFld w 10 8 job) 18 6 j else putFld (putFld w 16 8 job) 24 6 j) :: r
  | [] => []

/-- The converter entries of section 0x08, padding left out, with their two blocks. -/
def Image.convBlocks (i : Image) : List (List Byte × List Byte) :=
  ((List.range ((i.joined 8).length / 512)).map fun k =>
    (((i.joined 8).drop (512 * k)).take 256, ((i.joined 8).drop (512 * k + 256)).take 256)).filter fun e =>
      e.1.any (· ≠ 0) || e.2.any (· ≠ 0)

/-- The converter entries for the loading job. -/
def Image.convs (i : Image) (job j : Nat) : List ConvEntry :=
  i.convBlocks.map fun e =>
    let kind := fld (wordAt e.1 0) 0 2
    ⟨kind, fld (wordAt e.1 0) 2 8, rebind kind job j ((List.range (convWords kind)).map fun k => wordAt e.2 (8 * k))⟩

/-- Records of 8 bytes of a section type whose entry is valid. -/
def Image.records (i : Image) (ty : Nat) : List W64 :=
  ((List.range ((i.joined ty).length / 8)).map fun k => wordAt (i.joined ty) (8 * k)).filter fun r => bitAt r 32

/-! ### Checks of converter images (R143, R271, R275, R279, R287, R386) -/

/-- Rows a Mouthpiece channel emits to. -/
def mpRowCount (w0 : W64) (n : Nat) : Nat := if fld w0 0 3 = 5 && bitAt w0 8 && bitAt w0 9 then 2 * n else n

/-- A Mouthpiece register image (R143, R271, R275, Table 10-1). -/
def mpGood (l : List W64) : Bool :=
  let w (k : Nat) := l.getD k 0
  let n := fld (w 1) 0 13
  let b := fld (w 0) 32 4
  let rt := w 3
  fld (w 0) 0 3 ≤ 5 && fld (w 0) 10 6 = 0 && fld (w 0) 30 2 = 0 && fld (w 0) 36 4 = 0
    && 1 ≤ n && n ≤ 4096 && fld (w 1) 13 3 = 0 && fld (w 1) 21 3 = 0 && fld (w 1) 28 36 = 0 && fld (w 1) 24 4 ≤ 8
    && b ≠ 1 && b ≤ 8 && n % 2 ^ b = 0
    && fld (w 2) 22 42 = 0 && fld (w 2) 16 6 ≤ 47
    && fld rt 46 18 = 0 && fld rt 2 6 ≠ 63 && fld rt 35 6 = 1
    && fld rt 23 12 + mpRowCount (w 0) n ≤ 4096 && (!bitAt (w 0) 9 || 2 * n ≤ 4096)
    && (fld (w 0) 0 3 ≠ 4 || fld (w 0) 40 8 ≠ 0)
    && fld (w 4) 0 8 = 0 && fld (w 4) 48 16 = 0 && fld (w 5) 0 3 = 0 && fld (w 5) 48 16 = 0
    && fld (w 6) 48 16 = 0 && fld (w 7) 48 16 = 0

/-- A Bell register image (R279, Tables 10-2 and 10-3). -/
def bellGood (l : List W64) : Bool :=
  let w (k : Nat) := l.getD k 0
  let n := fld (w 1) 0 13
  fld (w 0) 0 3 ≤ 5 && fld (w 0) 3 2 ≠ 3 && fld (w 0) 13 3 = 0 && fld (w 0) 56 8 = 0 && fld (w 0) 52 4 ≤ 8
    && (fld (w 0) 0 3 ≠ 4 || fld (w 0) 38 8 ≠ 0)
    && 1 ≤ n && n ≤ 4096 && fld (w 1) 13 3 = 0 && fld (w 1) 28 4 = 0 && fld (w 1) 42 22 = 0
    && fld (w 2) 0 4 = 0 && fld (w 2) 48 16 = 0 && fld (w 3) 0 8 = 0 && fld (w 3) 48 16 = 0
    && fld (w 4) 47 17 = 0 && fld (w 5) 12 52 = 0

/-- An Event Port stream image (R17, R93, R287). -/
def streamGood (l : List W64) : Bool :=
  let a := l.getD 0 0
  let b := l.getD 1 0
  fld a 24 40 = 0 && fld b 46 18 = 0 && fld b 2 6 ≠ 63 && (!bitAt a 1 || fld b 35 6 = 1)

def convGood (kind : Nat) (l : List W64) : Bool :=
  if kind = 0 then mpGood l else if kind = 1 then bellGood l else streamGood l

/-! ### Checks of cores -/

/-- A delay lies in the range of Table 1-6 for core `n` (R80, R169). -/
def delayGood (s : State) (n : Nat) (ovb : Bool) (d : Nat) : Bool :=
  1 ≤ d && d ≤ ringLen s n - (if ovb then 2 else 1)

/-- Valid descriptors of core `n`. -/
def validDescs (s : State) (n : Nat) : List Nat := (List.range 16).filter fun m => dValid (descA s n m)

/-- Two ranges of the given first elements and lengths meet. -/
def meet (a la b lb : Nat) : Bool := a < b + lb && b < a + la

/-- No two ranges of a list meet. -/
def disjoint : List (Nat × Nat) → Bool
  | [] => true
  | x :: r => (r.all fun y => !meet x.1 x.2 y.1 y.2) && disjoint r

/-- Matrix descriptors (R80). -/
def descsGood (s : State) (ovb : Bool) (n : Nat) : Bool :=
  ((validDescs s n).all fun m =>
    let a := descA s n m
    dRowFirst a + dRows a ≤ 4096 && dColFirst a % 16 = 0 && dColFirst a + dCols a ≤ neurons s n && dWidth a ≠ 3
      && dBase (descB s n m) + dRows a * dStride a ≤ 0x40000 && delayGood s n ovb (dDelay a))
    && disjoint ((validDescs s n).map fun m => (dRowFirst (descA s n m), dRows (descA s n m)))

/-- Population entry word W4, W6 of core `n`, and the valid populations. -/
def popW4 (s : State) (n q : Nat) : W64 := w64 (popWord s n q 4)
def popW6 (s : State) (n q : Nat) : W64 := w64 (popWord s n q 6)
def validPops (s : State) (n : Nat) : List Nat := (List.range 16).filter fun q => bitAt (popW4 s n q) 0
def popFirst (s : State) (n q : Nat) : Nat := fld (popW4 s n q) 1 12
def popCount (s : State) (n q : Nat) : Nat := fld (popW4 s n q) 13 12 + 1

/-- Every descriptor that `cnt` rows from `row` reach on the given cores has delay `d` (R93); rows wrap at 4,096 (R92). -/
def reachGood (s : State) (cores : List Nat) (row cnt d : Nat) : Bool :=
  cores.all fun n => (validDescs s n).all fun m =>
    let a := descA s n m
    dDelay a = d || !(meet row cnt (dRowFirst a) (dRows a) || meet row cnt (dRowFirst a + 4096) (dRows a))

/-- Cores of `cores` that a routing entry reaches: none, when its flits are misaddressed (R16, R92). -/
def reached (cores : List Nat) (e : W64) : List Nat :=
  let x := fld e 2 6
  let y := fld e 8 5
  cores.filter fun n =>
    if bitAt e 1 then x + fld e 13 5 ≤ 31 && y + fld e 18 5 ≤ 31 && x ≤ n % 32 && n % 32 ≤ x + fld e 13 5
      && y ≤ n / 32 && n / 32 ≤ y + fld e 18 5
    else n % 32 = x && n / 32 = y

/-- Routing entries (R17, R93, R169). A misaddressed entry is no load failure: the source router discards its flits (R16,
R92; log entry 132). -/
def routesGood (s : State) (cores : List Nat) (ovb : Bool) (n : Nat) : Bool :=
  fld (cr s n R.routeBase) 0 9 = 0 && ovbOn s n = ovb
    && (validPops s n).all fun q => (List.range 4).all fun k =>
      let e := routeEntry s n (4 * q + k)
      let x := fld e 2 6
      !bitAt e 0 ||
        (if x = 63 then !bitAt e 1 && fld e 35 6 = 1
         else 1 ≤ fld e 35 6 && (!ovb || delayGood s n true (fld e 35 6))
           && reachGood s (reached cores e) (fld e 23 12) (popCount s n q) (fld e 35 6))

/-- One instruction of a program (R133, Tables 4-2 to 4-5). -/
def instrGood (graded ext : Bool) (w : Nat) : Bool :=
  let op := w / 2 ^ 26 % 64
  let d := w / 2 ^ 19 % 32
  let sh := w / 8 % 32
  let imm := [0x02, 0x05, 0x12, 0x15].contains op
  let writes := (1 ≤ op && op ≤ 0x0D) || op = 0x10 || op = 0x13 || (0x15 ≤ op && op ≤ 0x17)
  op ≤ 0x19 && w / 2 ^ 24 % 4 ≠ 3 && (op ≠ 0 || w % 2 ^ 26 = 0)
    && (imm || op = 0x11 || w % 8 = 0)
    && (op ≠ 0x11 || (w % 8 ≤ 5 && sh / 4 = 0 && sh % 4 ≠ 3))
    && (op ≠ 0x12 || (d % 8 ≤ 5 && d / 8 ≠ 3))
    && (op ≠ 0x15 || w / 128 % 128 = 0)
    && (!writes || writable d) && (!(op = 0x0E || op = 0x0F) || d = 13)
    && (op ≠ 0x18 || d < 12) && (op ≠ 0x19 || graded) && (op ≠ 0x17 || ext)

/-- A program, of populations that are graded or have an external input (R133). -/
def progGood (graded ext : Bool) (prog : List Nat) : Bool :=
  !prog.isEmpty && prog.all (instrGood graded ext)
    && decide ((prog.filter fun w => w / 2 ^ 26 % 64 = 0x18 || w / 2 ^ 26 % 64 = 0x19).length ≤ 1)

/-- Every valid program, whether or not a population names it (R133). EMITQ and XIN appear only in programs of populations
that allow them, so in none that no population names (DEDUCED, log entry 154). -/
def programsGood (s : State) (n : Nat) : Bool :=
  (List.range 8).all fun p => !bitAt (cr s n (R.neProg p)) 24 ||
    let users := (validPops s n).filter fun q => fld (popW4 s n q) 25 3 = p
    progGood (!users.isEmpty && users.all fun q => bitAt (popW4 s n q) 28)
      (!users.isEmpty && users.all fun q => bitAt (popW4 s n q) 29) (progOf s n p)

/-- Populations and programs (R113, R114, R133). -/
def popsGood (s : State) (n : Nat) : Bool :=
  let v := validPops s n
  fld (cr s n R.neConfig) 0 10 = 0 && fld (cr s n R.neConfig) 16 12 = 0
    && disjoint (v.map fun q => (popFirst s n q, popCount s n q)) && programsGood s n
    && v.all fun q =>
      let w4 := popW4 s n q
      popFirst s n q % 16 = 0 && popFirst s n q + popCount s n q ≤ neurons s n && !(progOf s n (fld w4 25 3)).isEmpty
        && (!bitAt w4 29 || (fld (popW6 s n q) 0 5 = 0 && fld (popW6 s n q) 0 15 + 2 * popCount s n q ≤ 0x8000))

/-- Outbound split entries in use, and inbound ones. -/
def splitOuts (s : State) (n : Nat) : List W64 := ((List.range 16).map (splitOut s n)).filter fun e => bitAt e 0
def splitIns (s : State) (n : Nat) : List W64 := ((List.range 16).map (splitIn s n)).filter fun e => bitAt e 0

/-- Split tables (R96, R97, R98). -/
def splitsGood (s : State) (n : Nat) : Bool :=
  let l := (splitOuts s n).map fun e => (fld e 1 12, fld e 13 10 + 1)
  fld (cr s n R.splitOutBase) 0 7 = 0 && fld (cr s n R.splitInBase) 0 7 = 0
    && disjoint l && ((splitOuts s n).all fun e => fld e 33 10 + fld e 13 10 ≤ 1007)
    && l.all fun r => (validPops s n).all fun q => !meet r.1 r.2 (popFirst s n q) (popCount s n q)

/-- Queues of core `n` that the image uses: those whose configuration is not 0 (log entry 36). -/
def usedQueues (s : State) (n : Nat) : List Nat :=
  if queuesUsed s n then (List.range 64).filter fun q => (List.range 4).any fun k => qw s n q k ≠ 0 else []

/-- Scratch ranges of a core's queue structures. -/
def queueRanges (s : State) (n : Nat) : List (Nat × Nat) :=
  if queuesUsed s n then
    [(crF s n R.qConfig 0 15, 2048), (crF s n R.qConfig 16 15, 256), (crF s n R.qConfig 32 15, 512),
      (crF s n R.qConfig 48 15, 512)]
    ++ (usedQueues s n).filterMap fun q =>
      if qKind s n q = 0 then some (fld (qw s n q 3) 32 15, 4 * sndCount s n q)
      else if qKind s n q = 2 then some (fld (qw s n q 1) 32 15, 512) else none
  else []

/-- Rings of a core that lie in its own scratch. -/
def ringRanges (s : State) (n : Nat) : List (Nat × Nat) :=
  (usedQueues s n).filterMap fun q =>
    if qKind s n q = 0 ∧ scratch n 0 ≤ ringAddr s n q ∧ ringAddr s n q < scratch n 0x8000
    then some (ringAddr s n q - scratch n 0, ringSize s n q) else none

/-- Valid plasticity entries of a core. -/
def validEntries (s : State) (n : Nat) : List PlasEntry :=
  ((List.range 4).map (plasEntry s n)).filter fun e => e.valid

/-- Trace arrays of an entry (R151). -/
def traceRanges (s : State) (n : Nat) (e : PlasEntry) : List (Nat × Nat) :=
  let a := descA s n e.desc
  [(e.preBase, dRows a), (e.postBase, dCols a)] ++ (if e.rule = 1 then [(e.post2Base, dCols a)] else [])

/-- A core learns: it has a valid plasticity entry. -/
def learns (s : State) (n : Nat) : Bool := !(validEntries s n).isEmpty

/-- Scratch that the core's engines use: the tables of populations and routes, of plasticity with its deferral area, the
external inputs, programs and split tables, each where it is in use. -/
def engineRanges (s : State) (n : Nat) : List (Nat × Nat) :=
  (if (validPops s n).isEmpty then [] else [(crF s n R.routeBase 0 15, 512), (crF s n R.neConfig 0 15, 1024)])
  ++ (if learns s n then [(crF s n R.plasConfig 0 15, 256), (crF s n R.plasConfig 16 15, 512)] else [])
  ++ ((validPops s n).filterMap fun q => if bitAt (popW4 s n q) 29
      then some (fld (popW6 s n q) 0 15, 2 * popCount s n q) else none)
  ++ ((List.range 8).filterMap fun p => if bitAt (cr s n (R.neProg p)) 24
      then some (crF s n R.neConfig 16 15 + 4 * fld (cr s n (R.neProg p)) 0 10, 4 * (fld (cr s n (R.neProg p)) 16 7 + 1))
      else none)
  ++ (if (splitOuts s n).isEmpty then [] else [(crF s n R.splitOutBase 0 15, 128)])
  ++ (if (splitIns s n).isEmpty then [] else [(crF s n R.splitInBase 0 15, 128)])

/-- Other scratch structures that a trace array may not touch (R150). -/
def otherRanges (s : State) (n : Nat) : List (Nat × Nat) := engineRanges s n ++ queueRanges s n ++ ringRanges s n

/-- Every range of one list is apart from every range of another. -/
def clearOf (l m : List (Nat × Nat)) : Bool := l.all fun t => m.all fun o => !meet t.1 t.2 o.1 o.2

/-- Queue tables (R232). -/
def queuesGood (s : State) (n : Nat) : Bool :=
  ((usedQueues s n).all fun q =>
    let w1 := qw s n q 1
    let k := qKind s n q
    k ≠ 3 && (k ≠ 0 || (12 ≤ fld (qw s n q 0) 12 5 && fld (qw s n q 0) 12 5 ≤ 24 && ringAddr s n q % ringSize s n q = 0))
      && (k ≠ 1 || (fld w1 0 2 ≠ 3 && (fld w1 0 2 ≠ 2 || fld w1 19 2 ≠ 3)
            && (fld w1 0 2 ≠ 0 || bitAt (popW4 s n (fld w1 2 4)) 29)))
      && (k ≠ 2 || q + combLanes s n q ≤ 63))
    && disjoint (queueRanges s n ++ ringRanges s n)
    && clearOf (queueRanges s n ++ ringRanges s n) (engineRanges s n)

/-- Every weight of a plastic matrix lies within the entry's limits (R149). -/
def weightsGood (s : State) (n : Nat) (e : PlasEntry) : Bool :=
  let a := descA s n e.desc
  (List.range (dRows a)).all fun r => (List.range (dCols a)).all fun j =>
    let v := sx 8 (ldB s (coreBase n + dBase (descB s n e.desc) + r * dStride a + j)).toNat
    e.wMin ≤ v && v ≤ e.wMax

/-- A column is a neuron of a valid population (R149). -/
def inPop (s : State) (n j : Nat) : Bool :=
  (validPops s n).any fun q => popFirst s n q ≤ j && j < popFirst s n q + popCount s n q

/-- Word `i` of plasticity entry `k` (R150). -/
def plasWord (s : State) (n k i : Nat) : Nat := ldU s (scratch n (crF s n R.plasConfig 0 15 + 64 * k + 8 * i)) 8

/-- The entries that R150 checks: of a table in use, each that is not all zeros. The reset values of Table 6-1 would break
`W_MIN` < `W_MAX`, so an unused entry is none of them (DEDUCED, log entry 155). -/
def entriesChecked (s : State) (n : Nat) : List PlasEntry :=
  if learns s n then
    ((List.range 4).filter fun k => (List.range 8).any fun i => plasWord s n k i ≠ 0).map (plasEntry s n)
  else []

/-- Plasticity (R149, R150). `LR_SHIFT` is 5 bits wide and cannot exceed 31; non-zero reserved bits W2[63:45] above it
reject the image (DESIGN CHOICE, log entry 155). -/
def plasticGood (s : State) (n : Nat) : Bool :=
  let es := validEntries s n
  let traces := es.flatMap (traceRanges s n)
  fld (cr s n R.plasConfig) 0 8 = 0 && fld (cr s n R.plasConfig) 16 9 = 0
    && ((entriesChecked s n).all fun e =>
      e.rule ≠ 3 && e.wMin < e.wMax && -127 ≤ e.wMin && e.wMax ≤ 127 && e.lrShift ≤ 31 && fld e.w2 45 19 = 0)
    && (es.all fun e =>
      let a := descA s n e.desc
      dValid a && dPlastic a && weightsGood s n e)
    && (traces.all fun t => t.1 + t.2 ≤ 0x8000) && disjoint traces && clearOf traces (otherRanges s n)
    && ((validDescs s n).filter fun m => dPlastic (descA s n m)).all fun m =>
      let a := descA s n m
      let b := dBase (descB s n m)
      dWidth a = 2 && 0x38000 ≤ b && b + dRows a * dStride a ≤ 0x40000
        && (List.range (dCols a)).all (fun j => inPop s n (dColFirst a + j))
        && ((splitOuts s n).all fun e => !meet (fld e 1 12) (fld e 13 10 + 1) (dColFirst a) (dCols a))
        && (es.filter fun e => e.desc = m).length = 1

/-! ### Breath configuration (R57, R61, R383) -/

/-- Index of the first parameter word C2 to C5 that R383 refuses, for a rectangle's rows `y0` to `y1`. -/
def breathBad (l : List W64) (y0 y1 : Nat) : Option Nat :=
  let w (k : Nat) := l.getD (k - 1) 0
  let p := (w 3).toNat
  if w 2 &&& ~~~ (w64 0x1F007F07) ≠ 0 ∨ fld (w 2) 0 2 = 3 ∨ fld (w 2) 24 5 < y0 ∨ y1 < fld (w 2) 24 5 then some 2
  else if p < 50000 ∨ 16000000 < p then some 3
  else if fld (w 2) 0 2 = 1 ∧ (fld (w 4) 0 32 = 0 ∨ fld (w 4) 0 32 % p ≠ 0 ∨ p ≤ fld (w 4) 32 32) then some 4
  else if w 5 &&& ~~~ (w64 255) ≠ 0 ∨ w 5 = 0 then some 5
  else none

/-! ### The load checks (R381, R396) -/

/-- Blocks of core content in a checkpoint: mutable sections, delay rings, three blocks of registers (R406). -/
def coreBlocks (mutables : List (Nat × Nat × Nat)) (n : Nat) : Nat :=
  ((mutables.filter fun m => m.1 = n).map fun m => m.2.2 / 256).sum + 512 + 3

/-- The mutable areas of an image: core, offset, length. -/
def Image.mutables (i : Image) : List (Nat × Nat × Nat) :=
  (i.sects.filter fun x => x.isMutable).map fun x => (x.core, x.dest, x.len)

/-- Bytes of converter state that a channel adds to the hub record: a header of 4 bytes, a Bell channel's send binding, and
the state (R235, R277, R279, R406; the layout is the model's, log entry 35). -/
def convStateBytes (kind n : Nat) : Nat := if kind = 0 then 4 + n else if kind = 1 then 12 + 4 * n else 0

/-- Blocks of the hub record: two words, the channels' state and its end mark, and an epoch byte for each queue in use. -/
def hubBlocks (queues chanBytes : Nat) : Nat := cdiv (20 + queues + chanBytes) 256

/-- Blocks that a checkpoint of an image with so many queues needs, with its commit record (R396, R406). -/
def Image.ckptBlocks (i : Image) (queues : Nat) : Nat :=
  1 + (i.cores.map (coreBlocks i.mutables)).sum
    + hubBlocks queues ((i.convs 0 0).map fun e => convStateBytes e.kind (fld (e.words.getD 1 0) 0 13)).sum

/-- `CKPT_BASE` and `CKPT_SLOT_BYTES` are good (R396). `t` holds the image's cores. -/
def ckptGood (s t : State) (i : Image) : Bool :=
  i.ckptBase % 256 = 0 && i.slotBytes % 256 = 0
    && 256 * i.ckptBlocks (i.cores.map fun n => (usedQueues t n).length).sum ≤ i.slotBytes
    && i.ckptBase + 2 * i.slotBytes ≤ (rd s R.ddrDataEnd).toNat

/-- A core may hold a part of a new job (R398). -/
def coreFree (s : State) (n : Nat) : Bool :=
  !assigned s n && !(core s n).bad && !((List.range 64).any fun j => (coresOf s j).contains n)

/-- A DOWN link lies on the job's routes: within its rectangle, or on the hub row path west of it (R220). -/
def downOnRoute (s : State) (i : Image) : Bool :=
  ((List.range 1024).any fun n => [0, 1, 2, 3].any fun o =>
    linkState s n o = 3 && (match neighbour n o with
      | some (m, _) =>
        (i.cores.contains n && (m ≥ 1024 || i.cores.contains m))
          || ((o = 1 || o = 3) && i.y0 ≤ n / 32 && n / 32 ≤ i.y1 && (m ≥ 1024 || min (n % 32) (m % 32) < i.x0))
      | none => false))
    || (List.range 32).any fun p => i.y0 ≤ p && p ≤ i.y1 && linkState s (1024 + p) 1 = 3

/-- Placement (R18, R398). -/
def placed (s : State) (i : Image) (job j : Nat) : Option (Nat × Option Nat) :=
  match i.cores.find? fun n => !coreFree s n with
  | some n => some (0x02, some n)
  | none =>
    match i.sects.find? fun x => (sectRegion x.ty).isSome && !i.cores.contains x.core with
    | some x => some (0x02, some x.core)
    | none =>
      let ports := fld (i.breathWords.getD 1 0) 24 5 :: (i.convs job j).filterMap fun e =>
        if e.kind = 0 then some (fld (e.words.getD 3 0) 41 5)
        else if e.kind = 2 ∧ bitAt (e.words.getD 0 0) 1 then some (fld (e.words.getD 1 0) 41 5) else none
      if ports.any (fun p => p < i.y0 || i.y1 < p) || downOnRoute s i then some (0x02, none) else none

/-- A converter channel or stream belongs to a loaded job (R371, Table 14-6). -/
def convTaken (s : State) (kind c : Nat) : Bool :=
  (List.range 64).any fun j => jobState s j ≠ 0 && (jobOf s j).convs.contains (kind, c)
    || (kind = 0 && rdF s (R.mpStatus c) 0 2 ≠ 0) || (kind = 1 && rdF s (R.bellStatus c) 0 2 ≠ 0)
    || (kind = 2 && streamValid s c)

/-- Bell channel `b` has been bound to the job by CONV_CONFIG (R269, R278). -/
def bellBound (s : State) (b job j : Nat) : Bool := bellN s b ≠ 0 && bellJob s b = job && bellBreath s b = j

/-- A row map entry is a loaded job's: its image wrote it, or it names a Bell channel that is bound to one (R269). -/
def rowTaken (s : State) (p row : Nat) : Bool :=
  let e := rowMap s p row
  let b := fld e 1 10 - 0x100
  (List.range 64).any fun k => jobState s k ≠ 0 && ((jobOf s k).rowMaps.contains (p, row)
    || (bitAt e 0 && 0x100 ≤ fld e 1 10 && fld e 1 10 < 0x200 && bellBound s b (jobId s k) k))

/-- Converters, row maps and peer injection (R17, R93, R143, R269, R271, R275, R279, R477). `t` holds the image's cores. -/
def convsGood (s t : State) (i : Image) (job j : Nat) : Bool :=
  let es := i.convs job j
  let bells := (es.filter fun e => e.kind = 1).map fun e => e.chan
  (i.joined 8).length % 512 = 0
    && (i.convBlocks.all fun e =>
      fld (wordAt e.1 0) 0 2 ≠ 3 && fld (wordAt e.1 0) 10 54 = 0 && (e.1.drop 8).all (· = 0)
        && (e.2.drop (8 * convWords (fld (wordAt e.1 0) 0 2))).all (· = 0)
        && (fld (wordAt e.1 0) 0 2 ≠ 2 || fld (wordAt e.1 0) 2 8 < 64))
    && (es.map fun e => (e.kind, e.chan)).Nodup
    && (es.all fun e => convGood e.kind e.words
      && (e.kind ≠ 0 || !bitAt (e.words.getD 3 0) 0 ||
        reachGood t (reached i.cores (e.words.getD 3 0)) (fld (e.words.getD 3 0) 23 12)
          (mpRowCount (e.words.getD 0 0) (fld (e.words.getD 1 0) 0 13)) 1)
      && (e.kind ≠ 2 || !bitAt (e.words.getD 0 0) 1 || !bitAt (e.words.getD 1 0) 0 ||
        reachGood t (reached i.cores (e.words.getD 1 0)) (fld (e.words.getD 1 0) 23 12) 4096 1))
    && ((i.records 9).all fun r =>
      fld r 5 3 = 0 && fld r 20 12 = 0 && fld r 55 9 = 0 && 0x100 ≤ fld r 33 10 && fld r 33 10 < 0x200
        && (bells.contains (fld r 33 10 - 0x100) || bellBound s (fld r 33 10 - 0x100) job j)
        && !rowTaken s (fld r 0 5) (fld r 8 12))
    && (i.records 10).all fun r =>
      fld r 9 23 = 0 && fld r 0 9 < 320 && fld r 37 27 = 0
        && (if fld r 0 9 < 256 then es.any fun e => e.kind = 0 && e.chan = fld r 0 9
            else es.any fun e => e.kind = 2 && e.chan + 256 = fld r 0 9)

/-- The lowest breath without a job. -/
def freeBreath (s : State) : Option Nat := (List.range 64).find? fun j => jobState s j = 0

/-- The image's cores in reset, with their sections loaded: a state for the checks alone. -/
def trialCores (s : State) (i : Image) : State :=
  let s := { s with coreRegs := Sparse.clear s.coreRegs fun k => i.cores.contains (k / 0x8000) }
  i.cores.foldl (fun s n => loadCore i [1, 2, 3, 4, 5, 6] (zeroMem s (scratch n 0) 0x8000) n) s

/-- First reason to reject the image: reason and core (R381, R396, Table 14-6). Cores are tested in ascending ID. -/
def rejected (s : State) (i : Image) (job j : Nat) : Option (Nat × Option Nat) :=
  let t := trialCores s i
  let ovb := fld (i.breathWords.getD 1 0) 2 1 = 1
  let bad (reason : Nat) (good : Nat → Bool) : Option (Nat × Option Nat) :=
    match i.cores.find? fun n => !good n with
    | some n => some (reason, some n)
    | none => none
  if ¬ ckptGood s t i ∨ (i.sects.filter fun x => x.ty = 7).length > 1 then some (0x01, none)
  else placed s i job j
    <|> bad 0x03 (descsGood t ovb)
    <|> bad 0x04 (routesGood t i.cores ovb)
    <|> bad 0x05 (popsGood t)
    <|> bad 0x06 (plasticGood t)
    <|> bad 0x07 (splitsGood t)
    <|> bad 0x08 (queuesGood t)
    <|> (if convsGood s t i job j then none else some (0x09, none))
    <|> (if (breathBad i.breathWords i.y0 i.y1).isSome || fld (i.breathWords.getD 0 0) 8 56 ≠ 0
            || ((i.joined 7).drop 40).any (· ≠ 0) then some (0x0A, none) else none)
    <|> (if (i.convs job j).any fun e => convTaken s e.kind e.chan then some (0x0B, none) else none)

end Sys2Proof.Machine
end

