-- ==== Sys2Proof/Machine/ConvCmd.lean ====
section
/-! DEFINITION. Starting, stopping and configuring converter channels and streams (R184, R274 to R278, R386). -/
namespace Sys2Proof.Machine

/-- State code of a channel: 0 STOPPED, 1 RUNNING, 2 FAULTED. A stream runs while its entry is valid (log entry 32). -/
def convState (s : State) (kind c : Nat) : Nat :=
  if kind = 0 then rdF s (R.mpStatus c) 0 2 else if kind = 1 then rdF s (R.bellStatus c) 0 2
  else b2n (streamValid s c)

def setConvState (s : State) (kind c v : Nat) : State :=
  if kind = 0 then wrF s (R.mpStatus c) 0 2 v else if kind = 1 then wrF s (R.bellStatus c) 0 2 v
  else wr s (R.epStreamA c) (putBit (rd s (R.epStreamA c)) 0 (v = 1))

/-- Breath to which a channel or stream is configured. -/
def convBreath (s : State) (kind c : Nat) : Nat :=
  if kind = 0 then mpBreath s c else if kind = 1 then bellBreath s c else streamBreath s c

/-- Core that a MEMBRANE_READ channel reads (R280). -/
def mreadCore (s : State) (c : Nat) : Nat := rdF s (R.bellElems c) 32 10

/-- The state byte that a Mouthpiece channel's elements start with (R275); before its first window start a TTFS channel
holds what a window without a vector leaves, and emits nothing (DEDUCED, log entry 133). -/
def mpInit (s : State) (c : Nat) : Nat :=
  let cfg := rd s (R.mpConfig c)
  if fld cfg 0 3 = 4 then 255 else if fld cfg 0 3 = 2 then 0 else fld cfg 56 8

/-- The state a channel has when it starts: state bytes, position and buffer of a Mouthpiece channel (R274, R275), sums,
counts and R of a Bell channel (R278, Table 10-2). The hub makes the tags of what it writes (R321). -/
def convInit (s : State) (kind c : Nat) : State :=
  if kind = 0 then
    let b := List.replicate (mpN s c) (BitVec.ofNat 8 (mpInit s c))
    let s := if mpHasState s c then engineWrite s (mpJob s c) (rdF s (R.mpStateAddr c) 0 48) b else s
    let s := wr s (R.mpStatus c) (putFld (putFld (rd s (R.mpStatus c)) 2 1 0) 8 8 0)
    { s with conv := { s.conv with inBuf := Sparse.clear s.conv.inBuf fun k => k / 4096 = c } }
  else if kind = 1 then
    if bellMode s c = 5 then s
    else
      let r := if bellMode s c = 4 then 0xFFFFFFFF else 0
      engineWrite s (bellJob s c) (rdF s (R.bellStateAddr c) 0 48)
        ((List.range (bellN s c)).flatMap fun _ => List.replicate 12 0 ++ leBytes 4 r)
  else s

/-- A channel runs from now on; `ref` is the last step that counts as sampled (R184, R278). -/
def convRun (s : State) (kind c : Nat) (ref : BitVec 32) : State :=
  let s := setConvState s kind c 1
  if kind ≠ 1 then s
  else
    let s := setBellRef s c ref
    if bellMode s c = 5 then
      let n := mreadCore s c
      upCore (cw s n R.ovbConfig (w64 (1 + (ref + 1).toNat * 2 ^ 32))) n fun k => { k with mread := some ref }
    else s

/-- A channel stops; a membrane reader's core no longer holds its updates, unless another channel reads it (R184). -/
def convHalt (s : State) (kind c : Nat) : State :=
  let s := setConvState s kind c 0
  if kind = 1 ∧ bellMode s c = 5 ∧ ¬ ((List.range 256).any fun d =>
      bellRunning s d && bellMode s d = 5 && mreadCore s d = mreadCore s c) then
    cwB s (mreadCore s c) R.ovbConfig 0 false
  else s

/-- A sampling began for breath `j`'s job (R276). -/
def MpRun.mine (s : State) (j : Nat) (r : MpRun) : Bool :=
  fld (r.cfg.getD 0 0) 16 8 = jobId s j && fld (r.cfg.getD 0 0) 24 6 = j

/-- The job's samplings, its Event Port flits and its membrane reads under way end with its fault or release (R404, R401). -/
def dropSamplings (s : State) (j : Nat) : State :=
  let s := { s with conv := { s.conv with epOut := s.conv.epOut.filter fun x => x.breath ≠ j } }
  let s := (s.conv.mp.map (·.1)).foldl (fun s c => setMpRuns s c ((mpRuns s c).filter fun r => !r.mine s j)) s
  (s.conv.mread.map (·.1)).foldl (fun s c => if bellJob s c = jobId s j ∧ bellBreath s c = j then setMread s c [] else s) s

/-- Registers that a register image fills, and those of the counters (R386, Tables 10-1 and 10-3). -/
def convRegs (kind c : Nat) : List Nat :=
  if kind = 0 then (List.range 8).map fun k => R.mpConfig c + 8 * k
  else if kind = 1 then (List.range 6).map fun k => R.bellConfig c + 8 * k
  else [R.epStreamA c, R.epStreamB c]
def convCounters (kind c : Nat) : List Nat :=
  if kind = 0 then (List.range 6).map fun k => R.mpSamples c + 8 * k
  else if kind = 1 then (List.range 6).map fun k => R.bellSamples c + 8 * k
  else []

/-- A channel's counters start again from 0 (Tables 10-1 and 10-3). -/
def clearConvCounters (s : State) (kind c : Nat) : State := (convCounters kind c).foldl (fun s o => wr s o 0) s

/-- Write a register image, and clear the channel's counters. A stream's entry is stored with `VALID` = 0 (log entry
32). -/
def convWrite (s : State) (kind c : Nat) (l : List W64) : State :=
  let l := if kind = 2 then clrBit (l.getD 0 0) 0 :: l.drop 1 else l
  clearConvCounters (((convRegs kind c).zip l).foldl (fun s e => wr s e.1 e.2) s) kind c

/-- Every register of a channel or stream back at its reset value (R401). -/
def convClear (s : State) (kind c : Nat) : State :=
  if kind = 2 then wr (wr s (R.epStreamA c) 0) (R.epStreamB c) 0
  else
    let base := if kind = 0 then R.mpConfig c else R.bellConfig c
    { s with regs := Sparse.clear s.regs fun o => base ≤ o && o < base + 0x100 }

/-! ### The commands (R386) -/

def convKind (c : Cmd) : Nat := c.f 1 0 2
def convChan (c : Cmd) : Nat := c.f 1 2 8

/-- The channel or stream that C1 names exists. -/
def convNamed (c : Cmd) : Bool := convKind c ≠ 3 && (convKind c ≠ 2 || convChan c < 64)

/-- Journal target of a channel (Table 14-7). -/
def convTarget (c : Cmd) : Nat := convKind c + convChan c * 4

/-- A route of the image fits the job it is bound to, if one is loaded (R93, R271, R287). -/
def convFits (s : State) (kind : Nat) (l : List W64) : Bool :=
  let route := if kind = 0 then l.getD 3 0 else l.getD 1 0
  let job := if kind = 0 then fld (l.getD 0 0) 16 8 else fld (l.getD 0 0) 10 8
  match breathOf s job with
  | none => true
  | some j =>
    kind = 1 || !bitAt route 0 || (kind = 2 && !bitAt (l.getD 0 0) 1)
      || reachGood s (reached (coresOf s j) route) (fld route 23 12)
          (if kind = 0 then mpRowCount (l.getD 0 0) (fld (l.getD 1 0) 0 13) else 4096) 1

/-- CONV_CONFIG. -/
def convConfigBody (c : Cmd) (s : State) : Ans :=
  if ¬ convNamed c then .badParam s 1
  else if convState s (convKind c) (convChan c) ≠ 0 then .badState s (convState s (convKind c) (convChan c))
  else withSource s none (c.c 2).toNat 256 2 fun l s =>
    let n := convWords (convKind c)
    let w := wordsOf n l
    if (l.drop (8 * n)).any (· ≠ 0) ∨ ¬ convGood (convKind c) w ∨ ¬ convFits s (convKind c) w then .badParam s 2
    else .ends (convWrite s (convKind c) (convChan c) w) 0 0 [] (c.digestChange 5 (convTarget c))

/-- Lock of the channel that C1 names. -/
def c1Conv (s : State) (c : Cmd) : List Lock := [convLock s (convKind c) (convChan c)]

def execConvConfig (src : Src) (s : State) :=
  act s fun s => serve 0x0601 [low 9, adr] (c1Conv s) convConfigBody src s

/-- The last step that a channel started now counts as sampled: the last closed one, for a membrane reader the last
started one (R184, R278). -/
def startRef (s : State) (kind c j : Nat) : BitVec 32 :=
  if kind = 1 ∧ bellMode s c = 5 then (brth s j).started else (brth s j).closed

/-- CONV_START. -/
def convStartBody (c : Cmd) (s : State) : Ans :=
  let kind := convKind c
  let ch := convChan c
  if ¬ convNamed c then .badParam s 1
  else if convState s kind ch ≠ 0 then .badState s (convState s kind ch)
  else match breathOf s (convJob s kind ch) with
    | none => .notFound s
    | some j =>
      if convBreath s kind ch ≠ j then .badParam s 1
      else .ends (convRun (convInit s kind ch) kind ch (startRef s kind ch j)) 0 0 []
        (valueChange 5 (convTarget c) 1 0 1)

def execConvStart (src : Src) (s : State) :=
  act s fun s => serve 0x0602 [low 9] (c1Conv s) convStartBody src s

/-- CONV_STOP; on a stopped channel it changes nothing and makes no journal entry. -/
def convStopBody (c : Cmd) (s : State) : Ans :=
  let kind := convKind c
  let ch := convChan c
  if ¬ convNamed c then .badParam s 1
  else if convState s kind ch = 0 then .reads s []
  else .ends (convHalt s kind ch) 0 0 [] (valueChange 5 (convTarget c) 1 (convState s kind ch) 0)

def execConvStop (src : Src) (s : State) :=
  act s fun s => serve 0x0603 [low 9] (c1Conv s) convStopBody src s

end Sys2Proof.Machine
end

