-- ==== Sys2Proof/Machine/Ckpt.lean ====
section
/-! DEFINITION. Checkpoints: what a slot holds, which slot is valid and newest, and the restore of a job's state
(R77, R166, R185, R234, R277, R405 to R410). -/
namespace Sys2Proof.Machine

/-! ### Slots (R407, R409, Table 15-6) -/

/-- Address of block `b` of slot `k` of breath `j`'s job. -/
def slotBlock (s : State) (j k b : Nat) : Nat := (jobOf s j).ckptBase + k * (jobOf s j).slotBytes + 256 * b

/-- Word `i` of a slot's commit record. -/
def commitWord (s : State) (j k i : Nat) : W64 := w64 (ldU s (slotBlock s j k 0 + 8 * i) 8)

/-- First 16 bytes of the image measurement. -/
def measHead (s : State) (j : Nat) : List Byte := (jobOf s j).measure.take 16

/-- Slot `k` is valid for the job (R409). -/
def slotValid (s : State) (j k : Nat) : Bool :=
  let w := commitWord s j k
  fld (w 0) 0 32 = 0x4B435052 && fld (w 0) 48 16 = 1
    && fld (w 7) 0 32 = crc32c (ldN s (slotBlock s j k 0) 56)
    && fld (w 0) 32 8 = jobId s j && fld (w 0) 40 4 = (jobOf s j).pkg
    && ldN s (slotBlock s j k 0 + 32) 16 = measHead s j

/-- Generation, step and content blocks of a slot. -/
def slotGen (s : State) (j k : Nat) : Nat := (commitWord s j k 1).toNat
def slotStep (s : State) (j k : Nat) : Nat := fld (commitWord s j k 2) 0 32
def slotCount (s : State) (j k : Nat) : Nat := fld (commitWord s j k 2) 32 32

/-- The valid slot with the larger generation. -/
def newestSlot (s : State) (j : Nat) : Option Nat :=
  if slotValid s j 0 then (if slotValid s j 1 ∧ slotGen s j 0 < slotGen s j 1 then some 1 else some 0)
  else if slotValid s j 1 then some 1 else none

/-- The target slot: the one that does not hold the newest valid commit (R407, step 1). -/
def targetSlot (s : State) (j : Nat) : Nat := if newestSlot s j = some 0 then 1 else 0

/-- Generation that the next commit takes: one above the newest valid. -/
def nextGen (s : State) (j : Nat) : Nat :=
  match newestSlot s j with
  | some k => slotGen s j k + 1
  | none => 1

/-- `JOB_CKPT` of breath `j` (Table 15-9). -/
def noteCkpt (s : State) (j : Nat) : State :=
  match newestSlot s j with
  | some k => wr s (R.jobCkpt j) (w64 (slotStep s j k + 2 ^ 32 + k * 2 ^ 33))
  | none => wr s (R.jobCkpt j) 0

/-- A slot made invalid: block 0 as 256 zero bytes. -/
def zeroSlot (s : State) (j k : Nat) : State :=
  stBlock s (slotBlock s j k 0) (List.replicate 256 0) (jobId s j) false false false

/-- CRC-32C over the `CRC` fields of the tags of a slot's content blocks (Table 15-6). -/
def contentCrc (s : State) (j k n : Nat) : Nat :=
  crc32c ((List.range n).flatMap fun i => leBytes 4 (fld (tagAt s (slotBlock s j k (i + 1))) 0 32))

/-- Write a slot's commit record (R407, step 4). -/
def writeCommit (s : State) (j k gen step blocks : Nat) : State :=
  let head := leBytes 8 (0x4B435052 + jobId s j * 2 ^ 32 + (jobOf s j).pkg % 16 * 2 ^ 40 + 2 ^ 48) ++ leBytes 8 gen
    ++ leBytes 8 (step % 2 ^ 32 + blocks % 2 ^ 32 * 2 ^ 32) ++ leBytes 8 (contentCrc s j k blocks) ++ measHead s j
    ++ leBytes 8 (nowNs s)
  let rec_ := head ++ leBytes 8 (crc32c head)
  stBlock s (slotBlock s j k 0) (rec_ ++ List.replicate (256 - rec_.length) 0) (jobId s j) false false false

/-! ### What a core saves (R406) -/

/-- A core's areas: offset and length, the mutable sections and then the delay rings. -/
def coreAreas (s : State) (j n : Nat) : List (Nat × Nat) :=
  (((jobOf s j).mutables.filter fun m => m.1 = n).map fun m => m.2) ++ [(0x40000, 0x20000)]

/-- Offset in the core of content block `k`, when it lies in an area. -/
def areaBlock : List (Nat × Nat) → Nat → Option Nat
  | [], _ => none
  | (o, len) :: r, k => if k < len / 256 then some (o + 256 * k) else areaBlock r (k - len / 256)

/-- Blocks of a core's areas. -/
def areaCount (l : List (Nat × Nat)) : Nat := (l.map fun a => a.2 / 256).sum

/-- The register record: three blocks. -/
def regRecord (s : State) (n : Nat) : List Byte :=
  let words := [cr s n R.coreStep, cr s n R.plasStep, cr s n R.plasMod] ++ (List.range 6).map fun e => cr s n (R.waitState e)
  let binds := if queuesUsed s n then (List.range 64).map (binding s n) else List.replicate 64 0
  bytesOf (words ++ binds) ++ List.replicate 184 0

/-- Content block `k` of core `n` as it stands. -/
def coreBlock (s : State) (j n k : Nat) : List Byte :=
  match areaBlock (coreAreas s j n) k with
  | some o => ldN s (coreBase n + o) 256
  | none => ((regRecord s n).drop (256 * (k - areaCount (coreAreas s j n)))).take 256

/-- Content blocks of core `n`, and the block of the slot at which they begin. -/
def coreContent (s : State) (j n : Nat) : Nat := areaCount (coreAreas s j n) + 3
def coreFirst (s : State) (j n : Nat) : Nat :=
  1 + (((coresOf s j).filter fun m => m < n).map (coreContent s j)).sum

/-! ### The hub record (R277, R279, R406; layout: log entry 35) -/

/-- Channels of breath `j`'s job that are not stopped: kind 0 Mouthpiece, 1 Bell. -/
def jobChannels (s : State) (j : Nat) : List (Nat × Nat) :=
  ((List.range 2).flatMap fun kind => (List.range 256).map fun c => (kind, c)).filter fun e =>
    convState s e.1 e.2 ≠ 0 && convBreath s e.1 e.2 = j && convJob s e.1 e.2 = jobId s j

/-- The state that a channel saves: a header of kind, channel, `ARMED`, read position and elements, then state bytes, or the
send binding (R235) and the R values. -/
def chanRecord (s : State) (e : Nat × Nat) : List Byte :=
  if e.1 = 0 then
    let w := rd s (R.mpStatus e.2)
    leBytes 4 (e.2 * 4 + fld w 2 1 * 2 ^ 10 + fld w 8 8 * 2 ^ 11 + mpN s e.2 * 2 ^ 19)
      ++ ldN s (rdF s (R.mpStateAddr e.2) 0 48) (mpN s e.2)
  else
    let n := if bellMode s e.2 = 5 then 0 else bellN s e.2
    leBytes 4 (1 + e.2 * 4 + n * 2 ^ 19) ++ leBytes 8 (rd s (R.bellBind e.2)).toNat
      ++ (List.range n).flatMap fun k => ldN s (rdF s (R.bellStateAddr e.2) 0 48 + 16 * k + 12) 4

/-- The hub record, padded to whole blocks. -/
def hubRecord (s : State) (j : Nat) : List Byte :=
  let l := leBytes 8 (rd s (R.stepCount j)).toNat ++ leBytes 8 (rd s (R.brthClosed j)).toNat
    ++ (jobChannels s j).flatMap (chanRecord s) ++ leBytes 4 0
    ++ (coresOf s j).flatMap fun n => (usedQueues s n).map fun q => BitVec.ofNat 8 (qEpoch s n q)
  l ++ List.replicate (cdiv l.length 256 * 256 - l.length) 0

/-- Block at which the hub record begins: after every core's content. -/
def hubFirst (s : State) (j : Nat) : Nat := 1 + ((coresOf s j).map (coreContent s j)).sum

/-- Write bytes as blocks of the slot, with the job's tags. -/
def putBlocks (job : Nat) : Nat → State → Nat → List Byte → State
  | 0, s, _, _ => s
  | n + 1, s, a, l => putBlocks job n (stBlock s a (l.take 256) job false false false) (a + 256) (l.drop 256)

/-- Apply the channel states of a hub record, up to their end mark. A channel that is not the job's any more keeps its own. -/
def applyChans (j : Nat) : Nat → State → List Byte → State
  | 0, s, _ => s
  | k + 1, s, l =>
    let w := w64 (leNat (l.take 4))
    let kind := fld w 0 2
    let c := fld w 2 8
    let n := fld w 19 13
    let body := if kind = 0 then n else 8 + 4 * n
    if w = 0 then s
    else
      let mine := convJob s kind c = jobId s j && convBreath s kind c = j
      let d := (l.drop 4).take body
      let s :=
        if ¬ mine then s
        else if kind = 0 then
          (let s := if mpHasState s c then engineWrite s (mpJob s c) (rdF s (R.mpStateAddr c) 0 48) d else s
           wr s (R.mpStatus c) (putFld (putFld (rd s (R.mpStatus c)) 2 1 (fld w 10 1)) 8 8 (fld w 11 8)))
        else (List.range n).foldl (fun s e =>
          engineWrite s (bellJob s c) (rdF s (R.bellStateAddr c) 0 48 + 16 * e + 12) ((d.drop (8 + 4 * e)).take 4))
            (wr s (R.bellBind c) (wordAt d 0))
      applyChans j k s ((l.drop 4).drop body)

/-! ### Cores reset and reloaded (R77, R185, R234, Table 15-8) -/

/-- Record the epochs of core `n`'s queues (R234). -/
def noteEpochs (s : State) (n : Nat) : State :=
  { s with mbox := { s.mbox with epochs := (usedQueues s n).foldl (fun m q =>
      Sparse.set (fun _ => 0) m (n * 64 + q) (qEpoch s n q + 1)) s.mbox.epochs } }

/-- The queues of core `n` CLOSED, its status words and objects cleared (R234, R262). -/
def clearQueues (s : State) (n : Nat) : State :=
  if queuesUsed s n then
    let s := (usedQueues s n).foldl (fun s q => setQState s n q 0) s
    let s := stZ s (scratch n (crF s n R.qConfig 16 15)) 256
    stZ s (scratch n (crF s n R.qConfig 32 15)) 512
  else s

/-- A core reset: registers, rings, Overblow structures, queues and objects are lost; a debug halt, the test age and the
marks stay (R415, Table 15-8). A job restart keeps the counters (R102). -/
def resetCore (s : State) (n : Nat) (keepCounters : Bool) : State :=
  let s := clearQueues s n
  let s := { s with coreRegs := Sparse.clear s.coreRegs fun k => k / 0x8000 = n
      && !(keepCounters && (coreCounter true (k % 0x8000) || coreCounter false (k % 0x8000))) }
  let c := core s n
  let s := setCore s n { testAt := c.testAt, testFailed := c.testFailed, bad := c.bad, testing := c.testing,
                         retest := c.retest, halted := c.halted, haltReq := c.haltReq, hostWaits := c.hostWaits }
  let s := cwB s n R.coreStatus 2 c.halted
  let s := zeroMem s (coreBase n + 0x40000) 0x20000
  setIsland s n 3

/-- The step registers of a core that has computed up to step `c` (R77). -/
def setSteps (s : State) (n : Nat) (start c : BitVec 32) : State :=
  cwB (cw s n R.coreStep (w64 (start.toNat + c.toNat * 2 ^ 32))) n R.coreStatus 7 true

/-- Reopen the queues of core `n` that stand OPEN, each with an epoch above the last one recorded, or above its own when
a checkpoint is restored; the others are CLOSED (R233, R234). -/
def reopenQueues (restored : Bool) (s : State) (n : Nat) : State :=
  (usedQueues s n).foldl (fun s q =>
    let e := Sparse.get (fun _ => 0) s.mbox.epochs (n * 64 + q)
    if qState s n q ≠ 1 then setQState s n q 0
    else if e ≠ 0 then openQ (setQw s n q 0 (putFld (qw s n q 0) 4 8 (e - 1))) n q
    else if restored then openQ s n q
    else s) s

/-- Put a core under its job: `ASSIGNED`, `JOB_ID`, `BREATH`, `L0`, and `OVB` as the breath has it (R169, R396, R399). -/
def assignCore (s : State) (j n : Nat) : State :=
  let w := putFld (putFld (setBit (cr s n R.coreConfig) 0) 8 8 (jobId s j)) 16 6 j
  cw s n R.coreConfig (putBit (putBit w 4 (brthL0 s j)) 3 (ovbDepth s j = 1))

/-- An island's state while no engine works: IDLE in a RUNNING job (Table 16-4). -/
def islandIdle (s : State) (n : Nat) : State := setIsland s n 1

/-- Reload core `n` from the image: registers and constant scratch, static synapses where asked, and the mutable
sections when no checkpoint gives them (R404, step 6; R401). -/
def reloadCore (i : Image) (j : Nat) (static fresh : Bool) (s : State) (n : Nat) : State :=
  let s := islandIdle (resetCore s n true) n
  let s := loadCore i ([1] ++ (if static then [2] else []) ++ [4] ++ (if fresh then [3, 5, 6] else [])) s n
  assignCore s j n

/-! ### Restore (R409) -/

/-- Check a slot's content blocks from block `b` on (R322, R409). -/
def checkSlot (j k : Nat) : Nat → State → Nat → Bool × State
  | 0, s, _ => (true, s)
  | m + 1, s, b =>
    let r := checkAt s (slotBlock s j k b) (some (jobId s j))
    if r.1 = .good then checkSlot j k m r.2 (b + 1) else (false, r.2)

/-- A slot passes the checks of a restore. -/
def slotGood (s : State) (j k : Nat) : Bool × State :=
  let n := slotCount s j k
  let r := checkSlot j k n s 1
  (r.1 && contentCrc s j k n = fld (commitWord s j k 3) 0 32, r.2)

/-- The slot that a restore uses, after those that fail their checks have been marked invalid, which the journal records
(R409). -/
def usableSlot (j : Nat) : Nat → State → Option Nat × State
  | 0, s => (none, s)
  | m + 1, s =>
    match newestSlot s j with
    | none => (none, s)
    | some k =>
      let r := slotGood s j k
      if r.1 then (some k, r.2)
      else usableSlot j m (journalAct (zeroSlot r.2 j k) ⟨1, jobTarget s j, 0, crcOf 4 k⟩)

/-- Write the areas of core `n` back from slot `k`. -/
def restoreAreas (j k n : Nat) : List (Nat × Nat) → State → Nat → State
  | [], s, _ => s
  | (o, len) :: r, s, b =>
    restoreAreas j k n r (stN s (coreBase n + o) (ldN s (slotBlock s j k b) (len / 256 * 256))) (b + len / 256)

/-- The register record of core `n` written back, with the step registers of step `c` (R77, R166). A restored wait goes
on with the time that was left to it. -/
def restoreRegs (s : State) (n : Nat) (l : List Byte) (c : BitVec 32) : State :=
  let s := cw (cw s n R.plasStep (wordAt l 8)) n R.plasMod (wordAt l 16)
  let s := (List.range 6).foldl (fun s e =>
    let w := wordAt l (24 + 8 * e)
    let s := cw s n (R.waitState e) w
    if bitAt w 5 then
      let v := freshValue s
      upCore v.2 n fun k => { k with
        waitFrom := Sparse.set (fun _ => 0) k.waitFrom e (2 * nowNs s + b2n (fld w 40 24 ≠ 0))
        polls := if bitAt w 7 then Sparse.set (fun _ => 0) k.polls e v.1.toNat else k.polls }
    else s) s
  let s := if queuesUsed s n then
      (List.range 64).foldl (fun s b => setBinding s n b (wordAt l (72 + 8 * b))) s else s
  setSteps s n c c

/-- Restore core `n` from slot `k`. -/
def restoreCore (j k : Nat) (c : BitVec 32) (s : State) (n : Nat) : State :=
  let b := coreFirst s j n
  let areas := coreAreas s j n
  let s := restoreAreas j k n areas s b
  let s := restoreRegs s n (ldN s (slotBlock s j k (b + areaCount areas)) 768) c
  reopenQueues true s n

/-- The schedule of a breath after step `c` has been computed (R73, R401). -/
def setClosed (s : State) (j : Nat) (stepCount closed : W64) (c : BitVec 32) : State :=
  let s := wr (wr s (R.stepCount j) stepCount) (R.brthClosed j) closed
  let b := brth s j
  noteOpen (setBrth s j { b with acc := [], closed := c, started := c, withheld := false, cond := [], closedAt := none }) j

/-- Restore breath and cores of the job from slot `k`; answers step `c`. -/
def restoreSlot (s : State) (j k : Nat) : BitVec 32 × State :=
  let c := BitVec.ofNat 32 (slotStep s j k)
  let s := (coresOf s j).foldl (restoreCore j k c) s
  let b := hubFirst s j
  let l := ldN s (slotBlock s j k b) (256 * (slotCount s j k + 1 - b))
  let s := setClosed s j (wordAt l 0) (wordAt l 8) c
  (c, applyChans j 512 s (l.drop 16))

/-- The job afresh at step 0, its cores loaded from the image (R77, R401). -/
def freshStart (s : State) (j : Nat) : State :=
  let s := (coresOf s j).foldl (fun s n => reopenQueues false (setSteps s n 0 (BitVec.ofNat 32 0xFFFFFFFF)) n) s
  setClosed s j 0 0 (BitVec.ofNat 32 0xFFFFFFFF)

end Sys2Proof.Machine
end

