-- ==== Sys2Proof/Machine/Jobs.lean ====
section
/-! DEFINITION. The life of a job: cancelled commands, suspension and release, drains, faults, restarts and the
bring-up of cores from image and checkpoint (R66, R67, R222, R225, R371, R397, R400 to R409). -/
namespace Sys2Proof.Machine

/-! ### Release of a suspension (R66, R67) -/

/-- Add a reason to a job that is suspended already. -/
def addReason (s : State) (j why : Nat) : State :=
  let b := brth s j
  setBrth s j { b with asked := b.asked ++ [why] }

/-- Ask a running job to suspend for reason `why`, or keep a suspended one so (R66). -/
def holdJob (s : State) (j why : Nat) : State :=
  if (brth s j).asked.contains why then s
  else if jobState s j = 3 then askSuspend s j why
  else if jobState s j = 4 then addReason s j why
  else s

/-- A reason for a suspension ends: with the last one the job runs again (R67). A worker breath waits for its manager's
START (R364). -/
def releaseJob (s : State) (j why : Nat) : State :=
  if ¬ (brth s j).asked.contains why then s
  else
    let s := unaskSuspend s j why
    if ¬ (brth s j).asked.isEmpty ∨ jobState s j ≠ 4 ∨ brthHier s j then s
    else resumeBreath (setJobState s j 3) j

/-! ### Drains (R222, R225) -/

/-- `MESH_DRAIN_STATUS.STATE`: 0 idle, 1 fencing, 2 sweeping, 3 applying. -/
def drainState (s : State) : Nat := rdF s R.meshDrainStatus 0 2
def setDrainState (s : State) (v : Nat) : State := wrF s R.meshDrainStatus 0 2 v

def setDrains (s : State) (l : List Drain) : State := { s with mesh := { s.mesh with drains := l } }

/-- Ask for a drain of the jobs on breaths `l`: for running command `run`, or for a restart (R225). -/
def requestDrain (s : State) (l : List Nat) (run : Option Nat) : State := setDrains s (s.mesh.drains ++ [{ breaths := l, run := run }])

/-- The running drain ends: the fences are cleared, held flits go on, and its jobs resume (R222, step 6). -/
def finishDrain (s : State) : State :=
  match s.mesh.drains with
  | [] => s
  | d :: rest =>
    let s := (List.range 4).foldl (fun s f => wr s (R.meshFence f) 0) s
    let s := setDrainState (setDrains s rest) 0
    d.breaths.foldl (fun s j => releaseJob s j 4) (releaseHeld s)

/-- The drain of a cancelled table change is withdrawn. -/
def dropDrain (s : State) (id : Nat) : State :=
  match s.mesh.drains with
  | d :: _ =>
    if d.run = some id ∧ drainState s ≠ 0 then finishDrain s
    else setDrains s (s.mesh.drains.filter fun x => x.run ≠ some id)
  | [] => s

/-! ### Running commands of a job (R371) -/

/-- The job that a running command is for. -/
def Run.onJob (r : Run) (id : Nat) : Bool :=
  r.locks.contains (.job id) || ((r.opcode = 0x0401 || r.opcode = 0x0303) && r.f 1 0 8 = id)

/-- Forget a checkpoint of breath `j` (R407): its slot stays invalid. -/
def dropCkpt (s : State) (j : Nat) : State :=
  releaseJob (setJob s j { jobOf s j with ckpt := none }) j 3

/-- The snapshot that running command `id` wants is withdrawn, and the holds it keeps end (R165). -/
def dropSnapshot (s : State) (id : Nat) : State :=
  (List.range 1024).foldl (fun s n =>
    match (core s n).snapshot with
    | some (r, _) => if r = id then cwB (upCore s n fun c => { c with snapshot := none, snapDone := false }) n R.plasStatus 3 false
        else s
    | none => s) s

/-- A test wanted for breath `j`'s job is withdrawn. -/
def dropTest (s : State) (j : Nat) : State :=
  releaseJob (setJob s j { jobOf s j with testWanted := false }) j 5

/-- What a running command had begun for breath `j`'s job ends. -/
def withdrawRun (s : State) (j : Nat) (r : Run) : State :=
  if r.opcode = 0x0301 then dropCkpt (unaskSuspend s j 3) j
  else if r.opcode = 0x0401 then dropSnapshot s r.id
  else if r.opcode = 0x010B then dropDrain s r.id
  else if r.opcode = 0x0A01 then dropTest s j
  else s

/-- A running command completes with CANCELLED, and what it had begun ends. It is journalled if it had changed something
(R371, R391). -/
def cancelRun (s : State) (j : Nat) (r : Run) : State :=
  let changed := r.opcode = 0x0301 && (jobOf s j).ckpt.isSome
  endRun (withdrawRun s j r) r 0x02 0 [] (if changed then r.digestChange 1 (jobTarget s j) else none)

/-- Cancel the job's running commands: those in the background, and with `all` also the commands that wait for its
suspension (R371, R404). -/
def cancelJob (s : State) (j : Nat) (all : Bool) : State :=
  (s.mbox.runs.filter fun r => r.onJob (jobId s j) && (all || r.background)).foldl (fun s r => cancelRun s j r) s

/-- Answer the running command `op` of breath `j`'s job. -/
def answerRuns (s : State) (j op status detail : Nat) (p : List W64) (change : Run → Option Change) : State :=
  (s.mbox.runs.filter fun r => r.opcode = op && r.onJob (jobId s j)).foldl
    (fun s r => endRun s r status detail p (change r)) s

/-! ### Converters of a job -/

/-- Channels and streams of breath `j`'s job that are not stopped: kind 0 Mouthpiece, 1 Bell, 2 stream. -/
def jobConvs (s : State) (j : Nat) : List (Nat × Nat) :=
  jobChannels s j ++ ((List.range 64).filter fun k =>
    streamValid s k && streamBreath s k = j && convJob s 2 k = jobId s j).map fun k => (2, k)

/-- A channel's configuration names breath `j` and its job. -/
def convMine (s : State) (j : Nat) (e : Nat × Nat) : Bool :=
  convBreath s e.1 e.2 = j && convJob s e.1 e.2 = jobId s j

/-! ### The image read again (R397) -/

/-- The container as it now stands in memory; from host memory it is fetched (R345, R397). -/
def imageNow (s : State) (j : Nat) : Option Image × State :=
  let w := jobOf s j
  if regionOf s w.imageAddr = .host then
    match readSource none (w.imageBytes / 256) s w.imageAddr with
    | (.data l, s) => (some (imageOf l), s)
    | (_, s) => (none, s)
  else (some (imageOf (ldN s w.imageAddr w.imageBytes)), s)

/-- The blocks of a section pass their tag checks. -/
def blocksGood : Nat → State → Nat → Bool × State
  | 0, s, _ => (true, s)
  | n + 1, s, a =>
    let r := checkAt s a none
    if r.1 = .good then blocksGood n r.2 (a + 256) else (false, r.2)

/-- Sections are unchanged: tags and digests (R397). -/
def sectsIntact (base : Nat) (host : Bool) (i : Image) : List Sect → State → Bool × State
  | [], s => (true, s)
  | x :: r, s =>
    let t := if host then (true, s) else blocksGood (x.len / 256) s (base + x.off)
    if t.1 ∧ sha256 (i.bytesOf x) = x.digest then sectsIntact base host i r t.2 else (false, t.2)

/-- The image of breath `j`'s job, if the sections of the given types are unchanged; static synapse sections count for
the cores in `static` alone. -/
def checkedImage (s : State) (j : Nat) (types : List Nat) (static : List Nat) : Option Image × State :=
  match imageNow s j with
  | (none, s) => (none, s)
  | (some i, s) =>
    let base := (jobOf s j).imageAddr
    let r := sectsIntact base (regionOf s base = .host) i
      (i.sects.filter fun x => types.contains x.ty || (x.ty = 2 && static.contains x.core)) s
    (if r.1 then some i else none, r.2)

/-! ### Shared configuration of an image (R477) -/

/-- Write a breath's configuration (Tables 2-5 and 2-6). -/
def writeBreathConfig (s : State) (j : Nat) (l : List W64) : State :=
  let w (k : Nat) := l.getD (k - 1) 0
  let cfg := putFld (putFld (putFld (putFld (rd s (R.brthConfig j)) 0 2 (fld (w 2) 0 2)) 2 1 (fld (w 2) 2 1)) 8 7
    (fld (w 2) 8 7)) 24 5 (fld (w 2) 24 5)
  let s := wr (wr s (R.brthConfig j) cfg) (R.brthPeriod j) (w64 (fld (w 3) 0 32))
  wr (wr s (R.brthFrame j) (w 4)) (R.brthLagLimit j) (w64 (fld (w 5) 0 8))

/-- Converter entries of the image: their registers, the counters kept or cleared (R477). -/
def loadConvs (i : Image) (s : State) (j : Nat) (clear : Bool) : State :=
  (i.convs (jobId s j) j).foldl (fun s e =>
    if clear then convWrite s e.kind e.chan e.words
    else
      let l := if e.kind = 2 then clrBit (e.words.getD 0 0) 0 :: e.words.drop 1 else e.words
      ((convRegs e.kind e.chan).zip l).foldl (fun s x => wr s x.1 x.2) s) s

/-- Store a row map entry (R269). -/
def setRowMap (s : State) (p row v : Nat) : State := stU s (0x001001E80000 + p * 0x4000 + 4 * row) 4 v

/-- Row map and peer injection entries of the image (R269, R363, R477). -/
def loadMaps (i : Image) (s : State) : State :=
  let s := (i.records 9).foldl (fun s r => setRowMap s (fld r 0 5) (fld r 8 12) (fld r 32 32)) s
  (i.records 10).foldl (fun s r => wr s (R.peerInj (fld r 0 9)) (w64 (fld r 32 32))) s

/-- Sections 0x07 to 0x0A again (R404, step 6); without a 0x07 section the breath keeps its configuration. -/
def reloadShared (i : Image) (s : State) (j : Nat) : State :=
  let s := if i.sects.any fun x => x.ty = 7 then writeBreathConfig s j i.breathWords else s
  loadMaps i (loadConvs i s j false)

/-! ### Bring-up (R401, R404) -/

/-- What the last start or restart recorded is cleared: faults, the quiet count, what took the job out of R70 (R104,
R265, R471). `fresh` also clears the late inputs, which count from the last start from the image. DESIGN CHOICE: no rule
says when `BRTH_FAULT` returns to 0; here every start and restart clears it (log entry 141). -/
def clearMarks (s : State) (j : Nat) (fresh : Bool) : State :=
  let s := wr (wr s (R.brthFault j) 0) (R.dlQuiet j) 0
  let s := if fresh then wr s (R.jobDeterminism j) 0 else clrB s (R.jobDeterminism j) 1
  setJob s j { jobOf s j with windowNoted := false, outside := false, staticReload := [], resume := [] }

/-- Load the cores and restore the job: from slot `k`, or afresh. `convs` are the channels that run afterwards, and
`static` the cores whose static synapses are loaded too. Answers the last step computed. -/
def bringUp (i : Image) (s : State) (j : Nat) (k : Option Nat) (convs : List (Nat × Nat)) (static : List Nat) :
    BitVec 32 × State :=
  let s := (coresOf s j).foldl (fun s n => reloadCore i j (static.contains n) k.isNone s n) s
  let convs := convs.filter (convMine s j)
  let s := convs.foldl (fun s e => convInit s e.1 e.2) s
  let r := match k with
    | some k => restoreSlot s j k
    | none => (BitVec.ofNat 32 0xFFFFFFFF, freshStart s j)
  let s := convs.foldl (fun s e => convRun s e.1 e.2 r.1) r.2
  (r.1, noteCkpt (clearMarks s j k.isNone) j)

/-! ### Restarts (R404) -/

/-- Hub DMA engines that check for the job stop (R404, step 3). -/
def stopDma (s : State) (id : Nat) : State :=
  (List.range 8).foldl (fun s e => if dmaState s e = 1 && dmaChecks s e && dmaJob s e = id then wrF s (R.dmaStatus e) 0 2 0 else s) s

/-- A restart begins: the job is RESTARTING, its cores take nothing in any more, its channels and DMA engines stop, and
its rectangle is to be drained (R404, steps 1 to 4). `before` is the state that the job returns to. -/
def beginRestart (s : State) (j before : Nat) : State :=
  let s := clrB (setBrthState (setJobState s j 5) j 4) (R.brthStatus j) 7
  let convs := jobConvs s j
  let s := setBrth s j { brth s j with asked := if before = 4 then [1] else [] }
  let s := setJob s j { jobOf s j with before := before, resume := convs, ckpt := none, testing := false, testWanted := false }
  let s := (coresOf s j).foldl (fun s n => cwB s n R.coreConfig 0 false) s
  let s := dropSamplings (convs.foldl (fun s e => convHalt s e.1 e.2) s) j
  requestDrain (stopDma s (jobId s j)) [j] none

/-- A job is FAILED, with fault `code` recorded (R403). -/
def failJob (s : State) (j code : Nat) : State :=
  let s := wrF s (R.jobState j) 16 8 code
  setB (setB (setJobState (setBrthState s j 4) j 7) (R.jobEvent j) 1) (R.jobEvent j) 2

/-- The state that a job returns to after a restart (R404, step 8). -/
def stateBefore (s : State) (j : Nat) : Nat :=
  let b := brth s j
  if jobState s j = 8 then (jobOf s j).before
  else if jobState s j = 6 then 6
  else if jobState s j = 4 ∧ (b.asked.contains 1 ∨ b.asked.isEmpty) then 4
  else 3

/-- Codes that Table 15-5 marks terminal. -/
def terminal (code : Nat) : Bool := [0x0C, 0x0D, 0x0E, 0x0F, 0x10, 0x12].contains code

/-- Journal an own action on breath `j`'s job that changes its state from `old` (R391, Table 14-8). -/
def journalJob (s : State) (j code old : Nat) : State :=
  journalOwn s code ⟨1, jobTarget s j, crcOf 1 old, crcOf 1 (jobState s j)⟩

/-- Breath `j`'s job takes fault `code` of step `step` (R402 to R404, steps 1 to 4). A worker's part does not count the
restart: the manager's count is the job's (R411). -/
def takeFault (s : State) (j code step : Nat) : State :=
  let old := jobState s j
  let before := stateBefore s j
  let tested := if old = 8 then coresOf s j else []
  let s := cancelJob s j true
  let limited := !terminal code && decide ((jobOf s j).limit ≤ recentRestarts s j)
  let code' := if limited then 0x12 else code
  let s := wrF (wrF s (R.jobState j) 16 8 code') (R.jobState j) 32 32 step
  let s := setB (setBrthState s j 4) (R.jobEvent j) 1
  let s := setJob s j { jobOf s j with ckpt := none }
  if terminal code' then
    let s := clrB (setBrth s j { brth s j with asked := [] }) (R.brthStatus j) 7
    journalJob (failJob s j code') j code' old
  else
    let w := jobOf s j
    let s := setJob s j { w with
      restarts := if brthHier s j then w.restarts else nowNs s :: w.restarts.filter fun t => nowNs s < t + 3600000000000
      staticReload := w.staticReload ++ tested }
    let n := rdF s (R.jobRestarts j) 32 16
    let s := if brthHier s j then s else wrF s (R.jobRestarts j) 32 16 (min (n + 1) 65535)
    journalJob (beginRestart s j before) j code' old

/-- The row JOB_FAULT: a fault that has been raised is taken, or one in another package's part is relayed to this one
(R411). -/
def jobFault (s : State) (id code step : Nat) : State :=
  match breathOf s id with
  | none => s
  | some j =>
    let f : Raised := ⟨j, code, step⟩
    let st := jobState s j
    let may := st = 3 ∨ st = 4 ∨ st = 6 ∨ st = 8
    if s.faults.contains f then
      let s := { s with faults := s.faults.erase f }
      if may then takeFault s j code step else s
    else if code = 0x11 ∧ (jobOf s j).hier ∧ may then takeFault s j code step
    else s

def execJobFault (job : BitVec 8) (code : BitVec 8) (step : BitVec 32) (s : State) :=
  act s fun s => jobFault s job.toNat code.toNat step.toNat

/-- The drain that runs is the restart's of breath `j`, and has swept clean. -/
def restartReady (s : State) (j : Nat) : Bool :=
  drainState s = 3 && jobState s j = 5 && match s.mesh.drains with
    | d :: _ => d.run.isNone && d.breaths = [j]
    | [] => false

/-- A restart ends in FAILED (R397, R404): JOB_RESET completes with BAD_STATE. -/
def restartFails (s : State) (j code : Nat) : State :=
  let s := journalJob (failJob s j code) j code 5
  let s := setBrth s j { brth s j with asked := [] }
  finishDrain (answerRuns s j 0x0106 0x12 7 [] fun _ => none)

/-- A job enters the state it ran, stood or was suspended in (R404, step 8). -/
def returnTo (s : State) (j st : Nat) : State :=
  if st = 4 then setJobState (setBrthState s j 3) j 4
  else if st = 6 then setJobState (setBrthState s j 0) j 6
  else resumeBreath (setJobState s j 3) j

/-- Reset, reload and restore a job's cores, or find its image changed (R397; R404, steps 5 to 7). `static` are the cores
whose static synapses are loaded too, `convs` the channels that run afterwards. Answers the last step computed. -/
def reloadJob (s : State) (j : Nat) (static : List Nat) (convs : List (Nat × Nat)) : Option (BitVec 32) × State :=
  match checkedImage s j [1, 4, 7, 8, 9, 10] static with
  | (none, s) => (none, s)
  | (some i, s) =>
    let u := usableSlot j 2 s
    let more := if u.1.isNone then sectsIntact (jobOf s j).imageAddr (regionOf s (jobOf s j).imageAddr = .host) i
        (i.sects.filter fun x => [3, 5, 6].contains x.ty) u.2 else (true, u.2)
    if ¬ more.1 then (none, more.2)
    else
      let s := (coresOf s j).foldl noteEpochs more.2
      let r := bringUp i (reloadShared i s j) j u.1 convs static
      (some r.1, setBrth r.2 j { brth r.2 j with grants := [], nominal := false })

/-- Steps 5 to 8 of a restart (R404). -/
def restartReload (s : State) (j : Nat) : State :=
  match reloadJob s j (jobOf s j).staticReload (jobOf s j).resume with
  | (none, s) => restartFails s j 0x0F
  | (some c, s) =>
    let s := finishDrain (journalReset s 4)
    let s := noteHalt (returnTo s j (jobOf s j).before) j
    answerRuns s j 0x0106 0 0 [w64 c.toNat] fun x => x.digestChange 1 (jobTarget s j)

def execRestartReload (job : BitVec 8) (s : State) :=
  act s fun s => match breathOf s job.toNat with
    | some j => if restartReady s j && !((coresOf s j).any fun n => (core s n).testing) then restartReload s j else s
    | none => s

end Sys2Proof.Machine
end

