-- ==== Sys2Proof/Machine/JobCmd.lean ====
section
/-! DEFINITION. The job commands: load, start, stop, suspend, resume, reset, unload, and the breath configuration (R66,
R67, R371, R381, R383, R396 to R401). -/
namespace Sys2Proof.Machine

/-- The row of a command that cancels its job's background commands instead of finding their locks (R371). -/
def serveOver (op : Nat) (masks : List Nat) (body : Cmd → State → Ans) (src : Src) (s : State) : State :=
  match cmdAt s src with
  | none => s
  | some c =>
    if c.opcode = op ∧ startable s src ∧ ¬ lockHeld s false (c1Job c) then serveCmd masks [] body c s else s

/-! ### JOB_LOAD (R381, R389, R396, R398) -/

/-- `DETAIL` of a rejection (Table 14-3). -/
def rejectDetail (r : Nat × Option Nat) : Nat :=
  r.1 + match r.2 with
    | some n => n * 2 ^ 16 + 2 ^ 26
    | none => 0

def loadId (c : Cmd) : Nat := c.f 3 0 8

/-- The ID is free, and a breath too (Table 14-6). -/
def loadRoom (s : State) (id : Nat) : Option Nat :=
  if (breathOf s id).isSome then none else freeBreath s

/-- A job enters LOADING: its breath and its rectangle are taken (R400). -/
def beginLoad (s : State) (id j : Nat) (i : Image) : State :=
  let s := wr (wr s (R.jobState j) (w64 (1 + id * 256))) (R.jobEvent j) 1
  wr s (R.brthRect j) i.rect

/-- JOB_LOAD: the checks of R396 in order; then the load goes on in the background. -/
def jobLoadBody (c : Cmd) (s : State) : Ans :=
  let id := loadId c
  let n := c.f 2 0 32
  if n = 0 ∨ n % 256 ≠ 0 then .badParam s 2
  else if isWorker s ∧ srcRecord c.src ≠ 8 then .badParam s 3
  else if bgCount s ≥ 4 then .fail s 0x14 0
  else withSource s none (c.c 1).toNat n 1 fun data s =>
    match parseImage s data with
    | none => .fail s 0x16 1
    | some i =>
      match rejected s i id ((freeBreath s).getD 0) with
      | some r => .fail s 0x16 (rejectDetail r)
      | none =>
        match loadRoom s id with
        | none => .fail s 0x16 0x0B
        | some j => .runs (beginLoad s id j i) true [.job id] [j]

def execJobLoad (src : Src) (s : State) :=
  act s fun s => serve 0x0101 [adr, low 31, low 8, low 31] (fun c => [.job (loadId c)]) jobLoadBody src s

/-- Granules that lie wholly within `n` bytes from `a`: first and count. -/
def wholeGranules (s : State) (a n : Nat) : List (Nat × Nat) :=
  match granuleOf s a with
  | none => []
  | some g =>
    let skip := if a % 65536 = 0 then 0 else 1
    let last := a % 65536 + n
    if last / 65536 ≤ skip then [] else [(g + skip, last / 65536 - skip)]

/-- Set the flags of granules, those that can change (R350, R396). -/
def flagGranules (s : State) (l : List (Nat × Nat)) (v : Nat) : State :=
  l.foldl (fun s g => (List.range g.2).foldl (fun s k => if granuleFree (g.1 + k) then setFlag s (g.1 + k) v else s) s) s

/-- The breath of a job that has just been loaded: STOPPED, no step started (Tables 2-5, 2-6). -/
def loadBreath (s : State) (j id : Nat) (i : Image) (hier : Bool) : State :=
  let s := wr s (R.brthConfig j) (w64 (id * 2 ^ 16 + b2n hier * 16))
  let s := writeBreathConfig s j i.breathWords
  let s := wr (wr s (R.brthStatus j) 0) (R.jobDeterminism j) 0
  let s := wr (wr (wr s (R.brthFault j) 0) (R.dlQuiet j) 0) (R.jobRestarts j) 0
  setClosed { s with breaths := Sparse.set (fun _ => {}) s.breaths j {} } j 0 0 (BitVec.ofNat 32 0xFFFFFFFF)

/-- Everything of an accepted image is loaded: cores, converters, maps, breath, ownership and checkpoint state (R184,
R394 to R396, R401, R409, R477). -/
def loadImage (s : State) (j id : Nat) (i : Image) (c : Run) : State :=
  let seed := if bitAt (c.words.getD 3 0) 8 then c.f 4 0 32 else i.seed
  let hier := i.hier && rdF s R.peerTree 0 2 ≥ 2
  let known := freshValue s
  let ports := if hier then (List.range 4).filter fun p => p ≠ 0 && portInUse s p && bitAt known.1 p else []
  let s := if hier then known.2 else s
  let s := loadBreath s j id i hier
  let s := { s with mbox := { s.mbox with epochs := Sparse.clear s.mbox.epochs fun k => i.cores.contains (k / 64) } }
  let s := i.cores.foldl (fun s n =>
    let s := islandIdle (resetCore s n true) n
    assignCore (loadCore i [1, 2, 3, 4, 5, 6] (zeroMem s (coreBase n) 0x78000) n) j n) s
  let s := loadMaps i (loadConvs i s j true)
  let s := (i.convs id j).foldl (fun s e =>
    if e.kind = 1 ∧ bellMode s e.chan = 5 then cwB s (mreadCore s e.chan) R.ovbConfig 0 true else s) s
  let a := (c.words.getD 1 0).toNat
  let granules := wholeGranules s a (c.f 2 0 32) ++ wholeGranules s i.ckptBase (2 * i.slotBytes)
  let s := flagGranules s granules 2
  let w : Job :=
    { seed := seed, pkg := i.pkg, hier := i.hier, ports := ports, imageAddr := a, imageBytes := i.data.length
      loaded := nowNs s, measure := sha256 i.data, ckptBase := i.ckptBase, slotBytes := i.slotBytes
      granules := granules, convs := (i.convs id j).map fun e => (e.kind, e.chan)
      rowMaps := (i.records 9).map fun r => (fld r 0 5, fld r 8 12), peerInj := (i.records 10).map fun r => fld r 0 9
      mutables := i.mutables }
  noteHalt (noteCkpt (setJob s j w) j) j

/-- The job and its breath are NONE again. -/
def forgetJob (s : State) (j : Nat) : State :=
  { s with
    regs := Sparse.clear s.regs fun o => R.jobState j ≤ o && o < R.jobState j + 0x38
    breaths := Sparse.set (fun _ => {}) s.breaths j {}
    jobs := Sparse.set (fun _ => {}) s.jobs j {}
    faults := s.faults.filter fun f => f.breath ≠ j }

/-- The load of breath `j`'s job ends (R394, R396, R450). A container that no longer passes its checks is rejected, and so is
one of whose cores the test that held the load up has marked bad (R398). -/
def jobLoadDone (s : State) (id j : Nat) (r : Run) : State :=
  let n := r.f 2 0 32
  let x := readSource none (n / 256) s (r.words.getD 1 0).toNat
  let i := match x.1 with
    | .data l => parseImage x.2 l
    | _ => none
  let refuse (detail : Nat) := endRun (wr (forgetJob x.2 j) (R.brthRect j) 0) r 0x16 detail [] none
  match i with
  | none => refuse 1
  | some i => match i.cores.find? fun n => (core s n).bad with
  | some n => refuse (rejectDetail (2, some n))
  | none =>
    let s := setJobState (loadImage x.2 j id i r) j 2
    let m := (jobOf s j).measure
    endRun s r 0 0 (w64 (id + j * 256) :: wordsOf 4 m) (r.digestChange 1 (id + 0xFFFFFFFF * 256))

/-- The row JOB_LOAD_DONE; a core under test holds the load up (R398). -/
def execJobLoadDone (job : BitVec 8) (s : State) :=
  act s fun s => match breathOf s job.toNat with
    | none => s
    | some j =>
      if (coresOf s j).any fun n => (core s n).testing then s
      else match s.mbox.runs.find? fun r => r.opcode = 0x0101 && r.locks.contains (.job job.toNat) with
        | some r => if canComplete s r.src then jobLoadDone s job.toNat j r else s
        | none => s

/-! ### JOB_START (R35, R62, R401) -/

/-- A cause of a terminal fault still stands: a core marked bad, or a link of the job DOWN (R403). -/
def causeStands (s : State) (j : Nat) : Bool :=
  ((coresOf s j).any fun n => (core s n).bad)
    || ((List.range 1056).any fun n => [0, 1, 2, 3].any fun o =>
        (neighbour n o).isSome && linkState s n o = 3 && usesLink s j n o)
    || (List.range 4).any fun p => stateOf s (.peer (Fin.ofNat 4 p)) = 3 && farSide s j p

/-- The breath begins to run: frame-locked it is ARMED for its first edge; else its first step is due (R56, R62). -/
def breathBegins (s : State) (j : Nat) : State :=
  let b := brth s j
  let s := setBrth s j { b with grants := [], nominal := false, resumed := false, asked := [], haltLag := false }
  let s := setBrthState s j 2
  if brthHier s j then s
  else if brthMode s j = 0 then setNominal s j (nowNs s)
  else if brthMode s j = 1 then arm s j
  else s

/-- A test that a reset has ended runs again: a checkpoint is taken first (R413, R417). -/
def wantRetest (s : State) (j : Nat) : State :=
  if (coresOf s j).any fun n => (core s n).retest then
    askSuspend (setJob s j { jobOf s j with testWanted := true }) j 5 else s

/-- JOB_START. -/
def jobStartBody (c : Cmd) (s : State) : Ans :=
  onJob s (c.f 1 0 8) fun j =>
    let st := jobState s j
    if ¬ (st = 2 ∨ st = 6 ∨ (st = 7 ∧ ¬ causeStands s j)) then .badState s st
    else match checkedImage s j [1, 2, 3, 4, 5, 6] [] with
      | (none, s) => .fail s 0x16 1
      | (some i, s) =>
        let u := if bitAt (c.c 1) 8 then (none, s) else usableSlot j 2 s
        let convs := ((jobOf s j).convs ++ (jobOf s j).resume ++ jobConvs s j).eraseDups
        let static := if u.1.isNone then coresOf s j else (jobOf s j).staticReload
        let s := if st = 2 then u.2 else (coresOf s j).foldl noteEpochs u.2
        let r := bringUp i s j u.1 convs static
        let s := wantRetest (noteHalt (breathBegins (setJobState r.2 j 3) j) j) j
        .ends s 0 0 [w64 (r.1 + 1).toNat] (c.digestChange 1 (jobTarget s j))

def execJobStart (src : Src) (s : State) := act s fun s => serve 0x0102 [low 8] c1Job jobStartBody src s

/-! ### Suspend, resume, stop (R66, R67, R401) -/

/-- JOB_SUSPEND: requested now, complete when SUSPENDED. -/
def jobSuspendBody (c : Cmd) (s : State) : Ans :=
  onJob s (c.f 1 0 8) fun j =>
    if jobState s j ≠ 3 then .badState s (jobState s j)
    else .runs (askSuspend s j 1) false [.job (c.f 1 0 8)] []

def execJobSuspend (src : Src) (s : State) := act s fun s => serve 0x0104 [low 7] c1Job jobSuspendBody src s

/-- JOB_RESUME. A job that Chanter itself still holds suspended, for a checkpoint, a drain or a test, is busy (R371). -/
def jobResumeBody (c : Cmd) (s : State) : Ans :=
  onJob s (c.f 1 0 8) fun j =>
    let b := brth s j
    if jobState s j ≠ 4 then .badState s (jobState s j)
    else if ¬ (b.asked.erase 1).isEmpty then .fail s 0x14 0
    else
      let s := resumeBreath (setJobState (setBrth s j { b with asked := [] }) j 3) j
      .ends s 0 0 [] (c.digestChange 1 (jobTarget s j))

def execJobResume (src : Src) (s : State) := act s fun s => serve 0x0105 [low 7] c1Job jobResumeBody src s

/-- The job is STOPPED at its boundary (R401). -/
def stopJob (s : State) (j : Nat) : State :=
  let s := setJob s j { jobOf s j with ckpt := none, testWanted := false }
  let s := clrB (setBrth s j { brth s j with asked := [] }) (R.brthStatus j) 7
  setJobState (setBrthState s j 0) j 6

/-- A job that is LOADING: JOB_STOP, JOB_RESET and JOB_UNLOAD cancel its JOB_LOAD, which leaves no trace, and find no job
(R371, R381; DEDUCED, log entry 134). -/
def overLoading (s : State) (j : Nat) (k : Ans) : Ans :=
  if jobState s j = 1 then .notFound (wr (forgetJob (cancelJob s j false) j) (R.brthRect j) 0) else k

/-- P2 of a suspension: the last closed step. -/
def closedResult (s : State) (j : Nat) : List W64 := [w64 (brth s j).closed.toNat]

/-- JOB_STOP: it cancels the job's background commands, and waits for the boundary of a running job. -/
def jobStopBody (c : Cmd) (s : State) : Ans :=
  onJob s (c.f 1 0 8) fun j => overLoading s j <|
    let st := jobState s j
    if st ≠ 3 ∧ st ≠ 4 then .badState s st
    else
      let s := cancelJob (holdJob s j 2) j false
      if jobState s j = 4 then
        let s := stopJob s j
        .ends s 0 0 (closedResult s j) (c.digestChange 1 (jobTarget s j))
      else .runs s false [.job (c.f 1 0 8)] []

def execJobStop (src : Src) (s : State) := act s fun s => serveOver 0x0103 [low 7] jobStopBody src s

/-- JOB_RESET: a restart without a fault, which ends the command (R403, R404). -/
def jobResetBody (c : Cmd) (s : State) : Ans :=
  onJob s (c.f 1 0 8) fun j => overLoading s j <|
    let st := jobState s j
    if st ≠ 3 ∧ st ≠ 4 ∧ st ≠ 6 then .badState s st
    else
      let before := stateBefore s j
      .runs (beginRestart (cancelJob s j false) j before) false [.job (c.f 1 0 8)] []

def execJobReset (src : Src) (s : State) := act s fun s => serveOver 0x0106 [low 7] jobResetBody src s

/-! ### JOB_UNLOAD (R401) -/

/-- Converters of a job that is unloaded: those of the image return to reset, the others are stopped (R401). -/
def unloadConvs (s : State) (j : Nat) : State :=
  let own := (jobOf s j).convs
  let s := dropSamplings ((jobConvs s j).foldl (fun s e => convHalt s e.1 e.2) s) j
  let s := own.foldl (fun s e => convClear s e.1 e.2) s
  { s with conv := { s.conv with results := s.conv.results.filter fun r => !own.contains (1, r.chan) } }

/-- A core returns to no job. -/
def releaseCore (s : State) (n : Nat) : State := cw s n R.coreConfig 0

/-- The breath's configuration and step registers at their reset values; its counters stay (R73). -/
def clearBreath (s : State) (j : Nat) : State :=
  { s with regs := Sparse.clear s.regs fun o => R.brthConfig j ≤ o && o < R.brthStretchCount j }

/-- Release everything of breath `j`'s job. -/
def unloadJob (s : State) (j : Nat) : State :=
  let w := jobOf s j
  let cores := coresOf s j
  let s := unloadConvs s j
  let s := w.rowMaps.foldl (fun s e => setRowMap s e.1 e.2 0) s
  let s := w.peerInj.foldl (fun s k => wr s (R.peerInj k) 0) s
  let s := flagGranules s w.granules 0
  let s := cores.foldl releaseCore s
  clearBreath (forgetJob s j) j

/-- JOB_UNLOAD. -/
def jobUnloadBody (c : Cmd) (s : State) : Ans :=
  onJob s (c.f 1 0 8) fun j => overLoading s j <|
    let st := jobState s j
    if ¬ (st = 2 ∨ st = 6 ∨ st = 7) then .badState s st
    else
      let target := jobTarget s j
      .ends (unloadJob (cancelJob s j false) j) 0 0 [] (c.digestChange 1 target)

def execJobUnload (src : Src) (s : State) := act s fun s => serveOver 0x0107 [low 7] jobUnloadBody src s

/-! ### BREATH_CONFIG (R383) -/

/-- Routing entries of the Mouthpiece channels and Event Port streams bound to breath `j`'s job, by its image or by CONV_CONFIG
(R383, R386). -/
def jobRoutes (s : State) (j : Nat) : List W64 :=
  ((List.range 256).filter fun c => convMine s j (0, c)).map (fun c => rd s (R.mpRoute c))
    ++ ((List.range 64).filter fun k => streamInjects s k && convMine s j (2, k)).map fun k => rd s (R.epStreamB k)

/-- Every delay of the job lies in the Overblow-on range (R169, R383). -/
def ovbFits (s : State) (j : Nat) : Bool :=
  ((coresOf s j).all fun n =>
    ((validDescs s n).all fun m => delayGood s n true (dDelay (descA s n m)))
      && (validPops s n).all fun q => (List.range 4).all fun k =>
          let e := routeEntry s n (4 * q + k)
          !bitAt e 0 || fld e 2 6 = 63 || delayGood s n true (fld e 35 6))
    && (jobRoutes s j).all fun r => !bitAt r 0 || (reached (coresOf s j) r).all fun n => delayGood s n true (fld r 35 6)

/-- BREATH_CONFIG: on a STOPPED breath, all or nothing. -/
def breathConfigBody (c : Cmd) (s : State) : Ans :=
  onJob s (c.f 1 0 8) fun j =>
    let l := [c.c 1, c.c 2, c.c 3, c.c 4, c.c 5]
    if brthState s j ≠ 0 then .badState s (jobState s j)
    else match breathBad l (rectY0 s j) (rectY1 s j) with
      | some i => .badParam s i
      | none =>
        if c.f 2 2 1 = 1 ∧ ¬ ovbFits s j then .badParam s 2
        else
          let s := writeBreathConfig s j l
          let s := (coresOf s j).foldl (fun s n => cwB s n R.coreConfig 3 (ovbDepth s j = 1)) s
          .ends s 0 0 [] (c.digestChange 1 (jobTarget s j))

def execBreathConfig (src : Src) (s : State) :=
  act s fun s => serve 0x0201 [low 7, 0x1F007F07, low 31, low 63, low 7] c1Job breathConfigBody src s

end Sys2Proof.Machine
end

