-- ==== Sys2Proof/Machine/CkptCmd.lean ====
section
/-! DEFINITION. Suspensions reached, checkpoints taken and copied, and the weight commands (R66, R164, R165, R384, R405
to R410). -/
namespace Sys2Proof.Machine

/-! ### Taking a checkpoint (R407) -/

/-- Content blocks of the job's checkpoint: the cores' and the hub record's (R406). -/
def contentBlocks (s : State) (j : Nat) : Nat := hubFirst s j - 1 + (hubRecord s j).length / 256

/-- The checkpoint ends without a commit: CHECKPOINT completes with `status`, and the job goes on. A test that needed it
waits for another boundary (R408). -/
def failCkpt (s : State) (j status detail : Nat) : State :=
  let s := setJob s j { jobOf s j with ckpt := none }
  let s := answerRuns s j 0x0301 status detail [] fun _ => none
  releaseJob (releaseJob s j 3) j 5

/-- A checkpoint of the last closed step begins: the target slot becomes invalid (R407, steps 1 and 2). One that its slot
cannot hold ends at once with NO_RESOURCE; DEDUCED from Table 14-3. -/
def beginCkpt (s : State) (j : Nat) : State :=
  if (contentBlocks s j + 1) * 256 > (jobOf s j).slotBytes then failCkpt s j 0x15 0
  else
    let k := targetSlot s j
    let s := zeroSlot s j k
    setJob s j { jobOf s j with ckpt := some { slot := k, step := (brth s j).closed.toNat } }

/-! ### A suspension takes effect (R66) -/

/-- Every started step of breath `j` has closed, and every core has finished its plasticity. -/
def boundaryReached (s : State) (j : Nat) : Bool :=
  suspendPending s j && (brthState s j = 1 || brthState s j = 2) && openSteps (brth s j) = 0
    && (coresOf s j).all fun n => plasStep s n = (brth s j).closed && !plasActive s n

/-- HOLD goes out, the breath and the job are SUSPENDED, and what asked for the suspension goes on: a command completes,
a stop takes effect, a checkpoint begins (R66, R401, R407). -/
def suspendReached (s : State) (j : Nat) : State :=
  let t := (brth s j).started
  let s := clrB (setBrthState s j 3) (R.brthStatus j) 7
  let s := sendDown (sendBcast s j 2 t) j 5 t
  let s := failL0 (setJobState s j 4) j 4
  if (brth s j).asked.contains 2 then
    let s := stopJob s j
    answerRuns s j 0x0103 0 0 (closedResult s j) fun r => r.digestChange 1 (jobTarget s j)
  else
    let s := answerRuns s j 0x0104 0 0 (closedResult s j) fun r => r.digestChange 1 (jobTarget s j)
    if (brth s j).asked.contains 3 || (brth s j).asked.contains 5 then beginCkpt s j else s

def execSuspendReached (j : BreathId) (s : State) :=
  act s fun s => if boundaryReached s j.val then suspendReached s j.val else s

/-! ### CHECKPOINT, its blocks and its commit (R405 to R408) -/

/-- A checkpoint or a test of the job is running or asked for (R405). -/
def ckptBusy (s : State) (j : Nat) : Bool :=
  (jobOf s j).ckpt.isSome || (jobOf s j).testing || (jobOf s j).testWanted || (brth s j).asked.contains 3
    || (brth s j).asked.contains 5

/-- CHECKPOINT: a running job is suspended for it first (R66, R405). One that finds another, or a test of the job, under way is
BUSY whatever the job's state. -/
def checkpointBody (c : Cmd) (s : State) : Ans :=
  onJob s (c.f 1 0 8) fun j =>
    let st := jobState s j
    if ckptBusy s j then .fail s 0x14 0
    else if st ≠ 3 ∧ st ≠ 4 then .badState s st
    else if bgCount s ≥ 4 then .fail s 0x14 0
    else if st = 3 then .runs (askSuspend s j 3) true [.job (c.f 1 0 8)] []
    else if (contentBlocks s j + 1) * 256 > (jobOf s j).slotBytes then .noResource s
    else .runs (beginCkpt (addReason s j 3) j) true [.job (c.f 1 0 8)] []

def execCheckpoint (src : Src) (s : State) := act s fun s => serve 0x0301 [low 7] c1Job checkpointBody src s

/-- A block of core `n`'s stream of checkpoint `k` arrives: checked against its stream `SEQ`, and stored at its place in
the target slot with its own `SEQ` (R209, R318, R408). -/
def checkpointBlock (s : State) (j n : Nat) (k : Ckpt) (data : List Byte) (tag : W64) : State :=
  let got := Sparse.get (fun _ => 0) k.got n
  let a := slotBlock s j k.slot (coreFirst s j n + got)
  let r := checkBlock s data tag got none none
  if r.1 = .poisoned then failCkpt r.2 j 0x19 (a % 2 ^ 32)
  else if data ≠ coreBlock s j n got then s
  else
    let s := setTag (stN r.2 a data) a (putFld tag 40 16 (a / 256))
    setJob s j { jobOf s j with ckpt := some { k with got := Sparse.set (fun _ => 0) k.got n (got + 1) } }

/-- The row CHECKPOINT_BLOCK: the next block of core `n`, at the hub port of its row. -/
def execCheckpointBlock (p : HubPort) (n : CoreId) (seq : BitVec 16) (data : List Byte) (tag : W64) (s : State) :=
  act s fun s =>
    let j := coreBreath s n.val
    match (jobOf s j).ckpt with
    | some k =>
      let got := Sparse.get (fun _ => 0) k.got n.val
      if p.val = n.val / 32 ∧ (coresOf s j).contains n.val ∧ assigned s n.val ∧ data.length = 256
        ∧ seq.toNat = got % 65536 ∧ got < coreContent s j n.val
      then checkpointBlock s j n.val k data tag else s
    | none => s

/-- A core of the job is due for its test (R413). -/
def jobDue (s : State) (j : Nat) : Bool := (coresOf s j).any (testDue s)

/-- The cores of the job go under test (R413, steps 1 and 2). -/
def beginTest (s : State) (j : Nat) : State :=
  let s := unaskSuspend (unaskSuspend s j 3) j 5
  let before := if (brth s j).asked.isEmpty then 3 else 4
  let s := setJob s j { jobOf s j with before := before, testing := true, testWanted := false }
  (coresOf s j).foldl (fun s n => upCore s n fun c => { c with testing := true }) (setJobState s j 8)

/-- Every block of every core has been stored. -/
def ckptComplete (s : State) (j : Nat) (k : Ckpt) : Bool :=
  (coresOf s j).all fun n => Sparse.get (fun _ => 0) k.got n = coreContent s j n

/-- The hub record and the commit record are written (R407, steps 4 and 5); a job due for its test then goes under test
(R413). -/
def checkpointCommit (s : State) (j : Nat) (k : Ckpt) : State :=
  let rec_ := hubRecord s j
  let n := contentBlocks s j
  let gen := nextGen s j
  let s := putBlocks (jobId s j) (rec_.length / 256) s (slotBlock s j k.slot (hubFirst s j)) rec_
  let s := writeCommit s j k.slot gen k.step n
  let s := setB (noteCkpt (setJob s j { jobOf s j with ckpt := none }) j) (R.jobEvent j) 3
  let s := answerRuns s j 0x0301 0 0 [w64 (k.step + k.slot * 2 ^ 32)] fun r => r.digestChange 1 (jobTarget s j)
  if (jobOf s j).testWanted || jobDue s j then beginTest s j else releaseJob s j 3

def execCheckpointCommit (job : BitVec 8) (s : State) :=
  act s fun s => match breathOf s job.toNat with
    | some j => match (jobOf s j).ckpt with
      | some k => if ckptComplete s j k then checkpointCommit s j k else s
      | none => s
    | none => s

/-! ### CHECKPOINT_QUERY, EXPORT and IMPORT (R409, R410) -/

/-- Step and validity of a slot, as CHECKPOINT_QUERY reports them. -/
def slotReport (s : State) (j k : Nat) : W64 :=
  if slotValid s j k then w64 (slotStep s j k + 2 ^ 32) else 0

def checkpointQueryBody (c : Cmd) (s : State) : Ans :=
  onJob s (c.f 1 0 8) fun j => .reads s [slotReport s j 0, slotReport s j 1]

def execCheckpointQuery (src : Src) (s : State) :=
  act s fun s => serve 0x0302 [low 7] (fun _ => []) checkpointQueryBody src s

/-- CHECKPOINT_EXPORT of a valid slot. -/
def checkpointExportBody (c : Cmd) (s : State) : Ans :=
  onJob s (c.f 1 0 8) fun j =>
    let k := c.f 1 8 1
    let n := slotCount s j k + 1
    if ¬ slotValid s j k then .badState s 0
    else if bgCount s ≥ 4 then .fail s 0x14 0
    else if c.f 3 0 32 < n * 256 then .badParam s 3
    else checkRange s (c.c 2).toNat (n * 256) 2 (.runs s true [] [j, k])

def execCheckpointExport (src : Src) (s : State) :=
  act s fun s => serve 0x0303 [low 8, low 63, low 31] (fun _ => []) checkpointExportBody src s

/-- The copy is written: block 0 and the content blocks, in order (R410). -/
def exportDone (s : State) (r : Run) : State :=
  let j := r.aux.getD 0 0
  let k := r.aux.getD 1 0
  let n := slotCount s j k + 1
  if ¬ slotValid s j k then endRun s r 0x12 0 [] none
  else if r.f 3 0 32 < n * 256 then endRun s r 0x11 3 [] none
  else match readSource none n s (slotBlock s j k 0) with
    | (.data l, s) => endRun (writeBlocks n s (r.words.getD 2 0).toNat l) r 0 0 [w64 (n * 256)] none
    | (.unmapped a, s) => endRun s r 0x1A (a % 2 ^ 32) [] none
    | (.integrity a, s) => endRun s r 0x19 (a % 2 ^ 32) [] none

def execCheckpointExportDone (id : Nat) (s : State) := act s fun s => finish s id 0x0303 (exportDone s)

/-- CHECKPOINT_IMPORT into a STOPPED job. -/
def checkpointImportBody (c : Cmd) (s : State) : Ans :=
  onJob s (c.f 1 0 8) fun j =>
    let n := c.f 3 0 32
    if jobState s j ≠ 6 then .badState s (jobState s j)
    else if bgCount s ≥ 4 then .fail s 0x14 0
    else if n = 0 ∨ n % 256 ≠ 0 ∨ n > (jobOf s j).slotBytes then .badParam s 3
    else checkRange s (c.c 2).toNat n 2 (.runs s true [.job (c.f 1 0 8)] [j])

def execCheckpointImport (src : Src) (s : State) :=
  act s fun s => serve 0x0304 [low 7, low 63, low 31] c1Job checkpointImportBody src s

/-- Make slot `k` the newest: `GEN` and `RECORD_CRC` rewritten (R410). -/
def renewCommit (s : State) (j k gen : Nat) : State :=
  let a := slotBlock s j k 0
  let head := ldN s a 8 ++ leBytes 8 gen ++ ldN s (a + 16) 40
  stBlock s a (head ++ leBytes 4 (crc32c head) ++ ldN s (a + 60) 196) (jobId s j) false false false

/-- The copy has been read: it goes into the target slot and is checked there (R410). -/
def importDone (s : State) (r : Run) : State :=
  let j := r.aux.getD 0 0
  let n := r.f 3 0 32 / 256
  let k := targetSlot s j
  let gen := nextGen s j
  match readSource none n s (r.words.getD 2 0).toNat with
  | (.unmapped a, s) => endRun s r 0x1A (a % 2 ^ 32) [] none
  | (.integrity a, s) => endRun s r 0x19 (a % 2 ^ 32) [] none
  | (.data l, s) =>
    let s := putBlocks (jobId s j) n s (slotBlock s j k 0) l
    let g := if slotValid s j k && slotCount s j k + 1 ≤ n then slotGood s j k else (false, s)
    if g.1 then
      let s := noteCkpt (renewCommit g.2 j k gen) j
      endRun s r 0 0 [w64 (slotStep s j k)] (r.digestChange 1 (jobTarget s j))
    else endRun (noteCkpt (zeroSlot g.2 j k) j) r 0x19 (slotBlock s j k 0 % 2 ^ 32) [] none

def execCheckpointImportDone (id : Nat) (s : State) := act s fun s => finish s id 0x0304 (importDone s)

/-! ### WEIGHTS_READ (R165) -/

/-- Trace arrays of core `n`'s valid entries in entry order, as scratch offset and length (R151). -/
def traceArrays (s : State) (n : Nat) : List (Nat × Nat) := (validEntries s n).flatMap (traceRanges s n)

/-- What core `n` streams, padded to whole blocks. DEDUCED: the destination is written in whole blocks (R369). -/
def snapBytes (s : State) (n : Nat) (traces : Bool) : List Byte :=
  let t := if traces then (traceArrays s n).flatMap fun a => ldN s (scratch n a.1) a.2 else []
  ldN s (coreBase n + 0x38000) 0x8000 ++ t ++ List.replicate (cdiv t.length 256 * 256 - t.length) 0

/-- Blocks that core `n` streams. -/
def snapBlocks (s : State) (n : Nat) (traces : Bool) : Nat :=
  128 + if traces then cdiv ((traceArrays s n).map (·.2)).sum 256 else 0

/-- Blocks that the cores before `n` stream. -/
def snapFirst (s : State) (j n : Nat) (traces : Bool) : Nat :=
  (((coresOf s j).filter (· < n)).map fun m => snapBlocks s m traces).sum

/-- Each core of the job is to hold its plasticity after step `q`; one of a suspended job that stands there is read at
once. -/
def wantSnapshot (s : State) (j id : Nat) (q : BitVec 32) : State :=
  (coresOf s j).foldl (fun s n =>
    let s := upCore s n fun c => { c with snapshot := some (id, q), snapDone := false }
    if jobState s j = 4 ∧ plasStep s n = q then cwB s n R.plasStatus 3 true else s) s

/-- A core of breath `j`'s job has passed step `q`; one of a suspended job may stand at it. -/
def passed (s : State) (j n : Nat) (q : BitVec 32) : Bool :=
  decide ((plasStep s n - q).toInt ≥ 0) && !(jobState s j = 4 && plasStep s n = q)

/-- WEIGHTS_READ. A core streams one snapshot at a time: a second one meanwhile is BUSY (DESIGN CHOICE). -/
def weightsReadBody (c : Cmd) (s : State) : Ans :=
  onJob s (c.f 1 0 8) fun j =>
    let st := jobState s j
    let q := BitVec.ofNat 32 (c.f 2 0 32)
    let traces := bitAt (c.c 1) 8
    let cores := coresOf s j
    let n := (cores.map fun m => snapBlocks s m traces).sum
    if st ≠ 3 ∧ st ≠ 4 then .badState s st
    else if bgCount s ≥ 4 ∨ cores.any fun m => (core s m).snapshot.isSome then .fail s 0x14 0
    else match cores.find? fun m => passed s j m q with
      | some m => .fail s 0x17 (plasStep s m).toNat
      | none =>
        if c.f 4 0 32 < n * 256 then .badParam s 4
        else checkRange s (c.c 3).toNat (n * 256) 3 (.runs (wantSnapshot s j s.mbox.nextRun q) true [] [j])

def execWeightsRead (src : Src) (s : State) :=
  act s fun s => serve 0x0401 [low 8, low 31, low 63, low 31] (fun _ => []) weightsReadBody src s

/-- Every core of breath `j`'s job has streamed its part of run `id`. -/
def snapsDone (s : State) (j id : Nat) : Bool :=
  (coresOf s j).all fun n => (core s n).snapDone || !((core s n).snapshot.map (·.1) == some id)

/-- Core `n` has streamed its part, and no longer holds its plasticity; with the last core the command ends (R165). -/
def streamDone (s : State) (n : Nat) (r : Run) : State :=
  let j := r.aux.getD 0 0
  let traces := bitAt (r.words.getD 1 0) 8
  let a := (r.words.getD 3 0).toNat + 256 * snapFirst s j n traces
  let s := writeBlocks (snapBlocks s n traces) s a (snapBytes s n traces)
  let s := cwB (upCore s n fun c => { c with snapDone := true }) n R.plasStatus 3 false
  if ¬ snapsDone s j r.id then s
  else
    let cores := coresOf s j
    let s := cores.foldl (fun s m => upCore s m fun c => { c with snapshot := none, snapDone := false }) s
    endRun s r 0 0 [w64 (256 * (cores.map fun m => snapBlocks s m traces).sum + cores.length * 2 ^ 32)] none

def execSnapshotStreamDone (n : CoreId) (s : State) :=
  act s fun s => match (core s n.val).snapshot with
    | some (id, _) => match runOf s id with
      | some r => if crB s n.val R.plasStatus 3 ∧ ¬ (core s n.val).snapDone then streamDone s n.val r else s
      | none => s
    | none => s

/-! ### WEIGHTS_WRITE (R164, R384) -/

/-- Bytes `o` to `o + n - 1` lie in the plastic window, or in the trace arrays of the core's entries (R384). -/
def weightsRange (s : State) (n : Nat) (traces : Bool) (o len : Nat) : Bool :=
  if traces then
    let l := traceArrays s n
    (List.range len).all fun i => l.any fun a => a.1 ≤ o + i && o + i < a.1 + a.2
  else o + len ≤ 0x8000

/-- WEIGHTS_WRITE, through port B of a core of a SUSPENDED job. -/
def weightsWriteBody (c : Cmd) (s : State) : Ans :=
  onJob s (c.f 1 0 8) fun j =>
    let n := c.f 1 8 10
    let o := c.f 3 0 15
    let len := c.f 3 16 16 * 256
    if jobState s j ≠ 4 then .badState s (jobState s j)
    else if ¬ (coresOf s j).contains n then .notFound s
    else if ¬ weightsRange s n (bitAt (c.c 1) 18) o len then .badParam s 3
    else withSource s (some (c.f 1 0 8)) (c.c 2).toNat len 2 fun l s =>
      let a := if bitAt (c.c 1) 18 then scratch n o else coreBase n + 0x38000 + o
      .ends (stN (wakeIsland s n) a l) 0 0 [] (c.digestChange 1 (jobTarget s j))

def execWeightsWrite (src : Src) (s : State) :=
  act s fun s => unlessHalted s src (fun c => c.f 1 8 10) fun s =>
    serve 0x0402 [low 18, low 63, low 31] c1Job weightsWriteBody src s

end Sys2Proof.Machine
end

