-- ==== Sys2Proof/Machine/DrainCmd.lean ====
section
/-! DEFINITION. Drains, and the live table changes that they carry out (R221 to R225, R382). -/
namespace Sys2Proof.Machine

/-! ### TABLE_CHANGE (R221, R382) -/

/-- A word of a table named in R221. -/
inductive TableWord where
  | routing (n a : Nat)
  | rect (j : Nat)
  | circuit (node k : Nat)
  | rowMap (p row a : Nat)
  | peerInj (k : Nat)
  deriving DecidableEq, Repr

/-- The table word at a device address, a multiple of 8. -/
def tableWord (s : State) (a : Nat) : Option TableWord :=
  if a % 8 ≠ 0 then none
  else match regionOf s a with
    | .coreMem n off =>
      let base := 0x70000 + crF s n R.routeBase 0 15
      if base ≤ off ∧ off < base + 512 then some (.routing n a) else none
    | .hubReg o =>
      if 0x40000 ≤ o ∧ o < 0x48000 ∧ o = R.brthRect ((o - 0x40000) / 0x200) then some (.rect ((o - 0x40000) / 0x200))
      else if 0x100000 ≤ o ∧ o < 0x180000 ∧ 0x100 ≤ o % 0x200 ∧ o % 0x200 < 0x140 then
        some (.circuit ((o - 0x100000) / 0x200) (o % 0x200 / 8 - 32))
      else if 0x5400 ≤ o ∧ o < 0x5E00 then some (.peerInj ((o - 0x5400) / 8))
      else none
    | .hubSys =>
      let o := a - 0x001001E80000
      if 0x001001E80000 ≤ a ∧ o < 0x80000 then some (.rowMap (o / 0x4000) (o % 0x4000 / 4) a) else none
    | _ => none

/-- Breaths whose jobs use a table word as it stands. -/
def wordUsers (s : State) (t : TableWord) : List Nat :=
  let loaded := (List.range 64).filter fun j => jobState s j ≠ 0
  match t with
  | .routing n _ => (jobBreath s n).toList
  | .rect j => if jobState s j ≠ 0 then [j] else []
  | .circuit node k => if bitAt (circ s node k) 0 then (circuitBreath s (fld (circ s node k) 32 11)).toList else []
  | .rowMap p row _ => loaded.filter fun j =>
      (jobOf s j).rowMaps.contains (p, row) || (jobOf s j).rowMaps.contains (p, row + 1)
  | .peerInj k => loaded.filter fun j => (jobOf s j).peerInj.contains k

/-- The entries of a change list: address and value words. -/
def changeList (n : Nat) (l : List Byte) : List (Nat × W64) :=
  (List.range n).map fun i => ((wordAt l (16 * i)).toNat, wordAt l (16 * i + 8))

/-- Index of the first entry that names no table word, or one that no job uses (R221, R382). -/
def badChange (s : State) (l : List (Nat × W64)) : Option Nat :=
  l.findIdx? fun e => match tableWord s e.1 with
    | some t => (wordUsers s t).isEmpty
    | none => true

/-- Breaths that a list affects. -/
def changeUsers (s : State) (l : List (Nat × W64)) : List Nat :=
  (l.flatMap fun e => match tableWord s e.1 with
    | some t => wordUsers s t
    | none => []).eraseDups

/-- The change list of a command, where it can be read. -/
def commandList (s : State) (c : Cmd) : List (Nat × W64) :=
  match readSource none (cdiv (16 * c.f 2 0 13) 256) s (c.c 1).toNat with
  | (.data l, _) => changeList (c.f 2 0 13) l
  | _ => []

/-- Locks of a table change: the jobs it affects (R371). -/
def changeLocks (s : State) (c : Cmd) : List Lock := (changeUsers s (commandList s c)).map fun j => .job (jobId s j)

/-- TABLE_CHANGE: checked, then its drain is asked for. -/
def tableChangeBody (c : Cmd) (s : State) : Ans :=
  let n := c.f 2 0 13
  if n = 0 ∨ n > 4096 then .badParam s 2
  else if bgCount s ≥ 4 then .fail s 0x14 0
  else withSource s none (c.c 1).toNat (16 * n) 1 fun data s =>
    let l := changeList n data
    let users := changeUsers s l
    match badChange s l with
    | some i => .badParam s i
    | none =>
      if users.length > 4 then .noResource s
      else .runs (requestDrain s users (some s.mbox.nextRun)) true (users.map fun j => .job (jobId s j))
        (l.flatMap fun e => [e.1, e.2.toNat])

def execTableChange (src : Src) (s : State) :=
  act s fun s => serve 0x010B [adr, low 12] (changeLocks s) tableChangeBody src s

/-- Write one table word. -/
def applyWord (s : State) (a : Nat) (v : W64) : State :=
  match tableWord s a with
  | some (.routing n a) => stU (wakeIsland s n) a 8 v.toNat
  | some (.rect j) => wr s (R.brthRect j) (v &&& 0x7FF1F1F1F1F)
  | some (.circuit node k) => setCirc s node k (writeBits (hubInfo (R.rtrCircuit node k)) (circ s node k) v .whole)
  | some (.rowMap _ _ a) => stU s a 8 v.toNat
  | some (.peerInj k) => wr s (R.peerInj k) (writeBits (hubInfo (R.peerInj k)) (rd s (R.peerInj k)) v .whole)
  | none => s

/-- Write the words of a list, in its order. -/
def applyWords : List Nat → State → State
  | a :: v :: r, s => applyWords r (applyWord s a (w64 v))
  | _, s => s

/-! ### The drain (R222 to R225) -/

/-- The first drain requested starts (R222, step 1; R225). -/
def drainBegin (s : State) (d : Drain) : State :=
  let w := rd s R.meshDrainStatus
  let s := wr s R.meshDrainStatus (putFld (putFld (putFld w 0 2 1) 8 8 0) 32 11 0)
  if d.run.isSome then d.breaths.foldl (fun s j => holdJob s j 4) s else s

def execDrainBegin (s : State) :=
  act s fun s => match s.mesh.drains with
    | d :: _ => if drainState s = 0 then drainBegin s d else s
    | [] => s

/-- Breaths in ascending job ID (R225). -/
def byJob (s : State) (l : List Nat) : List Nat :=
  (List.range 256).flatMap fun id => l.filter fun j => jobId s j = id

/-- A fence register: the rectangle and `VALID` (Table 8-15). -/
def fenceWord (s : State) (j : Nat) : W64 :=
  w64 (rectX0 s j + rectY0 s j * 2 ^ 8 + rectX1 s j * 2 ^ 16 + rectY1 s j * 2 ^ 24 + 2 ^ 32)

/-- The fences are loaded, and the first sweep begins (R222, step 2; R225). -/
def drainFence (s : State) (d : Drain) (rest : List Drain) : State :=
  let s := (List.range 4).foldl (fun s f => wr s (R.meshFence f) (match (byJob s d.breaths)[f]? with
    | some j => fenceWord s j
    | none => 0)) s
  noteAllDrain (setDrainState (setDrains s ({ d with sweepAt := some (nowNs s) } :: rest)) 2)

/-- Every affected breath is at rest. -/
def drainRests (s : State) (d : Drain) : Bool :=
  d.breaths.all fun j => brthState s j = 0 || brthState s j = 3 || brthState s j = 4

def execDrainFence (s : State) :=
  act s fun s => match s.mesh.drains with
    | d :: rest => if drainState s = 1 ∧ drainRests s d then drainFence s d rest else s
    | [] => s

/-- Jobs that a drain holds suspended. -/
def drainedJobs (s : State) (d : Drain) : Nat := (d.breaths.filter fun j => (brth s j).asked.contains 4).length

/-- The clean sweep, after one that clears bits still set: a table change is applied and completes; a restart goes on (R222, steps 4 to 6; R404, step 4). -/
def cleanSweep (s : State) (d : Drain) : State :=
  let s := clearDrainBits (addSweeps s (if sweepFinds s = (none, false) then 1 else 2))
  match d.run with
  | none => setDrainState s 3
  | some id =>
    match runOf s id with
    | some r =>
      let n := drainedJobs s d
      let sweeps := rdF s R.meshDrainStatus 8 8
      finishDrain (endRun (applyWords r.aux s) r 0 0 [w64 (n + sweeps * 256)] (r.digestChange 10 0))
    | none => finishDrain s

def execCleanSweep (s : State) :=
  act s fun s => match s.mesh.drains with
    | d :: _ => if drainState s = 2 ∧ ¬ anyFenced s then cleanSweep s d else s
    | [] => s

/-- The last router that a sweep found active, and whether the hub was so after it: by the sweep that the timeout ends, else
by the one before (R224). -/
def blocker (s : State) (d : Drain) : Option Nat × Bool := if sweepFinds s = (none, false) then d.found else sweepFinds s

/-- `MESH_DRAIN_TIMEOUT` has passed since the first sweep (R224, R225). -/
def drainLate (s : State) (d : Drain) : Bool :=
  match d.sweepAt with
  | some t => nowNs s ≥ t + rdF s R.meshDrainTimeout 0 32 * 1000
  | none => false

/-- No clean sweep in time: a table change completes with DRAIN_TIMEOUT and nothing applied; a restarting job fails with
DRAIN_FAILED (R224, R404). -/
def drainTimeout (s : State) (d : Drain) : State :=
  let b := blocker s d
  let w := rd s R.meshDrainStatus
  let s := wr s R.meshDrainStatus (putBit (putFld w 32 10 (b.1.getD 0)) 42 b.2)
  let s := setB s R.meshAlarm 2
  match d.run, d.breaths with
  | none, j :: _ => restartFails s j 0x10
  | some id, _ => match runOf s id with
    | some r => finishDrain (endRun s r 0x18 (if b.2 then 0x400 else b.1.getD 0) [] none)
    | none => finishDrain s
  | none, [] => finishDrain s

def execDrainTimeout (s : State) :=
  act s fun s => match s.mesh.drains with
    | d :: _ => if drainState s = 2 ∧ drainLate s d then drainTimeout s d else s
    | [] => s

end Sys2Proof.Machine
end

