-- ==== Sys2Proof/Machine/TestCmd.lean ====
section
/-! DEFINITION. The in-field test of cores, and the core reset (R412 to R416). -/
namespace Sys2Proof.Machine

/-- Core `n` lies in no job's rectangle (R412). -/
def idleCore (s : State) (n : Nat) : Bool := !assigned s n && !inJob s n

/-! ### FIELD_TEST (R413) -/

/-- Cores `a` to `b`. -/
def coreRange (a b : Nat) : List Nat := (List.range (b + 1 - a)).map (a + ·)

/-- Cores of the range that FIELD_TEST names. -/
def testRange (c : Cmd) : List Nat := coreRange (c.f 1 16 10) (c.f 1 26 10)

/-- Locks of FIELD_TEST: the job, or each idle core (R371). -/
def testLocks (s : State) (c : Cmd) : List Lock :=
  if bitAt (c.c 1) 0 then [.job (c.f 1 1 8)] else (testRange c).map (coreLock s)

/-- FIELD_TEST: of a job after a checkpoint, or of idle cores at once. A core already under test is BUSY. -/
def fieldTestBody (c : Cmd) (s : State) : Ans :=
  if bgCount s ≥ 4 then .fail s 0x14 0
  else if bitAt (c.c 1) 0 then
    onJob s (c.f 1 1 8) fun j =>
      let st := jobState s j
      if st ≠ 3 ∧ st ≠ 4 then .badState s st
      else if ckptBusy s j then .fail s 0x14 0
      else
        let s := setJob s j { jobOf s j with testWanted := true }
        let locks : List Lock := [.job (c.f 1 1 8)]
        if st = 3 then .runs (askSuspend s j 5) true locks []
        else if (contentBlocks s j + 1) * 256 > (jobOf s j).slotBytes then .noResource s
        else .runs (beginCkpt (addReason s j 5) j) true locks []
  else
    let l := testRange c
    if l.isEmpty then .badParam s 1
    else match l.find? fun n => !idleCore s n with
      | some n => .badState s (jobState s (coreBreath s n))
      | none =>
        if l.any fun n => (core s n).testing then .fail s 0x14 0
        else .runs (l.foldl (fun s n => upCore s n fun k => { k with testing := true }) s) true (testLocks s c) l

def execFieldTest (src : Src) (s : State) :=
  act s fun s => serve 0x0A01 [0xFFFFF01FF] (testLocks s) fieldTestBody src s

/-- An idle core that is due, and not marked bad, is tested at once (R412). -/
def execFieldTestDue (n : CoreId) (s : State) :=
  act s fun s =>
    let k := core s n.val
    if testDue s n.val ∧ idleCore s n.val ∧ ¬ k.bad ∧ ¬ k.testing then upCore s n.val fun k => { k with testing := true }
    else s

/-- The deferral of a job's test has ended: Chanter forces it, and journals that (R413). -/
def testIsForced (s : State) (j : Nat) : State :=
  let s := askSuspend (setJob s j { jobOf s j with testWanted := true }) j 5
  journalAct s ⟨1, jobTarget s j, 0, crcOf 8 (testForced s j)⟩

def execFieldTestForced (job : BitVec 8) (s : State) :=
  act s fun s => match breathOf s job.toNat with
    | some j =>
      if jobState s j = 3 ∧ testForced s j ≠ 0 ∧ testForced s j ≤ nowNs s ∧ ¬ ckptBusy s j then testIsForced s j else s
    | none => s

/-! ### The end of a test (R413, R414) -/

/-- Core `n`'s memory holds undefined contents (log entry 1). -/
def scramble (s : State) (n : Nat) : State :=
  let r := freeBytes 0x78000 s
  stN r.2 (coreBase n) r.1

/-- The result of core `n`'s BIST: its age starts again, and one that fails is marked bad and journalled (R412, R414). -/
def bistResult (failed : List Nat) (s : State) (n : Nat) : State :=
  let f := failed.contains n
  let old := (core s n).bad
  let s := upCore s n fun k => { k with
    testAt := nowNs s, testFailed := f, bad := k.bad || f, testing := false, retest := false }
  if f ∧ ¬ old then journalOwn s 0x0E ⟨2, n, crcOf 1 0, crcOf 1 1⟩ else s

/-- A running FIELD_TEST ends: cores tested and cores failed. -/
def testRunEnds (s : State) (r : Run) (tested failed kind target : Nat) : State :=
  endRun s r 0 0 [w64 tested, w64 failed] (r.digestChange kind target)

/-- The cores of breath `j`'s job have been tested: the job goes on from its checkpoint, or fails (R413, R414). -/
def jobTested (s : State) (j : Nat) (failed : List Nat) : State :=
  let cores := coresOf s j
  let s := cores.foldl (bistResult failed) s
  let s := setJob s j { jobOf s j with testing := false }
  let s := match s.mbox.runs.find? fun r => r.opcode = 0x0A01 && r.onJob (jobId s j) with
    | some r => testRunEnds s r cores.length failed.length 1 (jobTarget s j)
    | none => s
  if ¬ failed.isEmpty then takeFault s j 0x0E (brth s j).closed.toNat
  else
    let s := cores.foldl scramble s
    match reloadJob s j cores (jobConvs s j) with
    | (none, s) => takeFault s j 0x0F (brth s j).closed.toNat
    | (some _, s) =>
      let s := setB s (R.jobEvent j) 4
      noteHalt (returnTo s j (if (brth s j).asked.isEmpty then 3 else 4)) j

/-- Idle cores have been tested: their islands are OFF, their contents lost. -/
def idleTested (s : State) (cores failed : List Nat) : State :=
  let s := cores.foldl (bistResult failed) s
  cores.foldl (fun s n => resetCore s n false) s

/-- The idle range that a running FIELD_TEST tests. -/
def idleRun (s : State) (cores : List Nat) : Option Run :=
  s.mbox.runs.find? fun r => r.opcode = 0x0A01 && !r.aux.isEmpty && r.aux.any cores.contains

/-- The test of a job that has meanwhile faulted ends: a core that failed fails the job, for no other core takes its
place (R404, R414). -/
def faultedTested (s : State) (j : Nat) (failed : List Nat) : State :=
  let s := (coresOf s j).foldl (bistResult failed) s
  let s := (coresOf s j).foldl scramble (setJob s j { jobOf s j with testing := false })
  if jobState s j = 5 ∧ ¬ failed.isEmpty then restartFails s j 0x0E else s

/-- Cores under test belong together: those of one job, of one command, or one idle core that was due. -/
def fieldTestDone (s : State) (cores failed : List Nat) : State :=
  match (List.range 64).find? fun j => coresOf s j = cores with
  | some j => if jobState s j = 8 then jobTested s j failed else faultedTested s j failed
  | none =>
    if cores.any (inJob s) then s
    else match idleRun s cores with
      | some r =>
        if r.aux = cores ∧ canComplete s r.src then
          testRunEnds (idleTested s cores failed) r cores.length failed.length 2 (cores.headD 0)
        else s
      | none => if cores.length = 1 then idleTested s cores failed else s

def execFieldTestDone (cores failed : List CoreId) (s : State) :=
  act s fun s =>
    let c := cores.map (·.val)
    let f := (failed.map (·.val)).eraseDups
    if ¬ c.isEmpty ∧ (c.all fun n => (core s n).testing) ∧ f.all c.contains then fieldTestDone s c f else s

/-! ### CORE_RESET (R415, R416) -/

/-- A core of breath `j`'s job is reset: the job faults with CORE_RESET (Table 15-5), and its breath's counters and its
channels' are cleared (R73, Tables 10-1 and 15-8; log entry 156). -/
def ownerReset (s : State) (j n : Nat) : State :=
  let s := (jobConvs s j).foldl (fun s e => clearConvCounters s e.1 e.2) (clearBreathCounters s j)
  raise (assignCore s j n) j 0x0B (brth s j).started.toNat

/-- CORE_RESET: the core is reset, and the job that owns it faults. Its other memory is kept (Table 15-8). -/
def coreResetBody (c : Cmd) (s : State) : Ans :=
  let n := c.f 1 0 10
  let j := coreBreath s n
  let own := assigned s n
  let s := if own then noteEpochs s n else s
  let s := resetCore s n false
  let s := if own then ownerReset s j n else s
  .ends (journalReset s 5) 0 0 [] (c.digestChange 2 n)

def execCoreReset (src : Src) (s : State) :=
  act s fun s => serve 0x0B03 [low 9] (fun c => [coreLock s (c.f 1 0 10)]) coreResetBody src s

end Sys2Proof.Machine
end

