-- ==== Sys2Proof/Machine/Power.lean ====
section
/-! DEFINITION. The power manager: epochs, temperature, regulators, island states, recalibration, and P-STANDBY (R419 to
R434, R455, R459). -/
namespace Sys2Proof.Machine

/-- The L0 job's condition `bit` of Table 19-1 fails. -/
def l0Fails (s : State) (bit : Nat) : State :=
  match l0Breath s with
  | some j => failCond s j bit
  | none => s

/-! ### The epoch (R431) -/

/-- Core `n` belongs to the L0 job. -/
def l0Core (s : State) (n : Nat) : Bool :=
  match l0Breath s with
  | some j => (coresOf s j).contains n
  | none => false

/-- Cores whose islands are in state `v`. -/
def islandsIn (s : State) (v : Nat) : List Nat := (List.range 1024).filter fun n => island s n = v

/-- Every island of die `d` is held at 0.4 GHz: its regulator has reported a fault, or the package is too hot (R432,
R459). -/
def heldLow (s : State) (d : Nat) : Bool := s.power.crit || s.power.vreg.contains d

/-- Frequency code on die `d` under a cap `c`, for an L0 core or another (R431). -/
def freqCode (s : State) (d c : Nat) (l0 : Bool) : Nat :=
  if heldLow s d then 16 else if l0 then rdF s R.pwrL0Freq 0 7 else c

/-- RUN, IDLE and NAP islands of a die: its own cores but for those of the L0 job, and whether an L0 core is awake. -/
structure DieLoad where
  run : Nat
  idle : Nat
  nap : Nat
  l0 : Bool
  deriving DecidableEq, Repr

def dieLoad (s : State) (d : Nat) : DieLoad :=
  let own (v : Nat) : List Nat := (islandsIn s v).filter fun n => dieOf n = d
  let others (v : Nat) : Nat := ((own v).filter fun n => !l0Core s n).length
  ⟨others 0, others 1, others 2, (own 0 ++ own 1).any (l0Core s)⟩

/-- Code of a die's voltage under a cap: that of the highest frequency of its RUN and IDLE islands (R428). With none
awake, that of the lowest code: DEDUCED. -/
def dieCode (s : State) (d c : Nat) (l : DieLoad) : Nat :=
  max (if l.run + l.idle > 0 then freqCode s d c false else 16) (if l.l0 then freqCode s d c true else 16)

/-- Modelled power of the non-L0 islands of the package under a cap (R429, R431). -/
def epochCost (s : State) (loads : List (Nat × DieLoad)) (c : Nat) : Nat :=
  (loads.map fun e =>
    let v := dieCode s e.1 c e.2
    e.2.run * runPower (freqCode s e.1 c false) v + e.2.idle * idlePower v + e.2.nap * napPower).sum

/-- Islands of RUNNING jobs' cores: RUN while an engine is active and not parked, else IDLE (R425). -/
def setIslands (s : State) (active : List Nat) : State :=
  (List.range 64).foldl (fun s j =>
    if jobState s j = 3 then (coresOf s j).foldl (fun s n => setIsland s n (if active.contains n then 0 else 1)) s else s) s

/-- Die voltages under a cap, in mV (Table 16-8; rounding: log entry 27). -/
def dieVoltages (s : State) (loads : List (Nat × DieLoad)) (c : Nat) : W64 :=
  w64 (loads.map fun e => (voltOf (dieCode s e.1 c e.2) + 5000) / 10000 * 2 ^ (16 * e.1)).sum

/-- The cap of an epoch: the highest that the budget allows, stepped down while the 1 ms average is over the limit or the
package is warm (R431). -/
def epochCap (s : State) (loads : List (Nat × DieLoad)) (u : Nat) (exceeds : Bool) : Nat :=
  let b : Int := (rdF s R.pwrLimit 0 7 * 1000 * mW : Nat) - (u * mW : Nat) - (reservation s (l0Cores s) : Nat)
  let c := (((List.range 65).map fun i => 80 - i).find? fun c => decide ((epochCost s loads c : Int) ≤ b)).getD 16
  let prev := rdF s R.pwrCap 0 7
  let c := if exceeds then min c (prev - 1) else c
  let c := if s.power.warm then min c (prev - 1) else c
  let c := if s.power.crit then 16 else c
  max c 16

/-- The 1 ms average of the measured power, in mW, rounded half up (log entry 27). -/
def average (l : List Nat) : Nat := (l.sum + l.length / 2) / max l.length 1

/-- One epoch of 10 µs: `mw` is the package power measured in the last one, `active` the cores with an engine that is
active and not parked (R431). Each epoch writes the die voltages, which ends a regulator's fault (R459). -/
def powerEpoch (s : State) (mw : Nat) (active : List Nat) : State :=
  let s := setIslands s active
  let u := max (mw - toMw s.power.modelled) (rdF s R.pwrUncoreMin 0 32)
  let epochs := (mw :: s.power.epochs).take 100
  let exceeds := epochs.sum > rdF s R.pwrLimit 0 7 * 1000 * epochs.length
  let loads := [0, 1, 2, 3].map fun d => (d, dieLoad s d)
  let c := epochCap s loads u exceeds
  let run := (islandsIn s 0).length
  let s := { s with power := { s.power with
      modelled := epochCost s loads c + reservation s (l0Cores s), epochs := epochs, vreg := [] } }
  let s := wr s R.dieVoltage (dieVoltages s loads c)
  let s := wr s R.pwrMeasured (w64 (average epochs % 2 ^ 32 + max (rdF s R.pwrMeasured 32 32) (mw % 2 ^ 32) * 2 ^ 32))
  let s := wr s R.pwrUncore (w64 (u % 2 ^ 32))
  let s := wr s R.pwrCap (w64 (c + run * 2 ^ 16 + (islandsIn s 1).length * 2 ^ 32))
  let s := if exceeds then setB s R.pwrAlarm 0 else s
  if throttled s then bump s R.pwrThrottleUs 10 else s

def execPowerEpoch (mw : Nat) (cores : List Nat) (s : State) := act s fun s => powerEpoch s mw cores

/-! ### Regulators and islands (R425, R426, R434, R459) -/

def execVregFault (die : Fin 4) (s : State) :=
  act s fun s => { setB s R.pwrAlarm 6 with power := { s.power with vreg := (die.val :: s.power.vreg).eraseDups } }

/-- The state that core `n`'s island falls into when `NAP_DELAY` has passed; none while its job keeps it awake (R425). -/
def napState (s : State) (n : Nat) : Option Nat :=
  match (List.range 64).find? fun j => (coresOf s j).contains n with
  | some j => if jobState s j = 3 ∨ jobState s j = 5 ∨ jobState s j = 8 then none else some 2
  | none => some 3

def execIslandNap (n : CoreId) (s : State) :=
  act s fun s => match napState s n.val with
    | some v => if island s n.val < 2 then setIsland s n.val v else s
    | none => s

/-- An access wakes an island; requests that merge set `CORE_PULSE_OVR.WAKE` (R426). -/
def execIslandWake (n : CoreId) (merged : Bool) (s : State) :=
  act s fun s =>
    if island s n.val < 2 then s
    else
      let s := wakeIsland s n.val
      if merged then cwB s n.val R.corePulseOvr 1 true else s

/-- A recalibration holds flits for at most 300 ns and is not counted as a replay: it changes nothing but their timing
(R217, R434; log entry 40). -/
def execLigatureRecalibration (_ : LinkId) (s : State) := act s fun s => s

/-- Link `l` lies on a path of breath `j`'s job. -/
def onJobPath (s : State) (j : Nat) (l : LinkId) : Bool :=
  match l with
  | .mesh node out => usesLink s j (nodeIx node) (portIx out)
  | .peer _ => false

/-- A module on a path of the L0 job is recalibrated whatever the breath's state (R434). -/
def execRecalForced (l : LinkId) (s : State) :=
  act s fun s => match l0Breath s with
    | some j => if isLigature l ∧ onJobPath s j l then failCond (setB (bump s R.pwrRecalForced 1) R.pwrAlarm 5) j 5 else s
    | none => s

/-! ### P-STANDBY (R421 to R424) -/

/-- Every awake island goes to NAP, or OFF where the core has no job (R425). -/
def allNap (s : State) : State :=
  (List.range 1024).foldl (fun s n =>
    if island s n < 2 then setIsland s n (if inJob s n then 2 else 3) else s) s

/-- Entry: the output pads are latched, the timers stop, and the wake monitor is armed. A new wake record can then raise
its interrupt (R421; log entry 41). -/
def standbyEntry (s : State) : State :=
  let pads := BitVec.ofNat 16 (rdF s R.gpioOut 0 16)
  let s := allNap (latchAll s)
  let s := bump (setB s R.pwrState 3) R.standbyEntries 1
  { s with chip := { s.chip with phase := .standby, standbyAsked := false, padGpio := pads, wakeIrq := false } }

def execStandbyEntry (s : State) := actPhase s fun s => if s.chip.standbyAsked then standbyEntry s else s

/-- Wake source `c` is enabled, and `WAKE_AT` has been reached where it is that source (Table 16-3). -/
def wakeEnabled (s : State) (gpio : Fin 16) (c : Nat) (now : Nat) : Bool :=
  let w := rd s R.wakeConfig
  let pin := bitAt w (16 + gpio.val)
  if c = 1 then true
  else if c = 2 then bitAt w 3
  else if c = 3 then pin && bitAt w (32 + gpio.val)
  else if c = 4 then pin && !bitAt w (32 + gpio.val)
  else if c = 5 then bitAt w 0
  else if c = 6 then bitAt w 1
  else if c = 7 then bitAt w 4 && (rd s R.wakeAt).toNat ≤ now
  else bitAt w 5

/-- The enabled sources among those present, as `WAKE_SOURCE.MASK`. -/
def wakeMask (s : State) (mask : BitVec 8) (gpio : Fin 16) (now : Nat) : Nat :=
  ((List.range 8).map fun i => b2n (mask.getLsbD i && wakeEnabled s gpio (i + 1) now) * 2 ^ i).sum

/-- Exit: device time goes on by the ticks that elapsed, the timers are made up, and the wake is recorded, with the
lowest code present (R309, R423). -/
def standbyExit (s : State) (mask : Nat) (gpio : Fin 16) (ticks : Nat) : State :=
  let s := makeupAll { s with time := s.time + 1000 * ticks * 2 ^ 32 } ticks
  let code := (((List.range 8).find? fun i => (mask / 2 ^ i) % 2 = 1).getD 0) + 1
  let pin := if code = 3 ∨ code = 4 then gpio.val else 0
  let s := wr (wr s R.wakeSource (w64 (code + pin * 2 ^ 8 + mask * 2 ^ 16))) R.wakeTime (w64 (nowNs s))
  aimPulse { s with chip := { s.chip with phase := .running, wakeIrq := true, lastTick := nowNs s / 1000 } }

def execStandbyWake (mask : BitVec 8) (gpio : Fin 16) (ticks : Nat) (s : State) :=
  actAlways s fun s =>
    let m := wakeMask s mask gpio (nowNs s + 1000 * ticks)
    if s.chip.phase = .standby ∧ s.chip.refclk ∧ m ≠ 0 then standbyExit s m gpio ticks else s

end Sys2Proof.Machine
end

