-- ==== Sys2Proof/Machine/Flash.lean ====
section
/-! DEFINITION. The flash, its boot pointers, firmware slots and their verification (R440 to R444). -/
namespace Sys2Proof.Machine

/-- Base of firmware slot `k` in flash: 0 A, 1 B (Table 17-1). -/
def fwBase (k : Nat) : Nat := 0x100000 + 0x800000 * k
/-- Size of a slot: 8 MiB. -/
def fwSize : Nat := 0x800000

/-- One byte of flash: as written, else erased, else as delivered (R440, R447). -/
def flashB (s : State) (a : Nat) : Byte :=
  match Sparse.get (fun _ => none) s.flash a with
  | some b => b
  | none => if s.erased.any fun k => fwBase k ≤ a && a < fwBase k + fwSize then 0xFF else Config.flashByte a

/-- `n` bytes of flash. -/
def flashN (s : State) (a n : Nat) : List Byte := (List.range n).map fun i => flashB s (a + i)
/-- A little-endian number in flash. -/
def flashU (s : State) (a n : Nat) : Nat := leNat (flashN s a n)

/-- Write bytes of flash. -/
def flashWrite (s : State) (a : Nat) : List Byte → State
  | [] => s
  | b :: r => flashWrite { s with flash := Sparse.set (fun _ => none) s.flash a (some b) } (a + 1) r

/-- Erase firmware slot `k`. -/
def eraseSlot (s : State) (k : Nat) : State :=
  { s with
    flash := Sparse.clear s.flash fun a => fwBase k ≤ a && a < fwBase k + fwSize
    erased := (k :: s.erased).eraseDups }

/-! ### Boot pointers (R441) -/

/-- Boot pointer copy `i` is valid. -/
def ptrValid (s : State) (i : Nat) : Bool :=
  flashU s (0x1000 * i) 4 = 0x50424B53 && flashU s (0x1000 * i + 28) 4 = crc32c (flashN s (0x1000 * i) 28)

def ptrSeq (s : State) (i : Nat) : Nat := flashU s (0x1000 * i + 4) 4
def ptrSlot (s : State) (i : Nat) : Nat := (flashB s (0x1000 * i + 8)).toNat % 2

/-- The valid copy that names the slot. -/
def namingPtr (s : State) : Option Nat :=
  if ptrValid s 0 then (if ptrValid s 1 ∧ ptrSeq s 0 < ptrSeq s 1 then some 1 else some 0)
  else if ptrValid s 1 then some 1 else none

/-- The named slot; A where no copy is valid. -/
def namedSlot (s : State) : Nat :=
  match namingPtr s with
  | some i => ptrSlot s i
  | none => 0

/-- Write boot pointer copy `i`. -/
def writePtr (s : State) (i seq slot : Nat) : State :=
  let l := leBytes 4 0x50424B53 ++ leBytes 4 (seq % 2 ^ 32) ++ leBytes 8 slot ++ List.replicate 12 0
  flashWrite s (0x1000 * i) (l ++ leBytes 4 (crc32c l))

/-- The pointer rewritten so that it names slot `k`: the other copy than the naming one, with the next `SEQ` (R447). With
no valid copy, copy 0 with `SEQ` 1: DEDUCED. -/
def namePtr (s : State) (k : Nat) : State :=
  match namingPtr s with
  | some i => writePtr s (1 - i) (ptrSeq s i + 1) k
  | none => writePtr s 0 1 k

/-! ### Verification (R442 to R444) -/

/-- The rollback counter: the number of fuses blown (R443). -/
def rollback (s : State) : Nat := ((List.range 64).filter fun i => s.boot.fuses.getLsbD i).length

def fwVersion (s : State) (k : Nat) : Nat := flashU s (fwBase k + 4) 4
def fwSvn (s : State) (k : Nat) : Nat := flashU s (fwBase k + 8) 4
def fwBody (s : State) (k : Nat) : Nat := flashU s (fwBase k + 12) 4

/-- What the signature and the measurement cover: the header followed by the body (R442). -/
def fwSigned (s : State) (k : Nat) : List Byte :=
  flashN s (fwBase k) 256 ++ flashN s (fwBase k + 256 + 7856) (fwBody s k)

/-- The measurement of an image (R442). -/
def fwMeasure (s : State) (k : Nat) : List Byte := sha256 (fwSigned s k)

/-- The outcome of a verification. -/
inductive FwCheck where
  | good | authFail | rolledBack
  deriving DecidableEq, Repr

/-- The checks of R444, in order. -/
def verifySlot (s : State) (k : Nat) : FwCheck :=
  let key := flashN s (fwBase k + 64) 32
  if flashU s (fwBase k) 4 ≠ 0x4D524650 ∨ 256 + 7856 + fwBody s k > fwSize then .authFail
  else if sha256 key ≠ Config.vendorKeyHash then .authFail
  else if fwSvn s k < rollback s then .rolledBack
  else if Config.signatureValid key (flashN s (fwBase k + 256) 7856) (fwSigned s k) then .good
  else .authFail

/-! ### Boot (R436, R444, R445) -/

/-- Mailboxes of the list are served. -/
def serveBoxes (s : State) (l : List Nat) : State := l.foldl (fun s m => setB s (R.mbStatus m) 0) s

/-- `DDR_CONFIG` as Chanter reads it; what Table 12-1 does not list is left unconfigured (R312). -/
def ddrFound : Nat :=
  let w := Config.ddrConfig.toNat
  if w % 2 = 1 && [4, 8, 12, 16].contains (w / 2 % 32) && w / 128 ≠ 3 then w else 0

/-- DDR5 as Chanter finds it: configuration, capacity and the end of its data (R34, R312). -/
def configureDdr (s : State) : State :=
  let w := ddrFound
  let c := w / 2 % 32 * 2 ^ 32
  let s := wr (wr s R.ddrConfig (w64 w)) R.ddrCapacity (w64 c)
  wr s R.ddrDataEnd (w64 (65536 * (c * 32 / (33 * 65536))))

/-- Role, ports in use and ID of this package as discovery after reset finds them; a place that the tree of R361 does not
have is none, and the package is STANDALONE (Table 13-13; log entry 29). -/
def treeFound : Nat × BitVec 4 × Nat :=
  let role := Config.tree.1.toNat
  let ports := Config.tree.2.1
  let id := Config.tree.2.2.toNat
  if role = 1 then (1, ports, 0)
  else if role = 2 && 1 ≤ id && id ≤ 4 then (2, (if id = 4 then ports &&& 7 else ports) ||| 1, id)
  else if role = 3 && 5 ≤ id then (3, 1, id)
  else (0, 0, 0)

/-- The tree as discovery after reset finds it (R361; log entry 29). -/
def discoverTree (s : State) : State :=
  let t := treeFound
  let role := t.1
  let s := wr s R.peerTree (w64 (role + t.2.1.toNat * 16))
  let s := wr s R.pkgId (w64 t.2.2)
  { s with mbox := { s.mbox with present := BitVec.ofNat 16 (1 + if role = 1 then t.2.1.toNat * 2 else 0) } }

/-- Chanter runs from slot `k` (R444). -/
def bootSlot (s : State) (k : Nat) (fallback : Bool) : State :=
  let s := { s with
    boot := { s.boot with
      slot := k, fallback := fallback, version := fwVersion s k, svn := fwSvn s k, meas := fwMeasure s k, expect := none }
    chip := { s.chip with phase := .running, lastTick := nowNs s / 1000 }
    power := { s.power with patrolFrom := nowNs s } }
  serveBoxes (discoverTree (configureDdr s)) (List.range 8)

/-- Neither slot verifies: recovery. No firmware runs, so what IDENTIFY reports of it is open (R445; log entry 1). -/
def recovery (s : State) : State :=
  let a := freshValue s
  let b := freshValue a.2
  let s := { b.2 with
    boot := { s.boot with
      slot := fld a.1 0 1, fallback := false, version := fld a.1 32 32, svn := fld b.1 0 32, meas := [], expect := none }
    chip := { s.chip with phase := .recovery, lastTick := nowNs s / 1000 } }
  serveBoxes s [0, 7]

/-- The boot phases after a cold or a warm reset (R436, R444, R445). -/
def bootUp (s : State) : State :=
  let k := namedSlot s
  if verifySlot s k = .good then bootSlot s k false
  else if verifySlot s (1 - k) = .good then bootSlot s (1 - k) true
  else recovery s

end Sys2Proof.Machine
end

