-- ==== Sys2Proof/Machine/Reset.lean ====
section
/-! DEFINITION. The resets, the thermal sample, the reference clock, the always-on supply and the TAP (R415 to R417, R432,
R436 to R438, R454 to R458, R461, R462). -/
namespace Sys2Proof.Machine

/-! ### What resets keep (Table 15-8) -/

/-- Registers of the always-on domain (R439). -/
def alwaysOn (o : Nat) : Bool := (0x8070 ≤ o && o < 0x8090) || (0x8098 ≤ o && o < 0x80A8)

/-- What remains of the cores: marks, test ages and results; a test that the reset ends runs again at its job's next
start. `shift` moves the ages with device time (R414, R417). -/
def keptCores (s : State) (shift : Int) : Sparse Core :=
  s.cores.foldl (fun m e =>
    Sparse.set (fun _ => {}) m e.1
      { testAt := e.2.testAt - shift, testFailed := e.2.testFailed, bad := e.2.bad
        retest := e.2.retest || (e.2.testing && inJob s e.1) }) []

/-- Pins and the TAP, which a reset does not set (R454, R456). -/
def keptPins (s : State) (phase : Phase) : Chip :=
  { phase := phase, refclk := s.chip.refclk, perst := s.chip.perst, tapIr := s.chip.tapIr, tapDr := s.chip.tapDr,
    gpioIn := s.chip.gpioIn, frameSync := s.chip.frameSync, evtFrm := s.chip.evtFrm }

/-- Write the reset record: `RESET_CAUSE` and `RESET_TIME` (R438). `bits` holds [10:8]; a record after the first reset
no longer began at power-on: DEDUCED (log entry 42). -/
def recordReset (s : State) (type supply bits : Nat) : State :=
  let count := min (rdF s R.resetCause 16 16 + 1) 65535
  wr (wr s R.resetCause (w64 (type + supply * 16 + bits * 256 + count * 2 ^ 16))) R.resetTime (w64 (nowNs s))

/-! ### Cold reset (R415, R461) -/

/-- Everything that a cold reset loses is at its reset value (Table 15-8, R289, R320, R350, R424). -/
def coldState (s : State) : State :=
  { pending := s.pending, free := s.free, outs := s.outs, flash := s.flash, erased := s.erased
    regs := Sparse.clear s.regs fun o => !alwaysOn o
    cores := keptCores s (nowNs s)
    chip := keptPins s .coldHeld, boot := { fuses := s.boot.fuses }, power := { hot := s.power.hot } }

/-- A cold reset with its record. One during another is part of it; the record then keeps the lowest rail code (R461). -/
def coldReset (s : State) (supply bits : Nat) : State :=
  if s.chip.phase = .off then s
  else if s.chip.phase = .coldHeld then
    let w := rd s R.resetCause
    wr s R.resetCause (putFld w 4 4 (min (fld w 4 4) supply) ||| w64 (bits * 256))
  else coldState (recordReset s 0 supply bits)

/-- A thermal reset holds the package until it has cooled (R432). -/
def thermalReset (s : State) : State := coldReset { s with power := { s.power with hot := true } } 0xF 1

/-- Power-on from P-OFF: the always-on record begins (R438, Table 16-8). -/
def powerOn (s : State) : State :=
  if s.chip.phase = .off then
    wr { s with chip := { s.chip with phase := .coldHeld } } R.resetCause (w64 (0xF * 16 + 2 * 256))
  else s

/-- The TAP holds the pads: EXTEST or CLAMP (R456). -/
def tapDrives (s : State) : Bool := s.chip.tapIr = .extest || s.chip.tapIr = .clamp

/-- The TAP takes instruction `ir`; leaving EXTEST or CLAMP resets the package (R456). -/
def tapTakes (s : State) (ir : TapIr) : State :=
  let leaves := tapDrives s && ir ≠ s.chip.tapIr
  let s := { s with chip := { s.chip with tapIr := ir, tapDr := if ir = .idcode then 0x24C10173 else s.chip.tapDr } }
  if leaves then coldReset s 0xF 4 else s

def execColdReset (cause : ColdCause) (s : State) :=
  actAlways s fun s => match cause with
    | .powerOn => powerOn s
    | .supply rail => if rail.val ≤ 10 then coldReset s rail.val 0 else s
    | .thermal => if s.chip.phase = .off then s else thermalReset s
    | .jtag => if tapDrives s then tapTakes s .logicReset else s

def execJtagInstruction (ir : TapIr) (s : State) :=
  actAlways s fun s => if s.chip.phase = .off then s else tapTakes s ir

/-- The links train while the package comes up; those of `down` fail, and are DOWN (R220, R360). In recovery no firmware
runs that would journal it. A peer port that is not among them has trained (log entry 162). -/
def trainAll (s : State) (down : List LinkId) : State :=
  let s := (List.range 4).foldl (fun s p => setB s (R.peerStatus p) 2) s
  (down.filter linkExists).foldl (fun s l =>
    if stateOf s l = 3 then s else if s.chip.phase = .running then goesDown s l else fall s l) s

/-- The cold reset is released, and the boot phases run; a thermal reset holds on (R436, R461). -/
def execColdResetRelease (down : List LinkId) (s : State) :=
  actAlways s fun s => if s.chip.phase = .coldHeld ∧ s.chip.refclk ∧ ¬ s.power.hot then trainAll (bootUp s) down else s

/-! ### Warm reset (R416, R437) -/

/-- What a warm reset leaves: device time, records, journal, DDR5 and hub SRAM up to bank 60 (Table 15-8); the pads stay
held (R424). -/
def warmState (s : State) : State :=
  { coldState s with
    regs := Sparse.clear s.regs fun o => !(alwaysOn o || (o = R.pwrState && padHold s))
    mem := Sparse.clear s.mem fun a => decide (0x001001E80000 ≤ a)
    tags := s.tags, time := s.time, cores := keptCores s 0
    chip := { keptPins s .warmHeld with perst := true, padGpio := s.chip.padGpio, temps := s.chip.temps }
    mbox := { journalSeq := s.mbox.journalSeq, journalHeld := s.mbox.journalHeld } }

/-- The wake that a PERST# assertion in P-STANDBY records (R437). -/
def perstWake (s : State) : State :=
  if s.chip.phase = .standby then wr (wr s R.wakeSource (w64 (1 + 2 ^ 16))) R.wakeTime (w64 (nowNs s)) else s

/-- PERST# is asserted: a warm reset, but for an assertion that is part of a cold reset (R461). -/
def warmReset (s : State) : State :=
  if s.chip.phase = .coldHeld ∨ s.chip.phase = .off ∨ ¬ s.chip.refclk then { s with chip := { s.chip with perst := true } }
  else warmState (journalReset (recordReset (perstWake s) 1 0xF 0) 1)

def execWarmReset (s : State) := actAlways s fun s => if s.chip.perst then s else warmReset s

/-- PERST# is deasserted: a warm reset ends, and Chanter boots again (R436, R437). -/
def execPerstDeassertion (down : List LinkId) (s : State) :=
  actAlways s fun s =>
    let t := { s with chip := { s.chip with perst := false } }
    if s.chip.perst ∧ s.chip.phase = .warmHeld ∧ s.chip.refclk then trainAll (bootUp t) down else t

/-! ### Hot and function-level reset (R393, R416, R417) -/

/-- Breath of the job that a running command is for. -/
def runBreath (s : State) (r : Run) : Option Nat := (List.range 64).find? fun j => jobState s j ≠ 0 && r.onJob (jobId s j)

/-- A running command is cancelled without a completion: what it had begun for a job ends (R393, R417). A restart and
the test of a job's cores go on; a test of idle cores ends. -/
def hotCancel (s : State) (r : Run) : State :=
  let s := { s with mbox := { s.mbox with runs := s.mbox.runs.filter fun x => x.id ≠ r.id } }
  match runBreath s r with
  | some j =>
    if r.opcode = 0x0101 then wr (forgetJob s j) (R.brthRect j) 0
    else if r.opcode = 0x0104 then unaskSuspend s j 1
    else if r.opcode = 0x0103 then unaskSuspend s j 2
    else if r.opcode = 0x0A01 ∧ jobState s j = 8 then s
    else withdrawRun s j r
  | none =>
    if r.opcode = 0x0A01 then
      r.aux.foldl (fun s n => resetCore (upCore s n fun k => { k with testing := false }) n false) s
    else s

/-- Registers of the host interface: mailboxes, interrupts, windows and outbound slots, MSI-X (Table 15-8). -/
def hostReg (o : Nat) : Bool :=
  (0x1000 ≤ o && o < 0x1800) || (0x2000 ≤ o && o < 0x3000) || (0x3000 ≤ o && o < 0x3180) || (0x10000 ≤ o && o ≤ 0x10800)

/-- Mailboxes that are served: in recovery 0 and 7 alone (R445). -/
def servedBoxes (s : State) : List Nat := if s.chip.phase = .recovery then [0, 7] else List.range 8

/-- Host accesses that a core's halt still holds up: the writes have been accepted, a read's requester is gone (DESIGN
CHOICE, log entry 156). -/
def dropHostReads (s : State) (n : Nat) : State :=
  upCore s n fun c => { c with hostWaits := c.hostWaits.filter fun x => match x with
    | .read _ _ => false
    | _ => true }

/-- A converter counter: a Mouthpiece or Bell channel's, or the Event Port's, which every reset but a job's clears (Tables
10-1, 10-3 and 10-4). -/
def convCounterReg (o : Nat) : Bool := hubCounter 4 o

/-- The host interface, the mailboxes and the timers are reset; jobs run on (R393, R416, Table 15-8). -/
def hotReset (s : State) (code : Nat) : State :=
  let s := journalReset (recordReset s code 0xF 0) code
  let s := s.mbox.runs.foldl hotCancel s
  let s := (List.range 64).foldl clearBreathCounters (timersReset s)
  let s := (s.cores.map (·.1)).foldl dropHostReads s
  let s := { s with
    regs := Sparse.clear s.regs fun o => hostReg o || convCounterReg o
    mem := Sparse.clear s.mem fun a => decide (0x001001F00000 ≤ a ∧ a < 0x001001F80000)
    hostRd := []
    mbox := { s.mbox with runs := [], kept := [], lastServed := 7, bells := [], held := [], mgmtPtr := 0, mgmtLatch := 0,
                          mgmtRead := [], relayTo := [], portA := [] } }
  serveBoxes s (servedBoxes s)

def execHotReset (flr : Bool) (s : State) :=
  actServed s fun s => if s.chip.perst then s else hotReset s (if flr then 3 else 2)

/-! ### Clock and supply (R458, R462) -/

/-- SYS_REFCLK stops: the package holds its state (R462). -/
def execRefclkLoss (s : State) := actAlways s fun s => { s with chip := { s.chip with refclk := false } }

def execRefclkReturn (s : State) := actAlways s fun s => { s with chip := { s.chip with refclk := true } }

/-- VDD_AON is lost: P-OFF. What flash and fuses hold remains (R419, R438, R458). -/
def execVddAonLoss (s : State) :=
  actAlways s fun s =>
    { coldState s with
      regs := [], time := 0, chip := { keptPins s .off with tapIr := .logicReset, tapDr := 0 }, power := {} }

/-! ### Temperature (R432) -/

/-- The hottest reading and the sensor that gave it, the lowest of several. -/
def hottest : List Int → Nat → Int × Nat
  | [], _ => (0, 0)
  | [t], k => (t, k)
  | t :: l, k => let r := hottest l (k + 1); if t ≥ r.1 then (t, k) else r

/-- The conditions and alarms of a reading `t`, in 1/16 °C (R432). -/
def thermalAlarms (s : State) (t : Int) : State :=
  let warn := (tMax - (rdF s R.thermWarnOffset 0 4 : Nat)) * 16
  let warm := decide (t ≥ warn) || (s.power.warm && decide (t > warn - 32))
  let crit := decide (t ≥ tMax * 16) || (s.power.crit && decide (t ≥ warn))
  let s := { s with power := { s.power with warm := warm, crit := crit } }
  let s := if t ≥ warn then setB s R.pwrAlarm 1 else s
  if t ≥ tMax * 16 then
    let s := setB s R.pwrAlarm 2
    if (l0Breath s).isSome then l0Fails (setB s R.pwrAlarm 4) 1 else s
  else s

/-- A sample of the 64 sensors. The package's reset is released below T_max - 10 °C (R432). -/
def thermalSample (s : State) (temps : List Int) : State :=
  let h := hottest temps 0
  if h.1 ≥ (tMax + 10) * 16 then thermalReset s
  else
    let s := { s with power := { s.power with hot := s.power.hot && decide (h.1 ≥ (tMax - 10) * 16) } }
    if ¬ live s then s
    else
      let s := { s with chip := { s.chip with temps := temps } }
      thermalAlarms (wr s R.thermStatus (w64 (ux 16 h.1 + h.2 * 2 ^ 16))) h.1

def execThermalSample (temps : List Int) (s : State) :=
  actAlways s fun s => if temps.length = 64 ∧ s.chip.phase ≠ .off then thermalSample s temps else s

end Sys2Proof.Machine
end

