-- ==== Sys2Proof/Machine/SecCmd.lean ====
section
/-! DEFINITION. The firmware, certificate and attestation commands, and the blowing of the rollback fuses (R446 to R451).
-/
namespace Sys2Proof.Machine

/-! ### Firmware updates (R447) -/

/-- The slot that the running firmware was not booted from. -/
def inactive (s : State) : Nat := 1 - s.boot.slot % 2

def fwLock (_ : Cmd) : List Lock := [.firmware]

/-- FW_UPDATE_BEGIN. -/
def fwBeginBody (c : Cmd) (s : State) : Ans :=
  let n := c.f 1 0 32
  if n > fwSize then .badParam s 1
  else
    let s := eraseSlot s (inactive s)
    .ends { s with boot := { s.boot with expect := some n } } 0 0 [] (c.digestChange 9 (inactive s))

def execFwUpdateBegin (src : Src) (s : State) :=
  actFirmware s fun s => serve 0x0C03 [low 31] fwLock fwBeginBody src s

/-- FW_UPDATE_WRITE. The state code of an update that has not begun is 0: DEDUCED. -/
def fwWriteBody (c : Cmd) (s : State) : Ans :=
  let o := c.f 2 0 32
  let n := c.f 3 0 32
  match s.boot.expect with
  | none => .badState s 0
  | some b =>
    if o > b then .badParam s 2
    else if o + n > b then .badParam s 3
    else withSource s none (c.c 1).toNat n 1 fun l s =>
      .ends (flashWrite s (fwBase (inactive s) + o) l) 0 0 [] (c.digestChange 9 (inactive s))

def execFwUpdateWrite (src : Src) (s : State) :=
  actFirmware s fun s => serve 0x0C04 [low 63, low 31, low 31] fwLock fwWriteBody src s

/-- FW_UPDATE_COMMIT: the verification goes on in the background. -/
def fwCommitBody (_ : Cmd) (s : State) : Ans :=
  if bgCount s ≥ 4 then .fail s 0x14 0 else .runs s true [.firmware] []

def execFwUpdateCommit (src : Src) (s : State) := actFirmware s fun s => serve 0x0C05 [] fwLock fwCommitBody src s

/-- The header of slot `k` erased (R447). -/
def eraseHeader (s : State) (k : Nat) : State := flashWrite s (fwBase k) (List.replicate 256 0xFF)

/-- The inactive slot has been verified: it is named for the next boot, or its header is erased (R447). -/
def fwCommitDone (s : State) (r : Run) : State :=
  let k := inactive s
  let v := verifySlot s k
  let s := { s with boot := { s.boot with expect := none } }
  match v with
  | .good => endRun (namePtr s k) r 0 0 [w64 k] (r.digestChange 9 k)
  | .rolledBack => endRun (eraseHeader s k) r 0x1E 0 [] none
  | .authFail => endRun (eraseHeader s k) r 0x1D 0 [] none

def execFwUpdateCommitDone (id : Nat) (s : State) := actFirmware s fun s => finish s id 0x0C05 (fwCommitDone s)

/-! ### The rollback counter (R446) -/

/-- Blow the lowest fuses that are whole until `n` are blown. -/
def blow (fuses : BitVec 64) : Nat → BitVec 64
  | 0 => fuses
  | k + 1 =>
    match (List.range 64).find? fun i => !fuses.getLsbD i with
    | some i => blow (fuses ||| BitVec.ofNat 64 (2 ^ i)) k
    | none => fuses

/-- Chanter blows fuses until the counter equals the running firmware's `SVN`, and journals it. -/
def blowFuses (s : State) : State :=
  let old := s.boot.fuses
  let new := blow old (s.boot.svn - rollback s)
  journalAct { s with boot := { s.boot with fuses := new } } ⟨10, 0, crcOf 8 old.toNat, crcOf 8 new.toNat⟩

def execRollbackFuseBlow (s : State) := actStore s fun s => if rollback s < s.boot.svn then blowFuses s else s

/-! ### The certificate (R449) -/

/-- Length of the DER element at the start of the certificate area. PRESUMED: X.690's definite lengths. -/
def derLength (s : State) : Nat :=
  let b := (flashB s 0x10001).toNat
  if b < 128 then b + 2 else leNat (flashN s 0x10002 (b - 128)).reverse + 2 + (b - 128)

/-- CERT_READ: the certificate as it lies in its 64 KiB of flash. -/
def certReadBody (c : Cmd) (s : State) : Ans :=
  let l := flashN s 0x10000 (min (derLength s) 65536)
  deliver s (c.c 1).toNat 1 (c.f 2 0 32) 2 l fun s => .reads s [w64 l.length]

def execCertRead (src : Src) (s : State) :=
  act s fun s => serve 0x0C02 [low 63, low 31] (fun _ => []) certReadBody src s

/-! ### Attestation (R450, R451) -/

/-- Cores marked bad. -/
def badCores (s : State) : List Nat := (List.range 1024).filter fun n => (core s n).bad

/-- The configuration digest: board configuration area, then bad-core mark area (R450). -/
def configDigest (s : State) : List Byte := sha256 (flashN s 0x20000 0x10000 ++ Config.markArea (badCores s))

/-- Breaths whose jobs are LOADED or later, by job ID. -/
def attestedJobs (s : State) : List Nat :=
  byJob s ((List.range 64).filter fun j => 2 ≤ jobState s j)

/-- A job entry (Table 17-3). -/
def jobEntry (s : State) (j : Nat) : List Byte :=
  leBytes 8 (jobId s j + (jobOf s j).pkg % 256 * 2 ^ 8 + j * 2 ^ 16 + jobState s j * 2 ^ 24) ++ (jobOf s j).measure
    ++ leBytes 8 (jobOf s j).loaded

/-- The report before its signature (Table 17-3). -/
def report (s : State) (nonce : List Byte) : List Byte :=
  let jobs := attestedJobs s
  let boot := s.boot.slot % 2 + b2n s.boot.fallback * 2 + b2n (namedSlot s ≠ s.boot.slot) * 4
  leBytes 4 0x54414B53 ++ leBytes 2 1 ++ leBytes 2 jobs.length ++ nonce ++ leBytes 8 (nowNs s)
    ++ leBytes 4 s.boot.version ++ leBytes 4 s.boot.svn ++ leBytes 8 s.boot.fuses.toNat ++ s.boot.meas ++ configDigest s
    ++ leBytes 2 (hubPeek s R.memberId).toNat ++ leBytes 2 (hubPeek s R.stepping).toNat
    ++ leBytes 1 (rdF s R.pkgId 0 4) ++ leBytes 1 boot ++ List.replicate 58 0 ++ jobs.flatMap (jobEntry s)

/-- Length of a signature of the device key, SLH-DSA-SHA2-128f (Table 17-3). -/
def signBytes : Nat := 17088

/-- The signed report: the signature covers every byte before it. -/
def signed (l : List Byte) : List Byte :=
  let g := (Config.deviceSign l).take signBytes
  l ++ g ++ List.replicate (signBytes - g.length) 0

/-- ATTEST: the snapshot is taken now, and signed in the background. -/
def attestBody (c : Cmd) (s : State) : Ans :=
  let l := report s (bytesOf [c.c 1, c.c 2, c.c 3, c.c 4])
  let n := l.length + signBytes
  if bgCount s ≥ 4 then .fail s 0x14 0
  else if c.f 6 0 32 < cdiv n 256 * 256 then .badParam s 6
  else checkRange s (c.c 5).toNat n 5 (.runs s true [] (l.map fun b => b.toNat))

def execAttest (src : Src) (s : State) :=
  act s fun s => serve 0x0C01 [low 63, low 63, low 63, low 63, low 63, low 31] (fun _ => []) attestBody src s

/-- The report has been signed, and is written. -/
def attestSigned (s : State) (r : Run) : State :=
  let l := signed (r.aux.map fun b => BitVec.ofNat 8 b)
  endRun (writeBlocks (cdiv l.length 256) s (r.words.getD 5 0).toNat l) r 0 0 [w64 l.length] none

def execAttestSigned (id : Nat) (s : State) := act s fun s => finish s id 0x0C01 (attestSigned s)

end Sys2Proof.Machine
end

