-- ==== Sys2Proof/Machine/Dispatch.lean ====
section
/-! DEFINITION. One arm per command: the meaning each row of the table has. -/
namespace Sys2Proof.Machine

def exec (i : Instr) (s : State) : Host.Outcome State Fault Refusal :=
  match i with
  | .identify src => Sys2Proof.Machine.execIdentify src s
  | .nop src => Sys2Proof.Machine.execNop src s
  | .deviceStatus src => Sys2Proof.Machine.execDeviceStatus src s
  | .powerLimit src => Sys2Proof.Machine.execPowerLimit src s
  | .powerState src => Sys2Proof.Machine.execPowerState src s
  | .linkRetrain src up => Sys2Proof.Machine.execLinkRetrain src up s
  | .jobLoad src => Sys2Proof.Machine.execJobLoad src s
  | .jobLoadDone job => Sys2Proof.Machine.execJobLoadDone job s
  | .jobStart src => Sys2Proof.Machine.execJobStart src s
  | .jobStop src => Sys2Proof.Machine.execJobStop src s
  | .jobSuspend src => Sys2Proof.Machine.execJobSuspend src s
  | .jobResume src => Sys2Proof.Machine.execJobResume src s
  | .jobReset src => Sys2Proof.Machine.execJobReset src s
  | .jobUnload src => Sys2Proof.Machine.execJobUnload src s
  | .jobQuery src => Sys2Proof.Machine.execJobQuery src s
  | .jobPolicy src => Sys2Proof.Machine.execJobPolicy src s
  | .jobSetL0 src => Sys2Proof.Machine.execJobSetL0 src s
  | .tableChange src => Sys2Proof.Machine.execTableChange src s
  | .breathConfig src => Sys2Proof.Machine.execBreathConfig src s
  | .breathLagLimit src => Sys2Proof.Machine.execBreathLagLimit src s
  | .breathClear src => Sys2Proof.Machine.execBreathClear src s
  | .checkpoint src => Sys2Proof.Machine.execCheckpoint src s
  | .checkpointQuery src => Sys2Proof.Machine.execCheckpointQuery src s
  | .checkpointExport src => Sys2Proof.Machine.execCheckpointExport src s
  | .checkpointImport src => Sys2Proof.Machine.execCheckpointImport src s
  | .weightsRead src => Sys2Proof.Machine.execWeightsRead src s
  | .weightsWrite src => Sys2Proof.Machine.execWeightsWrite src s
  | .queueOp src => Sys2Proof.Machine.execQueueOp src s
  | .queueQuery src => Sys2Proof.Machine.execQueueQuery src s
  | .queueBind src => Sys2Proof.Machine.execQueueBind src s
  | .engineReset src => Sys2Proof.Machine.execEngineReset src s
  | .convConfig src => Sys2Proof.Machine.execConvConfig src s
  | .convStart src => Sys2Proof.Machine.execConvStart src s
  | .convStop src => Sys2Proof.Machine.execConvStop src s
  | .timeAdjust src => Sys2Proof.Machine.execTimeAdjust src s
  | .ownSet src => Sys2Proof.Machine.execOwnSet src s
  | .ownQuery src => Sys2Proof.Machine.execOwnQuery src s
  | .memFill src => Sys2Proof.Machine.execMemFill src s
  | .telemetryRead src => Sys2Proof.Machine.execTelemetryRead src s
  | .countersClear src => Sys2Proof.Machine.execCountersClear src s
  | .fieldTest src => Sys2Proof.Machine.execFieldTest src s
  | .fieldTestQuery src => Sys2Proof.Machine.execFieldTestQuery src s
  | .coreMark src => Sys2Proof.Machine.execCoreMark src s
  | .coreHalt src merged => Sys2Proof.Machine.execCoreHalt src merged s
  | .coreResume src merged => Sys2Proof.Machine.execCoreResume src merged s
  | .coreReset src => Sys2Proof.Machine.execCoreReset src s
  | .attest src => Sys2Proof.Machine.execAttest src s
  | .attestSigned id => Sys2Proof.Machine.execAttestSigned id s
  | .certRead src => Sys2Proof.Machine.execCertRead src s
  | .fwUpdateBegin src => Sys2Proof.Machine.execFwUpdateBegin src s
  | .fwUpdateWrite src => Sys2Proof.Machine.execFwUpdateWrite src s
  | .fwUpdateCommit src => Sys2Proof.Machine.execFwUpdateCommit src s
  | .journalRead src => Sys2Proof.Machine.execJournalRead src s
  | .hierDiscover src => Sys2Proof.Machine.execHierDiscover src s
  | .hierQuery src => Sys2Proof.Machine.execHierQuery src s
  | .hierRelay src => Sys2Proof.Machine.execHierRelay src s
  | .hierRelayAnswer id entry => Sys2Proof.Machine.execHierRelayAnswer id entry s
  | .hierRelayTimeout id => Sys2Proof.Machine.execHierRelayTimeout id s
  | .badOpcode src => Sys2Proof.Machine.execBadOpcode src s
  | .entryError m headerBad => Sys2Proof.Machine.execEntryError m headerBad s
  | .doorbell m value => Sys2Proof.Machine.execDoorbell m value s
  | .mbCplCiWrite m value => Sys2Proof.Machine.execMbCplCiWrite m value s
  | .mgmtPortWrite x ptr data => Sys2Proof.Machine.execMgmtPortWrite x ptr data s
  | .mgmtPortRead x n => Sys2Proof.Machine.execMgmtPortRead x n s
  | .registerWrite a acc value => Sys2Proof.Machine.execRegisterWrite a acc value s
  | .timeNowLowRead => Sys2Proof.Machine.execTimeNowLowRead s
  | .tmrCountRead k => Sys2Proof.Machine.execTmrCountRead k s
  | .tmrCompareWrite k acc value => Sys2Proof.Machine.execTmrCompareWrite k acc value s
  | .tmrFreezeWrite k freeze => Sys2Proof.Machine.execTmrFreezeWrite k freeze s
  | .ownXferStart value => Sys2Proof.Machine.execOwnXferStart value s
  | .ownXferDone => Sys2Proof.Machine.execOwnXferDone s
  | .padRelease value => Sys2Proof.Machine.execPadRelease value s
  | .dmaGo e value => Sys2Proof.Machine.execDmaGo e value s
  | .dmaDone e errs => Sys2Proof.Machine.execDmaDone e errs s
  | .hostWindowWrite o data raced => Sys2Proof.Machine.execHostWindowWrite o data raced s
  | .verifiedWrite o data => Sys2Proof.Machine.execVerifiedWrite o data s
  | .hostWindowRead o n errs => Sys2Proof.Machine.execHostWindowRead o n errs s
  | .hostMemoryCompletion a data ok => Sys2Proof.Machine.execHostMemoryCompletion a data ok s
  | .queueOpen n q portB => Sys2Proof.Machine.execQueueOpen n q portB s
  | .queueClose n q portB => Sys2Proof.Machine.execQueueClose n q portB s
  | .queueDrain n q portB => Sys2Proof.Machine.execQueueDrain n q portB s
  | .queueConsume n q portB => Sys2Proof.Machine.execQueueConsume n q portB s
  | .queueSend n b off portB => Sys2Proof.Machine.execQueueSend n b off portB s
  | .queuePoll n q mask want => Sys2Proof.Machine.execQueuePoll n q mask want s
  | .pollSatisfied n e => Sys2Proof.Machine.execPollSatisfied n e s
  | .syncInit n o value e => Sys2Proof.Machine.execSyncInit n o value e s
  | .syncSignal n o value e => Sys2Proof.Machine.execSyncSignal n o value e s
  | .syncWait n o value e => Sys2Proof.Machine.execSyncWait n o value e s
  | .waitTimeout n e => Sys2Proof.Machine.execWaitTimeout n e s
  | .qopReserved n cmd portB => Sys2Proof.Machine.execQopReserved n cmd portB s
  | .enginePark n e => Sys2Proof.Machine.execEnginePark n e s
  | .qreq n f => Sys2Proof.Machine.execQreq n f s
  | .waitingGrant n q => Sys2Proof.Machine.execWaitingGrant n q s
  | .grant who f => Sys2Proof.Machine.execGrant who f s
  | .nackReceived who f => Sys2Proof.Machine.execNackReceived who f s
  | .nackBusyRetry who => Sys2Proof.Machine.execNackBusyRetry who s
  | .duplicate who f => Sys2Proof.Machine.execDuplicate who f s
  | .queueMessage n head bodies => Sys2Proof.Machine.execQueueMessage n head bodies s
  | .operandMessage n head bodies => Sys2Proof.Machine.execOperandMessage n head bodies s
  | .operandDelivery n q held taken => Sys2Proof.Machine.execOperandDelivery n q held taken s
  | .bulkBind n head bodies => Sys2Proof.Machine.execBulkBind n head bodies s
  | .bulkBlock n src circuit data tag raced => Sys2Proof.Machine.execBulkBlock n src circuit data tag raced s
  | .circuitSetup node p f => Sys2Proof.Machine.execCircuitSetup node p f s
  | .circuitTeardown node p f => Sys2Proof.Machine.execCircuitTeardown node p f s
  | .circuitReply n f => Sys2Proof.Machine.execCircuitReply n f s
  | .ctrlRead n f => Sys2Proof.Machine.execCtrlRead n f s
  | .ctrlWriteA n f => Sys2Proof.Machine.execCtrlWriteA n f s
  | .ctrlWriteD n f raced => Sys2Proof.Machine.execCtrlWriteD n f raced s
  | .ctrlResp who f => Sys2Proof.Machine.execCtrlResp who f s
  | .routerFlitArrival n p f epoch => Sys2Proof.Machine.execRouterFlitArrival n p f epoch s
  | .flitSend node out cyc => Sys2Proof.Machine.execFlitSend node out cyc s
  | .echoReceived who f cyc => Sys2Proof.Machine.execEchoReceived who f cyc s
  | .laneWordReceive node p lane word => Sys2Proof.Machine.execLaneWordReceive node p lane word s
  | .controlWordReceive l word good => Sys2Proof.Machine.execControlWordReceive l word good s
  | .replayTimeout l merged => Sys2Proof.Machine.execReplayTimeout l merged s
  | .retryWindowEnd l => Sys2Proof.Machine.execRetryWindowEnd l s
  | .linkRetrainEnd l up => Sys2Proof.Machine.execLinkRetrainEnd l up s
  | .drainBegin => Sys2Proof.Machine.execDrainBegin s
  | .drainFence => Sys2Proof.Machine.execDrainFence s
  | .cleanSweep => Sys2Proof.Machine.execCleanSweep s
  | .drainTimeout => Sys2Proof.Machine.execDrainTimeout s
  | .hubPortFlit p f epoch => Sys2Proof.Machine.execHubPortFlit p f epoch s
  | .stepStart j => Sys2Proof.Machine.execStepStart j s
  | .mpFetchDone c errs => Sys2Proof.Machine.execMpFetchDone c errs s
  | .mpInject c cyc => Sys2Proof.Machine.execMpInject c cyc s
  | .timerStartAction j merged => Sys2Proof.Machine.execTimerStartAction j merged s
  | .stepOverrun j => Sys2Proof.Machine.execStepOverrun j s
  | .frameSyncCapture merged => Sys2Proof.Machine.execFrameSyncCapture merged s
  | .frameMiss j => Sys2Proof.Machine.execFrameMiss j s
  | .frameArmMissing j => Sys2Proof.Machine.execFrameArmMissing j s
  | .suspendReached j => Sys2Proof.Machine.execSuspendReached j s
  | .coreStart n j t ue => Sys2Proof.Machine.execCoreStart n j t ue s
  | .coreCommit n j t ue => Sys2Proof.Machine.execCoreCommit n j t ue s
  | .coreHold n j t => Sys2Proof.Machine.execCoreHold n j t s
  | .heldUpdateStart n ue => Sys2Proof.Machine.execHeldUpdateStart n ue s
  | .emitFlit n cyc stalled => Sys2Proof.Machine.execEmitFlit n cyc stalled s
  | .barrierReportSend n kind tag cyc => Sys2Proof.Machine.execBarrierReportSend n kind tag cyc s
  | .doneSend n cyc => Sys2Proof.Machine.execDoneSend n cyc s
  | .eventIntake n f ue => Sys2Proof.Machine.execEventIntake n f ue s
  | .deferredIntake n ue => Sys2Proof.Machine.execDeferredIntake n ue s
  | .rollbackPass n ue => Sys2Proof.Machine.execRollbackPass n ue s
  | .splitValue n f ue => Sys2Proof.Machine.execSplitValue n f ue s
  | .splitCount n f => Sys2Proof.Machine.execSplitCount n f s
  | .combineContribution n f => Sys2Proof.Machine.execCombineContribution n f s
  | .plasticityHeldStart n ue => Sys2Proof.Machine.execPlasticityHeldStart n ue s
  | .modWaitEnd n cycles ue => Sys2Proof.Machine.execModWaitEnd n cycles ue s
  | .plasticityComplete n refused => Sys2Proof.Machine.execPlasticityComplete n refused s
  | .snapshotStreamDone n => Sys2Proof.Machine.execSnapshotStreamDone n s
  | .deadlockSample => Sys2Proof.Machine.execDeadlockSample s
  | .deadlock j => Sys2Proof.Machine.execDeadlock j s
  | .membraneReadResponse c f => Sys2Proof.Machine.execMembraneReadResponse c f s
  | .bellDelivery c => Sys2Proof.Machine.execBellDelivery c s
  | .evtInFrame words => Sys2Proof.Machine.execEvtInFrame words s
  | .evtOutFrame => Sys2Proof.Machine.execEvtOutFrame s
  | .evtInClockLoss => Sys2Proof.Machine.execEvtInClockLoss s
  | .deviceTimeTick at_ => Sys2Proof.Machine.execDeviceTimeTick at_ s
  | .ppsCapture merged => Sys2Proof.Machine.execPpsCapture merged s
  | .timeOutPulse => Sys2Proof.Machine.execTimeOutPulse s
  | .timerMatch k => Sys2Proof.Machine.execTimerMatch k s
  | .timerOverflow k => Sys2Proof.Machine.execTimerOverflow k s
  | .timerTrigger k merged => Sys2Proof.Machine.execTimerTrigger k merged s
  | .powerEpoch mw cores => Sys2Proof.Machine.execPowerEpoch mw cores s
  | .thermalSample temps => Sys2Proof.Machine.execThermalSample temps s
  | .vregFault die => Sys2Proof.Machine.execVregFault die s
  | .islandNap n => Sys2Proof.Machine.execIslandNap n s
  | .islandWake n merged => Sys2Proof.Machine.execIslandWake n merged s
  | .ligatureRecalibration l => Sys2Proof.Machine.execLigatureRecalibration l s
  | .recalForced l => Sys2Proof.Machine.execRecalForced l s
  | .ddrCalibration ch zq => Sys2Proof.Machine.execDdrCalibration ch zq s
  | .patrolScrubRead ecc inTag => Sys2Proof.Machine.execPatrolScrubRead ecc inTag s
  | .patrolLate => Sys2Proof.Machine.execPatrolLate s
  | .sramScrubRead a ecc raced => Sys2Proof.Machine.execSramScrubRead a ecc raced s
  | .standbyEntry => Sys2Proof.Machine.execStandbyEntry s
  | .standbyWake mask gpio ticks => Sys2Proof.Machine.execStandbyWake mask gpio ticks s
  | .jobFault job code step => Sys2Proof.Machine.execJobFault job code step s
  | .restartReload job => Sys2Proof.Machine.execRestartReload job s
  | .checkpointBlock p n seq data tag => Sys2Proof.Machine.execCheckpointBlock p n seq data tag s
  | .checkpointCommit job => Sys2Proof.Machine.execCheckpointCommit job s
  | .fieldTestDue n => Sys2Proof.Machine.execFieldTestDue n s
  | .fieldTestForced job => Sys2Proof.Machine.execFieldTestForced job s
  | .fieldTestDone cores failed => Sys2Proof.Machine.execFieldTestDone cores failed s
  | .peerFrame p fr => Sys2Proof.Machine.execPeerFrame p fr s
  | .coldReset cause => Sys2Proof.Machine.execColdReset cause s
  | .warmReset => Sys2Proof.Machine.execWarmReset s
  | .hotReset flr => Sys2Proof.Machine.execHotReset flr s
  | .refclkLoss => Sys2Proof.Machine.execRefclkLoss s
  | .jtagInstruction ir => Sys2Proof.Machine.execJtagInstruction ir s
  | .rollbackFuseBlow => Sys2Proof.Machine.execRollbackFuseBlow s
  | .laneLockLoss l => Sys2Proof.Machine.execLaneLockLoss l s
  | .coldResetRelease down => Sys2Proof.Machine.execColdResetRelease down s
  | .perstDeassertion down => Sys2Proof.Machine.execPerstDeassertion down s
  | .refclkReturn => Sys2Proof.Machine.execRefclkReturn s
  | .vddAonLoss => Sys2Proof.Machine.execVddAonLoss s
  | .evtInClockReturn => Sys2Proof.Machine.execEvtInClockReturn s
  | .timerGateChange k on => Sys2Proof.Machine.execTimerGateChange k on s
  | .memFillDone id => Sys2Proof.Machine.execMemFillDone id s
  | .checkpointExportDone id => Sys2Proof.Machine.execCheckpointExportDone id s
  | .checkpointImportDone id => Sys2Proof.Machine.execCheckpointImportDone id s
  | .fwUpdateCommitDone id => Sys2Proof.Machine.execFwUpdateCommitDone id s
  | .hierDiscoverDone id mask => Sys2Proof.Machine.execHierDiscoverDone id mask s

end Sys2Proof.Machine
end

