-- ==== Sys2Proof/Safety.lean ====
section
/-! DEFINITION. What counts as a safe state, and what a command leaves behind, in the terms that claims use. -/
namespace Sys2Proof.Machine

/-- Memory in its one canonical form: addresses strictly rising, no byte listed that an unlisted address would read. -/
def Memory.wf (m : List Host.Cell) : Bool := Sparse.wf memDefault m

/-! ### What a command leaves behind -/

/-- What is left of a command of a serving package: its effect `t` within the frame of every command (queue, firmware,
fuses, device time, pins and phase as before), and the interrupt messages that follow. -/
def after (s t : State) : State := settle s (keepAll s t)

/-- Chanter starts command `c` of `src`, of the row with opcode `op`: it is the command that the source offers next, no
running command holds its locks, it repeats no kept or running command, and no bit that the row does not name is set
(R367, R370, R371, R373, R374, R380). -/
def starts (s : State) (src : Src) (op : Nat) (masks : List Nat) (locks : List Lock) (c : Cmd) : Prop :=
  cmdAt s src = some c ∧ c.opcode = op ∧ startable s src = true ∧ lockHeld s false locks = false
    ∧ lockHeld s true locks = false ∧ keptOf s c = none ∧ stillRunning s c = false ∧ c.f 0 34 6 = 0
    ∧ badWord c masks = none

/-- The completion that Chanter kept last for a source. -/
def keptLast (t : State) (src : Src) : Option Kept := (Sparse.get (fun _ => []) t.mbox.kept (srcRecord src)).head?

/-- Command `c` has completed with `status`, `detail` and results `p`, and has a journal entry of its own where
`journalled` (R354, R374, R390). -/
def completed (s t : State) (src : Src) (c : Cmd) (status detail : Nat) (p : List W64) (journalled : Bool) : Prop :=
  keptLast t src = some ⟨c.tag, c.digest, cplWords c.opcode c.tag status false detail
      (if journalled then s.mbox.journalSeq else 0xFFFFFFFF) p⟩
    ∧ t.mbox.journalSeq = (if journalled then (s.mbox.journalSeq + 1) % 2 ^ 32 else s.mbox.journalSeq)

/-- The mailbox registers that taking and completing a command of `src` changes. -/
def boxRegs : Src → List Nat
  | .ring m => [R.mbCmdCi m.val, R.mbCplPi m.val, R.mbStatus m.val] ++ if m.val = 0 then [R.mbStartMax 0] else []
  | .relay _ => []

/-- The bytes that a completion stores: an entry of the mailbox's completion ring while it has space (R352, R354), and
with a change an entry of the journal's ring (R390). -/
def boxByte (s : State) (src : Src) (journalled : Bool) (a : Nat) : Prop :=
  (match src with
    | .ring m => cplFull s m.val = false ∧ ringEntry m.val true (cplPi s m.val) ≤ a
        ∧ a < ringEntry m.val true (cplPi s m.val) + 64
    | .relay _ => False)
  ∨ (journalled = true ∧ journalBase + s.mbox.journalSeq % 4096 * 32 ≤ a
      ∧ a < journalBase + s.mbox.journalSeq % 4096 * 32 + 32)

/-- A command of `src` changes, beside its completion, no hub register outside `regs` and no byte outside `bytes`. -/
def boxFrame (s t : State) (src : Src) (journalled : Bool) (regs : List Nat) (bytes : Nat → Prop) : Prop :=
  (∀ o, o ∉ regs → o ∉ boxRegs src → o ≠ R.msixPba → rd t o = rd s o)
    ∧ ∀ a, ¬ bytes a → ¬ boxByte s src journalled a → ldB t a = ldB s a

/-- The command of `src` only reads: it completes with results `p`, and nothing else changes. -/
def readsOnly (s t : State) (src : Src) (c : Cmd) (p : List W64) : Prop :=
  completed s t src c 0 0 p false ∧ boxFrame s t src false [] (fun _ => False)
    ∧ t = { s with regs := t.regs, mem := t.mem, mbox := t.mbox, outs := t.outs }

/-- The command of `src` is rejected with `status` and `detail`, and nothing else changes. -/
def rejects (s t : State) (src : Src) (c : Cmd) (status detail : Nat) : Prop :=
  completed s t src c status detail [] false ∧ boxFrame s t src false [] (fun _ => False)
    ∧ t = { s with regs := t.regs, mem := t.mem, mbox := t.mbox, outs := t.outs }

/-- The command of `src` has started and goes on: in the background, or while its mailbox waits for it (R370). It holds
`locks` until it completes. -/
def begun (s t : State) (src : Src) (c : Cmd) (background : Bool) (locks : List Lock) (aux : List Nat) : Prop :=
  t.mbox.runs = s.mbox.runs ++ [⟨s.mbox.nextRun, src, c.words, c.digest, background, locks, aux⟩]
    ∧ t.mbox.nextRun = s.mbox.nextRun + 1 ∧ t.mbox.kept = s.mbox.kept

/-- Running command `r` has ended with `status`, `detail` and results `p` (R370), journalled with sequence `q` if any. -/
def ranOut (s t : State) (r : Run) (status detail : Nat) (p : List W64) (q : Option Nat) : Prop :=
  keptLast t r.src = some ⟨fld (r.words.getD 0 0) 16 16, r.digest,
      cplWords r.opcode (fld (r.words.getD 0 0) 16 16) status false detail (q.getD 0xFFFFFFFF) p⟩
    ∧ t.mbox.runs = s.mbox.runs.filter fun x => x.id ≠ r.id

/-- Running command `id`, of the row with opcode `op`, is `r`, and its ring can take its completion (R354, R370). -/
def running (s : State) (id op : Nat) (r : Run) : Prop :=
  runOf s id = some r ∧ r.opcode = op ∧ canComplete s r.src = true

/-- Command `c` completes with OK and results `p`, after other completions or journal entries of its own. -/
def answeredOk (t : State) (src : Src) (c : Cmd) (p : List W64) : Prop :=
  ∃ q, keptLast t src = some ⟨c.tag, c.digest, cplWords c.opcode c.tag 0 false 0 q p⟩

/-- Apart from its completion, a command of `src` has left exactly the state `v`: registers, memory, cores, tags, mesh,
converters, jobs and breaths. -/
def leaves (t v : State) (src : Src) (journalled : Bool) : Prop :=
  (∀ o, o ∉ boxRegs src → o ≠ R.msixPba → rd t o = rd v o) ∧ (∀ a, ¬ boxByte v src journalled a → ldB t a = ldB v a)
    ∧ t.coreRegs = v.coreRegs ∧ t.cores = v.cores ∧ t.tags = v.tags ∧ t.mesh = v.mesh ∧ t.conv = v.conv
    ∧ t.jobs = v.jobs ∧ t.breaths = v.breaths

/-- The `n` blocks from `a` lie in DDR5 data (Table 12-3). -/
def inDdr (s : State) (a n : Nat) : Prop := a % 256 = 0 ∧ a + 256 * n ≤ (rd s R.ddrDataEnd).toNat ∧ a + 256 * n ≤ hubSram

/-- Core `n` has begun update `t` and has no START waiting; nothing outside the core has changed (R39, R106, R107, R173). -/
def updateBegun (s v : State) (n : Nat) (t : BitVec 32) : Prop :=
  (core v n).loadedStep = t ∧ (core v n).doneDue = (core s n).doneDue ++ [t] ∧ (core v n).startHeld = none
    ∧ (core v n).dirty = [] ∧ bitAt (neStatusRead v n) 25 = false
    ∧ (∀ m r, m < 1024 → r < 0x8000 → m ≠ n → cr v m r = cr s m r)
    ∧ (∀ a, (a < coreBase n ∨ coreBase n + 0x100000 ≤ a) → ldB v a = ldB s a)
    ∧ ∀ o, o ≠ R.msixPba → rd v o = rd s o

/-- Register `r` of core `n`, a saturating counter, has gone up by `k` (R102). -/
def counted (s v : State) (n r k : Nat) : Prop := cr v n r = w64 (satAdd 32 (cr s n r).toNat k)

/-- Registers of core `n` outside `regs`, and all those of other cores, are as before. -/
def coreRegsKept (s v : State) (n : Nat) (regs : List Nat) : Prop :=
  ∀ m r, m < 1024 → r < 0x8000 → (m ≠ n ∨ r ∉ regs) → cr v m r = cr s m r

/-- Hub registers outside `regs` are as before. -/
def hubRegsKept (s v : State) (regs : List Nat) : Prop := ∀ o, o ∉ regs → o ≠ R.msixPba → rd v o = rd s o

/-- The flits that wait at the local input of core `n`'s router on a VC. -/
def localFlits (s : State) (n vc : Nat) : List Flit := (buf s n 4 vc).map (·.f)

/-- `n` bytes from `a` and `m` bytes from `b` have none in common. -/
def apart (a n b m : Nat) : Prop := a + n ≤ b ∨ b + m ≤ a

/-- The entry of queue `q` of core `n` shares no byte with what its operations write beside it: its status word, and its
sender table or its banks. -/
def entryApart (s : State) (n q : Nat) : Prop :=
  apart (qAddr s n q) 32 (statAddr s n q) 4
    ∧ (qKind s n q = 0 → apart (qAddr s n q) 32 (sndAddr s n q 0) (4 * sndCount s n q)
      ∧ apart (qAddr s n q) 32 (ringAddr s n q) (ringSize s n q + 16))
    ∧ (qKind s n q = 2 → ∀ b, b < 2 → apart (qAddr s n q) 32 (combBank s n q b) (4 * combLanes s n q))

/-- A queue operation can be written to core `n`: from port B, or by its Core Sequencer, which does not wait (R256). -/
def takesOp (s : State) (n : Nat) (portB : Bool) : Prop := stopped s n = false ∧ (portB = false → waiting s n 0 = false)

/-- `QOP_RESULT` of core `n` shows `code` and `value` (R256). -/
def opResult (v : State) (n code value : Nat) : Prop := cr v n R.qopResult = w64 (code + value * 2 ^ 32)

/-- No engine of core `n` waits on object `o`. -/
def noWaiter (s : State) (n o : Nat) : Prop :=
  ∀ e, e < 6 → waiting s n e = true → crB s n (R.waitState e) 7 = false → crF s n (R.waitState e) 0 5 ≠ o

/-- The way of flit `f` of core `n` is clear: nothing of the core waits at its local port, the flit's buffer there is empty, no
fence holds it, and an output of its route is not DOWN. -/
def clearWay (s : State) (n : Nat) (f : Flit) : Prop :=
  (∀ o ∈ s.mesh.offers, o.node ≠ n) ∧ localFlits s n (creditQueue f) = [] ∧ fencedFrom s (some n) f = false
    ∧ ∃ o ∈ routeOuts n 4 f, o = 4 ∨ linkState s n o ≠ 3

/-- Core `n` has sent flit `f`, where the way is clear: it is in the router's local input, or for VC0 waits at the local port
for a token (R198). -/
def flitSent (s v : State) (n : Nat) (f : Flit) : Prop :=
  clearWay s n (onRow n f) →
    if fVc f = 0 then v.mesh.offers = s.mesh.offers ++ [⟨n, n, onRow n f⟩]
    else localFlits v n (creditQueue f) = [onRow n f] ∧ v.mesh.offers = s.mesh.offers

/-- Hub endpoint `src` has offered flit `f` at hub port `p`: it waits there, or is in the port's buffer. With the port's link
DOWN it is dropped (R196, R220). -/
def hubSent (s v : State) (p src : Nat) (f : Flit) : Prop :=
  linkState s (1024 + p) 1 ≠ 3 →
    (⟨1024 + p, src, f⟩ : Offer) ∈ v.mesh.offers ∨ ∃ h ∈ buf v (1024 + p) 4 (creditQueue f), h.f = f

/-- START (0), COMMIT (1) or HOLD (2) of step `t` has gone out at the hub port of breath `j` (R55). -/
def bcastSent (s v : State) (j kind : Nat) (t : BitVec 32) : Prop :=
  hubSent s v (rdF s (R.brthConfig j) 24 5) 0x610 (bcastOf s j kind t)

/-- The answer of core `n` to a message or request for its queue `q` has left (R239). -/
def queueAnswered (s v : State) (n src code q seq : Nat) : Prop := flitSent s v n (mkStatus src n code (qArg q seq))

/-- A request is no repeat, and its sender has or gets a place in the sender table (R244). -/
def freshRequest (s : State) (n q src seq : Nat) : Prop :=
  (∀ k, sndOf s n q src = some k → 0 < (seq + 65536 - fld (snd s n q k) 16 16) % 65536
      ∧ (seq + 65536 - fld (snd s n q k) 16 16) % 65536 < 32768)
    ∧ (sndOf s n q src = none → (sndFree s n q).isSome = true)

/-- Ring pointer of the next record of `b` bytes: past the end of the ring where it would wrap (R242). -/
def recordAt (s : State) (n q b : Nat) : Nat :=
  let r := ringSize s n q
  let p := qResv s n q
  if r - p % r < b then (p + (r - p % r)) % (2 * r) else p

/-- Bytes outside the `n` from `a`, and outside the next journal entry's place, are as before. -/
def bytesKept (s v : State) (a n : Nat) : Prop :=
  ∀ x, (x < a ∨ a + n ≤ x) → (x < journalBase + s.mbox.journalSeq % 4096 * 32
    ∨ journalBase + s.mbox.journalSeq % 4096 * 32 + 32 ≤ x) → ldB v x = ldB s x

/-- One journal entry has been made if `yes`, and none otherwise (R390). -/
def noted (s v : State) (yes : Bool) : Prop :=
  v.mbox.journalSeq = if yes then (s.mbox.journalSeq + 1) % 2 ^ 32 else s.mbox.journalSeq

/-- Hub registers that a write from outside changes by their access codes alone (R9 to R11). -/
def plainRegs : List Nat :=
  [R.irqEnable, R.irqRoute0, R.irqRoute1, R.ownXferFirst, R.ownXferStatus, R.ownAlarm, R.timeCapConfig, R.timePulseOvr,
    R.peerRetryBudget, R.peerAlarm, R.pwrUncoreMin, R.pwrAlarm, R.thermWarnOffset, R.napDelay, R.wakeConfig, R.wakeAt,
    R.meshRetryBudget, R.meshAlarm, R.meshDrainTimeout, R.lendThreshold, R.memAlarm, R.patrolPeriod,
    R.sramScrubPeriod, R.gpioDir, R.gpioOut, R.gpioPull]

/-- The `n` bytes from BAR2 offset `o` lie in one block, and their slot maps them normally, to device address `a`
(R343). -/
def windowed (s : State) (o a n : Nat) : Prop :=
  o % 256 + n ≤ 256 ∧ 0 < n ∧ bitAt (slotOf s o) 48 = true ∧ fld (slotOf s o) 49 2 = 0 ∧ a = slotAddress (slotOf s o) o

/-- Firmware that runs is not older than the rollback counter (R444, R446). -/
def notRolledBack (s : State) : Prop :=
  s.chip.phase = .running ∨ s.chip.phase = .standby → rollback s ≤ s.boot.svn

/-- A reset has been recorded: type, supply code, further cause bits, and one more in the count (R438). -/
def resetRecorded (s v : State) (type supply bits : Nat) : Prop :=
  rdF v R.resetCause 0 4 = type ∧ rdF v R.resetCause 4 4 = supply ∧ rdF v R.resetCause 8 8 = bits
    ∧ rdF v R.resetCause 16 16 = min (rdF s R.resetCause 16 16 + 1) 65535

end Sys2Proof.Machine
end

