-- ==== Sys2Proof/WellFormed.lean ====
section
/-! DEFINITION. Which commands the outside world can form: the shape of what comes with a command. A meaning is total
and takes an ill-formed command too; a statement may ask for a well-formed one. -/
namespace Sys2Proof

/-- A command or completion entry has eight words (R352, R388). -/
def entryWhole (entry : List W64) : Bool := entry.length = 8

/-- A relayed command carries a whole entry (R388). -/
def sourceOk : Src → Bool
  | .ring _ => true
  | .relay e => entryWhole e

/-- A register is named by the offset of its 64-bit word, in the hub register region (R33) or a core's 32 KB block
(R27). -/
def regAddrOk : RegAddr → Bool
  | .hub off => off % 8 = 0 && decide (off < 0x1000000)
  | .core _ off => off % 8 = 0 && decide (off < 0x8000)

/-- An access of `n` bytes at offset `o` lies in BAR2 and is not empty (R341). -/
def windowSpan (o n : Nat) : Bool := decide (0 < n) && decide (o + n ≤ 2 ^ 32)

/-- A tensor block is 256 bytes (R315). -/
def blockWhole (data : List Byte) : Bool := data.length = 256

/-- A tensor block begins at a multiple of its size (R315). -/
def blockAligned (a : Nat) : Bool := a % 256 = 0

/-- A queue operation that is answered BAD_OP: a code of 9 or more, or an operation of engines only from port B
(R256). -/
def reservedOp (cmd : W64) (portB : Bool) : Bool :=
  decide (9 ≤ cmd.toNat % 16) || (portB && decide (5 ≤ cmd.toNat % 16))

/-- A message of `U` units, 1 to 128, has 8 body flits for each unit (R240). -/
def messageSize (bodies : List Flit) : Bool :=
  bodies.length % 8 = 0 && decide (8 ≤ bodies.length) && decide (bodies.length ≤ 1024)

/-- A hub port's node has its link and its local side only (R13, R21). -/
def nodePort : Node → Port → Bool
  | .router _, _ => true
  | .hub _, p => p = .east || p = .loc

/-- A link leaves by a mesh port, not by the local one (R212). -/
def linkPort : LinkId → Bool
  | .mesh node out => nodePort node out && out ≠ .loc
  | .peer _ => true

/-- A frame has at least its header (R284). -/
def frameStarts (words : List (BitVec 32)) : Bool := !words.isEmpty

/-- A list of cores names each once (R16). -/
def coreList (cores : List Nat) : Bool := decide cores.Nodup && cores.all (· < 1024)

/-- A sample reads all 64 sensors (Table 16-6). -/
def sensorsAll (temps : List Int) : Bool := temps.length = 64

/-- The scrubber reads whole 64-bit words (R331). -/
def wordAligned (a : Nat) : Bool := a % 8 = 0

/-- Something wakes the package (R423). -/
def wakeCause (mask : BitVec 8) : Bool := mask ≠ 0

/-- A test ends for the cores tested, of which some failed (R414). -/
def coresTested (cores failed : List CoreId) : Bool :=
  !cores.isEmpty && decide cores.Nodup && failed.all cores.contains

/-- Rails 0 to 10 have a power-good whose fall resets the package (Table 16-6, R415). -/
def railExists : ColdCause → Bool
  | .supply rail => decide (rail.val ≤ 10)
  | _ => true

/-- The command is one that the outside world can form. -/
def Instr.wf : Instr → Bool
  | .identify src | .nop src | .deviceStatus src | .powerLimit src | .powerState src | .linkRetrain src _
  | .jobLoad src => sourceOk src
  | .jobLoadDone _ => true
  | .jobStart src | .jobStop src | .jobSuspend src | .jobResume src | .jobReset src | .jobUnload src
  | .jobQuery src | .jobPolicy src | .jobSetL0 src | .tableChange src | .breathConfig src | .breathLagLimit src
  | .breathClear src | .checkpoint src | .checkpointQuery src | .checkpointExport src | .checkpointImport src
  | .weightsRead src | .weightsWrite src | .queueOp src | .queueQuery src | .queueBind src | .engineReset src
  | .convConfig src | .convStart src | .convStop src | .timeAdjust src | .ownSet src | .ownQuery src | .memFill src
  | .telemetryRead src | .countersClear src | .fieldTest src | .fieldTestQuery src | .coreMark src | .coreHalt src _
  | .coreResume src _ | .coreReset src | .attest src => sourceOk src
  | .attestSigned _ => true
  | .certRead src | .fwUpdateBegin src | .fwUpdateWrite src | .fwUpdateCommit src | .journalRead src
  | .hierDiscover src | .hierQuery src | .hierRelay src => sourceOk src
  | .hierRelayAnswer _ entry => entryWhole entry
  | .hierRelayTimeout _ => true
  | .badOpcode src => sourceOk src
  | .entryError _ _ | .doorbell _ _ | .mbCplCiWrite _ _ | .mgmtPortWrite _ _ _ | .mgmtPortRead _ _ => true
  | .registerWrite a _ _ => regAddrOk a
  | .timeNowLowRead | .tmrCountRead _ | .tmrCompareWrite _ _ _ | .tmrFreezeWrite _ _ | .ownXferStart _
  | .ownXferDone | .padRelease _ | .dmaGo _ _ | .dmaDone _ _ => true
  | .hostWindowWrite o data _ => windowSpan o.toNat data.length
  | .verifiedWrite o data => windowSpan o.toNat data.length
  | .hostWindowRead o n _ => windowSpan o.toNat n
  | .hostMemoryCompletion a data _ => blockAligned a.toNat && blockWhole data
  | .queueOpen _ _ _ | .queueClose _ _ _ | .queueDrain _ _ _ | .queueConsume _ _ _ | .queueSend _ _ _ _
  | .queuePoll _ _ _ _ | .pollSatisfied _ _ | .syncInit _ _ _ _ | .syncSignal _ _ _ _ | .syncWait _ _ _ _
  | .waitTimeout _ _ => true
  | .qopReserved _ cmd portB => reservedOp cmd portB
  | .enginePark _ _ | .qreq _ _ | .waitingGrant _ _ | .grant _ _ | .nackReceived _ _ | .nackBusyRetry _
  | .duplicate _ _ => true
  | .queueMessage _ _ bodies => messageSize bodies
  | .operandMessage _ _ bodies => messageSize bodies
  | .operandDelivery _ _ _ _ => true
  | .bulkBind _ _ bodies => messageSize bodies
  | .bulkBlock _ _ _ data _ _ => blockWhole data
  | .circuitSetup node p _ => nodePort node p
  | .circuitTeardown node p _ => nodePort node p
  | .circuitReply _ _ | .ctrlRead _ _ | .ctrlWriteA _ _ | .ctrlWriteD _ _ _ | .ctrlResp _ _
  | .routerFlitArrival _ _ _ _ => true
  | .flitSend node out _ => nodePort node out
  | .echoReceived _ _ _ => true
  | .laneWordReceive node p _ _ => nodePort node p
  | .controlWordReceive l _ _ => linkPort l
  | .replayTimeout l _ => linkPort l
  | .retryWindowEnd l => linkPort l
  | .linkRetrainEnd l _ => linkPort l
  | .drainBegin | .drainFence | .cleanSweep | .drainTimeout | .hubPortFlit _ _ _ | .stepStart _ | .mpFetchDone _ _
  | .mpInject _ _ | .timerStartAction _ _ | .stepOverrun _ | .frameSyncCapture _ | .frameMiss _
  | .frameArmMissing _ | .suspendReached _ | .coreStart _ _ _ _ | .coreCommit _ _ _ _ | .coreHold _ _ _
  | .heldUpdateStart _ _ | .emitFlit _ _ _ | .barrierReportSend _ _ _ _ | .doneSend _ _ | .eventIntake _ _ _
  | .deferredIntake _ _ | .rollbackPass _ _ | .splitValue _ _ _ | .splitCount _ _ | .combineContribution _ _
  | .plasticityHeldStart _ _ | .modWaitEnd _ _ _ | .plasticityComplete _ _ | .snapshotStreamDone _ | .deadlockSample
  | .deadlock _ | .membraneReadResponse _ _ | .bellDelivery _ => true
  | .evtInFrame words => frameStarts words
  | .evtOutFrame | .evtInClockLoss | .deviceTimeTick _ | .ppsCapture _ | .timeOutPulse | .timerMatch _
  | .timerOverflow _ | .timerTrigger _ _ => true
  | .powerEpoch _ cores => coreList cores
  | .thermalSample temps => sensorsAll temps
  | .vregFault _ | .islandNap _ | .islandWake _ _ => true
  | .ligatureRecalibration l => linkPort l
  | .recalForced l => linkPort l
  | .ddrCalibration _ _ | .patrolScrubRead _ _ | .patrolLate => true
  | .sramScrubRead a _ _ => wordAligned a
  | .standbyEntry => true
  | .standbyWake mask _ _ => wakeCause mask
  | .jobFault _ _ _ | .restartReload _ => true
  | .checkpointBlock _ _ _ data _ => blockWhole data
  | .checkpointCommit _ | .fieldTestDue _ | .fieldTestForced _ => true
  | .fieldTestDone cores failed => coresTested cores failed
  | .peerFrame _ _ => true
  | .coldReset cause => railExists cause
  | .warmReset | .hotReset _ | .refclkLoss | .jtagInstruction _ | .rollbackFuseBlow => true
  | .laneLockLoss l => linkPort l
  | .coldResetRelease down | .perstDeassertion down => down.all linkPort
  | .refclkReturn | .vddAonLoss | .evtInClockReturn | .timerGateChange _ _
  | .memFillDone _ | .checkpointExportDone _ | .checkpointImportDone _ | .fwUpdateCommitDone _
  | .hierDiscoverDone _ _ => true

end Sys2Proof
end

