-- ==== Sys2Proof/Certificates/Slice0/Obligations.lean ====
section
/-! DEFINITION. The statements for the provers. -/
open Sys2Proof Sys2Proof.Machine

/-! ### The whole machine -/

/-- A step takes the command at the front of the queue and carries it out on the state with the queue's rest. -/
def Obligations.StepRunsTheFront : Prop :=
  ∀ (c : Instr) (rest : List Instr) (s : State), s.pending = c :: rest →
    step s = exec c { s with pending := rest }

/-- Every command ends in a next state, and never touches the queue of commands that wait. -/
def Obligations.EveryCommandEnds : Prop :=
  ∀ (c : Instr) (s : State), ∃ t, exec c s = .next t ∧ t.pending = s.pending

/-- The rows that act while SYS_REFCLK stands still: those of the supplies, the reset pins, the thermal reset and the
TAP. -/
def actsUnclocked : Instr → Bool
  | .coldReset _ | .warmReset | .perstDeassertion _ | .refclkLoss | .refclkReturn | .vddAonLoss | .jtagInstruction _
  | .thermalSample _ => true
  | _ => false

/-- R462: while SYS_REFCLK is stopped the package holds its state: no other command changes anything, and neither does
the clock. -/
def Obligations.StoppedClockHoldsState : Prop :=
  ∀ (c : Instr) (s : State), s.chip.refclk = false → actsUnclocked c = false →
    exec c s = .next s ∧ (s.pending = [] → step s = .next s)

/-- The rows that move device time: TIME_ADJUST, the exit from P-STANDBY, a cold reset by its several causes, and the
loss of VDD_AON. -/
def movesTime : Instr → Bool
  | .timeAdjust _ | .standbyWake _ _ _ | .coldReset _ | .thermalSample _ | .jtagInstruction _ | .vddAonLoss => true
  | _ => false

/-- R289, R291: no other command moves device time; warm, hot and function-level resets keep it. -/
def Obligations.DeviceTimeMovesByItsRows : Prop :=
  ∀ (c : Instr) (s t : State), movesTime c = false → exec c s = .next t → t.time = s.time

/-- R443: fuses are one-time. No command makes a blown fuse whole, a cold reset and the loss of VDD_AON included. -/
def Obligations.FusesAreOneTime : Prop :=
  ∀ (c : Instr) (s t : State) (k : Nat), exec c s = .next t → s.boot.fuses.getLsbD k = true →
    t.boot.fuses.getLsbD k = true

/-! ### Device time and timers -/

/-- R289: a step without a command, with no slew left, is one timer-clock cycle: device time advances by `TIME_INCR`.
That a step is a cycle is the model's choice (log entry 6). -/
def Obligations.ClockAdvancesTime : Prop :=
  ∀ s : State, s.pending = [] → clocked s = true → s.tim.slew = 0 →
    ∃ t, step s = .next t ∧ t.time = s.time + (rd s R.timeIncr).toNat ∧ t.pending = []

/-- R290: a 32-bit read of the low half of `TIME_NOW` returns it and copies the high half of the same value into
`TIME_HI_LATCH`; a 64-bit read and a read of the high half return the live value and change nothing. -/
def Obligations.TimeNowReads : Prop :=
  ∀ s : State,
    (live s = true → exec .timeNowLowRead s = .next (after s (answerRead (wr s R.timeHiLatch (w64 (nowNs s / 2 ^ 32)))
        (leBytes 4 (nowNs s)) false)))
    ∧ hubReadBytes s R.timeNow 8 = (leBytes 8 (nowNs s), s)
    ∧ hubReadBytes s (R.timeNow + 4) 4 = (leBytes 4 (nowNs s / 2 ^ 32), s)
    ∧ hubReadBytes s R.timeNow 4 = (leBytes 4 (nowNs s), wr s R.timeHiLatch (w64 (nowNs s / 2 ^ 32)))

/-- R302: a read of a running timer's count returns the count latched at its last stop and sets `STALE`; one of a timer
that is stopped or frozen returns the count and changes no register. -/
def Obligations.CountReadIsStale : Prop :=
  ∀ (k : TimerId) (s : State), live s = true → isHighHalf s k.val = false →
    ∃ t, exec (.tmrCountRead k) s = .next t ∧ t.mem = s.mem ∧ t.coreRegs = s.coreRegs ∧
      (if tmrRunning s k.val then
        t.outs.read = leBytes 8 (w64 (Sparse.get (fun _ => 0) s.tim.latch k.val)).toNat
          ∧ rdB t (R.tmrStatus k.val) 2 = true
          ∧ ∀ o, o ≠ R.tmrStatus k.val → o ≠ R.msixPba → rd t o = rd s o
      else t.outs.read = leBytes 8 (rd s (R.tmrCount k.val)).toNat ∧ ∀ o, o ≠ R.msixPba → rd t o = rd s o)

/-- R300: a compare written to a timer outside a cascade is its COMPARE, and `CMP_BEHIND` is set exactly when
(COMPARE - present count) mod 2^32 is 0 or at least 2^31; no other register changes, and no byte of memory outside the
change journal's ring. R303: a write of `FREEZE` = 1 freezes the timer, and a running one latches its count; a write of 0 ends the freeze.
The count does not change. -/
def Obligations.CompareAndFreezeWrites : Prop :=
  (∀ (k : TimerId) (v : W64) (s : State), live s = true → isHighHalf s k.val = false → isCascade s k.val = false →
    ∃ t, exec (.tmrCompareWrite k .whole v) s = .next t
      ∧ rd t (R.tmrCompare k.val) = w64 (v.toNat % 2 ^ 32)
      ∧ (rdB t (R.tmrStatus k.val) 3 = true ↔
          (v.toNat % 2 ^ 32 + 2 ^ 32 - tmrCount s k.val) % 2 ^ 32 = 0 ∨
            2 ^ 31 ≤ (v.toNat % 2 ^ 32 + 2 ^ 32 - tmrCount s k.val) % 2 ^ 32)
      ∧ (∀ o, o ≠ R.tmrCompare k.val → o ≠ R.tmrStatus k.val → o ≠ R.msixPba → rd t o = rd s o)
      ∧ t.coreRegs = s.coreRegs
      ∧ ∀ a, a < journalBase ∨ journalBase + 4096 * 32 ≤ a → ldB t a = ldB s a)
  ∧ (∀ (k : TimerId) (f : Bool) (s : State), live s = true → isHighHalf s k.val = false →
    ∃ t, exec (.tmrFreezeWrite k f) s = .next t
      ∧ rdB t (R.tmrStatus k.val) 1 = f
      ∧ rd t (R.tmrCtrl k.val) = w64 (b2n f)
      ∧ (f = true → tmrRunning s k.val = true → Sparse.get (fun _ => 0) t.tim.latch k.val = tmrCount s k.val)
      ∧ ∀ o, o ≠ R.tmrCtrl k.val → o ≠ R.tmrStatus k.val → o ≠ R.msixPba → rd t o = rd s o)

/-- R299: what one tick does to a timer's registers. In PERIODIC mode a match writes RELOAD, else the count goes up by 1
within its width; a match sets `MATCH`, and in ONESHOT mode clears `ENABLE`; the wrap of all-ones to 0 sets `OVF`. The rows of a timer's events complete: a match and an overflow are the tick itself, with its actions; a trigger pulse
carries out the timer's trigger operation, and its stop is noted against a start action of the cycle; a gate change shows in
`GATE_OPEN` (R297, R299, R305, R307). -/
def Obligations.TicksAndTimerEvents : Prop :=
  (∀ (k : TimerId) (s : State),
    tmrCount (tickCore s k.val) k.val % 2 ^ tmrWidth s k.val =
        (if rdF s (R.tmrConfig k.val) 1 2 = 1 ∧ tickMatches s k.val then tmrReload s k.val
         else (tmrCount s k.val + 1) % 2 ^ tmrWidth s k.val)
    ∧ rdB (tickCore s k.val) (R.tmrStatus k.val) 4 = (rdB s (R.tmrStatus k.val) 4 || tickMatches s k.val)
    ∧ rdB (tickCore s k.val) (R.tmrStatus k.val) 5 = (rdB s (R.tmrStatus k.val) 5 || tickWraps s k.val)
    ∧ tmrEnabled (tickCore s k.val) k.val =
        (tmrEnabled s k.val && !(tickMatches s k.val && decide (rdF s (R.tmrConfig k.val) 1 2 = 2)))
    ∧ ∀ o, o ≠ R.tmrCount k.val → o ≠ R.tmrStatus k.val → o ≠ R.tmrConfig k.val → rd (tickCore s k.val) o = rd s o)
  ∧ (∀ (k : TimerId) (s : State), live s = true →
    (counts s k.val = true → tickMatches s k.val = true →
      exec (.timerMatch k) s = .next (after s (tick (wr s (R.tmrPrescCnt k.val) 0) k.val)))
    ∧ (counts s k.val = true → tickWraps s k.val = true →
      exec (.timerOverflow k) s = .next (after s (tick (wr s (R.tmrPrescCnt k.val) 0) k.val)))
    ∧ (∀ n, Sparse.get (fun _ => 0) s.tim.trigPulses k.val = n + 1 →
      exec (.timerTrigger k false) s = .next (after s (tmrOp
        { s with tim := { s.tim with
            trigPulses := Sparse.set (fun _ => 0) s.tim.trigPulses k.val n
            trigStop := (if rdF s (R.tmrConfig k.val) 39 2 = 2 then [tmrOf s k.val] else []) ++ s.tim.trigStop } }
        (rdF s (R.tmrConfig k.val) 39 2) k.val)))
    ∧ (∀ on, isHighHalf s k.val = false → 1 ≤ rdF s (R.tmrConfig k.val) 20 3 →
      ∃ t, exec (.timerGateChange k on) s = .next t ∧ rdB t (R.tmrStatus k.val) 9 = gateOpen t k.val
        ∧ (rdF s (R.tmrConfig k.val) 20 3 ≤ 2 ∨ (rdF s (R.tmrConfig k.val) 20 3 = 3
              ∧ rdB s R.gpioDir (rdF s (R.tmrConfig k.val) 24 6 % 16) = false) →
            rdB t (R.tmrStatus k.val) 9 = on)
        ∧ (∀ o, o ≠ R.tmrStatus k.val → o ≠ R.msixPba → rd t o = rd s o) ∧ t.mem = s.mem))

/-- R294: an enabled PPS edge is captured with 1.25 ns taken off, counted in `PPS_COUNT`, and an edge that merged with
an earlier one sets the overrun flag; one that is not enabled changes nothing. R296: once device time reaches the next TIME_OUT pulse, the pulse is driven for `TOUT_WIDTH`, rounded up to
whole cycles, at the level that `INVERT` gives; the next one is a period later, or none is due where the period is 0. -/
def Obligations.CapturesAndPulses : Prop :=
  (∀ (merged : Bool) (s : State), live s = true →
    ∃ t, exec (.ppsCapture merged) s = .next t ∧
      (if rdB s R.timeCapConfig 0 then
        rd t R.ppsCapture = w64 (capture s) ∧ rd t R.ppsCount = w64 ((rdF s R.ppsCount 0 32 + 1) % 2 ^ 32)
          ∧ (merged = true → rdB t R.timePulseOvr 0 = true)
          ∧ ∀ o, o ≠ R.ppsCapture → o ≠ R.ppsCount → o ≠ R.timePulseOvr → o ≠ R.msixPba → rd t o = rd s o
      else t = s))
  ∧ (∀ (s : State) (p : Nat), live s = true → rdB s R.toutConfig 0 = true → rdB s R.pwrState 3 = false →
    s.tim.toutNext = some p → p ≤ nowNs s →
    ∃ t, exec .timeOutPulse s = .next t
      ∧ t.outs.pulses = (p, rdF s R.toutWidth 0 32) :: s.outs.pulses
      ∧ t.tim.toutNext = (if rdF s R.toutPeriod 0 48 = 0 then none else some (p + rdF s R.toutPeriod 0 48))
      ∧ t.tim.toutLeft = cdiv (rdF s R.toutWidth 0 32 * 8) 5
      ∧ (rdF s R.toutWidth 0 32 ≠ 0 → t.outs.timeOut = !rdB s R.toutConfig 1)
      ∧ t.mem = s.mem ∧ t.coreRegs = s.coreRegs ∧ ∀ o, o ≠ R.msixPba → rd t o = rd s o)

/-! ### Mbozor commands -/

/-- R354: a completion is written into its ring, then `MB_CPL_PI` advances, then `CPL_PENDING` is set; the ring is shown
full once 256 entries wait. R374: a command that repeats one whose completion is kept is not run, whatever its row would do, and makes no journal
entry: the kept completion goes out again with `DUPLICATE` = 1. -/
def Obligations.CompletionsAndRepeats : Prop :=
  (∀ (s : State) (m : Fin 8) (words : List W64), cplFull s m.val = false → words.length = 8 →
    let t := putCompletion s (.ring m) words
    ldN t (ringEntry m.val true (cplPi s m.val)) 64 = bytesOf words
      ∧ cplPi t m.val = (cplPi s m.val + 1) % 65536
      ∧ rdB t (R.mbStatus m.val) 2 = true
      ∧ (cplFull t m.val = true → rdB t (R.mbStatus m.val) 3 = true)
      ∧ (∀ o, o ≠ R.mbCplPi m.val → o ≠ R.mbStatus m.val → rd t o = rd s o)
      ∧ ∀ a, a < ringEntry m.val true (cplPi s m.val) ∨ ringEntry m.val true (cplPi s m.val) + 64 ≤ a → ldB t a = ldB s a)
  ∧ (∀ (op : Nat) (masks : List Nat) (locks : Cmd → List Lock) (body : Cmd → State → Ans) (src : Src) (s : State) (c : Cmd)
    (k : Kept), cmdAt s src = some c → c.opcode = op → startable s src = true → lockHeld s false (locks c) = false →
    c.noDup = false → keptOf s c = some k →
    serve op masks locks body src s = putCompletion (takeFront s src) src (setBit (k.words.getD 0 0) 40 :: k.words.drop 1)
      ∧ (serve op masks locks body src s).mbox.journalSeq = s.mbox.journalSeq
      ∧ (serve op masks locks body src s).mbox.kept = s.mbox.kept
      ∧ (serve op masks locks body src s).coreRegs = s.coreRegs)

/-- Table 14-4: the commands that only read complete with the values their rows name, a job that is not there with
NOT_FOUND, and change nothing else. R392, R435, R449: the commands that write a report write its bytes to the destination in whole blocks, answer its
length or span, and store nothing elsewhere. -/
def Obligations.ReadsAndReports : Prop :=
  (∀ (src : Src) (s : State) (c : Cmd), live s = true →
    (starts s src 0x0001 [] [] c → ∃ t, exec (.identify src) s = .next t ∧ readsOnly s t src c
      [w64 (4 + 4 * 256 + s.boot.version % 2 ^ 32 * 2 ^ 32), hubPeek s R.stepping,
        w64 (s.boot.slot % 2 + s.boot.svn % 2 ^ 32 * 2 ^ 32)])
    ∧ (starts s src 0x0002 [] [] c → ∃ t, exec (.nop src) s = .next t ∧ readsOnly s t src c [])
    ∧ (starts s src 0x0003 [] [] c → ∃ t, exec (.deviceStatus src) s = .next t ∧ readsOnly s t src c
      [w64 (pwrStateCode s + rdF s R.ddrConfig 0 1 * 256 + jobsLoaded s * 2 ^ 16 + coresBad s * 2 ^ 32), w64 (nowNs s)])
    ∧ (starts s src 0x0108 [low 7] [] c → ∃ t, exec (.jobQuery src) s = .next t ∧
        match breathOf s (c.f 1 0 8) with
        | some j => readsOnly s t src c
            [w64 (jobState s j + j * 256 + b2n (brthL0 s j) * 2 ^ 14), rd s (R.stepCount j),
              w64 (min (recentRestarts s j) 65535), w64 (rdF s (R.jobState j) 16 8 + rdF s (R.jobState j) 32 32 * 2 ^ 32)]
        | none => rejects s t src c 0x13 0)
    ∧ (starts s src 0x0302 [low 7] [] c → ∃ t, exec (.checkpointQuery src) s = .next t ∧
        match breathOf s (c.f 1 0 8) with
        | some j => readsOnly s t src c [slotReport s j 0, slotReport s j 1]
        | none => rejects s t src c 0x13 0)
    ∧ (starts s src 0x0802 [low 19] [] c → ∃ t, exec (.ownQuery src) s = .next t ∧ readsOnly s t src c
        [w64 ((List.range 32).map fun k =>
          (if c.f 1 0 20 + k < 1048064 then flagOf s (c.f 1 0 20 + k) else 0) * 4 ^ k).sum])
    ∧ (starts s src 0x0A02 [low 9] [] c → ∃ t, exec (.fieldTestQuery src) s = .next t ∧ readsOnly s t src c
        [w64 (((nowNs s : Int) - (core s (c.f 1 0 10)).testAt).toNat / 3600000000000 % 2 ^ 32
          + b2n (core s (c.f 1 0 10)).testFailed * 2 ^ 32)])
    ∧ (starts s src 0x0E02 [] [] c → ∃ t, exec (.hierQuery src) s = .next t ∧ readsOnly s t src c
        [rd s R.peerTree, w64 s.mbox.present.toNat]))
  ∧ (∀ (src : Src) (s : State) (c : Cmd), live s = true →
    (∀ l, starts s src 0x0C02 [low 63, low 31] [] c → l = flashN s 0x10000 (min (derLength s) 65536) →
      inDdr s (c.c 1).toNat (cdiv l.length 256) → cdiv l.length 256 * 256 ≤ c.f 2 0 32 →
      ∃ t, exec (.certRead src) s = .next t ∧ completed s t src c 0 0 [w64 l.length] false
        ∧ (∀ i, i < l.length → ldB t ((c.c 1).toNat + i) = l.getD i 0)
        ∧ boxFrame s t src false [] (fun x => (c.c 1).toNat ≤ x ∧ x < (c.c 1).toNat + 256 * cdiv l.length 256)
        ∧ t.coreRegs = s.coreRegs)
    ∧ (∀ l, starts s src 0x0901 [low 3, low 63, low 31] [] c → c.f 1 0 4 ≤ 4 →
      l = leBytes 8 (nowNs s) ++ leBytes 8 (c.f 1 0 4 + (telemetry (takeFront s src) (c.f 1 0 4)).1 * 2 ^ 16)
        ++ (telemetry (takeFront s src) (c.f 1 0 4)).2 →
      inDdr s (c.c 2).toNat (cdiv l.length 256) → cdiv l.length 256 * 256 ≤ c.f 3 0 32 →
      ∃ t, exec (.telemetryRead src) s = .next t ∧ completed s t src c 0 0 [w64 l.length] false
        ∧ (∀ i, i < l.length → ldB t ((c.c 2).toNat + i) = l.getD i 0)
        ∧ boxFrame s t src false [] (fun x => (c.c 2).toNat ≤ x ∧ x < (c.c 2).toNat + 256 * cdiv l.length 256)
        ∧ t.coreRegs = s.coreRegs)
    ∧ (∀ r, starts s src 0x0D01 [low 31, low 12, low 63] [] c → 1 ≤ c.f 2 0 13 → c.f 2 0 13 ≤ 4096 →
      r = journalSpan s (c.f 1 0 32) (c.f 2 0 13) → inDdr s (c.c 3).toNat (cdiv (r.2 * 32) 256) →
      ∃ t, exec (.journalRead src) s = .next t
        ∧ completed s t src c 0 0 [w64 (r.1 + r.2 * 2 ^ 32),
          w64 ((s.mbox.journalSeq + 2 ^ 32 - s.mbox.journalHeld) % 2 ^ 32 + s.mbox.journalSeq * 2 ^ 32)] false
        ∧ (∀ i k, i < r.2 → k < 32 →
          ldB t ((c.c 3).toNat + 32 * i + k) = ldB s (journalBase + (r.1 + i) % 4096 * 32 + k))
        ∧ boxFrame s t src false [] (fun x => (c.c 3).toNat ≤ x ∧ x < (c.c 3).toNat + 256 * cdiv (r.2 * 32) 256)
        ∧ t.coreRegs = s.coreRegs))

/-- R430, R387, R291, R350: the settings of the package. A limit that holds the reservations is taken, and another is
refused and sets the alarm; a frequency adjustment writes `TIME_INCR`, a slew adds to the one under way, and a step moves
device time; a range of granules takes a flag. Table 14-4, R73, R399, R403, R414: the settings of a job, its breath and its cores. -/
def Obligations.Settings : Prop :=
  (∀ (src : Src) (s : State) (c : Cmd), live s = true →
    (starts s src 0x0004 [low 6] [] c → ∃ t, exec (.powerLimit src) s = .next t ∧ t.coreRegs = s.coreRegs ∧
      (if limitOk s (c.f 1 0 7) then
        completed s t src c 0 0 [w64 (rdF s R.pwrLimit 0 7)] true ∧ rdF t R.pwrLimit 0 7 = c.f 1 0 7
          ∧ boxFrame s t src true [R.pwrLimit] (fun _ => False)
      else completed s t src c 0x11 1 [] false ∧ rdB t R.pwrAlarm 3 = true
        ∧ boxFrame s t src false [R.pwrAlarm] (fun _ => False)))
    ∧ (starts s src 0x0701 [low 1, low 63] [.time] c → ∃ t, exec (.timeAdjust src) s = .next t ∧
      (c.f 1 0 2 = 0 → (((c.c 2).toNat : Int) - (hubReset R.timeIncr).toNat).natAbs * 1000000 ≤ 500 * (hubReset R.timeIncr).toNat →
        completed s t src c 0 0 [w64 (nowNs s)] true ∧ rd t R.timeIncr = c.c 2 ∧ t.time = s.time
          ∧ boxFrame s t src true [R.timeIncr] (fun _ => False))
      ∧ (c.f 1 0 2 = 1 → (c.c 2).toNat < 2 ^ 32 →
        (s.tim.slew + sx 32 (c.c 2).toNat * 4294967296).natAbs ≤ (2 ^ 31 - 1) * 4294967296 →
        completed s t src c 0 0 [w64 (nowNs s)] true ∧ t.tim.slew = s.tim.slew + sx 32 (c.c 2).toNat * 4294967296
          ∧ t.time = s.time ∧ boxFrame s t src true [] (fun _ => False))
      ∧ (c.f 1 0 2 = 2 →
        t.time = (((s.time : Int) + sx 64 (c.c 2).toNat * 2 ^ 32) % (2 ^ 96 : Nat)).toNat
          ∧ completed s t src c 0 0 [w64 (nowNs t)] true ∧ t.coreRegs = s.coreRegs
          ∧ rd t R.timeLastStep = w64 (ux 64 (sx 64 (c.c 2).toNat))))
    ∧ (starts s src 0x0801 [low 19, low 20, low 1] [.ownership] c → granuleFree (c.f 1 0 20) = true → c.f 2 0 21 ≠ 0 →
      rangeFixed (c.f 1 0 20) (c.f 2 0 21) = false →
      ∃ t, exec (.ownSet src) s = .next t ∧ completed s t src c 0 0 [] true
        ∧ (∀ g, g < 1048064 → flagOf t g =
            if c.f 1 0 20 ≤ g ∧ g < c.f 1 0 20 + c.f 2 0 21 then c.f 3 0 2 else flagOf s g)
        ∧ boxFrame s t src true [] (fun x => 0x001001E00000 + c.f 1 0 20 / 4 ≤ x
            ∧ x ≤ 0x001001E00000 + (c.f 1 0 20 + c.f 2 0 21 - 1) / 4)
        ∧ t.coreRegs = s.coreRegs))
  ∧ (∀ (src : Src) (s : State) (c : Cmd), live s = true →
    (∀ j, breathOf s (c.f 1 0 8) = some j →
      (starts s src 0x0109 [low 7, low 31, low 15] (c1Job c) c → c.f 3 0 16 ≤ 72 →
        ∃ t, exec (.jobPolicy src) s = .next t ∧ completed s t src c 0 0 [] true
          ∧ jobOf t j = { jobOf s j with limit := c.f 2 0 16, interval := c.f 2 16 16, deferHours := c.f 3 0 16 }
          ∧ (∀ k, k ≠ j → jobOf t k = jobOf s k) ∧ boxFrame s t src true [] (fun _ => False) ∧ t.coreRegs = s.coreRegs)
      ∧ (starts s src 0x0202 [low 7, low 7] (c1Job c) c → c.f 2 0 8 ≠ 0 →
        ∃ t, exec (.breathLagLimit src) s = .next t ∧ completed s t src c 0 0 [] true
          ∧ rd t (R.brthLagLimit j) = w64 (c.f 2 0 8) ∧ boxFrame s t src true [R.brthLagLimit j] (fun _ => False)
          ∧ t.coreRegs = s.coreRegs)
      ∧ (starts s src 0x0203 [low 7] (c1Job c) c →
        ∃ t, exec (.breathClear src) s = .next t ∧ completed s t src c 0 0 [] true
          ∧ (∀ o ∈ [R.brthStretchCount j, R.brthBusyMax j, R.brthFrameMiss j, R.brthFrameSlip j, R.brthGridSkipped j,
              R.jobDeterminism j], rd t o = hubReset o)
          ∧ (∀ o, (o < R.brthConfig j ∨ R.brthConfig j + 0x200 ≤ o) → o ∉ boxRegs src → o ≠ R.msixPba → rd t o = rd s o)
          ∧ (∀ o ∈ [R.brthConfig j, R.brthRect j, R.brthPeriod j, R.brthFrame j, R.brthStatus j, R.jobState j,
              R.stepCount j], rd t o = rd s o)
          ∧ t.coreRegs = s.coreRegs)
      ∧ (starts s src 0x010A [low 8] (c1Job c) c → (jobState s j = 2 ∨ jobState s j = 6) →
        (bitAt (c.c 1) 8 = true → (l0Breath s = none ∨ l0Breath s = some j)
          ∧ limitHolds s (rdF s R.pwrLimit 0 7) (some j) (coresOf s j).length = true) →
        ∃ t, exec (.jobSetL0 src) s = .next t ∧ completed s t src c 0 0 [] true ∧ brthL0 t j = bitAt (c.c 1) 8
          ∧ (∀ n ∈ coresOf s j, crB t n R.coreConfig 4 = bitAt (c.c 1) 8)
          ∧ (∀ n r, n < 1024 → r < 0x8000 → (n ∉ coresOf s j ∨ r ≠ R.coreConfig) → cr t n r = cr s n r)
          ∧ boxFrame s t src true [R.brthConfig j] (fun _ => False)))
    ∧ (∀ n, n = c.f 1 0 10 → assigned s n = false → starts s src 0x0A03 [low 10] [coreLock s n] c →
      ∃ t, exec (.coreMark src) s = .next t ∧ completed s t src c 0 0 [] true
        ∧ core t n = { core s n with bad := bitAt (c.c 1) 10 } ∧ (∀ k, k ≠ n → core t k = core s k)
        ∧ boxFrame s t src true [] (fun _ => False) ∧ t.coreRegs = s.coreRegs))

/-- COUNTERS_CLEAR: the counters of the scope read their reset values, the greatest occupancy of a deferral area starts
again from the present one, and no other register changes. -/
def Obligations.CountersClearedByScope : Prop :=
  ∀ (src : Src) (s : State) (c : Cmd), live s = true → starts s src 0x0902 [low 23] [] c → c.f 1 0 4 ≤ 6 →
    c.f 1 4 10 ≤ c.f 1 14 10 →
    ∃ t, exec (.countersClear src) s = .next t ∧ completed s t src c 0 0 [] true ∧
      (∀ n r, r < 0x8000 → cr t n r =
        if (c.f 1 0 4 = 0 ∨ c.f 1 0 4 = 6) ∧ c.f 1 4 10 ≤ n ∧ n ≤ c.f 1 14 10 ∧ coreCounter (c.f 1 0 4 = 6) r
        then coreReset (coreKey n r)
        else if c.f 1 0 4 = 6 ∧ c.f 1 4 10 ≤ n ∧ n ≤ c.f 1 14 10 ∧ r = R.deferOcc then occNow (cr s n r) else cr s n r)
      ∧ (∀ o, o ∉ boxRegs src → o ≠ R.msixPba → (c.f 1 0 4 = 0 ∨ c.f 1 0 4 = 6) → rd t o = rd s o)
      ∧ (∀ o, o ∉ boxRegs src → o ≠ R.msixPba → 2 ≤ c.f 1 0 4 → c.f 1 0 4 ≤ 5 →
        rd t o = if hubCounter (c.f 1 0 4) o then hubReset o else rd s o)
      ∧ (∀ n r, n < 1024 → r < 0x200 → c.f 1 0 4 = 1 → rd t (0x100000 + 0x200 * n + r) =
        if c.f 1 4 10 ≤ n ∧ n ≤ c.f 1 14 10 ∧ routerCounter r then hubReset (0x100000 + 0x200 * n + r)
        else rd s (0x100000 + 0x200 * n + r))
      ∧ ∀ a, ¬ boxByte s src true a → ldB t a = ldB s a

/-- R66, R67, R401: suspending and resuming a job. JOB_SUSPEND asks for the next step boundary and waits; JOB_RESUME lets
a suspended job run again, a free-running one from the present time, and a frame-locked one that has no anchor yet waits
for its first edge as before (R62); a job in another state is told its state. -/
def Obligations.SuspendAndResume : Prop :=
  ∀ (src : Src) (s : State) (c : Cmd) (j : Nat), live s = true → breathOf s (c.f 1 0 8) = some j →
    (starts s src 0x0104 [low 7] (c1Job c) c → ∃ t, exec (.jobSuspend src) s = .next t ∧ t.coreRegs = s.coreRegs ∧
      (if jobState s j = 3 then
        begun s t src c false (c1Job c) [] ∧ suspendPending t j = true
          ∧ boxFrame s t src false [R.brthStatus j] (fun _ => False)
      else rejects s t src c 0x12 (jobState s j)))
    ∧ (starts s src 0x0105 [low 7] (c1Job c) c → ∃ t, exec (.jobResume src) s = .next t ∧ t.coreRegs = s.coreRegs ∧
      (if jobState s j ≠ 4 then rejects s t src c 0x12 (jobState s j)
       else if ((brth s j).asked.erase 1).isEmpty = false then rejects s t src c 0x14 0
       else completed s t src c 0 0 [] true ∧ jobState t j = 3
        ∧ brthState t j = (if brthMode s j = 1 ∧ brthHier s j = false ∧ (brth s j).anchored = false then 1 else 2)
        ∧ (brthHier s j = false → brthMode s j = 0 → rd t (R.brthNextNominal j) = w64 (nowNs s))
        ∧ boxFrame s t src true [R.jobState j, R.jobEvent j, R.brthStatus j, R.brthNextNominal j, R.brthFrameStep j,
            R.brthGridSkipped j] (fun _ => False)))

/-- R371, R401, R404: JOB_STOP, JOB_RESET and JOB_UNLOAD first cancel the job's background commands. A suspended job is
then STOPPED, a running one goes on to its boundary; a reset job is RESTARTING, its cores take nothing in, and its
rectangle is to be drained; an unloaded job leaves its breath and its cores. -/
def Obligations.StopResetUnload : Prop :=
  ∀ (src : Src) (s v : State) (c : Cmd) (j : Nat), live s = true → breathOf s (c.f 1 0 8) = some j →
    (starts s src 0x0103 [low 7] [] c → lockHeld s false (c1Job c) = false → (jobState s j = 3 ∨ jobState s j = 4) →
      v = cancelJob (holdJob (takeFront s src) j 2) j false →
      ∃ t, exec (.jobStop src) s = .next t ∧
        (if jobState v j = 4 then
          answeredOk t src c [w64 (brth v j).closed.toNat] ∧ jobState t j = 6 ∧ brthState t j = 0 ∧ (brth t j).asked = []
        else t.mbox.runs = v.mbox.runs ++ [⟨v.mbox.nextRun, src, c.words, c.digest, false, c1Job c, []⟩]
          ∧ jobState t j = jobState v j))
    ∧ (starts s src 0x0106 [low 7] [] c → lockHeld s false (c1Job c) = false →
      (jobState s j = 3 ∨ jobState s j = 4 ∨ jobState s j = 6) → v = cancelJob (takeFront s src) j false →
      ∃ t, exec (.jobReset src) s = .next t ∧ jobState t j = 5 ∧ brthState t j = 4
        ∧ t.mbox.runs = v.mbox.runs ++ [⟨v.mbox.nextRun, src, c.words, c.digest, false, c1Job c, []⟩]
        ∧ t.mesh.drains = v.mesh.drains ++ [⟨[j], none, none, (none, false)⟩]
        ∧ (∀ n ∈ coresOf v j, crB t n R.coreConfig 0 = false)
        ∧ rdF t (R.jobRestarts j) 32 16 = rdF v (R.jobRestarts j) 32 16)
    ∧ (starts s src 0x0107 [low 7] [] c → lockHeld s false (c1Job c) = false →
      (jobState s j = 2 ∨ jobState s j = 6 ∨ jobState s j = 7) → v = cancelJob (takeFront s src) j false →
      ∃ t, exec (.jobUnload src) s = .next t ∧ answeredOk t src c [] ∧ jobState t j = 0 ∧ jobOf t j = {} ∧ brth t j = {}
        ∧ (∀ n ∈ coresOf v j, crB t n R.coreConfig 0 = false ∧ crB t n R.coreConfig 4 = false)
        ∧ (∀ k, k ≠ j → jobOf t k = jobOf v k))

/-- R396, R398, R400, R401: a job whose image passes every check enters LOADING on the lowest free breath, with its
measurement and rectangle; when the load ends it is LOADED, unless a core has been found bad meanwhile. A start brings it up, from the newest usable checkpoint or
afresh, and it is RUNNING, its breath ARMED where it is frame-locked. -/
def Obligations.LoadAndStart : Prop :=
  ∀ (s v : State) (j : Nat) (i : Image), live s = true →
    (∀ (src : Src) (c : Cmd) (l : List Byte),
      starts s src 0x0101 [adr, low 31, low 8, low 31] [.job (loadId c)] c →
      c.f 2 0 32 ≠ 0 → c.f 2 0 32 % 256 = 0 → (isWorker s = true → srcRecord src = 8) → bgCount s < 4 →
      (c.c 1).toNat % 256 = 0 → firstUnmapped (takeFront s src) (c.c 1).toNat (cdiv (c.f 2 0 32) 256) = none →
      readSource none (cdiv (c.f 2 0 32) 256) (takeFront s src) (c.c 1).toNat = (.data l, v) →
      parseImage v (l.take (c.f 2 0 32)) = some i → rejected v i (loadId c) ((freeBreath v).getD 0) = none →
      loadRoom v (loadId c) = some j →
      ∃ t, exec (.jobLoad src) s = .next t ∧ begun s t src c true [.job (loadId c)] [j] ∧ jobState t j = 1
        ∧ jobId t j = loadId c ∧ rd t (R.brthRect j) = i.rect ∧ t.coreRegs = s.coreRegs)
    ∧ (∀ (id : BitVec 8) (r : Run) (l : List Byte), breathOf s id.toNat = some j →
      (∀ n ∈ coresOf s j, (core s n).testing = false) →
      (s.mbox.runs.find? fun r => r.opcode = 0x0101 && r.locks.contains (.job id.toNat)) = some r →
      canComplete s r.src = true → readSource none (r.f 2 0 32 / 256) s (r.words.getD 1 0).toNat = (.data l, v) →
      parseImage v l = some i →
      ∃ t, exec (.jobLoadDone id) s = .next t
        ∧ match i.cores.find? fun n => (core v n).bad with
          | none => jobState t j = 2 ∧ (jobOf t j).measure = sha256 i.data
              ∧ ranOut s t r 0 0 (w64 (id.toNat + j * 256) :: wordsOf 4 (sha256 i.data)) (some s.mbox.journalSeq)
          | some n => jobState t j = 0 ∧ t.coreRegs = s.coreRegs ∧ ranOut s t r 0x16 (rejectDetail (2, some n)) [] none)
    ∧ (∀ (src : Src) (c : Cmd) (k : Option Nat) (w : State), starts s src 0x0102 [low 8] (c1Job c) c →
      breathOf s (c.f 1 0 8) = some j →
      (jobState s j = 2 ∨ jobState s j = 6 ∨ (jobState s j = 7 ∧ causeStands (takeFront s src) j = false)) →
      checkedImage (takeFront s src) j [1, 2, 3, 4, 5, 6] [] = (some i, v) →
      (k, w) = (if bitAt (c.c 1) 8 then (none, v) else usableSlot j 2 v) →
      ∃ t r, exec (.jobStart src) s = .next t ∧ answeredOk t src c [w64 (r + 1).toNat] ∧ jobState t j = 3
        ∧ (k = none → r = BitVec.ofNat 32 0xFFFFFFFF)
        ∧ brthState t j = (if brthHier t j = false ∧ brthMode t j = 1 then 1 else 2))

/-- R383: on a STOPPED breath the whole configuration is written after all its checks, and `OVB` in every core of the job;
else nothing changes. -/
def Obligations.BreathConfigIsAllOrNothing : Prop :=
  ∀ (src : Src) (s : State) (c : Cmd) (j : Nat), live s = true → breathOf s (c.f 1 0 8) = some j →
    starts s src 0x0201 [low 7, 0x1F007F07, low 31, low 63, low 7] (c1Job c) c →
    ∃ t, exec (.breathConfig src) s = .next t ∧
      (if brthState s j ≠ 0 then rejects s t src c 0x12 (jobState s j)
       else match breathBad [c.c 1, c.c 2, c.c 3, c.c 4, c.c 5] (rectY0 s j) (rectY1 s j) with
        | some k => rejects s t src c 0x11 k
        | none =>
          if c.f 2 2 1 = 1 ∧ ovbFits (takeFront s src) j = false then rejects s t src c 0x11 2
          else completed s t src c 0 0 [] true ∧ brthMode t j = c.f 2 0 2 ∧ ovbDepth t j = c.f 2 2 1
            ∧ rdF t (R.brthConfig j) 8 7 = c.f 2 8 7 ∧ rdF t (R.brthConfig j) 24 5 = c.f 2 24 5
            ∧ rdF t (R.brthConfig j) 16 8 = rdF s (R.brthConfig j) 16 8 ∧ brthL0 t j = brthL0 s j
            ∧ rd t (R.brthPeriod j) = w64 (c.f 3 0 32) ∧ rd t (R.brthFrame j) = c.c 4
            ∧ rd t (R.brthLagLimit j) = w64 (c.f 5 0 8)
            ∧ (∀ n ∈ coresOf s j, crB t n R.coreConfig 3 = decide (c.f 2 2 1 = 1))
            ∧ (∀ n r, n < 1024 → r < 0x8000 → (n ∉ coresOf s j ∨ r ≠ R.coreConfig) → cr t n r = cr s n r)
            ∧ boxFrame s t src true [R.brthConfig j, R.brthPeriod j, R.brthFrame j, R.brthLagLimit j] (fun _ => False))

/-- R369, R370, R389, R410, R447, R451: commands of the background list begin, hold their locks and complete later: the
filling of memory, the copies of a checkpoint, the verification of firmware, the discovery of the tree, the signing of a
report. -/
def Obligations.BackgroundCommandsBegin : Prop :=
  ∀ (src : Src) (s : State) (c : Cmd), live s = true → bgCount s < 4 →
    (starts s src 0x0803 [low 63, low 31, low 8] [] c → c.f 2 0 32 % 256 = 0 → (c.c 1).toNat % 256 = 0 →
      firstUnmapped (takeFront s src) (c.c 1).toNat (cdiv (c.f 2 0 32) 256) = none →
      ∃ t, exec (.memFill src) s = .next t ∧ begun s t src c true [] [] ∧ boxFrame s t src false [] (fun _ => False))
    ∧ (∀ j, starts s src 0x0303 [low 8, low 63, low 31] [] c → breathOf s (c.f 1 0 8) = some j →
      slotValid s j (c.f 1 8 1) = true → (slotCount s j (c.f 1 8 1) + 1) * 256 ≤ c.f 3 0 32 →
      (c.c 2).toNat % 256 = 0 →
      firstUnmapped (takeFront s src) (c.c 2).toNat (cdiv ((slotCount s j (c.f 1 8 1) + 1) * 256) 256) = none →
      ∃ t, exec (.checkpointExport src) s = .next t ∧ begun s t src c true [] [j, c.f 1 8 1]
        ∧ boxFrame s t src false [] (fun _ => False))
    ∧ (∀ j, starts s src 0x0304 [low 7, low 63, low 31] (c1Job c) c → breathOf s (c.f 1 0 8) = some j →
      jobState s j = 6 → c.f 3 0 32 ≠ 0 → c.f 3 0 32 % 256 = 0 → c.f 3 0 32 ≤ (jobOf s j).slotBytes →
      (c.c 2).toNat % 256 = 0 → firstUnmapped (takeFront s src) (c.c 2).toNat (cdiv (c.f 3 0 32) 256) = none →
      ∃ t, exec (.checkpointImport src) s = .next t ∧ begun s t src c true (c1Job c) [j]
        ∧ boxFrame s t src false [] (fun _ => False))
    ∧ (starts s src 0x0C05 [] [.firmware] c →
      ∃ t, exec (.fwUpdateCommit src) s = .next t ∧ begun s t src c true [.firmware] []
        ∧ t.boot = s.boot ∧ t.flash = s.flash ∧ boxFrame s t src false [] (fun _ => False))
    ∧ (starts s src 0x0E01 [] [] c → ∃ t, exec (.hierDiscover src) s = .next t ∧
        (if peerRole s = 1 then begun s t src c true [] [] ∧ boxFrame s t src false [] (fun _ => False)
         else rejects s t src c 0x1C 0))
    ∧ (∀ l, starts s src 0x0C01 [low 63, low 63, low 63, low 63, low 63, low 31] [] c →
      l = report (takeFront s src) (bytesOf [c.c 1, c.c 2, c.c 3, c.c 4]) →
      cdiv (l.length + signBytes) 256 * 256 ≤ c.f 6 0 32 → (c.c 5).toNat % 256 = 0 →
      firstUnmapped (takeFront s src) (c.c 5).toNat (cdiv (l.length + signBytes) 256) = none →
      ∃ t, exec (.attest src) s = .next t ∧ begun s t src c true [] (l.map fun b => b.toNat)
        ∧ boxFrame s t src false [] (fun _ => False))

/-- R165, R382, R405, R413, R388: commands that wait for something of a job, or of another package, begin. A running job
is asked to suspend for its checkpoint or its test, and a checkpoint that finds one under way is BUSY; each core of a job is
asked for its snapshot; a change list asks for a drain of the jobs it affects; idle cores go under test at once; a relayed
entry goes to its worker. -/
def Obligations.WaitingCommandsBegin : Prop :=
  ∀ (src : Src) (s : State) (c : Cmd), live s = true →
    (∀ j, starts s src 0x0301 [low 7] (c1Job c) c → breathOf s (c.f 1 0 8) = some j → jobState s j = 3 → bgCount s < 4 →
      ckptBusy s j = false → ∃ t, exec (.checkpoint src) s = .next t ∧ begun s t src c true (c1Job c) []
        ∧ suspendPending t j = true ∧ (brth t j).asked = (brth s j).asked ++ [3]
        ∧ boxFrame s t src false [R.brthStatus j] (fun _ => False) ∧ t.coreRegs = s.coreRegs)
    ∧ (∀ j, starts s src 0x0301 [low 7] (c1Job c) c → breathOf s (c.f 1 0 8) = some j → ckptBusy s j = true →
      ∃ t, exec (.checkpoint src) s = .next t ∧ rejects s t src c 0x14 0)
    ∧ (∀ j, starts s src 0x0A01 [0xFFFFF01FF] (testLocks s c) c → bitAt (c.c 1) 0 = true →
      breathOf s (c.f 1 1 8) = some j → jobState s j = 3 → bgCount s < 4 → ckptBusy s j = false →
      ∃ t, exec (.fieldTest src) s = .next t ∧ begun s t src c true [.job (c.f 1 1 8)] [] ∧ suspendPending t j = true
        ∧ (jobOf t j).testWanted = true ∧ boxFrame s t src false [R.brthStatus j] (fun _ => False))
    ∧ (starts s src 0x0A01 [0xFFFFF01FF] (testLocks s c) c → bitAt (c.c 1) 0 = false → bgCount s < 4 →
      testRange c ≠ [] → (∀ n ∈ testRange c, idleCore s n = true ∧ (core s n).testing = false) →
      ∃ t, exec (.fieldTest src) s = .next t ∧ begun s t src c true (testLocks s c) (testRange c)
        ∧ (∀ n, core t n = if n ∈ testRange c then { core s n with testing := true } else core s n)
        ∧ boxFrame s t src false [] (fun _ => False))
    ∧ (∀ j, starts s src 0x0401 [low 8, low 31, low 63, low 31] [] c → breathOf s (c.f 1 0 8) = some j →
      jobState s j = 3 → bgCount s < 4 →
      (∀ n ∈ coresOf s j, (core s n).snapshot = none ∧ passed s j n (BitVec.ofNat 32 (c.f 2 0 32)) = false) →
      ((coresOf s j).map fun m => snapBlocks s m (bitAt (c.c 1) 8)).sum * 256 ≤ c.f 4 0 32 → (c.c 3).toNat % 256 = 0 →
      firstUnmapped (takeFront s src) (c.c 3).toNat
        (cdiv (((coresOf s j).map fun m => snapBlocks s m (bitAt (c.c 1) 8)).sum * 256) 256) = none →
      ∃ t, exec (.weightsRead src) s = .next t ∧ begun s t src c true [] [j]
        ∧ (∀ n ∈ coresOf s j, (core t n).snapshot = some (s.mbox.nextRun, BitVec.ofNat 32 (c.f 2 0 32))
            ∧ (core t n).snapDone = false)
        ∧ t.coreRegs = s.coreRegs ∧ boxFrame s t src false [] (fun _ => False))
    ∧ (∀ l v, starts s src 0x010B [adr, low 12] (changeLocks s c) c → c.f 2 0 13 ≠ 0 → c.f 2 0 13 ≤ 4096 →
      bgCount s < 4 → (c.c 1).toNat % 256 = 0 →
      firstUnmapped (takeFront s src) (c.c 1).toNat (cdiv (16 * c.f 2 0 13) 256) = none →
      readSource none (cdiv (16 * c.f 2 0 13) 256) (takeFront s src) (c.c 1).toNat = (.data l, v) →
      badChange v (changeList (c.f 2 0 13) (l.take (16 * c.f 2 0 13))) = none →
      (changeUsers v (changeList (c.f 2 0 13) (l.take (16 * c.f 2 0 13)))).length ≤ 4 →
      ∃ t, exec (.tableChange src) s = .next t ∧ t.mem = v.mem
        ∧ t.mbox.runs.length = s.mbox.runs.length + 1
        ∧ t.mesh.drains = s.mesh.drains ++
          [⟨changeUsers v (changeList (c.f 2 0 13) (l.take (16 * c.f 2 0 13))), some s.mbox.nextRun, none, (none, false)⟩])
    ∧ (∀ l v q, starts s src 0x0E03 [low 3, low 63, low 63] [] c → peerRole s = 1 → c.f 1 0 4 ≠ 0 →
      s.mbox.present.getLsbD (c.f 1 0 4) = true → peerPort s (c.f 1 0 4) = some q →
      stateOf s (.peer (Fin.ofNat 4 q)) ≠ 3 → (c.c 2).toNat % 256 = 0 → (c.c 3).toNat % 256 = 0 →
      firstUnmapped (takeFront s src) (c.c 2).toNat (cdiv 64 256) = none → firstUnmapped v (c.c 3).toNat (cdiv 64 256) = none →
      readSource none (cdiv 64 256) (takeFront s src) (c.c 2).toNat = (.data l, v) →
      ∃ t, exec (.hierRelay src) s = .next t ∧ begun s t src c false [] []
        ∧ t.mbox.relayTo = (s.mbox.nextRun, c.f 1 0 4, wordsOf 8 (l.take 64)) :: s.mbox.relayTo)

/-- R361, R369, R410, R447, R451, R388: the ends of running commands. Each completes with what its row names: the filled
range holds zeros, the copy and the signed report are at their destination, the verified slot is named for the next boot,
the discovered packages are recorded. -/
def Obligations.RunningCommandsEnd : Prop :=
  ∀ (s : State) (id : Nat) (r : Run), live s = true →
    (running s id 0x0803 r → inDdr s (r.words.getD 1 0).toNat (r.f 2 0 32 / 256) →
      ∃ t, exec (.memFillDone id) s = .next t ∧ ranOut s t r 0 0 [] (some s.mbox.journalSeq)
        ∧ (∀ x, (r.words.getD 1 0).toNat ≤ x → x < (r.words.getD 1 0).toNat + 256 * (r.f 2 0 32 / 256) → ldB t x = 0)
        ∧ (∀ x, (x < (r.words.getD 1 0).toNat ∨ (r.words.getD 1 0).toNat + 256 * (r.f 2 0 32 / 256) ≤ x) →
          ¬ boxByte s r.src true x → ldB t x = ldB s x)
        ∧ t.coreRegs = s.coreRegs)
    ∧ (∀ l v, running s id 0x0303 r → slotValid s (r.aux.getD 0 0) (r.aux.getD 1 0) = true →
      (slotCount s (r.aux.getD 0 0) (r.aux.getD 1 0) + 1) * 256 ≤ r.f 3 0 32 →
      readSource none (slotCount s (r.aux.getD 0 0) (r.aux.getD 1 0) + 1) s
        (slotBlock s (r.aux.getD 0 0) (r.aux.getD 1 0) 0) = (.data l, v) →
      l.length = 256 * (slotCount s (r.aux.getD 0 0) (r.aux.getD 1 0) + 1) →
      inDdr v (r.words.getD 2 0).toNat (slotCount s (r.aux.getD 0 0) (r.aux.getD 1 0) + 1) →
      ∃ t, exec (.checkpointExportDone id) s = .next t
        ∧ ranOut s t r 0 0 [w64 ((slotCount s (r.aux.getD 0 0) (r.aux.getD 1 0) + 1) * 256)] none
        ∧ ∀ i, i < l.length → ldB t ((r.words.getD 2 0).toNat + i) = l.getD i 0)
    ∧ (∀ l v g, running s id 0x0304 r →
      readSource none (r.f 3 0 32 / 256) s (r.words.getD 2 0).toNat = (.data l, v) →
      g = putBlocks (jobId v (r.aux.getD 0 0)) (r.f 3 0 32 / 256) v
        (slotBlock v (r.aux.getD 0 0) (targetSlot s (r.aux.getD 0 0)) 0) l →
      ∃ t status detail p q, exec (.checkpointImportDone id) s = .next t ∧ ranOut s t r status detail p q
        ∧ (if slotValid g (r.aux.getD 0 0) (targetSlot s (r.aux.getD 0 0)) = true
            ∧ slotCount g (r.aux.getD 0 0) (targetSlot s (r.aux.getD 0 0)) + 1 ≤ r.f 3 0 32 / 256
            ∧ (slotGood g (r.aux.getD 0 0) (targetSlot s (r.aux.getD 0 0))).1 = true
          then status = 0 ∧ q = some s.mbox.journalSeq else status = 0x19 ∧ q = none))
    ∧ (running s id 0x0C05 r → ∃ t, exec (.fwUpdateCommitDone id) s = .next t ∧ t.boot.expect = none
        ∧ match verifySlot s (inactive s) with
          | .good => ranOut s t r 0 0 [w64 (inactive s)] (some s.mbox.journalSeq)
          | .rolledBack => ranOut s t r 0x1E 0 [] none
          | .authFail => ranOut s t r 0x1D 0 [] none)
    ∧ (∀ mask : BitVec 16, running s id 0x0E01 r → ∃ t, exec (.hierDiscoverDone id mask) s = .next t
        ∧ ranOut s t r 0 0 [w64 (mask ||| 1).toNat] (some s.mbox.journalSeq)
        ∧ t.mbox.present = mask ||| 1 ∧ rdF t R.peerTree 0 2 = 1 ∧ rdF t R.peerTree 4 4 = (mask ||| 1).toNat / 2 % 16
        ∧ rd t R.pkgId = 0 ∧ t.coreRegs = s.coreRegs)
    ∧ (∀ l, running s id 0x0C01 r → l = signed (r.aux.map fun b => BitVec.ofNat 8 b) →
      inDdr s (r.words.getD 5 0).toNat (cdiv l.length 256) → ∃ t, exec (.attestSigned id) s = .next t
        ∧ ranOut s t r 0 0 [w64 l.length] none
        ∧ ∀ i, i < l.length → ldB t ((r.words.getD 5 0).toNat + i) = l.getD i 0)
    ∧ (∀ entry : List W64, running s id 0x0E03 r → entry.length = 8 → inDdr s (r.words.getD 3 0).toNat 1 →
      ∃ t, exec (.hierRelayAnswer id entry) s = .next t
        ∧ ranOut s t r 0 0 [w64 (fld (entry.getD 0 0) 32 8)] (some s.mbox.journalSeq)
        ∧ ∀ i, i < 64 → ldB t ((r.words.getD 3 0).toNat + i) = (bytesOf entry).getD i 0)
    ∧ (running s id 0x0E03 r → ∃ t, exec (.hierRelayTimeout id) s = .next t
        ∧ ranOut s t r 0x1F 0 [] (some s.mbox.journalSeq) ∧ t.coreRegs = s.coreRegs)

/-- R233: what OPEN, CLOSE and DRAIN leave of a queue whose entry lies apart from its sender table, its banks and its
status word: OPEN has the next epoch and starts empty, CLOSE keeps the epoch, and a queue that drains takes no new
message. R233, R235, R385: the queue commands of the host work on an awake core that no debug halt holds, and wake a sleeping
one. QUEUE_OP opens, closes or drains and answers the epoch; QUEUE_QUERY answers entry and status words; QUEUE_BIND
writes a binding, with the destination's present epoch if asked, and answers the old one; ENGINE_RESET abandons the
engine's objects and ends its wait. -/
def Obligations.HostQueues : Prop :=
  (∀ (s : State) (n q : Nat),
    (∀ a, qAddr s n q ≤ a → a < qAddr s n q + 32 →
      (a < statAddr s n q ∨ statAddr s n q + 4 ≤ a)
        ∧ (qKind s n q = 0 → a < sndAddr s n q 0 ∨ sndAddr s n q 0 + 4 * sndCount s n q ≤ a)
        ∧ (qKind s n q = 2 → (a < combBank s n q 0 ∨ combBank s n q 0 + 4 * combLanes s n q ≤ a)
          ∧ (a < combBank s n q 1 ∨ combBank s n q 1 + 4 * combLanes s n q ≤ a))) →
    (qState (openQ s n q) n q = 1 ∧ qEpoch (openQ s n q) n q = (qEpoch s n q + 1) % 256
      ∧ qKind (openQ s n q) n q = qKind s n q
      ∧ (qKind s n q = 0 → qHead (openQ s n q) n q = 0 ∧ qReady (openQ s n q) n q = 0 ∧ qResv (openQ s n q) n q = 0)
      ∧ ∀ r ∈ (core (openQ s n q) n).resv, r.q ≠ q)
    ∧ (qState (closeQ s n q) n q = 0 ∧ qEpoch (closeQ s n q) n q = qEpoch s n q
      ∧ ∀ r ∈ (core (closeQ s n q) n).resv, r.q ≠ q)
    ∧ (qState s n q = 1 → (drainQ s n q).1 = 0 ∧ (qState (drainQ s n q).2 n q = 2 ∨ qState (drainQ s n q).2 n q = 0)
      ∧ ∀ w ∈ (core (drainQ s n q).2 n).grantWait, w.q ≠ q)
    ∧ (qState s n q ≠ 1 → drainQ s n q = (3, s)))
  ∧ (∀ (src : Src) (s u v : State) (c : Cmd), live s = true → u = takeFront s src →
    (starts s src 0x0501 [low 19] [.queue (c.f 1 0 16)] c → portWaits s (c.f 1 6 10) = false →
      (c.f 1 16 4 = 0 → v = openQ (wakeIsland u (c.f 1 6 10)) (c.f 1 6 10) (c.f 1 0 6) →
        ∃ t, exec (.queueOp src) s = .next t ∧ answeredOk t src c [w64 (qEpoch v (c.f 1 6 10) (c.f 1 0 6))]
          ∧ leaves t v src true)
      ∧ (c.f 1 16 4 = 1 → v = closeQ (wakeIsland u (c.f 1 6 10)) (c.f 1 6 10) (c.f 1 0 6) →
        ∃ t, exec (.queueOp src) s = .next t ∧ answeredOk t src c [w64 (qEpoch v (c.f 1 6 10) (c.f 1 0 6))]
          ∧ leaves t v src true)
      ∧ (c.f 1 16 4 = 2 → (0, v) = drainQ (wakeIsland u (c.f 1 6 10)) (c.f 1 6 10) (c.f 1 0 6) →
        ∃ t, exec (.queueOp src) s = .next t ∧ answeredOk t src c [w64 (qEpoch v (c.f 1 6 10) (c.f 1 0 6))]
          ∧ leaves t v src true))
    ∧ (starts s src 0x0502 [low 15] [] c → portWaits s (c.f 1 6 10) = false → v = wakeIsland u (c.f 1 6 10) →
      ∃ t, exec (.queueQuery src) s = .next t
        ∧ completed s t src c 0 0 [qw v (c.f 1 6 10) (c.f 1 0 6) 0, qStat v (c.f 1 6 10) (c.f 1 0 6)] false
        ∧ leaves t v src false ∧ (island s (c.f 1 6 10) < 2 → boxFrame s t src false [] (fun _ => False)))
    ∧ (∀ (kind n b : Nat) (w : W64), kind = c.f 1 0 2 → n = c.f 1 2 10 → b = c.f 1 12 6 →
      starts s src 0x0503 [low 18, low 46] (bindLock s c) c → portWaits s (if kind = 0 then n else 1024) = false →
      (kind = 0 ∨ (kind = 1 ∧ n ≤ 255 ∧ b = 0) ∨ (kind = 2 ∧ n = 0)) →
      v = (let x := if kind = 0 then wakeIsland u n else u
        if bitAt (c.c 1) 18 then wakeIsland x (c.f 2 0 16 / 64) else x) →
      w = (if bitAt (c.c 1) 18 then putFld (c.c 2) 16 8 (qEpoch v (c.f 2 0 16 / 64) (c.f 2 0 16 % 64)) else c.c 2) →
      ∃ t, exec (.queueBind src) s = .next t ∧ completed s t src c 0 0 [bindRead v kind n b] true
        ∧ bindRead t kind n b = w
        ∧ (∀ o, o ∉ boxRegs src → o ≠ R.msixPba → (kind = 1 → o ≠ R.bellBind n) → rd t o = rd v o)
        ∧ (∀ a, ¬ boxByte v src true a → (kind = 0 → a < bindAddr v n b ∨ bindAddr v n b + 8 ≤ a) → ldB t a = ldB v a)
        ∧ t.coreRegs = v.coreRegs)
    ∧ (starts s src 0x0504 [low 12] [coreLock s (c.f 1 0 10)] c → portWaits s (c.f 1 0 10) = false →
      (c.f 1 10 3 = 0 ∨ c.f 1 10 3 = 5) → ∃ t, exec (.engineReset src) s = .next t ∧ answeredOk t src c []
        ∧ cr t (c.f 1 0 10) (R.waitState (c.f 1 10 3)) = 0
        ∧ (c.f 1 10 3 = 5 → (core t (c.f 1 0 10)).sends = []
            ∧ (∀ x ∈ (core t (c.f 1 0 10)).resv, 64 ≤ x.q) ∧ ∀ x ∈ (core t (c.f 1 0 10)).grantWait, 64 ≤ x.q)))

/-- R24, R26, R103, R385, R402, R415: a debug halt stops a core and its end lets it go, with the signals and host accesses
that waited; a request that merges with the one before it only sets `CORE_PULSE_OVR.HALT`; a core reset puts the core's
registers back and faults the job that owns it. R386: the converter commands. CONV_CONFIG loads a checked register image into a stopped channel and clears its
counters; CONV_START makes it run from its initial state; CONV_STOP stops it, and one that is stopped already stays as it
is. -/
def Obligations.CoreAndConverterCommands : Prop :=
  (∀ (src : Src) (s : State) (c : Cmd) (n : Nat), live s = true → n = c.f 1 0 10 →
    (∀ merged : Bool, (merged = true → haltMerges s n = false) → starts s src 0x0B01 [low 9] [coreLock s n] c →
      ∃ t, exec (.coreHalt src merged) s = .next t ∧ (core t n).halted = true
      ∧ crB t n R.coreStatus 2 = true ∧ answeredOk t src c [coreStatusRead t n]
      ∧ (∀ m r, m < 1024 → r < 0x8000 → (m ≠ n ∨ r ≠ R.coreStatus) → cr t m r = cr s m r)
      ∧ (∀ m, m ≠ n → core t m = core s m) ∧ ∀ a, ¬ boxByte s src true a → ldB t a = ldB s a)
    ∧ (∀ merged : Bool, (merged = true → haltMerges s n = false) → starts s src 0x0B02 [low 9] [coreLock s n] c →
      ∃ t, exec (.coreResume src merged) s = .next t ∧ leaves t (setHalt (takeFront s src) n false) src true)
    ∧ (∀ merged : Bool, (merged = true → haltMerges s n = false) → starts s src 0x0B02 [low 9] [coreLock s n] c →
      (core s n).hostWaits = [] → (core s n).sigHeld = [] →
      ∃ t, exec (.coreResume src merged) s = .next t ∧ (core t n).halted = false
      ∧ crB t n R.coreStatus 2 = false ∧ answeredOk t src c [coreStatusRead t n]
      ∧ (∀ m r, m < 1024 → r < 0x8000 → (m ≠ n ∨ r ≠ R.coreStatus) → cr t m r = cr s m r)
      ∧ (∀ m, m ≠ n → core t m = core s m) ∧ ∀ a, ¬ boxByte s src true a → ldB t a = ldB s a)
    ∧ (haltMerges s n = true → starts s src 0x0B01 [low 9] [coreLock s n] c →
      ∃ t, exec (.coreHalt src true) s = .next t ∧ crB t n R.corePulseOvr 0 = true ∧ answeredOk t src c [coreStatusRead t n]
        ∧ t.cores = s.cores ∧ coreRegsKept s t n [R.corePulseOvr] ∧ boxFrame s t src false [] (fun _ => False))
    ∧ (haltMerges s n = true → starts s src 0x0B02 [low 9] [coreLock s n] c →
      ∃ t, exec (.coreResume src true) s = .next t ∧ crB t n R.corePulseOvr 0 = true
        ∧ answeredOk t src c [coreStatusRead t n] ∧ t.cores = s.cores ∧ coreRegsKept s t n [R.corePulseOvr]
        ∧ boxFrame s t src false [] (fun _ => False))
    ∧ (starts s src 0x0B03 [low 9] [coreLock s n] c → ∃ t, exec (.coreReset src) s = .next t ∧ answeredOk t src c []
      ∧ (core t n).rx = [] ∧ (core t n).emitQ = [] ∧ (core t n).bad = (core s n).bad
      ∧ (core t n).halted = (core s n).halted ∧ cr t n R.plasStep = coreReset (coreKey n R.plasStep)
      ∧ (∀ m r, m ≠ n → m < 1024 → r < 0x8000 → cr t m r = cr s m r)
      ∧ (assigned s n = true → jobState s (coreBreath s n) = 3 →
          (⟨coreBreath s n, 0x0B, (brth s (coreBreath s n)).started.toNat⟩ : Raised) ∈ t.faults
            ∧ brthState t (coreBreath s n) = 4 ∧ rd t (R.brthStretchCount (coreBreath s n)) = 0)))
  ∧ (∀ (src : Src) (s u : State) (c : Cmd) (kind ch : Nat), live s = true → u = takeFront s src → kind = convKind c →
    ch = convChan c → convNamed c = true →
    (∀ l v w, starts s src 0x0601 [low 9, adr] (c1Conv s c) c → convState s kind ch = 0 → (c.c 2).toNat % 256 = 0 →
      firstUnmapped u (c.c 2).toNat 1 = none → readSource none 1 u (c.c 2).toNat = (.data l, v) →
      l.length = 256 → w = wordsOf (convWords kind) l → (∀ b ∈ l.drop (8 * convWords kind), b = 0) → convGood kind w = true →
      convFits v kind w = true → ∃ t, exec (.convConfig src) s = .next t ∧ completed s t src c 0 0 [] true
        ∧ leaves t (convWrite v kind ch w) src true ∧ convState t kind ch = 0
        ∧ (∀ o ∈ convCounters kind ch, rd t o = 0))
    ∧ (∀ j, starts s src 0x0602 [low 9] (c1Conv s c) c → convState s kind ch = 0 →
      breathOf s (convJob s kind ch) = some j → convBreath s kind ch = j →
      ∃ t, exec (.convStart src) s = .next t ∧ completed s t src c 0 0 [] true
        ∧ leaves t (convRun (convInit u kind ch) kind ch (startRef u kind ch j)) src true ∧ convState t kind ch = 1)
    ∧ (starts s src 0x0603 [low 9] (c1Conv s c) c → ∃ t, exec (.convStop src) s = .next t ∧ convState t kind ch = 0 ∧
      (if convState s kind ch = 0 then readsOnly s t src c []
       else completed s t src c 0 0 [] true ∧ leaves t (convHalt u kind ch) src true)))

/-- R164, R384: WEIGHTS_WRITE writes the checked source bytes through port B of a core of a SUSPENDED job, and nothing
else; R447: FW_UPDATE_BEGIN leaves the inactive slot erased and awaits the image, and FW_UPDATE_WRITE puts the source
bytes into it; the slot that runs, and the boot pointers, are untouched. -/
def Obligations.CheckedCopies : Prop :=
  ∀ (src : Src) (s v : State) (c : Cmd) (l : List Byte),
    (∀ j a, live s = true → starts s src 0x0402 [low 18, low 63, low 31] (c1Job c) c → portWaits s (c.f 1 8 10) = false →
      breathOf s (c.f 1 0 8) = some j → jobState s j = 4 → c.f 1 8 10 ∈ coresOf s j → island s (c.f 1 8 10) < 2 →
      weightsRange s (c.f 1 8 10) (bitAt (c.c 1) 18) (c.f 3 0 15) (c.f 3 16 16 * 256) = true →
      (c.c 2).toNat % 256 = 0 → firstUnmapped (takeFront s src) (c.c 2).toNat (c.f 3 16 16) = none →
      readSource (some (c.f 1 0 8)) (c.f 3 16 16) (takeFront s src) (c.c 2).toNat = (.data l, v) →
      l.length = 256 * c.f 3 16 16 →
      a = (if bitAt (c.c 1) 18 then scratch (c.f 1 8 10) (c.f 3 0 15) else coreBase (c.f 1 8 10) + 0x38000 + c.f 3 0 15) →
      ∃ t, exec (.weightsWrite src) s = .next t ∧ completed s t src c 0 0 [] true
        ∧ (∀ i, i < c.f 3 16 16 * 256 → ldB t (a + i) = l.getD i 0)
        ∧ (∀ x, (x < a ∨ a + c.f 3 16 16 * 256 ≤ x) → ¬ boxByte s src true x → ldB t x = ldB s x)
        ∧ t.coreRegs = s.coreRegs)
    ∧ (serves s = true → starts s src 0x0C03 [low 31] [.firmware] c → c.f 1 0 32 ≤ fwSize →
      ∃ t, exec (.fwUpdateBegin src) s = .next t ∧ completed s t src c 0 0 [] true
        ∧ t.boot = { s.boot with expect := some (c.f 1 0 32) }
        ∧ (∀ a, fwBase (inactive s) ≤ a → a < fwBase (inactive s) + fwSize → flashB t a = 0xFF)
        ∧ (∀ a, (a < fwBase (inactive s) ∨ fwBase (inactive s) + fwSize ≤ a) → flashB t a = flashB s a)
        ∧ t.coreRegs = s.coreRegs ∧ boxFrame s t src true [] (fun _ => False))
    ∧ (∀ b, serves s = true → starts s src 0x0C04 [low 63, low 31, low 31] [.firmware] c → s.boot.expect = some b →
      c.f 2 0 32 + c.f 3 0 32 ≤ b → (c.c 1).toNat % 256 = 0 →
      firstUnmapped (takeFront s src) (c.c 1).toNat (cdiv (c.f 3 0 32) 256) = none →
      readSource none (cdiv (c.f 3 0 32) 256) (takeFront s src) (c.c 1).toNat = (.data l, v) → c.f 3 0 32 ≤ l.length →
      ∃ t, exec (.fwUpdateWrite src) s = .next t ∧ completed s t src c 0 0 [] true ∧ t.boot = s.boot
        ∧ (∀ i, i < c.f 3 0 32 → flashB t (fwBase (inactive s) + c.f 2 0 32 + i) = l.getD i 0)
        ∧ (∀ a, (a < fwBase (inactive s) + c.f 2 0 32 ∨ fwBase (inactive s) + c.f 2 0 32 + c.f 3 0 32 ≤ a) →
            flashB t a = flashB s a)
        ∧ t.coreRegs = s.coreRegs)

/-- R220, R360, R420: POWER_STATE confirms the state the package is in, or accepts P-STANDBY from P-IDLE when no DMA
engine is busy and no pad is held; LINK_RETRAIN answers the link's state, and LINK_DOWN where training fails. -/
def Obligations.PowerAndLinks : Prop :=
  ∀ (src : Src) (s : State) (c : Cmd), live s = true →
    (starts s src 0x0005 [low 1] [] c → ∃ t, exec (.powerState src) s = .next t ∧ t.coreRegs = s.coreRegs
      ∧ boxFrame s t src true [] (fun _ => False)
      ∧ (c.f 1 0 2 < 2 → c.f 1 0 2 = pwrStateCode s → readsOnly s t src c [])
      ∧ (c.f 1 0 2 < 2 → c.f 1 0 2 ≠ pwrStateCode s → rejects s t src c 0x12 (pwrStateCode s))
      ∧ (c.f 1 0 2 = 3 → rejects s t src c 0x11 1)
      ∧ (c.f 1 0 2 = 2 → pwrStateCode s = 1 → (∀ e, e < 8 → dmaState s e ≠ 1) → padHold s = false →
          completed s t src c 0 0 [] true ∧ t.chip = { s.chip with standbyAsked := true })
      ∧ (c.f 1 0 2 = 2 → (pwrStateCode s ≠ 1 ∨ (∃ e, e < 8 ∧ dmaState s e = 1) ∨ padHold s = true) →
          rejects s t src c 0x12 (pwrStateCode s)))
    ∧ (∀ l, starts s src 0x0006 [low 14] [] c → retrainLink c = some l →
      (∃ t, exec (.linkRetrain src true) s = .next t ∧ stateOf t l = 0 ∧ answeredOk t src c [w64 0])
      ∧ ∃ t q, exec (.linkRetrain src false) s = .next t ∧ stateOf t l = 3
        ∧ keptLast t src = some ⟨c.tag, c.digest, cplWords c.opcode c.tag 0x1B false 0 q [w64 3]⟩)
    ∧ (starts s src 0x0006 [low 14] [] c → retrainLink c = none → ∀ up, ∃ t, exec (.linkRetrain src up) s = .next t
      ∧ rejects s t src c 0x11 1)

/-- R376: a command whose opcode is not served completes with BAD_OPCODE, in recovery too, and R329, R375: one whose entry
holds an uncorrectable word is not run and completes with ENTRY_ERROR, which is not kept; the word is counted and logged. -/
def Obligations.UnservedCommands : Prop :=
  ∀ (s : State), serves s = true →
    (∀ (src : Src) (c : Cmd), starts s src c.opcode (List.replicate 7 (low 63)) [] c → servedOp s c.opcode = false →
      ∃ t, exec (.badOpcode src) s = .next t ∧ rejects s t src c 0x10 0)
    ∧ (∀ (m : Fin 8) (headerBad : Bool) (c : Cmd), cmdAt s (.ring m) = some c → startable s (.ring m) = true →
      ∃ t e, exec (.entryError m headerBad) s = .next t
        ∧ e = (badEntryWord s m.val headerBad).1 ∧ (headerBad = true → e = ringEntry m.val false (cmdCi s m.val))
        ∧ rd t R.hubSramUe = w64 (satAdd 32 (rd s R.hubSramUe).toNat 1) ∧ rdB t R.memAlarm 2 = true
        ∧ rd t R.errLogAddr = w64 e ∧ rdF t R.errLogInfo 0 8 = 4 ∧ t.mbox.kept = s.mbox.kept ∧ t.mbox.journalSeq = s.mbox.journalSeq
        ∧ cmdCi t m.val = (cmdCi s m.val + 1) % 65536
        ∧ ldN t (ringEntry m.val true (cplPi s m.val)) 64 = bytesOf
          (cplWords (if headerBad then 0xFFFF else c.opcode) (if headerBad then 0xFFFF else c.tag) 0x20 false 0 0xFFFFFFFF [])
        ∧ cplPi t m.val = (cplPi s m.val + 1) % 65536
        ∧ boxFrame s t (.ring m) false [R.hubSramUe, R.memAlarm, R.errLogAddr, R.errLogInfo, R.errLogTime]
          (fun x => e ≤ x ∧ x < e + 8))

/-! ### Jobs, checkpoints, tests and drains -/

/-- R66, R401, R407: once every started step has closed, HOLD goes out and the job is SUSPENDED; a job that was to stop is
STOPPED; a checkpoint that fits its slot begins with the last closed step. -/
def Obligations.SuspensionTakesEffect : Prop :=
  ∀ (j : BreathId) (s : State), live s = true → boundaryReached s j.val = true →
    ∃ t, exec (.suspendReached j) s = .next t
      ∧ bcastSent s t j.val 2 (brth s j.val).started
      ∧ t.coreRegs = s.coreRegs ∧ t.cores = s.cores
      ∧ ((∀ w ∈ [2, 3, 5], w ∉ (brth s j.val).asked) → jobState t j.val = 4 ∧ brthState t j.val = 3
          ∧ suspendPending t j.val = false)
      ∧ (2 ∈ (brth s j.val).asked → jobState t j.val = 6 ∧ brthState t j.val = 0)
      ∧ (2 ∉ (brth s j.val).asked → (3 ∈ (brth s j.val).asked ∨ 5 ∈ (brth s j.val).asked) →
          (contentBlocks s j.val + 1) * 256 ≤ (jobOf s j.val).slotBytes →
          jobState t j.val = 4 ∧ ∃ k, (jobOf t j.val).ckpt = some k ∧ k.step = (brth s j.val).closed.toNat)

/-- R408, R318: a block of a checkpoint's stream that passes its check is stored at its place with its own `SEQ`; one that
fails it ends the checkpoint. R407: the commit record makes the slot the newest valid one, of the step suspended after. R165: a core that has streamed its part of a snapshot lets its plasticity go on; with the last core the command ends
with the bytes and the cores. -/
def Obligations.CheckpointsAndSnapshots : Prop :=
  (∀ (s : State) (j : Nat) (k : Ckpt), live s = true → (jobOf s j).ckpt = some k →
    (∀ (p : HubPort) (n : CoreId) (seq : BitVec 16) (data : List Byte) (tag : W64) (got a : Nat),
      coreBreath s n.val = j → p.val = n.val / 32 → n.val ∈ coresOf s j → assigned s n.val = true → data.length = 256 →
      got = Sparse.get (fun _ => 0) k.got n.val → seq.toNat = got % 65536 → got < coreContent s j n.val →
      data = coreBlock s j n.val got → a = slotBlock s j k.slot (coreFirst s j n.val + got) →
      (bitAt tag 56 = false → crc32c data = fld tag 0 32 → fld tag 40 16 = got % 65536 →
        ∃ t, exec (.checkpointBlock p n seq data tag) s = .next t
          ∧ (∀ i, i < 256 → ldB t (a + i) = data.getD i 0) ∧ tagAt t a = putFld tag 40 16 (a / 256)
          ∧ (∀ x, (x < a ∨ a + 256 ≤ x) → ldB t x = ldB s x)
          ∧ (jobOf t j).ckpt = some { k with got := Sparse.set (fun _ => 0) k.got n.val (got + 1) }
          ∧ t.coreRegs = s.coreRegs ∧ ∀ o, o ≠ R.msixPba → rd t o = rd s o)
      ∧ (bitAt tag 56 = true ∨ crc32c data ≠ fld tag 0 32 ∨ fld tag 40 16 ≠ got % 65536 →
        ∃ t, exec (.checkpointBlock p n seq data tag) s = .next t ∧ (jobOf t j).ckpt = none))
    ∧ (∀ (job : BitVec 8), breathOf s job.toNat = some j → ckptComplete s j k = true → (jobOf s j).measure.length = 32 →
      (jobOf s j).pkg < 16 → k.step < 2 ^ 32 → nextGen s j < 2 ^ 64 → contentBlocks s j < 2 ^ 32 →
      inDdr s (slotBlock s j k.slot 0) (contentBlocks s j + 1) →
      ∃ t, exec (.checkpointCommit job) s = .next t ∧ (jobOf t j).ckpt = none ∧ rdB t (R.jobEvent j) 3 = true
        ∧ slotValid t j k.slot = true ∧ slotStep t j k.slot = k.step ∧ slotGen t j k.slot = nextGen s j
        ∧ slotCount t j k.slot = contentBlocks s j ∧ t.coreRegs = s.coreRegs))
  ∧ (∀ (n : CoreId) (s : State) (id : Nat) (q : BitVec 32) (r : Run), live s = true →
    (core s n.val).snapshot = some (id, q) → runOf s id = some r → crB s n.val R.plasStatus 3 = true →
    (core s n.val).snapDone = false →
    ∃ t, exec (.snapshotStreamDone n) s = .next t ∧ crB t n.val R.plasStatus 3 = false
      ∧ (∀ m r, m < 1024 → r < 0x8000 → (m ≠ n.val ∨ r ≠ R.plasStatus) → cr t m r = cr s m r)
      ∧ ((∃ m ∈ coresOf s (r.aux.getD 0 0), m ≠ n.val ∧ (core s m).snapDone = false
            ∧ (core s m).snapshot.map (·.1) = some r.id) →
          (core t n.val).snapDone = true ∧ t.mbox.runs = s.mbox.runs)
      ∧ ((∀ m ∈ coresOf s (r.aux.getD 0 0), m ≠ n.val → (core s m).snapDone = true) →
          (∀ m ∈ coresOf s (r.aux.getD 0 0), (core t m).snapshot = none ∧ (core t m).snapDone = false)
            ∧ t.mbox.runs = s.mbox.runs.filter fun x => x.id ≠ r.id))

/-- R402 to R404: a raised fault is taken: code and step are recorded and the breath stops. A terminal fault, or one over
the restart limit, leaves the job FAILED; any other leaves it RESTARTING, its cores taking nothing in. R397, R404: after the restart's clean sweep the job is restored and returns to the state it had, or it is FAILED where
its image has changed. -/
def Obligations.FaultsAndRestarts : Prop :=
  (∀ (s : State) (job code : BitVec 8) (step : BitVec 32) (j : Nat) (code' : Nat), live s = true →
    breathOf s job.toNat = some j → (⟨j, code.toNat, step.toNat⟩ : Raised) ∈ s.faults →
    (jobState s j = 3 ∨ jobState s j = 4 ∨ jobState s j = 6 ∨ jobState s j = 8) →
    code' = (if terminal code.toNat = false ∧ (jobOf s j).limit ≤ recentRestarts s j then 0x12 else code.toNat) →
    ∃ t, exec (.jobFault job code step) s = .next t ∧ rdF t (R.jobState j) 16 8 = code'
      ∧ rdF t (R.jobState j) 32 32 = step.toNat ∧ jobId t j = jobId s j
      ∧ jobState t j = (if terminal code' then 7 else 5) ∧ brthState t j = 4 ∧ rdB t (R.jobEvent j) 1 = true
      ∧ (terminal code' = false → (∀ n ∈ coresOf s j, crB t n R.coreConfig 0 = false)
          ∧ (brthHier s j = false → rdF t (R.jobRestarts j) 32 16 = min (rdF s (R.jobRestarts j) 32 16 + 1) 65535)))
  ∧ (∀ (s : State) (job : BitVec 8) (j : Nat), live s = true → breathOf s job.toNat = some j → restartReady s j = true →
    (∀ n ∈ coresOf s j, (core s n).testing = false) →
    (∀ c v, reloadJob s j (jobOf s j).staticReload (jobOf s j).resume = (some c, v) →
      ∃ t, exec (.restartReload job) s = .next t ∧ drainState t = 0
        ∧ jobState t j = (if (jobOf v j).before = 4 then 4 else if (jobOf v j).before = 6 then 6 else 3)
        ∧ brthState t j = (if (jobOf v j).before = 4 then 3 else if (jobOf v j).before = 6 then 0 else 2))
    ∧ (∀ v, reloadJob s j (jobOf s j).staticReload (jobOf s j).resume = (none, v) →
      ∃ t, exec (.restartReload job) s = .next t ∧ jobState t j = 7 ∧ rdF t (R.jobState j) 16 8 = 0x0F
        ∧ brthState t j = 4 ∧ drainState t = 0))

/-- R412 to R414: an idle core that is due goes under test; a job's deferred test is asked for and journalled; idle cores
that have been tested have a new age, their results and an OFF island; a job with a failing core is FAILED. -/
def Obligations.FieldTests : Prop :=
  ∀ (s : State), live s = true →
    (∀ n : CoreId, testDue s n.val = true → idleCore s n.val = true → (core s n.val).bad = false →
      ∃ t, exec (.fieldTestDue n) s = .next t ∧ core t n.val = { core s n.val with testing := true }
        ∧ (∀ m, m ≠ n.val → core t m = core s m) ∧ t.coreRegs = s.coreRegs ∧ t.mem = s.mem
        ∧ ∀ o, o ≠ R.msixPba → rd t o = rd s o)
    ∧ (∀ (job : BitVec 8) (j : Nat), breathOf s job.toNat = some j → jobState s j = 3 → testForced s j ≠ 0 →
      testForced s j ≤ nowNs s → ckptBusy s j = false →
      ∃ t, exec (.fieldTestForced job) s = .next t ∧ suspendPending t j = true ∧ (jobOf t j).testWanted = true
        ∧ t.mbox.journalSeq = (s.mbox.journalSeq + 1) % 2 ^ 32 ∧ t.coreRegs = s.coreRegs
        ∧ ∀ o, o ≠ R.brthStatus j → o ≠ R.msixPba → rd t o = rd s o)
    ∧ (∀ (n : CoreId) (f : Bool), (core s n.val).testing = true → inJob s n.val = false → idleRun s [n.val] = none →
      ∃ t, exec (.fieldTestDone [n] (if f then [n] else [])) s = .next t ∧ (core t n.val).testAt = nowNs s
        ∧ (core t n.val).testFailed = f ∧ (core t n.val).bad = ((core s n.val).bad || f)
        ∧ (core t n.val).testing = false ∧ island t n.val = 3
        ∧ t.mbox.journalSeq = (if f && !(core s n.val).bad then (s.mbox.journalSeq + 1) % 2 ^ 32 else s.mbox.journalSeq))
    ∧ (∀ (cores failed : List CoreId) (j : Nat), j < 64 → jobState s j = 8 → coresOf s j = cores.map (·.val) →
      cores ≠ [] → (∀ k, k < j → coresOf s k ≠ coresOf s j) → (∀ n ∈ cores, (core s n.val).testing = true) →
      failed ≠ [] → (∀ n ∈ failed, n ∈ cores) →
      ∃ t, exec (.fieldTestDone cores failed) s = .next t ∧ jobState t j = 7 ∧ rdF t (R.jobState j) 16 8 = 0x0E
        ∧ ∀ n ∈ failed, (core t n.val).bad = true)

/-- R222, R224, R225, R382: a drain begins by suspending its jobs; the fences go up once they are at rest; a clean sweep
applies the change list and completes its command, or lets a restart go on; a drain that takes too long is given up, with
the blocker named. -/
def Obligations.DrainsRun : Prop :=
  ∀ (s : State) (d : Drain) (rest : List Drain), live s = true → s.mesh.drains = d :: rest →
    (drainState s = 0 → ∃ t, exec .drainBegin s = .next t ∧ drainState t = 1 ∧ rdF t R.meshDrainStatus 8 8 = 0
      ∧ (∀ j ∈ d.breaths, d.run.isSome = true → (jobState s j = 3 ∨ jobState s j = 4) → 4 ∈ (brth t j).asked)
      ∧ t.coreRegs = s.coreRegs ∧ t.mem = s.mem)
    ∧ (drainState s = 1 → drainRests s d = true → ∃ t, exec .drainFence s = .next t ∧ drainState t = 2
      ∧ t.mesh.drains = { d with sweepAt := some (nowNs s) } :: rest
      ∧ (∀ f, f < 4 → rd t (R.meshFence f) = match (byJob s d.breaths)[f]? with
          | some j => fenceWord s j
          | none => 0)
      ∧ (∀ o, o ∉ [R.meshFence 0, R.meshFence 1, R.meshFence 2, R.meshFence 3, R.meshDrainStatus, R.hubDrain] → o ≠ R.msixPba →
          (∀ n, n < 1024 → o ≠ R.rtrDrain n) → rd t o = rd s o) ∧ t.coreRegs = s.coreRegs ∧ t.mem = s.mem)
    ∧ (drainState s = 2 → anyFenced s = false →
      ∃ t, exec .cleanSweep s = .next t ∧
        (d.run = none → drainState t = 3 ∧ t.mesh.drains = s.mesh.drains ∧ t.mem = s.mem
          ∧ rdF t R.meshDrainStatus 8 8
            = min (rdF s R.meshDrainStatus 8 8 + (if sweepFinds s = (none, false) then 1 else 2)) 255
          ∧ ∀ n, n < 1024 → rdB t (R.rtrDrain n) 0 = false)
        ∧ (∀ id r, d.run = some id → runOf s id = some r → drainState t = 0 ∧ t.mesh.drains = rest
            ∧ t.mbox.runs = s.mbox.runs.filter fun x => x.id ≠ r.id))
    ∧ (drainState s = 2 → drainLate s d = true → ∃ t, exec .drainTimeout s = .next t ∧ rdB t R.meshAlarm 2 = true
      ∧ (∀ id r, d.run = some id → runOf s id = some r → drainState t = 0 ∧ t.mesh.drains = rest
          ∧ ranOut s t r 0x18 (if (blocker s d).2 then 0x400 else (blocker s d).1.getD 0) [] none)
      ∧ (∀ j, d.run = none → d.breaths = [j] → jobState t j = 7 ∧ rdF t (R.jobState j) 16 8 = 0x10))

/-! ### A core's step -/

/-- R39, R41, R43, R76, R109, R135: START(t) is recorded and begins update t, or is held, and one behind a held START waits;
with an uncorrectable error in what a group of the update loads it is a core fault. COMMIT(t) is recorded, and its plasticity
is held while that of t - 1 is not complete. HOLD clears `UPDATE_BUSY`. Each is taken from the flits that wait at the core. A
core of another job takes them and obeys none. -/
def Obligations.BarrierFlitsAtACore : Prop :=
  ∀ (n : CoreId) (s : State), live s = true →
    (∀ (j : BreathId) (t : BitVec 32), obeys s n.val j.val = true →
      (barrierHere s n.val j.val 0 t = true → (core s n.val).startHeld = none → mayUpdate s n.val t = true →
        ∃ v, exec (.coreStart n j t none) s = .next v ∧ crF v n.val R.coreStep 0 32 = t.toNat
          ∧ crF v n.val R.coreStep 32 32 = crF s n.val R.coreStep 32 32 ∧ updateBegun s v n.val t
          ∧ (core v n.val).rx = (core s n.val).rx.erase (bcastOf s j.val 0 t))
      ∧ (∀ ue, barrierHere s n.val j.val 0 t = true → (core s n.val).startHeld = none → mayUpdate s n.val t = false →
        ∃ v, exec (.coreStart n j t ue) s = .next v ∧ crF v n.val R.coreStep 0 32 = t.toNat
          ∧ (core v n.val).startHeld = some t ∧ bitAt (neStatusRead v n.val) 25 = true ∧ v.mem = s.mem
          ∧ coreRegsKept s v n.val [R.coreStep] ∧ hubRegsKept s v [])
      ∧ (∀ ue, (core s n.val).startHeld.isSome = true → exec (.coreStart n j t ue) s = .next (after s s))
      ∧ (∀ u : BadLoad, barrierHere s n.val j.val 0 t = true → (core s n.val).startHeld = none →
        mayUpdate s n.val t = true → bitAt (w64 (popWord s n.val u.pop.val 4)) 0 = true →
        u.group.val < cdiv (fld (w64 (popWord s n.val u.pop.val 4)) 13 12 + 1) 16 →
        ∃ v, exec (.coreStart n j t (some u)) s = .next v ∧ cr v n.val R.coreFault = w64 (2 + t.toNat * 2 ^ 32)
          ∧ (jobState s j.val = 3 → (⟨j.val, 4, t.toNat⟩ : Raised) ∈ v.faults ∧ brthState v j.val = 4)
          ∧ (core v n.val).doneDue = (core s n.val).doneDue ∧ rdB v R.memAlarm 1 = true
          ∧ (∀ m r, m < 1024 → r < 0x8000 → m ≠ n.val → cr v m r = cr s m r)
          ∧ (∀ a, (a < coreBase n.val ∨ coreBase n.val + 0x100000 ≤ a) → ldB v a = ldB s a))
      ∧ (barrierHere s n.val j.val 1 t = true →
        ∃ v, exec (.coreCommit n j t .none) s = .next v ∧ crF v n.val R.coreStep 32 32 = t.toNat
          ∧ crF v n.val R.coreStep 0 32 = crF s n.val R.coreStep 0 32 ∧ crB v n.val R.coreStatus 7 = true
          ∧ (plasStep s n.val ≠ t - 1 → (core v n.val).commitsHeld = (core s n.val).commitsHeld ++ [t]
              ∧ crB v n.val R.plasStatus 1 = true)
          ∧ (∀ m r, m < 1024 → r < 0x8000 → m ≠ n.val → cr v m r = cr s m r)
          ∧ (∀ a, (a < coreBase n.val ∨ coreBase n.val + 0x100000 ≤ a) → ldB v a = ldB s a)
          ∧ (core v n.val).rx = (core s n.val).rx.erase (bcastOf s j.val 1 t))
      ∧ (barrierHere s n.val j.val 2 t = true →
        ∃ v, exec (.coreHold n j t) s = .next v ∧ crB v n.val R.coreStatus 3 = false
          ∧ (∀ k, k ≠ 3 → crB v n.val R.coreStatus k = crB s n.val R.coreStatus k)
          ∧ coreRegsKept s v n.val [R.coreStatus] ∧ hubRegsKept s v [] ∧ v.mem = s.mem
          ∧ v.cores = (takeLocal s n.val (bcastOf s j.val 2 t)).cores))
    ∧ (∀ (j : BreathId) (t : BitVec 32) (ue : Option BadLoad) (lost : Lost), obeys s n.val j.val = false →
      (barrierHere s n.val j.val 0 t = true →
        exec (.coreStart n j t ue) s = .next (after s (takeLocal s n.val (bcastOf s j.val 0 t))))
      ∧ (barrierHere s n.val j.val 1 t = true →
        exec (.coreCommit n j t lost) s = .next (after s (takeLocal s n.val (bcastOf s j.val 1 t))))
      ∧ (barrierHere s n.val j.val 2 t = true →
        exec (.coreHold n j t) s = .next (after s (takeLocal s n.val (bcastOf s j.val 2 t)))))
    ∧ (∀ t, (core s n.val).startHeld = some t → stopped s n.val = false → mayUpdate s n.val t = true →
      ∃ v, exec (.heldUpdateStart n none) s = .next v ∧ updateBegun s v n.val t)

/-- R48, R49, R94, R198: the emit unit's next flit leaves for the router, and its entry goes with its last flit; a
delta that is not 0 is reported once and not again within 32 cycles; DONE is sent once. Each report takes a token. -/
def Obligations.CoreSends : Prop :=
  ∀ (n : CoreId) (cyc stalled : Nat) (s : State), live s = true →
    (∀ k g f fs rest, (core s n.val).emitQ = ⟨k, g, f :: fs⟩ :: rest → fType f ≤ 1 → misaddressed f = false →
      emitReady (tokensTo (shapeTo s n.val cyc) n.val cyc) n.val cyc f = true →
      (∃ o ∈ routeOuts n.val 4 f, o = 4 ∨ linkState s n.val o ≠ 3) →
      ∃ v, exec (.emitFlit n cyc stalled) s = .next v
        ∧ (core v n.val).emitQ = (if fs = [] then rest else ⟨k, g, fs⟩ :: rest) ∧ counted s v n.val R.emitFlits 1
        ∧ (localFlits v n.val (fVc f)).length = (localFlits s n.val (fVc f)).length + 1
        ∧ (localFlits v n.val (fVc f)).getLast?.map (clrBit · 57)
            = some (clrBit (if fDx f = 63 then putFld f 45 5 (n.val / 32) else f) 57)
        ∧ coreRegsKept s v n.val [R.emitFlits, R.ovbAntiSent, R.ovbFreshSent, R.coreStatus, R.emitStallCycles]
        ∧ (updateStalled s n.val = false → cr v n.val R.emitStallCycles = cr s n.val R.emitStallCycles) ∧ v.mem = s.mem)
    ∧ (∀ (kind : RepKind) (g : StepTag) (k d : Nat), k = (if kind = .sent then 0 else 1) →
      d = Sparse.get (fun _ => 0) (if kind = .sent then (core s n.val).sent else (core s n.val).recv) g.val → d ≠ 0 →
      Sparse.get (fun _ => 0) (core s n.val).reportAt (k * 4 + g.val) ≤ cyc → stopped s n.val = false →
      tokenOk (tokensTo s n.val cyc) n.val = true →
      roomAt (tokensTo s n.val cyc) n.val (mkReport s n.val k g.val d) = true →
      holdsBack (tokensTo s n.val cyc) n.val n.val (mkReport s n.val k g.val d) = false →
      ∃ v, exec (.barrierReportSend n kind g cyc) s = .next v
        ∧ Sparse.get (fun _ => 0) (if kind = .sent then (core v n.val).sent else (core v n.val).recv) g.val = 0
        ∧ Sparse.get (fun _ => 0) (core v n.val).reportAt (k * 4 + g.val) = cyc + 32
        ∧ rdF v (R.rtrShaper n.val) 8 3 + 1 = rdF (tokensTo s n.val cyc) (R.rtrShaper n.val) 8 3
        ∧ (localFlits s n.val 0 = [] → linkState s n.val 3 ≠ 3 → localFlits v n.val 0 = [mkReport s n.val k g.val d])
        ∧ v.coreRegs = s.coreRegs ∧ v.mem = s.mem)
    ∧ (∀ t r, (core s n.val).doneDue = t :: r → doneMay (tokensTo s n.val cyc) n.val t = true →
      tokenOk (tokensTo s n.val cyc) n.val = true →
      roomAt (tokensTo s n.val cyc) n.val (mkReport s n.val 2 (t.toNat % 4) 1) = true →
      holdsBack (tokensTo s n.val cyc) n.val n.val (mkReport s n.val 2 (t.toNat % 4) 1) = false →
      ∃ v, exec (.doneSend n cyc) s = .next v ∧ (core v n.val).doneDue = r ∧ crB v n.val R.coreStatus 3 = false
        ∧ rdF v (R.rtrShaper n.val) 8 3 + 1 = rdF (tokensTo s n.val cyc) (R.rtrShaper n.val) 8 3
        ∧ (localFlits s n.val 0 = [] → linkState s n.val 3 ≠ 3 →
          localFlits v n.val 0 = [mkReport s n.val 2 (t.toNat % 4) 1])
        ∧ coreRegsKept s v n.val [R.coreStatus] ∧ v.mem = s.mem)

/-- R81 to R87, R152, R160: an event that is next in its line, while no deferred one is due, is taken in. One that a matrix takes adds weight × input into the ring slot of each of its columns, for
the event's step plus the delay, and counts as received; one that no matrix takes counts alone; one that waits for
plasticity is deferred; one at an unassigned core is stray. -/
def Obligations.EventIntakeAddsProducts : Prop :=
  ∀ (n : CoreId) (f : Flit) (s : State), live s = true → fType f ≤ 1 → nextLocal s n.val f = true →
    stopped s n.val = false → nextDeferred s n.val = none →
    (assigned s n.val = false → ∃ v, exec (.eventIntake n f .none) s = .next v ∧ counted s v n.val R.intakeStray 1
      ∧ (core v n.val).rx = (core s n.val).rx.erase f ∧ (core v n.val).recv = (core s n.val).recv ∧ v.mem = s.mem
      ∧ coreRegsKept s v n.val [R.intakeStray])
    ∧ (assigned s n.val = true → mustDefer s n.val f = true → (core s n.val).deferred.length < 64 →
      ∃ v k, exec (.eventIntake n f .none) s = .next v ∧ k < 64 ∧ k ∉ (core s n.val).deferred
        ∧ (core v n.val).deferred = (core s n.val).deferred ++ [k] ∧ ldU v (deferAddr s n.val k) 8 = f.toNat
        ∧ counted s v n.val R.intakeDeferred 1 ∧ (core v n.val).recv = (core s n.val).recv
        ∧ ∀ a, (a < deferAddr s n.val k ∨ deferAddr s n.val k + 8 ≤ a) → ldB v a = ldB s a)
    ∧ (assigned s n.val = true → mustDefer s n.val f = false →
      (∀ m, matchDesc s n.val (fRow f) = some m → dWidth (descA s n.val m) = 3) →
      ∃ v, exec (.eventIntake n f .none) s = .next v ∧ counted s v n.val R.intakeEvents 1 ∧ counted s v n.val R.intakeNomatch 1
        ∧ Sparse.get (fun _ => 0) (core v n.val).recv (fStep f)
            = Sparse.get (fun _ => 0) (core s n.val).recv (fStep f) + 1 ∧ v.mem = s.mem
        ∧ coreRegsKept s v n.val [R.intakeEvents, R.intakeNomatch, R.intakeAnti])
    ∧ (∀ (m : Nat) (a : W64) (e : BitVec 32) (x : Int), assigned s n.val = true → mustDefer s n.val f = false →
      matchDesc s n.val (fRow f) = some m → a = descA s n.val m → dWidth a ≠ 3 →
      dBase (descB s n.val m) + dRows a * dStride a ≤ 0x40000 →
      e = eventStep s n.val (fStep f) + BitVec.ofNat 32 (dDelay a) → (core s n.val).loadedStep ≠ e →
      x = (if fAnti f then -intakeX f (dZp a) else intakeX f (dZp a)) →
      ∃ v, exec (.eventIntake n f .none) s = .next v ∧ counted s v n.val R.intakeEvents 1
        ∧ counted s v n.val R.intakeReads (dStride a / 32)
        ∧ (core v n.val).rx = (core s n.val).rx.erase f
        ∧ Sparse.get (fun _ => 0) (core v n.val).recv (fStep f)
            = Sparse.get (fun _ => 0) (core s n.val).recv (fStep f) + 1
        ∧ (∀ k, k < dCols a → dColFirst a + k < neurons s n.val →
          slot v n.val (dColFirst a + k) e = slot s n.val (dColFirst a + k) e
            + BitVec.ofInt 32 (weightAt s n.val m (fRow f - dRowFirst a) k * x))
        ∧ (∀ y, (∀ k, k < dCols a → dColFirst a + k < neurons s n.val →
            y < slotAddr s n.val (dColFirst a + k) e ∨ slotAddr s n.val (dColFirst a + k) e + 4 ≤ y) → ldB v y = ldB s y)
        ∧ (dPlastic a = true → Sparse.get (fun _ => 0) (core v n.val).pre (fRow f * 4 + fStep f)
            = wrap 16 (Sparse.get (fun _ => 0) (core s n.val).pre (fRow f * 4 + fStep f)
              + (if fType f = 1 then (if fAnti f then -(x.natAbs : Int) else x.natAbs)
                 else (if fAnti f then -256 else 256))))
        ∧ coreRegsKept s v n.val [R.intakeEvents, R.intakeReads, R.intakeAnti, R.ovbLateEvents])

/-- R75, R97 to R99, R160, R249, R250: the other intakes of a core. A deferred event comes back once it may; a split value is
added into its home neuron's slot; a split count adds to its set's counter and faults the job above `EXPECTED`; a
contribution is added into its lane, and one to a held bank is an overrun; what has no place is stray. -/
def Obligations.OtherIntakes : Prop :=
  ∀ (n : CoreId) (f : Flit) (s : State), live s = true → stopped s n.val = false →
    (∀ k, nextDeferred s n.val = some k → ∃ v, exec (.deferredIntake n .none) s = .next v
      ∧ (core v n.val).deferred = (core s n.val).deferred.erase k
      ∧ (assigned s n.val = true → counted s v n.val R.intakeEvents 1)
      ∧ (∀ a, (a < coreBase n.val + 0x40000 ∨ coreBase n.val + 0x60000 ≤ a) → ldB v a = ldB s a))
    ∧ (∀ (i : Nat) (e : W64) (t : BitVec 32) (m : Nat), fType f = 2 → nextLocal s n.val f = true → 0x400 ≤ fRid f → fRid f < 0x7F0 →
      splitSetOf s n.val (fRid f - 0x400) = some i → e = splitIn s n.val i → t = eventStep s n.val (fRStep f) →
      m = fld e 1 12 + (fRid f - 0x400 - fld e 13 10) → (core s n.val).loadedStep ≠ t →
      ∃ v, exec (.splitValue n f .none) s = .next v ∧ counted s v n.val R.splitInFlits 1
        ∧ slot v n.val m t = slot s n.val m t + BitVec.ofNat 32 (fValue f)
        ∧ (∀ a, (a < slotAddr s n.val m t ∨ slotAddr s n.val m t + 4 ≤ a) → ldB v a = ldB s a)
        ∧ coreRegsKept s v n.val [R.splitInFlits])
    ∧ (fType f = 2 → nextLocal s n.val f = true → 0x400 ≤ fRid f → fRid f < 0x7F0 → splitSetOf s n.val (fRid f - 0x400) = none →
      ∃ v, exec (.splitValue n f .none) s = .next v ∧ counted s v n.val R.splitInFlits 1 ∧ counted s v n.val R.splitStray 1
        ∧ v.mem = s.mem)
    ∧ (∀ (k : Nat) (e : W64) (c : Nat), fType f = 2 → nextLocal s n.val f = true → 0x7F0 ≤ fRid f → k = fRid f - 0x7F0 →
      e = splitIn s n.val k → c = splitCount s n.val k (fRStep f) + fValue f →
      ∃ v, exec (.splitCount n f) s = .next v ∧ counted s v n.val R.splitInFlits 1 ∧ v.mem = s.mem
        ∧ (bitAt e 0 = true → splitCount v n.val k (fRStep f) = c)
        ∧ (bitAt e 0 = true → fld e 33 8 < c →
          cr v n.val R.coreFault = w64 (1 + (eventStep s n.val (fRStep f)).toNat * 2 ^ 32))
        ∧ (bitAt e 0 = true → c ≤ fld e 33 8 → coreRegsKept s v n.val [R.splitInFlits] ∧ v.faults = s.faults)
        ∧ (bitAt e 0 = false → counted s v n.val R.splitStray 1 ∧ (core v n.val).splitCnt = (core s n.val).splitCnt))
    ∧ (∀ (q a : Nat), fType f = 2 → nextLocal s n.val f = true → fRid f < 0x40 → combOf s n.val (fRid f) = some q →
      a = combBank s n.val q (fRStep f % 2) + 4 * (fRid f - q) →
      (a + 4 ≤ qAddr s n.val q + 8 ∨ qAddr s n.val q + 16 ≤ a) →
      ∃ v, exec (.combineContribution n f) s = .next v
        ∧ ((core s n.val).combHeld.contains (q, fRStep f % 2) = true →
          cr v n.val R.qFault = w64 (1 + q * 256 + (startStepOf s n.val).toNat * 2 ^ 32))
        ∧ ((core s n.val).combHeld.contains (q, fRStep f % 2) = false → bitAt (qw s n.val q 1) 6 = false →
          ldU v a 4 = (ldU s a 4 + fValue f) % 2 ^ 32 ∧ (∀ y, (y < a ∨ a + 4 ≤ y) → ldB v y = ldB s y)
            ∧ v.coreRegs = s.coreRegs))
    ∧ (fType f = 2 → nextLocal s n.val f = true → 0x40 ≤ fRid f → fRid f < 0x400 →
      ∃ v, exec (.combineContribution n f) s = .next v ∧ counted s v n.val R.splitStray 1 ∧ v.mem = s.mem
        ∧ coreRegsKept s v n.val [R.splitStray])

/-- R156, R157, R162, R165, R176, R181: a rollback pass leaves no neuron dirty; a held COMMIT starts its plasticity, which a
core with no valid entry completes at once; entries that waited for the modulator run to the end; a finished step is
recorded in `PLAS_STEP`, its records are used up, and a snapshot of it is held for streaming. -/
def Obligations.RollbackAndPlasticity : Prop :=
  ∀ (n : CoreId) (s : State), live s = true → stopped s n.val = false →
    ((core s n.val).dirty ≠ [] → updateStalled s n.val = false →
      ∃ v, exec (.rollbackPass n .none) s = .next v ∧ (core v n.val).dirty = [] ∧ fld (ovbStatusRead v n.val) 16 13 = 0
        ∧ counted s v n.val R.ovbPasses 1 ∧ (core v n.val).loadedStep = (core s n.val).loadedStep
        ∧ (∀ a, (a < coreBase n.val ∨ coreBase n.val + 0x100000 ≤ a) → ldB v a = ldB s a) ∧ hubRegsKept s v [])
    ∧ (∀ t r, (core s n.val).commitsHeld = t :: r → plasStep s n.val = t - 1 → plasActive s n.val = false →
      crB s n.val R.plasStatus 3 = false →
      ∃ v, exec (.plasticityHeldStart n .none) s = .next v ∧ plasRun v n.val = t ∧ (core v n.val).commitsHeld = r
        ∧ (((List.range 4).any fun k => (plasEntry s n.val k).valid) = true → plasActive v n.val = true)
        ∧ (((List.range 4).any fun k => (plasEntry s n.val k).valid) = false → plasActive v n.val = false
            ∧ plasStep v n.val = t ∧ crF v n.val R.plasCycles 0 32 = 0 ∧ v.mem = s.mem))
    ∧ (∀ cycles, modArrived s n.val = true →
      ∃ v, exec (.modWaitEnd n cycles .none) s = .next v ∧ plasFinished v n.val = true ∧ crB v n.val R.plasStatus 2 = false
        ∧ plasRun v n.val = plasRun s n.val
        ∧ (∀ a, (a < coreBase n.val ∨ coreBase n.val + 0x100000 ≤ a) → ldB v a = ldB s a))
    ∧ (∀ refused, plasFinished s n.val = true →
      ∃ v, exec (.plasticityComplete n refused) s = .next v ∧ plasStep v n.val = plasRun s n.val ∧ plasActive v n.val = false
        ∧ crF v n.val R.plasCycles 0 32 = ((core s n.val).plasCost + refused) % 2 ^ 32
        ∧ crF v n.val R.plasCyclesMax 0 32 = max (crF s n.val R.plasCyclesMax 0 32) (crF v n.val R.plasCycles 0 32)
        ∧ counted s v n.val (R.bankConflict 4) refused
        ∧ (∀ r, Sparse.get (fun _ => 0) (core v n.val).pre (r * 4 + (plasRun s n.val).toNat % 4) = 0)
        ∧ (∀ i, Sparse.get (fun _ => 0) (core v n.val).post (i * 2 + (plasRun s n.val).toNat % 2) = 0)
        ∧ (∀ k, (core s n.val).snapshot = some (k, plasRun s n.val) → crB v n.val R.plasStatus 3 = true)
        ∧ coreRegsKept s v n.val [R.plasStep, R.plasStatus, R.plasCycles, R.plasCyclesMax, R.bankConflict 4] ∧ v.mem = s.mem ∧ hubRegsKept s v [])

/-! ### The Breath controller -/

/-- R38, R56, R59 to R63, R294, R295: a step starts once it may; START goes into the job's rectangle. A start action
grants a step, is discarded by a breath that does not run or is a worker's (R72), or passes the lag limit, which is a
STEP_OVERRUN. A captured FRAME_SYNC edge anchors a breath that JOB_START has armed; a missing one is assumed, or counted while
no first edge has come. -/
def Obligations.BreathEvents : Prop :=
  ∀ (j : BreathId) (s : State), live s = true →
    (∀ t, mayStart s j.val = true → t = (brth s j.val).started + 1 → ∃ v, exec (.stepStart j) s = .next v
      ∧ (brth v j.val).started = t ∧ rd v (R.stepCount j.val) = w64 t.toNat
      ∧ rd v (R.brthLastStart j.val) = w64 (nowNs s)
      ∧ bcastSent s v j.val 0 t
      ∧ (participants s j.val = [] → s.conv.epIn = [] → s.conv.epOut = [] → brthState v j.val ≠ 4 →
          brthMode s j.val = 0 → rd v (R.brthNextNominal j.val) = w64 (nowNs s + period s j.val)))
    ∧ (∀ (merged : Bool) (k : Nat), k = (if merged then 2 else 1) → k ≤ startPulses s j.val →
      ∃ v, exec (.timerStartAction j merged) s = .next v ∧ startPulses v j.val + k = startPulses s j.val
        ∧ (merged = true → rdB v (R.brthPulseOvr j.val) 1 = true)
        ∧ ((brthState s j.val ≠ 2 ∨ brthMode s j.val ≠ 2 ∨ brthHier s j.val = true) →
          v.breaths = s.breaths ∧ v.faults = s.faults)
        ∧ (brthState s j.val = 2 → brthMode s j.val = 2 → brthHier s j.val = false → (brth s j.val).grants.length + 1 ≤ lagLimit s j.val →
          (brth v j.val).grants = (brth s j.val).grants ++ [nowNs s] ∧ brthState v j.val = 2 ∧ v.faults = s.faults)
        ∧ (brthState s j.val = 2 → brthMode s j.val = 2 → brthHier s j.val = false → lagLimit s j.val < (brth s j.val).grants.length + 1 →
          haltHold s j.val = false → (brth s j.val).haltLag = false → jobState s j.val = 3 →
          rd v (R.brthFault j.val) = w64 (1 + (nextStep s j.val).toNat * 2 ^ 32) ∧ brthState v j.val = 4
            ∧ (⟨j.val, 1, (nextStep s j.val).toNat⟩ : Raised) ∈ v.faults)
        ∧ v.mem = s.mem ∧ v.coreRegs = s.coreRegs)
    ∧ (overrun s j.val = true → ∃ v, exec (.stepOverrun j) s = .next v
      ∧ rd v (R.brthFault j.val) = w64 (1 + (nextStep s j.val).toNat * 2 ^ 32)
      ∧ (jobState s j.val = 3 → brthState v j.val = 4
          ∧ (⟨j.val, 1, (nextStep s j.val).toNat⟩ : Raised) ∈ v.faults
          ∧ mayStart v j.val = false) ∧ v.mesh = s.mesh
      ∧ v.mem = s.mem ∧ v.coreRegs = s.coreRegs)
    ∧ (∀ merged : Bool, rdB s R.timeCapConfig 2 = true → ∃ v, exec (.frameSyncCapture merged) s = .next v
      ∧ rd v R.fsCapture = w64 (capture s) ∧ rd v R.fsCount = w64 ((rdF s R.fsCount 0 32 + 1) % 2 ^ 32)
      ∧ (merged = true → rdB v R.timePulseOvr 1 = true)
      ∧ (brthMode s j.val = 1 → brthHier s j.val = false → brthState s j.val ≠ 0 → (brth s j.val).anchored = false →
        rd v (R.brthFrameEdge j.val) = w64 (capture s) ∧ (brth v j.val).anchored = true
          ∧ brthState v j.val = (if brthState s j.val = 1 then 2 else brthState s j.val))
      ∧ v.mem = s.mem ∧ v.coreRegs = s.coreRegs)
    ∧ (∀ merged : Bool, rdB s R.timeCapConfig 2 = false → exec (.frameSyncCapture merged) s = .next s)
    ∧ (missDue s j.val = true → ∃ v, exec (.frameMiss j) s = .next v
      ∧ rd v (R.brthFrameMiss j.val) = w64 (satAdd 32 (rd s (R.brthFrameMiss j.val)).toNat 1)
      ∧ rd v (R.brthFrameEdge j.val) = w64 (predicted s j.val) ∧ rdB v (R.brthStatus j.val) 5 = true
      ∧ (brth v j.val).assumed = true ∧ v.mem = s.mem ∧ v.coreRegs = s.coreRegs)
    ∧ (armDue s j.val = true → ∃ v, exec (.frameArmMissing j) s = .next v
      ∧ rd v (R.brthFrameMiss j.val) = w64 (satAdd 32 (rd s (R.brthFrameMiss j.val)).toNat 1)
      ∧ rdB v (R.brthStatus j.val) 5 = true ∧ brthState v j.val = brthState s j.val
      ∧ (brth v j.val).armDue = timeAdd (brth s j.val).armDue (framePeriod s j.val) ∧ v.mem = s.mem ∧ v.coreRegs = s.coreRegs)

/-- R23, R43, R46, R51, R53, R270: a hub port takes the next flit of its mesh link. A barrier report adds to its breath's sums. With every participant done and the
sums equal, the oldest open step closes and COMMIT goes out; with more received than sent, or too many DONEs, the job
faults with BARRIER; else the step stays open. Flits that no endpoint takes leave only their credit. -/
def Obligations.BarrierReportsCloseSteps : Prop :=
  ∀ (p : HubPort) (f : Flit) (ep : Nat) (s : State), live s = true → vcOk f = true →
    nextRx s (1024 + p.val) 1 = some f →
    (∀ (j k : Nat) (t : BitVec 32) (o a : Acc) (full : Prop), fType f = 3 → j < 64 → k < 3 → fRid f = 0x600 + 4 * j + k →
      brthState s j = 2 → brthHier s j = false → t = (brth s j).closed + 1 → (brth s j).started = t →
      o = accOf (brth s j) t.toNat →
      a = (if fRStep f = t.toNat % 4 then
          { o with sent := o.sent + (if k = 0 then BitVec.ofNat 32 (fValue f) else 0)
                   recv := o.recv + (if k = 1 then BitVec.ofNat 32 (fValue f) else 0)
                   done := if k = 2 then (o.done + fValue f) % 2048 else o.done } else o) →
      full = (a.done = rectCores s j ∧ a.started = true ∧ a.waiting = []) →
      (∀ c, c < 256 → bellRunning s c = true → bellBreath s c ≠ j) →
      ∃ v, exec (.hubPortFlit p f ep) s = .next v ∧ v.mem = s.mem ∧ v.coreRegs = s.coreRegs
        ∧ (full → a.recv = a.sent → (brth v j).closed = t ∧ rd v (R.brthClosed j) = w64 (t.toNat + 2 ^ 32)
          ∧ accOf (brth v j) t.toNat = {} ∧ bcastSent s v j 1 t ∧ v.faults = s.faults)
        ∧ ((rectCores s j < a.done ∨ (full ∧ 0 < (a.recv - a.sent).toInt)) → jobState s j = 3 →
          (brth v j).closed = (brth s j).closed ∧ brthState v j = 4
            ∧ rd v (R.brthFault j) = w64 (2 + t.toNat * 2 ^ 32) ∧ (⟨j, 2, t.toNat⟩ : Raised) ∈ v.faults)
        ∧ (a.done ≤ rectCores s j → (¬ full ∨ (a.recv - a.sent).toInt < 0) →
          accOf (brth v j) t.toNat = a ∧ (brth v j).closed = (brth s j).closed ∧ v.mesh.offers = s.mesh.offers
            ∧ v.faults = s.faults))
    ∧ (fType f ≤ 1 → rowChannel s p.val f = none → srcBreath s (fSrc f) = none → fMark f = false →
      ∃ v, exec (.hubPortFlit p f ep) s = .next v
        ∧ rd v R.hubRowmapMiss = w64 (satAdd 32 (rd s R.hubRowmapMiss).toNat 1) ∧ hubRegsKept s v [R.hubRowmapMiss]
        ∧ v.mem = s.mem ∧ v.coreRegs = s.coreRegs ∧ v.breaths = s.breaths)
    ∧ (fType f = 6 ∨ fType f = 0xB → ∃ v, exec (.hubPortFlit p f ep) s = .next v
      ∧ v.mesh.hubRx = s.mesh.hubRx ++ [f] ∧ hubRegsKept s v [] ∧ v.mem = s.mem ∧ v.coreRegs = s.coreRegs
      ∧ v.breaths = s.breaths)
    ∧ (fType f ∉ [0, 1, 3, 6, 9, 0xB] → ∃ v, exec (.hubPortFlit p f ep) s = .next v
      ∧ v.mesh.hubRx = s.mesh.hubRx ∧ v.mesh.bufs = s.mesh.bufs ∧ hubRegsKept s v [] ∧ v.mem = s.mem
      ∧ v.coreRegs = s.coreRegs ∧ v.breaths = s.breaths)

/-- R205, R263, R265, R266, R293: a deadlock sample moves the quiet counts and forgets what has moved; a count at its window
is a DEADLOCK fault, once. The 1 µs tick raises every slowed shaper and shortens every limited wait. -/
def Obligations.DeadlockAndTicks : Prop :=
  ∀ s : State, live s = true →
    (∃ v, exec .deadlockSample s = .next v ∧ v.mesh = { s.mesh with moved := [] } ∧ v.mem = s.mem
      ∧ v.coreRegs = s.coreRegs ∧ hubRegsKept s v ((List.range 64).map R.dlQuiet)
      ∧ ∀ j, j < 64 → coresOf s j ≠ [] → haltHold s j = false → brthState s j ≠ 3 →
        rdF v (R.dlQuiet j) 0 32 =
          (if ∃ n ∈ coresOf s j, n ∈ s.mesh.moved then 0
           else if (brthState s j = 1 ∨ brthState s j = 2) ∧ ∃ n ∈ coresOf s j, coreWaits s n = true
           then min (rdF s (R.dlQuiet j) 0 32 + 1) 0xFFFFFFFF else rdF s (R.dlQuiet j) 0 32))
    ∧ (∀ j : BreathId, (brthState s j.val = 1 ∨ brthState s j.val = 2) →
      quietWindow s j.val ≤ rdF s (R.dlQuiet j.val) 0 32 → rdB s (R.dlQuiet j.val) 32 = false →
      ∃ v, exec (.deadlock j) s = .next v ∧ rdB v (R.dlQuiet j.val) 32 = true
        ∧ (jobState s j.val = 3 → brthState v j.val = 4
          ∧ (⟨j.val, 6, (brth s j.val).started.toNat⟩ : Raised) ∈ v.faults)
        ∧ v.mem = s.mem ∧ v.coreRegs = s.coreRegs)
    ∧ (∀ at_, tickDue s = true → (s.cores.map (·.1)).Nodup →
      ∃ v, exec (.deviceTimeTick at_) s = .next v ∧ v.chip.lastTick = nowNs s / 1000 ∧ v.mem = s.mem
        ∧ (∀ n, n < 1024 → shapeRate v n = if shapeRate s n < 64
            then min (shapeRate s n + rdF s R.meshShape 0 8) 64 else shapeRate s n)
        ∧ (∀ n e, n < 1024 → e < 6 → waiting s n e = true → crF s n (R.waitState e) 40 24 > 0 →
          Sparse.get (fun _ => 0) (core s n).waitFrom e % 2 = 1 → frozen s n = false → (core s n).halted = false →
          crF v n (R.waitState e) 40 24 + 1 = crF s n (R.waitState e) 40 24))

/-! ### Queues and synchronisation objects -/

/-- R233, R243, R256 to R258: the operations on queues. OPEN empties the queue in its next epoch; CLOSE keeps the epoch and
voids all that waits; DRAIN closes a queue once it is empty; CONSUME passes a record or frees a bank; SEND asks for a
grant; POLL returns or waits, and shows the low five bits of its queue's index (log entry 147); a reserved code is
BAD_OP. -/
def Obligations.QueueOperations : Prop :=
  ∀ (n : CoreId) (q : QIdx) (portB : Bool) (s : State), live s = true → takesOp s n.val portB →
    (entryApart s n.val q.val → ∃ v, exec (.queueOpen n q portB) s = .next v ∧ qState v n.val q.val = 1
      ∧ qEpoch v n.val q.val = (qEpoch s n.val q.val + 1) % 256 ∧ qKind v n.val q.val = qKind s n.val q.val
      ∧ (qKind s n.val q.val = 0 →
        qResv v n.val q.val = 0 ∧ qHead v n.val q.val = 0 ∧ qReady v n.val q.val = 0)
      ∧ qStat v n.val q.val = w64 (1 + 256 * ((qEpoch s n.val q.val + 1) % 256))
      ∧ opResult v n.val 0 (1 + 256 * ((qEpoch s n.val q.val + 1) % 256))
      ∧ (∀ w ∈ (core v n.val).grantWait, w.q ≠ q.val) ∧ (∀ r ∈ (core v n.val).resv, r.q ≠ q.val)
      ∧ coreRegsKept s v n.val [R.qopResult])
    ∧ (entryApart s n.val q.val → ∃ v, exec (.queueClose n q portB) s = .next v ∧ qState v n.val q.val = 0
      ∧ qEpoch v n.val q.val = qEpoch s n.val q.val ∧ crF v n.val R.qopResult 0 4 = 0
      ∧ (qKind s n.val q.val = 0 →
        qHead v n.val q.val = qResv s n.val q.val ∧ qReady v n.val q.val = qResv s n.val q.val)
      ∧ (core v n.val).grantWait = (core s n.val).grantWait.filter (fun w => w.q ≠ q.val)
      ∧ (core v n.val).resv = (core s n.val).resv.filter (fun r => r.q ≠ q.val)
      ∧ coreRegsKept s v n.val [R.qopResult, R.qNackSent])
    ∧ (qState s n.val q.val ≠ 1 → ∃ v, exec (.queueDrain n q portB) s = .next v
      ∧ crF v n.val R.qopResult 0 4 = 3 ∧ v.mem = s.mem ∧ v.cores = s.cores)
    ∧ (∀ drained : Bool, qState s n.val q.val = 1 → entryApart s n.val q.val →
      (drained = true ↔ (qKind s n.val q.val = 0 → qHead s n.val q.val = qResv s n.val q.val
          ∧ ∀ r ∈ (core s n.val).resv, r.q ≠ q.val)
        ∧ (qKind s n.val q.val = 1 → ∀ w ∈ (core s n.val).opWait, w.q ≠ q.val)
        ∧ (2 ≤ qKind s n.val q.val → ∀ h ∈ (core s n.val).combHeld, h.1 ≠ q.val)) →
      ∃ v, exec (.queueDrain n q portB) s = .next v ∧ crF v n.val R.qopResult 0 4 = 0
        ∧ qState v n.val q.val = (if drained then 0 else 2)
        ∧ qEpoch v n.val q.val = qEpoch s n.val q.val ∧ ∀ w ∈ (core v n.val).grantWait, w.q ≠ q.val)
    ∧ ((qKind s n.val q.val = 0 → qHead s n.val q.val = qReady s n.val q.val) →
      (qKind s n.val q.val = 2 → ∀ h ∈ (core s n.val).combHeld, h.1 ≠ q.val) →
      ∃ v, exec (.queueConsume n q portB) s = .next v ∧ crF v n.val R.qopResult 0 4 = 3 ∧ v.mem = s.mem)
    ∧ (∀ h, qKind s n.val q.val = 0 → qHead s n.val q.val ≠ qReady s n.val q.val → qState s n.val q.val = 1 →
      entryApart s n.val q.val → ringSize s n.val q.val ≤ 2 ^ 24 →
      h = (qHead s n.val q.val + recBytes s n.val q.val (qHead s n.val q.val)) % (2 * ringSize s n.val q.val) →
      (h = qReady s n.val q.val ∨ recPad s n.val q.val h = false) →
      ∃ v, exec (.queueConsume n q portB) s = .next v ∧ crF v n.val R.qopResult 0 4 = 0 ∧ qHead v n.val q.val = h
        ∧ qReady v n.val q.val = qReady s n.val q.val ∧ qState v n.val q.val = 1)
    ∧ (∀ b, qKind s n.val q.val = 2 → (core s n.val).combHeld.find? (fun h => h.1 = q.val) = some (q.val, b) →
      entryApart s n.val q.val → b < 2 → qState s n.val q.val = 1 →
      apart (statAddr s n.val q.val) 4 (combBank s n.val q.val b) (4 * combLanes s n.val q.val) →
      ∃ v, exec (.queueConsume n q portB) s = .next v ∧ crF v n.val R.qopResult 0 4 = 0
        ∧ (core v n.val).combHeld = (core s n.val).combHeld.erase (q.val, b)
        ∧ ∀ k, k < 4 * combLanes s n.val q.val → ldB v (combBank s n.val q.val b + k) = 0)
    ∧ (∀ (off : BitVec 20) (w : W64) (x : Send), w = binding s n.val q.val →
      x = ⟨q.val, fld w 0 16, fld w 24 16, fld w 16 8, ldN s (scratch n.val (off.toNat % 32768))
        (32 * (fld (w64 (ldU s (scratch n.val (off.toNat % 32768)) 8)) 8 7 + 1)), none⟩ →
      (bitAt w 40 = false → ∃ v, exec (.queueSend n q off portB) s = .next v ∧ opResult v n.val 3 0 ∧ v.cores = s.cores)
      ∧ (bitAt w 40 = true → 8 ≤ (core s n.val).sends.length → ∃ v, exec (.queueSend n q off portB) s = .next v
        ∧ opResult v n.val 4 0 ∧ v.cores = s.cores)
      ∧ (bitAt w 40 = true → (core s n.val).sends = [] → noGrant s (fld w 0 16) = false →
        ∃ v, exec (.queueSend n q off portB) s = .next v ∧ opResult v n.val 0 0 ∧ (core v n.val).sends = [x]
          ∧ v.mem = s.mem
          ∧ flitSent s v n.val (mkQreq x.dest (x.msg.length / 32) x.seq n.val)))
    ∧ (∀ mask want : BitVec 32, portB = false → ∃ v, exec (.queuePoll n q mask want) s = .next v ∧ v.mem = s.mem
      ∧ (pollHolds s n.val q.val mask.toNat want.toNat = true → opResult v n.val 0 (qStat s n.val q.val).toNat)
      ∧ (pollHolds s n.val q.val mask.toNat want.toNat = false → cr v n.val (R.waitState 0) = w64 (q.val % 32 + 32 + 128)
        ∧ Sparse.get (fun _ => 0) (core v n.val).polls 0
          = q.val * 2 ^ 64 + mask.toNat + want.toNat * 2 ^ 32 + 1))
    ∧ (∀ cmd : W64, (9 ≤ fld cmd 0 4 ∨ (portB = true ∧ 5 ≤ fld cmd 0 4)) →
      ∃ v, exec (.qopReserved n cmd portB) s = .next v ∧ opResult v n.val 5 0 ∧ v.mem = s.mem ∧ v.cores = s.cores
        ∧ coreRegsKept s v n.val [R.qopResult])

/-- R259 to R264: the operations on synchronisation objects. INIT sets the object up; SIGNAL adds to a semaphore within its
limit, sets an event, or marks a party of a barrier, and stamps the step; WAIT takes what it waited for, or waits; a poll
ends when its condition holds, a limited wait when its time is up, and a long wait parks its engine. -/
def Obligations.SyncOperations : Prop :=
  ∀ (n : CoreId) (e : EngId) (s : State), live s = true →
    (∀ (o : ObjId) (value : W64), mayObject s n.val e.val = true →
      (∃ v, exec (.syncInit n o value e) s = .next v
        ∧ obj v n.val o.val = w64 (fld value 0 2 + 8 + e.val * 16 + fld value 16 16 * 65536 + fld value 32 16 * 2 ^ 32)
        ∧ (∀ a, (a < objAddr s n.val o.val ∨ objAddr s n.val o.val + 8 ≤ a) → ldB v a = ldB s a)
        ∧ v.cores = s.cores ∧ coreRegsKept s v n.val [R.qopArg, R.qopResult])
      ∧ (bitAt (obj s n.val o.val) 3 = false → ∃ v, exec (.syncSignal n o value e) s = .next v ∧ v.mem = s.mem
        ∧ (e.val = 0 → crF v n.val R.qopResult 0 4 = 3))
      ∧ (∀ w x, w = obj s n.val o.val → bitAt w 3 = true → noWaiter s n.val o.val →
        x = (if fld w 0 2 = 0 then min (fld w 16 16 + fld value 0 16) (fld w 32 16) else if fld w 0 2 = 1 then 1
          else if fld w 0 2 = 2 then Nat.lor (fld w 16 16) (2 ^ e.val) else fld w 16 16) →
        ∃ v, exec (.syncSignal n o value e) s = .next v
          ∧ obj v n.val o.val = putFld (putFld w 16 16 x) 7 3 e.val
          ∧ ldU v (objAddr s n.val o.val + 8) 4 = (startStepOf s n.val).toNat
          ∧ (∀ a, (a < objAddr s n.val o.val ∨ objAddr s n.val o.val + 16 ≤ a) → ldB v a = ldB s a)
          ∧ counted s v n.val R.syncSignals 1 ∧ (e.val = 0 → opResult v n.val 0 x) ∧ v.cores = s.cores)
      ∧ (∀ w c us, w = obj s n.val o.val → c = fld value 32 16 → us = fld value 0 24 → (e.val = 0 ∨ e.val = 5) →
        ∃ v, exec (.syncWait n o value e) s = .next v
          ∧ (bitAt w 3 = false → v.mem = s.mem ∧ (e.val = 0 → crF v n.val R.qopResult 0 4 = 3))
          ∧ (bitAt w 3 = true → bitAt w 2 = true → v.mem = s.mem ∧ (e.val = 0 → opResult v n.val 2 (fld w 16 16)))
          ∧ (bitAt w 3 = true → bitAt w 2 = false → waitHolds w c = true →
            fld (obj v n.val o.val) 16 16 = fld (waitTake w c) 16 16
              ∧ (e.val = 0 → opResult v n.val 0 (fld (waitTake w c) 16 16)))
          ∧ (bitAt w 3 = true → bitAt w 2 = false → waitHolds w c = false →
            obj v n.val o.val = setBit w (10 + e.val)
              ∧ cr v n.val (R.waitState e.val) = w64 (o.val + 32 + c * 65536 + us * 2 ^ 40)
              ∧ (∀ a, (a < objAddr s n.val o.val ∨ objAddr s n.val o.val + 8 ≤ a) → ldB v a = ldB s a))))
    ∧ (∀ arg q, waiting s n.val e.val = true → crB s n.val (R.waitState e.val) 7 = true → stopped s n.val = false →
      frozen s n.val = false → arg = w64 (Sparse.get (fun _ => 0) (core s n.val).polls e.val - 1) →
      q = (Sparse.get (fun _ => 0) (core s n.val).polls e.val - 1) / 2 ^ 64 →
      pollHolds s n.val q (fld arg 0 32) (fld arg 32 32) = true →
      ∃ v, exec (.pollSatisfied n e) s = .next v ∧ cr v n.val (R.waitState e.val) = 0 ∧ v.mem = s.mem
        ∧ (e.val = 0 → opResult v n.val 0 (qStat s n.val q).toNat))
    ∧ (∀ o, waitExpired s n.val e.val = true → o = crF s n.val (R.waitState e.val) 0 5 →
      ∃ v, exec (.waitTimeout n e) s = .next v ∧ cr v n.val (R.waitState e.val) = 0
        ∧ counted s v n.val R.syncTimeouts 1 ∧ obj v n.val o = clrBit (obj s n.val o) (10 + e.val)
        ∧ (e.val = 0 → opResult v n.val 1 (fld (obj s n.val o) 16 16)))
    ∧ (waiting s n.val e.val = true → crB s n.val (R.waitState e.val) 6 = false →
      Sparse.get (fun _ => 0) (core s n.val).waitFrom e.val / 2 + rdF s R.lendThreshold 0 32 ≤ nowNs s →
      ∃ v, exec (.enginePark n e) s = .next v ∧ cr v n.val (R.waitState e.val) = setBit (cr s n.val (R.waitState e.val)) 6
        ∧ counted s v n.val R.lendParks 1 ∧ coreRegsKept s v n.val [R.waitState e.val, R.lendParks] ∧ v.mem = s.mem
        ∧ v.cores = s.cores)

/-- R238, R239, R242, R244: a queue request is granted its place in the ring, waits for it, or is answered with the reason
why not; a request that waits is granted once it can be. -/
def Obligations.QueueRequests : Prop :=
  ∀ (n : CoreId) (f : Flit) (s : State) (q src units seq : Nat) (w : QReq), live s = true → stopped s n.val = false →
    q = ff f 37 6 → src = ff f 1 11 → units = ff f 30 7 + 1 → seq = ff f 14 16 → w = ⟨q, src, units, seq⟩ →
    (fType f = 0xA → ff f 43 2 = 3 → nextLocal s n.val f = true →
      ∃ v, exec (.qreq n f) s = .next v ∧ (core v n.val).rx = (core s n.val).rx.erase f
        ∧ (qState s n.val q ≠ 1 → queueAnswered s v n.val src 0x12 q seq ∧ counted s v n.val R.qNackSent 1 ∧ v.mem = s.mem)
        ∧ (qState s n.val q = 1 → qKind s n.val q ≠ 0 →
          queueAnswered s v n.val src 0x18 q seq ∧ counted s v n.val R.qNackSent 1 ∧ v.mem = s.mem)
        ∧ (∀ k, qState s n.val q = 1 → qKind s n.val q = 0 → sndOf s n.val q src = some k →
          (seq + 65536 - fld (snd s n.val q k) 16 16) % 65536 = 0
            ∨ 32768 ≤ (seq + 65536 - fld (snd s n.val q k) 16 16) % 65536 →
          queueAnswered s v n.val src 0x17 q seq ∧ counted s v n.val R.qDup 1 ∧ v.mem = s.mem)
        ∧ (qState s n.val q = 1 → qKind s n.val q = 0 → sndOf s n.val q src = none → sndFree s n.val q = none →
          queueAnswered s v n.val src 0x16 q seq ∧ counted s v n.val R.qNackSent 1 ∧ v.mem = s.mem)
        ∧ (qState s n.val q = 1 → qKind s n.val q = 0 → freshRequest s n.val q src seq → entryApart s n.val q →
          (ringSize s n.val q / 2 < 32 * units →
            queueAnswered s v n.val src 0x14 q seq ∧ counted s v n.val R.qNackSent 1)
          ∧ (32 * units ≤ ringSize s n.val q / 2 → (∀ x ∈ (core s n.val).grantWait, x.q ≠ q) →
            grantable s n.val w = true →
            queueAnswered s v n.val src 0x10 q seq ∧ counted s v n.val R.qGrants 1
              ∧ (core v n.val).resv = (core s n.val).resv ++ [⟨q, src, units, seq, recordAt s n.val q (32 * units)⟩]
              ∧ (recordAt s n.val q (32 * units) = qResv s n.val q → ringSize s n.val q ≤ 2 ^ 24 →
                qResv v n.val q = (qResv s n.val q + 32 * units) % (2 * ringSize s n.val q)))
          ∧ (32 * units ≤ ringSize s n.val q / 2 →
            ((∃ x ∈ (core s n.val).grantWait, x.q = q) ∨ grantable s n.val w = false) →
            ((core s n.val).grantWait.length < 32 → (core v n.val).grantWait = (core s n.val).grantWait ++ [w]
                ∧ (core v n.val).resv = (core s n.val).resv)
              ∧ (32 ≤ (core s n.val).grantWait.length → queueAnswered s v n.val src 0x11 q seq
                ∧ (core v n.val).grantWait = (core s n.val).grantWait))))
    ∧ (∀ (k : QIdx) (x : QReq), (core s n.val).grantWait.find? (fun y => y.q = k.val) = some x →
      grantable s n.val x = true →
      ∃ v, exec (.waitingGrant n k) s = .next v ∧ (core v n.val).grantWait = (core s n.val).grantWait.erase x
        ∧ queueAnswered s v n.val x.src 0x10 k.val x.seq ∧ counted s v n.val R.qGrants 1
        ∧ (core v n.val).resv = (core s n.val).resv
          ++ [⟨k.val, x.src, x.units, x.seq, recordAt s n.val k.val (32 * x.units)⟩])

/-- R237, R240, R243 to R247: what a sender does with its answers, and a receiver with messages. GRANT lets the message
leave; DUPLICATE counts as delivered; NACK_BUSY is retried after its gap, and another NACK ends the send. A message for a
ring is written at the place granted, or refused by its epoch; one for an operand queue waits for its port. -/
def Obligations.QueueMessages : Prop :=
  ∀ (n : CoreId) (f : Flit) (s : State), live s = true → stopped s n.val = false →
    (∀ x l, isStatus f = true → nextLocal s n.val f = true → fCode f = 0x10 → sendOf s n.val f = some x →
      bitAt (binding s n.val x.bind) 41 = false → (∀ y ∈ (core s n.val).sends, y.seq ≠ 65536) →
      ∃ v, exec (.grant (.core n) f) s = .next v ∧ (core v n.val).sends = (core s n.val).sends.erase x
        ∧ counted s v n.val R.qMsgOut 1 ∧ fld (binding v n.val x.bind) 24 16 = (x.seq + 1) % 65536
        ∧ (l = messageFlits x.dest x.epoch n.val 0 (stampHeader x.msg x.seq n.val x.dest) →
          (∀ g ∈ l, clearWay s n.val g) →
          localFlits v n.val 3 ++ ((v.mesh.offers.filter fun o => o.node = n.val).map fun o => o.f) = l
            ∧ (localFlits v n.val 3).length = min l.length (bufCap 3)))
    ∧ (∀ x, isStatus f = true → nextLocal s n.val f = true → fCode f = 0x17 → sendOf s n.val f = some x →
      bitAt (binding s n.val x.bind) 41 = false → (∀ y ∈ (core s n.val).sends, y.seq ≠ 65536) →
      ∃ v, exec (.duplicate (.core n) f) s = .next v ∧ (core v n.val).sends = (core s n.val).sends.erase x
        ∧ counted s v n.val R.qDup 1 ∧ fld (binding v n.val x.bind) 24 16 = (x.seq + 1) % 65536)
    ∧ (∀ x, isStatus f = true → nextLocal s n.val f = true → sendOf s n.val f = some x →
      (fCode f = 0x11 → ∃ v, exec (.nackReceived (.core n) f) s = .next v ∧ counted s v n.val R.qNackReceived 1
        ∧ v.mem = s.mem ∧ (core v n.val).sends = (core s n.val).sends.map fun y =>
          if y = x then { y with busy := some (timeAdd (nowNs s) (crF s n.val R.qRetryUs 0 8 * 1000)) } else y)
      ∧ (isNack (fCode f) = true → fCode f ≠ 0x11 → (∀ y ∈ (core s n.val).sends, y.seq ≠ 65536) →
        ∃ v, exec (.nackReceived (.core n) f) s = .next v ∧ counted s v n.val R.qNackReceived 1
          ∧ (core v n.val).sends = (core s n.val).sends.erase x
          ∧ (qState s n.val 63 ≠ 1 → counted s v n.val R.qErrqDrop 1 ∧ v.mem = s.mem)))
    ∧ (∀ x d, (core s n.val).sends = [x] → x.busy = some d → 0 ≤ timeDiff d (nowNs s) →
      ∃ v, exec (.nackBusyRetry (.core n)) s = .next v ∧ (core v n.val).sends = [{ x with busy := none }]
        ∧ flitSent s v n.val (mkQreq x.dest (x.msg.length / 32) x.seq n.val) ∧ v.mem = s.mem ∧ v.coreRegs = s.coreRegs)
    ∧ (∀ (who : Endpoint) (x : Send), (∀ m, who ≠ .core m) → isStatus f = true → f ∈ s.mesh.hubRx →
      answered (hubSends s (srcOf who)) f = some x →
      (fCode f = 0x10 → ∃ v, exec (.grant who f) s = .next v
        ∧ hubSends v (srcOf who) = (hubSends s (srcOf who)).erase x
        ∧ ∀ c : Chan, who = .bell c → rdF v (R.bellBind c.val) 24 16 = (x.seq + 1) % 65536)
      ∧ (fCode f = 0x17 → ∃ v, exec (.duplicate who f) s = .next v
        ∧ hubSends v (srcOf who) = (hubSends s (srcOf who)).erase x)
      ∧ (isNack (fCode f) = true → ∀ c : Chan, who = .bell c → ∃ v, exec (.nackReceived who f) s = .next v
        ∧ hubSends v (srcOf who) = (hubSends s (srcOf who)).erase x
        ∧ rdF v (R.bellStatus c.val) 8 8 = fCode f
        ∧ rd v (R.bellNacks c.val) = w64 (satAdd 32 (rd s (R.bellNacks c.val)).toNat 1) ∧ ∀ r ∈ v.conv.results, ¬ (r.chan = c.val ∧ r.going = true)))
    ∧ (∀ (bodies : List Flit) (msg m : List Byte) (q a : Nat) (r : Resv), messageHere s n.val f bodies = true → hKind f = 0 →
      q = hQidx f → msg = bodyBytes bodies → qKind s n.val q = 0 → qState s n.val q = 1 →
      (core s n.val).resv.find? (fun r => r.q = q && r.src = fSrc f) = some r →
      m = (msg ++ List.replicate (32 * r.units) 0).take (32 * r.units) →
      a = ringAddr s n.val q + r.at_ % ringSize s n.val q →
      (hEpoch f = qEpoch s n.val q → fld (w64 (leNat (msg.take 8))) 16 16 = r.seq → bitAt (qw s n.val q 0) 17 = false →
        coreBase n.val ≤ a → a + 32 * r.units ≤ coreBase n.val + 0x78000 → apart (statAddr s n.val q) 4 a (32 * r.units) →
        apart (qAddr s n.val q) 32 a (32 * r.units) → entryApart s n.val q → 0 < r.units →
        ∃ v, exec (.queueMessage n f bodies) s = .next v ∧ counted s v n.val R.qMsgIn 1
          ∧ (core v n.val).resv = (core s n.val).resv.erase r ∧ ldB v a = m.headD 0 ||| 1
          ∧ ∀ k, 0 < k → k < 32 * r.units → ldB v (a + k) = m.getD k 0)
      ∧ ((hEpoch f ≠ qEpoch s n.val q ∨ fld (w64 (leNat (msg.take 8))) 16 16 ≠ r.seq) →
        ∃ v, exec (.queueMessage n f bodies) s = .next v ∧ counted s v n.val R.qNackSent 1
          ∧ (core v n.val).resv = (core s n.val).resv.erase r ∧ queueAnswered s v n.val (fSrc f) 0x13 q r.seq))
    ∧ (∀ (bodies : List Flit) (msg : List Byte) (q seq : Nat), messageHere s n.val f bodies = true → hKind f = 0 → q = hQidx f →
      qKind s n.val q = 1 → msg = bodyBytes bodies → seq = fld (w64 (leNat (msg.take 8))) 16 16 →
      ∃ v, exec (.operandMessage n f bodies) s = .next v
        ∧ (qState s n.val q ≠ 1 → queueAnswered s v n.val (fSrc f) 0x12 q seq ∧ v.mem = s.mem)
        ∧ (qState s n.val q = 1 → fSrc f ≠ fld (qw s n.val q 1) 32 11 →
          queueAnswered s v n.val (fSrc f) 0x15 q seq ∧ v.mem = s.mem)
        ∧ (qState s n.val q = 1 → fSrc f = fld (qw s n.val q 1) 32 11 → hEpoch f ≠ qEpoch s n.val q →
          queueAnswered s v n.val (fSrc f) 0x13 q seq ∧ v.mem = s.mem)
        ∧ (qState s n.val q = 1 → fSrc f = fld (qw s n.val q 1) 32 11 → hEpoch f = qEpoch s n.val q →
          (core v n.val).opWait = (core s n.val).opWait ++ [⟨q, msg⟩] ∧ v.coreRegs = s.coreRegs
            ∧ ∀ a, (a < statAddr s n.val q ∨ statAddr s n.val q + 4 ≤ a) → ldB v a = ldB s a))
    ∧ (∀ (q : QIdx) (w : OpMsg) (base bytes held : Nat) (pay : List Byte) (taken : Bool),
      (core s n.val).opWait.find? (fun x => x.q = q.val) = some w → portFree s n.val q.val taken = true →
      qState s n.val q.val = 1 → entryApart s n.val q.val → bitAt (qw s n.val q.val 0) 17 = false →
      fld (qw s n.val q.val 1) 0 2 = 0 → bitAt (w64 (leNat (w.msg.take 8))) 2 = false →
      base = scratch n.val (fld (w64 (popWord s n.val (fld (qw s n.val q.val 1) 2 4) 6)) 0 15) →
      bytes = 2 * (fld (w64 (popWord s n.val (fld (qw s n.val q.val 1) 2 4) 4)) 13 12 + 1) →
      pay = (w.msg.drop 32).take (leNat ((w.msg.drop 16).take 4)) → apart base bytes (qAddr s n.val q.val) 32 →
      apart base bytes (statAddr s n.val q.val) 4 →
      apart base bytes (scratch n.val (crF s n.val R.neConfig 0 15 + 64 * fld (qw s n.val q.val 1) 2 4 + 52)) 4 →
      apart (qAddr s n.val q.val) 32 (scratch n.val (crF s n.val R.neConfig 0 15 + 64 * fld (qw s n.val q.val 1) 2 4 + 52)) 4 →
      ∃ v, exec (.operandDelivery n q held taken) s = .next v ∧ (core v n.val).opWait = (core s n.val).opWait.erase w
        ∧ counted s v n.val R.qMsgIn 1 ∧ counted s v n.val R.qHeldCycles held ∧ ∀ k, k < bytes → ldB v (base + k) = (pay ++ List.replicate bytes 0).getD k 0)

/-- R206, R207, R239, R253 to R255: bulk binds and their blocks, circuits, and accesses over the mesh. A bind takes one of 8
places; a block that is whole is written where its place in the stream says if it is good, except for words that a racing
port A write takes, and is not written if it is bad; an accepted circuit occupies an entry, and its teardown frees it; a READ
is answered with the half word it names, and a WRITE changes that one, or is lost to port A and answered so (R29). -/
def Obligations.BulkCircuitsAndAccesses : Prop :=
  ∀ (n : CoreId) (f : Flit) (s : State), live s = true →
    (∀ (bodies : List Flit) (b : Bind) (l : List Bind), messageHere s n.val f bodies = true → hKind f = 1 →
      b = mkBind (fSrc f) (bodyBytes bodies) →
      l = (core s n.val).binds.filter (fun x => !(x.src = b.src && x.circuit = b.circuit)) →
      ∃ v, exec (.bulkBind n f bodies) s = .next v ∧ v.mem = s.mem
        ∧ (l.length < 8 → (core v n.val).binds = l ++ [b] ∧ v.coreRegs = s.coreRegs)
        ∧ (8 ≤ l.length → (core v n.val).binds = (core s n.val).binds
          ∧ queueAnswered s v n.val (fSrc f) 0x11 (hQidx f) 0))
    ∧ (∀ (src : BitVec 12) (c : Fin 8) (data : List Byte) (tag : W64) (raced : Bool),
      blockHere s n.val src.toNat c.val data tag = true →
      (((core s n.val).binds.find? fun x => x.src = src.toNat && x.circuit = c.val) = none →
        ∃ v, exec (.bulkBlock n src c data tag raced) s = .next v ∧ counted s v n.val R.bulkUnbound 44 ∧ v.mem = s.mem)
      ∧ (∀ b, ((core s n.val).binds.find? fun x => x.src = src.toNat && x.circuit = c.val) = some b →
        b.done + 1 < b.blocks →
        (bitAt tag 56 = false → crc32c data = fld tag 0 32 → fld tag 40 16 = b.done % 65536 →
          (assigned s n.val = true → bitAt tag 57 = true ∨ fld tag 32 8 = coreJob s n.val) →
          b.offset + 256 * (b.done + 1) ≤ 0x78000 →
          ∃ v, exec (.bulkBlock n src c data tag raced) s = .next v ∧ counted s v n.val R.bulkBlocks 1
            ∧ (∀ k, k < 256 → ldB v (coreBase n.val + b.offset + 256 * b.done + k)
              = if raced = true ∧ plasWrites s n.val (b.offset + 256 * b.done + k / 8 * 8) = true
                then ldB s (coreBase n.val + b.offset + 256 * b.done + k) else data.getD k 0)
            ∧ (∀ a, (a < coreBase n.val + b.offset + 256 * b.done ∨ coreBase n.val + b.offset + 256 * (b.done + 1) ≤ a) →
              ldB v a = ldB s a)
            ∧ { b with done := b.done + 1 } ∈ (core v n.val).binds)
        ∧ (bitAt tag 56 = true ∨ crc32c data ≠ fld tag 0 32 ∨ fld tag 40 16 ≠ b.done % 65536 →
          ∃ v, exec (.bulkBlock n src c data tag raced) s = .next v ∧ counted s v n.val R.bulkTagErr 1 ∧ v.mem = s.mem
            ∧ { b with done := b.done + 1, bad := true } ∈ (core v n.val).binds)))
    ∧ (∀ (node : Node) (p : Port) (o : Nat), fType f = 7 → circuitHere s (nodeIx node) (portIx p) 3 f = true →
      o = (routeOuts (nodeIx node) (portIx p) f).headD 4 →
      ∃ v, exec (.circuitSetup node p f) s = .next v ∧ v.mem = s.mem ∧ v.coreRegs = s.coreRegs
        ∧ ((setupRefusal s (nodeIx node) (portIx p) o f).isSome = true →
          ∀ k, k < 8 → circ v (nodeIx node) k = circ s (nodeIx node) k)
        ∧ (∀ k, setupRefusal s (nodeIx node) (portIx p) o f = none → k < 8 → bitAt (circ s (nodeIx node) k) 0 = false →
          (∀ i, i < k → bitAt (circ s (nodeIx node) i) 0 = true) →
          circ v (nodeIx node) k = w64 (1 + portIx p * 2 + fLabel f * 2 ^ 4 + o * 2 ^ 8
              + freeLabel s (nodeIx node) o * 2 ^ 12 + ff f 41 4 * 2 ^ 16 + fSrc f * 2 ^ 32)
            ∧ ∀ i, i < 8 → i ≠ k → circ v (nodeIx node) i = circ s (nodeIx node) i))
    ∧ (∀ (node : Node) (p : Port) (k : Nat), fType f = 8 → buf s (nodeIx node) (portIx p) 4 = [] →
      circuitHere s (nodeIx node) (portIx p) 4 f = true → circMatch s (nodeIx node) (portIx p) (fLabel f) = some k →
      (fld (circ s (nodeIx node) k) 8 3 = 4 → ∀ g ∈ (core s (nodeIx node)).rx, fType g = 9 →
        fLabel g ≠ fld (circ s (nodeIx node) k) 12 3) →
      ∃ v, exec (.circuitTeardown node p f) s = .next v ∧ circ v (nodeIx node) k = 0
        ∧ ∀ i, i < 8 → i ≠ k → circ v (nodeIx node) i = circ s (nodeIx node) i)
    ∧ (∀ k g, stopped s n.val = false → isStatus f = true → nextLocal s n.val f = true → k = ff f 33 3 →
      g = Sparse.get (fun _ => 0) (core s n.val).circOut k → g ≠ 0 →
      (fCode f = 0x30 → ∃ v, exec (.circuitReply n f) s = .next v ∧ v.mem = s.mem
        ∧ Sparse.get (fun _ => 0) (core v n.val).circOut k = setBit g 0)
      ∧ (0x31 ≤ fCode f → fCode f ≤ 0x34 → ∃ v, exec (.circuitReply n f) s = .next v ∧ v.mem = s.mem
        ∧ Sparse.get (fun _ => 0) (core v n.val).circOut k = 0))
    ∧ (stopped s n.val = false → isCtrl f 0 = true → nextLocal s n.val f = true → ∃ v, exec (.ctrlRead n f) s = .next v
      ∧ v.mem = s.mem ∧ v.coreRegs = s.coreRegs
      ∧ flitSent s v n.val (mkData (ff f 39 4) (ff f 13 8)
        (if bitAt f 21 then fld (readWord s n.val f) 32 32 else fld (readWord s n.val f) 0 32)))
    ∧ (stopped s n.val = false → isCtrl f 1 = true → nextLocal s n.val f = true → ∃ v, exec (.ctrlWriteA n f) s = .next v
      ∧ v.mem = s.mem ∧ v.coreRegs = s.coreRegs
      ∧ Sparse.get (fun _ => 0) (core v n.val).writeA (ff f 39 4) = f.toNat + 1)
    ∧ (∀ g off a (raced : Bool), stopped s n.val = false → isCtrl f 2 = true → nextLocal s n.val f = true →
      Sparse.get (fun _ => 0) (core s n.val).writeA (ff f 39 4) = g + 1 → off = 8 * ff (w64 g) 22 17 →
      a = coreBase n.val + off + (if bitAt (w64 g) 21 then 4 else 0) →
      ∃ v, exec (.ctrlWriteD n f raced) s = .next v ∧ Sparse.get (fun _ => 0) (core v n.val).writeA (ff f 39 4) = 0
        ∧ (raced = true → plasWrites s n.val off = true → v.mem = s.mem ∧ counted s v n.val R.plasWriteLost 1
          ∧ flitSent s v n.val (mkStatus (if ff f 39 4 = 0 then 0x630 else if ff f 39 4 < 5 then 0x617 + ff f 39 4
              else 0x5FB + ff f 39 4) n.val 1 (ff f 39 4 * 2 ^ 20 + ff (w64 g) 13 8 * 2 ^ 12)))
        ∧ ((raced && plasWrites s n.val off) = false → off < 0x78000 → ldU v a 4 = ff f 7 32 ∧ (∀ y, (y < a ∨ a + 4 ≤ y) → ldB v y = ldB s y)
          ∧ v.coreRegs = s.coreRegs)
        ∧ (0x80000 ≤ off → v.mem = s.mem ∧ v.coreRegs = s.coreRegs)
        ∧ (∀ r, 0x78000 ≤ off → off < 0x80000 → r = off - 0x78000 → r ≠ R.qopCmd → r ≠ R.plasMod →
          cr v n.val r = writeBits (coreInfo n.val r) (cr s n.val r)
            (if bitAt (w64 g) 21 then w64 (ff f 7 32 * 2 ^ 32) else w64 (ff f 7 32))
            (if bitAt (w64 g) 21 then .highHalf else .lowHalf)
          ∧ coreRegsKept s v n.val [r]))
    ∧ (∀ who : Endpoint, (∀ m, who ≠ .core m) → fType f = 0xB → f ∈ s.mesh.hubRx →
      ((∃ e, who = .dma e) → isStatus f = true → fCode f < 0x20) → ∃ v, exec (.ctrlResp who f) s = .next v
      ∧ v.mesh.hubRx = s.mesh.hubRx.erase f
      ∧ Sparse.get (fun _ => 0) v.mesh.resp (if bitAt f 44 then ff f 32 4 else ff f 40 4) = f
      ∧ v.mem = s.mem ∧ v.coreRegs = s.coreRegs)
    ∧ (stopped s n.val = false → isStatus f = true → nextLocal s n.val f = true → fCode f = 0x20 →
      ∃ v, exec (.ctrlResp (.core n) f) s = .next v ∧ (core v n.val).rx = (core s n.val).rx.erase f
        ∧ v.mem = s.mem ∧ v.coreRegs = s.coreRegs)

/-! ### Mesh and links -/

/-- R23, R45, R191 to R205, R207, R220: the next flit of a crossing merges into the last one of its buffer where it can, else
it waits there for the outputs its route still has; an unknown TYPE is discarded. A core's VC0 flit enters in its turn for a
token, and its BULK flits once their circuit is accepted. A link sends the head of a buffer by priority, at most two in a
cycle, keeps a copy and uses a credit, and at a hub port the Event Port injects as its shaper allows (log entry 151); a core takes in a flit on its TYPE's VC and answers a marked one by an ECHO. An echo
halves a source's rate, or is ignored within the hold. -/
def Obligations.MeshFlitsMove : Prop :=
  ∀ (s : State), live s = true →
    (∀ (n : CoreId) (p : Port) (f : Flit) (cyc : Nat) (l : List Held), p ≠ .loc → nextRx s n.val (portIx p) = some f →
      l = buf s n.val (portIx p) (fVc f) →
      (0xC ≤ fType f → fType f ≤ 0xE → ∃ v, exec (.routerFlitArrival n p f cyc) s = .next v
        ∧ rd v (R.rtrBadType n.val) = w64 (satAdd 32 (rd s (R.rtrBadType n.val)).toNat 1) ∧ v.mesh.bufs = s.mesh.bufs
        ∧ v.mem = s.mem ∧ v.coreRegs = s.coreRegs)
      ∧ (∀ h, fType f ≤ 6 ∨ 0xA ≤ fType f → fType f ≠ 0xC → fType f ≠ 0xD → fType f ≠ 0xE → l.getLast? = some h →
        mergeable h.f f = true → ∃ v, exec (.routerFlitArrival n p f cyc) s = .next v
          ∧ buf v n.val (portIx p) (fVc f) = l.dropLast ++ [{ h with f := putFld h.f 0 32 (fValue h.f + fValue f) }]
          ∧ rd v (R.rtrMerges n.val) = w64 (satAdd 32 (rd s (R.rtrMerges n.val)).toNat 1) ∧ v.mem = s.mem
          ∧ v.coreRegs = s.coreRegs)
      ∧ (∀ outs, fType f ≤ 6 ∨ fType f = 0xA ∨ fType f = 0xB → (∀ h, l.getLast? = some h → mergeable h.f f = false) →
        (fVc f ≠ 1 ∨ l.length < rdF s (R.rtrConfig n.val) 0 6 ∨ l = []) →
        outs = (routeOuts n.val (portIx p) f).filter (fun o => o = 4 || linkState s n.val o ≠ 3) →
        ∃ v, exec (.routerFlitArrival n p f cyc) s = .next v
          ∧ (outs ≠ [] → buf v n.val (portIx p) (fVc f) = l ++ [⟨f, outs, cyc, 8⟩])
          ∧ (outs = [] → buf v n.val (portIx p) (fVc f) = l) ∧ v.mem = s.mem ∧ v.coreRegs = s.coreRegs)
      ∧ (l ≠ [] → fType f ≤ 1 → fVc f = 1 → rdF s (R.rtrConfig n.val) 0 6 ≤ l.length →
        (∃ o ∈ routeOuts n.val (portIx p) f, o = 4 ∨ linkState s n.val o ≠ 3) →
        ∃ v, exec (.routerFlitArrival n p f cyc) s = .next v
          ∧ ((buf v n.val (portIx p) 1).getLast?.map fun h => h.f) = some (setBit f 57)
          ∧ rd v (R.rtrMarks n.val) = w64 (satAdd 32 (rd s (R.rtrMarks n.val)).toNat 1)))
    ∧ (∀ (n : CoreId) (f : Flit) (cyc : Nat) (o : Offer) (g : State), fType f ≠ 9 → nextVc0 s n.val f = some o → o.f = f →
      g = tokensTo s n.val cyc →
      ((tokenOk g n.val && roomAt g n.val f && vc0Turn g n.val cyc (vc0Class f)) = true →
        ∃ v, exec (.routerFlitArrival n .loc f cyc) s = .next v ∧ v.mesh.offers = s.mesh.offers.erase o
          ∧ rdF v (R.rtrShaper n.val) 8 3 + 1 = rdF g (R.rtrShaper n.val) 8 3 ∧ v.mem = s.mem ∧ v.coreRegs = s.coreRegs
          ∧ (fType f ≤ 1 → (∃ o ∈ routeOuts n.val 4 f, o = 4 ∨ linkState s n.val o ≠ 3) →
            localFlits v n.val (fVc f) = localFlits s n.val (fVc f) ++ [f]))
      ∧ ((tokenOk g n.val && roomAt g n.val f && vc0Turn g n.val cyc (vc0Class f)) = false →
        ∃ v, exec (.routerFlitArrival n .loc f cyc) s = .next v ∧ v.mesh.offers = s.mesh.offers
          ∧ v.mesh.bufs = s.mesh.bufs ∧ v.mem = s.mem ∧ v.coreRegs = s.coreRegs))
    ∧ (∀ (n : CoreId) (f : Flit) (cyc k o : Nat) (e : W64), fType f = 9 →
      (bulkMay s n.val f = false → exec (.routerFlitArrival n .loc f cyc) s = .next s)
      ∧ (bulkMay s n.val f = true → circMatch s n.val 4 (fLabel f) = some k → e = circ s n.val k → o = fld e 8 3 →
        o = 4 ∨ linkState s n.val o ≠ 3 → ∃ v, exec (.routerFlitArrival n .loc f cyc) s = .next v
          ∧ buf v n.val 4 4 = buf s n.val 4 4 ++ [⟨setLabel f (fld e 12 3), [o], cyc, fLabel f⟩]
          ∧ v.mem = s.mem ∧ v.coreRegs = s.coreRegs))
    ∧ (∀ (node : Node) (out : Port) (cyc k o : Nat) (x : Pick) (a g : State), k = nodeIx node → o = portIx out →
      (k < 1024 ∨ s.conv.epOut = []) → a = peerShape s k cyc → slotFree (link a (linkKey k o)) cyc = true → g = gainTokens a k o cyc →
      (pickVc0 g k o = some x ∨ (pickVc0 g k o = none ∧ pickCircuit g k o = some x)
        ∨ (pickVc0 g k o = none ∧ pickCircuit g k o = none ∧ pickRest g k o = some x)) →
      ∃ v, exec (.flitSend node out cyc) s = .next v
        ∧ ((x.p ≠ 4 ∨ ∀ y ∈ g.mesh.offers, y.node ≠ k) → buf v k x.p x.q = (if x.h.outs.erase o = [] then (buf g k x.p x.q).drop 1
            else { x.h with outs := x.h.outs.erase o } :: (buf g k x.p x.q).drop 1))
        ∧ (o ≠ 4 → (link v (linkKey k o)).next = (link s (linkKey k o)).next + 1
          ∧ (link v (linkKey k o)).replay = (link s (linkKey k o)).replay ++ [((link s (linkKey k o)).next, x.h.f)]
          ∧ (link v (linkKey k o)).used = (link s (linkKey k o)).used.set (creditQueue x.h.f)
              ((link s (linkKey k o)).used.getD (creditQueue x.h.f) 0 + 1))
        ∧ (o = 4 → vcOk x.h.f = true → (core v k).rx = (core s k).rx ++ [x.h.f]
          ∧ (fMark x.h.f = true → fType x.h.f ≤ 1 → Sparse.get (fun _ => 0) s.mesh.echoes (k * 2048 + fSrc x.h.f) = 0 →
            rd v (R.echoSent k) = w64 (satAdd 32 (rd s (R.echoSent k)).toNat 1)
              ∧ (⟨k, k, onRow k (mkEcho (fSrc x.h.f) k)⟩ : Offer) ∈ v.mesh.offers))
        ∧ (o = 4 → vcOk x.h.f = false → (core v k).rx = (core s k).rx
          ∧ rd v (R.rtrBadType k) = w64 (satAdd 32 (rd s (R.rtrBadType k)).toNat 1))
        ∧ (x.p = 4 → k < 1024 → x.h.outs.erase o = [] → isCounted x.h.f = true →
          Sparse.get (fun _ => 0) (core v k).sent (fStep x.h.f)
            = Sparse.get (fun _ => 0) (core s k).sent (fStep x.h.f) + sentCount x.h.f)
        ∧ v.mem = s.mem ∧ v.coreRegs = s.coreRegs)
    ∧ (∀ (node : Node) (out : Port) (cyc k o : Nat), k = nodeIx node → o = portIx out →
      (k < 1024 ∨ s.conv.epOut = []) → (∀ y ∈ s.mesh.offers, y.node = k → isPeerSrc y.src = false) →
      (slotFree (link s (linkKey k o)) cyc = false ∨ pick (gainTokens s k o cyc) k o = none) →
      exec (.flitSend node out cyc) s = .next s)
    ∧ (∀ (p : HubPort) (out : Port) (cyc : Nat) (x : EpFlit) (rest : List EpFlit), s.conv.epOut = x :: rest →
      ∃ v, exec (.flitSend (.hub p) out cyc) s = .next v
        ∧ (participantReady (shapeTo s 0x620 cyc) (256 + x.stream) x.port 0x620 x.f = false → v.conv = s.conv ∧ v.mem = s.mem)
        ∧ (participantReady (shapeTo s 0x620 cyc) (256 + x.stream) x.port 0x620 x.f = true →
          v.conv.epOut.length ≤ rest.length))
    ∧ (∀ (who : Endpoint) (f : Flit) (cyc src : Nat), shapedSrc who = some src → fType f = 6 → echoWaits s src f = true →
      (((shaper s src).halved = none ∨ ∃ h, (shaper s src).halved = some h ∧ rdF s R.meshShape 16 16 ≤ cyc - h) →
        ∃ v, exec (.echoReceived who f cyc) s = .next v
          ∧ shapeRate v src = (if src < 1024 then max (shapeRate s src / 2) (rdF s R.meshShape 8 7)
              else min 64 (max (shapeRate s src / 2) (rdF s R.meshShape 8 7)))
          ∧ (src < 1024 → rd v (R.echoReceived src) = w64 (satAdd 32 (rd s (R.echoReceived src)).toNat 1)
            ∧ (core v src).rx = (core s src).rx.erase f)
          ∧ v.mem = s.mem ∧ v.coreRegs = s.coreRegs)
      ∧ (∀ h, (shaper s src).halved = some h → cyc - h < rdF s R.meshShape 16 16 →
        ∃ v, exec (.echoReceived who f cyc) s = .next v ∧ shapeRate v src = shapeRate s src
          ∧ (src < 1024 → rd v (R.echoIgnored src) = w64 (satAdd 32 (rd s (R.echoIgnored src)).toNat 1)
            ∧ (core v src).rx = (core s src).rx.erase f)
          ∧ v.mem = s.mem ∧ v.coreRegs = s.coreRegs))

/-- R211 to R220, R358 to R361: the links. A lane word in its turn is accepted and answered by a control word, and a bad one
asks once for a replay of its position; a control word acknowledges and brings credit, and three bad ones in a row retrain
the link; a timeout counts a replay, unless a NAK of the same cycle has; a window over its budget degrades the link; a
retrain brings it up with both ends at one position, or down after three failures. A peer frame is checked and accepted in
its turn. -/
def Obligations.LinksCarryOn : Prop :=
  ∀ (s : State), live s = true →
    (∀ (node : Node) (p : Port) (lane : Bool) (k : Nat), inLink (nodeIx node) (portIx p) = some k →
      (∃ v, exec (.laneWordReceive node p lane .bad) s = .next v
        ∧ link v k = (if (link s k).nak then link s k else { link s k with ctl := controlOut (link s k) true, nak := true })
        ∧ ((link s k).nak = false → (link v k).ctl.toNat / 2 ^ 22
            = (link s k).expect % 2 * 256 + ((link s k).expect + 510) / 2 % 256 ∧ bitAt ((link v k).ctl.setWidth 64) 21 = true)
        ∧ v.coreRegs = s.coreRegs ∧ hubRegsKept s v [])
      ∧ (∀ (seq : BitVec 12) (payload : BitVec 64) (c : Bool) (a : Link),
        a = { link s k with expect := (link s k).expect + 1, run := 0, rx := (link s k).rx ++ [payload], nak := false,
                            nakTaken := false } → ∃ v,
        exec (.laneWordReceive node p lane (.good seq payload c)) s = .next v
        ∧ link v k = (if fType payload ≠ 0xF ∧ b2n lane = (link s k).expect % 2 ∧ seq.toNat = (link s k).expect / 2 % 256
            then { a with ctl := controlOut a false, ctlLane := !a.ctlLane } else link s k)
        ∧ (c = false → hubRegsKept s v []) ∧ v.mem = s.mem ∧ v.coreRegs = s.coreRegs))
    ∧ (∀ (l : LinkId) (word : BitVec 31) (h : Link) (w : W64), linkExists l = true → h = link s (linkOf l) →
      w = word.setWidth 64 →
      ((∀ p, l = .peer p → peerQueue s p.val = []) → bitAt w 21 = false →
        ∃ v, exec (.controlWordReceive l word true) s = .next v
          ∧ link v (linkOf l) = { takeCredits h w with replay := afterAck (match l with | .peer _ => true | _ => false) h w
                                                       disc := 0, nakTaken := false }
          ∧ v.mem = s.mem ∧ v.coreRegs = s.coreRegs ∧ hubRegsKept s v [])
      ∧ (bitAt w 21 = true → h.run + 1 < 8 → (∀ p, l = .peer p → peerQueue s p.val = []) →
        ∃ v, exec (.controlWordReceive l word true) s = .next v ∧ (link v (linkOf l)).run = h.run + 1
          ∧ (link v (linkOf l)).window = h.window + 1 ∧ stateOf v l = stateOf s l)
      ∧ (h.disc + 1 < 3 → ∃ v, exec (.controlWordReceive l word false) s = .next v
          ∧ link v (linkOf l) = { h with disc := h.disc + 1 } ∧ stateOf v l = stateOf s l)
      ∧ (3 ≤ h.disc + 1 → stateOf s l ≤ 1 → ∃ v, exec (.controlWordReceive l word false) s = .next v ∧ stateOf v l = 2))
    ∧ (∀ (l : LinkId) (h : Link), linkExists l = true → h = link s (linkOf l) →
      (∀ merged : Bool, h.replay ≠ [] → stateOf s l ≤ 1 → (merged = true → h.nakTaken = false) →
        ∃ v, exec (.replayTimeout l merged) s = .next v ∧ (link v (linkOf l)).window = h.window + 1 ∧ (link v (linkOf l)).replay = h.replay
        ∧ stateOf v l = (if 8 ≤ h.run + 1 then 2 else stateOf s l) ∧ v.mem = s.mem ∧ v.coreRegs = s.coreRegs)
      ∧ (h.replay ≠ [] → stateOf s l ≤ 1 → h.nakTaken = true → ∃ v, exec (.replayTimeout l true) s = .next v
        ∧ link v (linkOf l) = { h with nakTaken := false } ∧ hubRegsKept s v [] ∧ v.mem = s.mem ∧ v.coreRegs = s.coreRegs)
      ∧ (∃ v, exec (.retryWindowEnd l) s = .next v ∧ (link v (linkOf l)).window = 0
        ∧ stateOf v l = (if retryBudget s l < h.window then (if stateOf s l = 0 then 1 else stateOf s l)
            else if stateOf s l = 1 then 0 else stateOf s l)
        ∧ (retryBudget s l < h.window → (match l with | .mesh _ _ => rdB v R.meshAlarm 0 | .peer _ => rdB v R.peerAlarm 0) = true)
        ∧ v.mem = s.mem ∧ v.coreRegs = s.coreRegs)
      ∧ (stateOf s l = 2 → (∃ v, exec (.linkRetrainEnd l true) s = .next v ∧ stateOf v l = 0 ∧ v.mem = s.mem
          ∧ (∀ p, l = .peer p → rdB v (R.peerStatus p.val) 2 = true)
          ∧ (∀ node out, l = .mesh node out → (link v (linkOf l)).next = h.next
            ∧ (link v (linkOf l)).expect = (((h.replay.filter fun r => r.1 ≥ h.expect).head?.map fun r => r.1).getD h.next)))
        ∧ (h.fails + 1 < 3 → ∃ v, exec (.linkRetrainEnd l false) s = .next v ∧ stateOf v l = 2
          ∧ (link v (linkOf l)).fails = h.fails + 1 ∧ v.mem = s.mem)
        ∧ (3 ≤ h.fails + 1 → ∃ v, exec (.linkRetrainEnd l false) s = .next v ∧ stateOf v l = 3
          ∧ (match l with | .mesh _ _ => rdB v R.meshAlarm 1 | .peer _ => rdB v R.peerAlarm 1) = true))
      ∧ (isLigature l = true → stateOf s l ≤ 1 → ∃ v, exec (.laneLockLoss l) s = .next v ∧ stateOf v l = 2
        ∧ v.mem = s.mem))
    ∧ (∀ l : LinkId, exec (.ligatureRecalibration l) s = .next s)
    ∧ (∀ (l : LinkId) (j : Nat), l0Breath s = some j → isLigature l = true → onJobPath s j l = true →
      ∃ v, exec (.recalForced l) s = .next v ∧ rdB v R.pwrAlarm 5 = true
        ∧ rd v R.pwrRecalForced = w64 (satAdd 32 (rd s R.pwrRecalForced).toNat 1) ∧ v.mem = s.mem)
    ∧ (∀ (p : Fin 4) (fr : Frame) (h : Link), rdF s (R.peerStatus p.val) 0 2 ≤ 1 → h = link s (peerIn p.val) →
      (crc16 (beBytes 10 (fr.toNat / 65536)) ≠ fr.toNat % 65536 → ∃ v, exec (.peerFrame p fr) s = .next v
        ∧ link v (peerIn p.val) = (if h.nak then h
            else { h with ctl := controlBits 0 (h.expect + 255) true h.freed, nak := true })
        ∧ rd v (R.peerCrcErr p.val) = w64 (satAdd 32 (rd s (R.peerCrcErr p.val)).toNat 1) ∧ v.mem = s.mem)
      ∧ (crc16 (beBytes 10 (fr.toNat / 65536)) = fr.toNat % 65536 → fType (w64 (fr.toNat / 2 ^ 32)) ≠ 0xF →
        (fr.toNat / 65536 % 4096 ≠ h.expect % 4096 → exec (.peerFrame p fr) s = .next s)
        ∧ (fr.toNat / 65536 % 4096 = h.expect % 4096 →
          (fr.toNat / 2 ^ 28 % 16 ≠ pkgId s ∨ fType (w64 (fr.toNat / 2 ^ 32)) ≠ 3) → ∃ v, exec (.peerFrame p fr) s = .next v
          ∧ (link v (peerIn p.val)).expect = h.expect + 1
          ∧ (fr.toNat / 2 ^ 28 % 16 = pkgId s ∨ (peerPort s (fr.toNat / 2 ^ 28 % 16)).isSome = true →
            rd v (R.peerFramesRx p.val) = w64 (satAdd 32 (rd s (R.peerFramesRx p.val)).toNat 1))
          ∧ (fr.toNat / 2 ^ 28 % 16 ≠ pkgId s → peerPort s (fr.toNat / 2 ^ 28 % 16) = none →
            rd v R.peerNoRoute = w64 (satAdd 32 (rd s R.peerNoRoute).toNat 1)))))

/-! ### Converters -/

/-- R273 to R276, R280, R281, R283, R285, R287, R288: the events of the converters. A fetched vector becomes flits, or
faults its channel; a flit goes out once its shaper lets it; the last membrane read makes a result; a result goes to its
queue or its buffer; frames come in and go out, FLOW frames only with `FLOW_EN`, and the clock shows in `IN_CLK`. The slot of a FLOW frame is free (log
entry 1). -/
def Obligations.ConverterEvents : Prop :=
  ∀ (s : State), live s = true →
    (∀ (c : Chan) (r : MpRun) (a len : Nat) (errs : List MemErr), ((mpRuns s c.val).find? fun r => r.vec.isSome) = some r →
      r.cfg = mpRegs s c.val → (∀ y ∈ mpRuns s c.val, y.waits = false) → len = vectorBytes (mpN s c.val) → a = rdF s (R.mpInAddr c.val) 0 48 + r.vec.getD 0 * len →
      (∀ l u v w flits stamp, engineRead (meetErrs s errs a len) (mpJob s c.val) a len = (none, l, u) →
        stamp = rdF u (R.mpStampAddr c.val) 0 48 + 8 * r.vec.getD 0 →
        v = engineWrite u (mpJob u c.val) stamp (leBytes 8 (clrBit (w64 (ldU u stamp 8)) 32).toNat) →
        mpForm v c.val r.slot
          (some ((List.range (mpN s c.val)).map fun k => sx 16 (leNat ((l.drop (2 * k)).take 2)))) = (none, flits, w) →
        ∃ t, exec (.mpFetchDone c errs) s = .next t ∧ t.coreRegs = u.coreRegs
          ∧ (flits ≠ [] → t.mem = w.mem ∧ mpRuns t c.val = (mpRuns s c.val).map fun y =>
              if y = r then { r with vec := none, flits := flits } else y)
          ∧ (flits = [] → mpRuns t c.val = (mpRuns s c.val).erase r))
      ∧ (∀ l u code, engineRead (meetErrs s errs a len) (mpJob s c.val) a len = (some code, l, u) →
        ∃ t, exec (.mpFetchDone c errs) s = .next t ∧ mpRuns t c.val = [] ∧ rdF t (R.mpStatus c.val) 0 2 = 2
          ∧ t.coreRegs = u.coreRegs ∧ t.mem = u.mem))
    ∧ (∀ (c : Chan) (cyc j : Nat) (r : MpRun) (f : Flit) (rest : List Flit) (more : List MpRun) (a : State),
      mpRuns s c.val = r :: more → r.flits = f :: rest → r.cfg = mpRegs s c.val → j = mpBreath s c.val →
      a = shapeTo s (0x400 + c.val) cyc →
      (rdB s (R.peerInj c.val) 0 = false →
        participantReady a c.val (rdF s (R.mpRoute c.val) 41 5) (0x400 + c.val) f = true →
        ∃ t, exec (.mpInject c cyc) s = .next t
          ∧ rd t (R.mpFlits c.val) = w64 (satAdd 32 (rd s (R.mpFlits c.val)).toNat 1)
          ∧ mpRuns t c.val = (if rest = [] then more else { r with flits := rest } :: more)
          ∧ (rest ≠ [] → t.mem = s.mem ∧ t.coreRegs = s.coreRegs ∧ (misaddressed f = false → fDx f ≠ 63 →
            (accOf (brth t j) (fStep f)).sent = (accOf (brth s j) (fStep f)).sent + BitVec.ofNat 32 (sentCount f))))
      ∧ (participantReady a c.val (rdF s (R.mpRoute c.val) 41 5) (0x400 + c.val) f = false →
        ∃ t, exec (.mpInject c cyc) s = .next t ∧ mpRuns t c.val = mpRuns s c.val ∧ t.mem = s.mem
          ∧ t.coreRegs = s.coreRegs ∧ hubRegsKept s t []))
    ∧ (∀ (c : Chan) (f : Flit) (m : MemRead) (vals : List Nat), fType f = 0xB → bitAt f 44 = false →
      ff f 40 4 = 5 + rdF s (R.bellActions c.val) 8 3 → mreadFor s c.val f = some m → f ∈ s.mesh.hubRx →
      vals = m.vals ++ [ux 32 (sx 16 (if rdF s (R.bellConfig c.val) 11 2 % 2 = 1 then ff f 16 16 else ff f 0 16))] →
      ∃ t, exec (.membraneReadResponse c f) s = .next t ∧ t.mem = s.mem ∧ t.coreRegs = s.coreRegs
        ∧ t.mesh.hubRx = s.mesh.hubRx.erase f
        ∧ (1 < m.left → t.conv.results = s.conv.results
          ∧ mreadOf t c.val = (mreadOf s c.val).map fun x => if x = m then { m with vals := vals, left := m.left - 1 } else x)
        ∧ (m.left ≤ 1 → mreadOf t c.val = (mreadOf s c.val).erase m
          ∧ rd t (R.bellSamples c.val) = w64 (satAdd 32 (rd s (R.bellSamples c.val)).toNat 1)
          ∧ ((s.conv.results.filter fun r => r.chan = c.val).length < 2 →
            t.conv.results = s.conv.results ++ [⟨c.val, m.step, vals, 0, false⟩])
          ∧ (2 ≤ (s.conv.results.filter fun r => r.chan = c.val).length →
            t.conv.results = s.conv.results ∧ rdB t (R.bellStatus c.val) 2 = true
              ∧ rd t (R.bellOverflow c.val) = w64 (satAdd 32 (rd s (R.bellOverflow c.val)).toNat 1))))
    ∧ (∀ (c : Chan) (r : BellRes) (cfg bind : W64), (s.conv.results.find? fun r => r.chan = c.val) = some r →
      cfg = rd s (R.bellConfig c.val) → bind = rd s (R.bellBind c.val) →
      (r.going = false → fld cfg 3 2 = 0 → bitAt bind 40 = true → noGrant s (fld bind 0 16) = false →
        ∃ t, exec (.bellDelivery c) s = .next t ∧ t.mem = s.mem ∧ t.coreRegs = s.coreRegs
          ∧ t.conv.results = s.conv.results.map (fun x => if x = r then { r with going := true } else x)
          ∧ hubSends t (0x500 + c.val) = hubSends s (0x500 + c.val) ++ [⟨0, fld bind 0 16, fld bind 24 16, fld bind 16 8,
              mkMessage false r.step.toNat c.val (r.vals.flatMap fun v => leBytes 4 v), none⟩])
      ∧ (r.going = false → fld cfg 3 2 = 0 → bitAt bind 40 = false → exec (.bellDelivery c) s = .next s)
      ∧ (r.going = true → hubSends s (0x500 + c.val) = [] → ∃ t, exec (.bellDelivery c) s = .next t
          ∧ t.conv.results = s.conv.results.erase r ∧ rdB t (R.bellStatus c.val) 2 = false ∧ t.mem = s.mem)
      ∧ (∀ n a, r.going = false → fld cfg 3 2 = 1 → bitAt cfg 5 = false → n = bufferBytes r.vals.length / 256 →
        a = rdF s (R.bellOutAddr c.val) 0 48 + (r.step.toNat % 2 ^ fld cfg 52 4) * (256 * n) → inDdr s a n →
        (∀ i, i < n → flagAt s (a + 256 * i) % 2 = 0) →
        ∃ t, exec (.bellDelivery c) s = .next t ∧ t.conv.results = s.conv.results.erase r
          ∧ (∀ i, i < r.vals.length → ldU t (a + 4 * i) 4 = r.vals.getD i 0 % 2 ^ 32)
          ∧ (∀ x, (x < a ∨ a + 256 * n ≤ x) → ldB t x = ldB s x) ∧ t.coreRegs = s.coreRegs))
    ∧ (∀ (words : List (BitVec 32)) (l : List Nat) (h tr : Nat) (pay : List Nat), l = words.map (fun w => w.toNat) →
      (rdB s R.epConfig 0 = false → exec (.evtInFrame words) s = .next s)
      ∧ (rdB s R.epConfig 0 = true → l = h :: (pay ++ [tr]) →
        (pay.length + 2 ≠ h % 2048 + 3 → ∃ t, exec (.evtInFrame words) s = .next t
          ∧ rd t R.epFormatErr = w64 (satAdd 32 (rd s R.epFormatErr).toNat 1) ∧ hubRegsKept s t [R.epFormatErr]
          ∧ t.conv = s.conv ∧ t.mem = s.mem)
        ∧ (pay.length + 2 = h % 2048 + 3 → frameCrc h pay (tr / 65536) ≠ tr % 65536 →
          ∃ t, exec (.evtInFrame words) s = .next t ∧ rd t R.epCrcErr = w64 (satAdd 32 (rd s R.epCrcErr).toNat 1)
            ∧ hubRegsKept s t [R.epCrcErr] ∧ t.conv = s.conv ∧ t.mem = s.mem)
        ∧ (pay.length + 2 = h % 2048 + 3 → frameCrc h pay (tr / 65536) = tr % 65536 → frameBad s h = false →
          (h / 2 ^ 29 ≠ 7 → fifoWords s + (pay.length + 2) ≤ 16384 → ∃ t, exec (.evtInFrame words) s = .next t
            ∧ t.conv.epIn = s.conv.epIn ++ [(h, tr / 65536, pay)]
            ∧ rd t R.epFramesIn = w64 (satAdd 32 (rd s R.epFramesIn).toNat 1)
            ∧ hubRegsKept s t [R.epFramesIn, R.epStatus] ∧ t.mem = s.mem ∧ t.coreRegs = s.coreRegs)
          ∧ (h / 2 ^ 29 ≠ 7 → 16384 < fifoWords s + (pay.length + 2) → ∃ t, exec (.evtInFrame words) s = .next t
            ∧ t.conv = s.conv ∧ rd t R.epDrop = w64 (satAdd 32 (rd s R.epDrop).toNat 1)
            ∧ hubRegsKept s t [R.epDrop] ∧ t.mem = s.mem)
          ∧ (h / 2 ^ 29 = 7 → rdB s R.epConfig 3 = true → ∃ t, exec (.evtInFrame words) s = .next t
            ∧ rdB t R.epStatus 1 = decide (pay.headD 0 % 2 = 1) ∧ hubRegsKept s t [R.epFramesIn, R.epStatus]
            ∧ t.conv = s.conv ∧ t.mem = s.mem))))
    ∧ (rdB s R.epConfig 1 = true → (rdB s R.epConfig 3 = true → rdB s R.epStatus 1 = false) → rdB s R.pwrState 3 = false →
      (∀ x more, rdB s R.epConfig 3 = true → s.conv.flow = x :: more → ∃ t slot, slot < 65536 ∧ exec .evtOutFrame s = .next t
        ∧ t.conv.flow = more ∧ t.outs.evt =
          [7 * 2 ^ 29, b2n x, slot * 65536 + frameCrc (7 * 2 ^ 29) [b2n x] slot] :: s.outs.evt
        ∧ rd t R.epFramesOut = w64 (satAdd 32 (rd s R.epFramesOut).toNat 1) ∧ t.mem = s.mem)
      ∧ (∀ r pay head, (rdB s R.epConfig 3 = false ∨ s.conv.flow = []) →
        (s.conv.results.find? fun r => rdF s (R.bellConfig r.chan) 3 2 = 2) = some r →
        pay = (r.vals.drop r.sent).take 2048 →
        head = 4 * 2 ^ 29 + rdF s (R.bellConfig r.chan) 46 6 * 2 ^ 23 + r.sent % 4096 * 2 ^ 11 + (pay.length - 1) →
        ∃ t, exec .evtOutFrame s = .next t
          ∧ t.outs.evt = (head :: pay ++ [r.step.toNat % 65536 * 65536 + frameCrc head pay (r.step.toNat % 65536)])
            :: s.outs.evt
          ∧ t.conv.results = (if r.vals.length ≤ r.sent + pay.length then s.conv.results.erase r
              else s.conv.results.map fun x => if x = r then { r with sent := r.sent + pay.length } else x)
          ∧ t.mem = s.mem))
    ∧ ((rdB s R.epConfig 1 = false ∨ (rdB s R.epConfig 3 = true ∧ rdB s R.epStatus 1 = true) ∨ rdB s R.pwrState 3 = true) →
      exec .evtOutFrame s = .next s)
    ∧ (∃ t, exec .evtInClockLoss s = .next t ∧ rd t R.epStatus = clrBit (rd s R.epStatus) 0
      ∧ hubRegsKept s t [R.epStatus] ∧ t.mem = s.mem ∧ t.coreRegs = s.coreRegs)
    ∧ (∃ t, exec .evtInClockReturn s = .next t ∧ rd t R.epStatus = setBit (rd s R.epStatus) 0
      ∧ hubRegsKept s t [R.epStatus] ∧ t.mem = s.mem ∧ t.coreRegs = s.coreRegs)

/-! ### Registers and windows -/

/-- R9, R202, R333, R334, R349, R350, R353, R354, R391, R424: the registers that act when written. A doorbell moves the
producer index or sets `DB_ERROR`; freed completions let a held one follow; a range takes its flag unless it is fixed; an
engine starts, and sends its bind and setup for a core, or loses the start; an access to a halted core waits; pads are
released; any other register takes the bits of its access code. A changed RW
field, and a WO bit that takes effect, makes a journal entry. -/
def Obligations.HostRegisters : Prop :=
  ∀ (s : State), live s = true →
    (∀ (m : Fin 8) (value : W64) (n : Nat), n = fld value 0 16 →
      (rdB s (R.mbStatus m.val) 0 = true → idxSub n (cmdCi s m.val) ≤ 256 →
        idxSub (cmdPi s m.val) (cmdCi s m.val) ≤ idxSub n (cmdCi s m.val) →
        ∃ t, exec (.doorbell m value) s = .next t ∧ rd t (R.mbCmdPi m.val) = w64 n
          ∧ hubRegsKept s t [R.mbCmdPi m.val] ∧ t.mem = s.mem ∧ t.coreRegs = s.coreRegs)
      ∧ ((rdB s (R.mbStatus m.val) 0 = false ∨ 256 < idxSub n (cmdCi s m.val)
          ∨ idxSub n (cmdCi s m.val) < idxSub (cmdPi s m.val) (cmdCi s m.val)) →
        ∃ t, exec (.doorbell m value) s = .next t ∧ rdB t (R.mbStatus m.val) 1 = true
          ∧ hubRegsKept s t [R.mbStatus m.val] ∧ t.mem = s.mem ∧ t.coreRegs = s.coreRegs)
      ∧ ((∀ e ∈ s.mbox.held, e.1 ≠ m.val) → ∃ t, exec (.mbCplCiWrite m value) s = .next t
        ∧ rd t (R.mbCplCi m.val) = w64 n ∧ hubRegsKept s t [R.mbCplCi m.val, R.mbStatus m.val] ∧ t.mem = s.mem
        ∧ t.coreRegs = s.coreRegs
        ∧ rdB t (R.mbStatus m.val) 3 = (rdB s (R.mbStatus m.val) 3 && decide (256 ≤ idxSub (cplPi s m.val) n)))
      ∧ (∀ ws, s.mbox.held = [(m.val, ws)] → ws.length = 8 → idxSub (cplPi s m.val) n < 256 →
        ∃ t, exec (.mbCplCiWrite m value) s = .next t ∧ t.mbox.held = []
          ∧ cplPi t m.val = (cplPi s m.val + 1) % 65536 ∧ rdB t (R.mbStatus m.val) 2 = true
          ∧ ldN t (ringEntry m.val true (cplPi s m.val)) 64 = bytesOf ws))
    ∧ (∀ (value : W64), ∃ t, exec (.padRelease value) s = .next t
      ∧ rdB t R.pwrState 3 = (rdB s R.pwrState 3 && !bitAt value 0) ∧ hubRegsKept s t [R.pwrState]
      ∧ noted s t (bitAt value 0 && rdB s R.pwrState 3) ∧ bytesKept s t 0 0 ∧ t.coreRegs = s.coreRegs)
    ∧ (∀ (value : W64) (g n : Nat), g = rdF s R.ownXferFirst 0 20 → n = fld value 0 21 →
      (bitAt value 32 = true → rdB s R.ownXferStatus 0 = true → ∃ t, exec (.ownXferStart value) s = .next t
        ∧ rd t R.ownXferStatus = setBit (rd s R.ownXferStatus) 3 ∧ hubRegsKept s t [R.ownXferStatus] ∧ t.mem = s.mem)
      ∧ (bitAt value 32 = true → rdB s R.ownXferStatus 0 = false → rangeFixed g n = true →
        ∃ t, exec (.ownXferStart value) s = .next t ∧ rd t R.ownXferStatus = setBit (rd s R.ownXferStatus) 2
          ∧ hubRegsKept s t [R.ownXferCtrl, R.ownXferStatus] ∧ noted s t true ∧ bytesKept s t 0 0)
      ∧ (bitAt value 32 = true → rdB s R.ownXferStatus 0 = false → rangeFixed g n = false →
        ∃ t, exec (.ownXferStart value) s = .next t ∧ rd t R.ownXferStatus = setBit (rd s R.ownXferStatus) 0
          ∧ (∀ k, k < 1048064 → flagOf t k = if g ≤ k ∧ k < g + n then fld value 24 2 else flagOf s k)
          ∧ hubRegsKept s t [R.ownXferCtrl, R.ownXferStatus] ∧ noted s t true
          ∧ bytesKept s t (0x001001E00000 + g / 4) ((g + n - 1) / 4 - g / 4 + 1) ∧ t.coreRegs = s.coreRegs)
      ∧ (bitAt value 32 = false → ∃ t, exec (.ownXferStart value) s = .next t
        ∧ rd t R.ownXferCtrl = writeBits (hubInfo R.ownXferCtrl) (rd s R.ownXferCtrl) value .whole
        ∧ hubRegsKept s t [R.ownXferCtrl] ∧ bytesKept s t 0 0))
    ∧ (rdB s R.ownXferStatus 0 = true → ∃ t, exec .ownXferDone s = .next t
      ∧ rd t R.ownXferStatus = setBit (clrBit (rd s R.ownXferStatus) 0) 1 ∧ hubRegsKept s t [R.ownXferStatus]
      ∧ t.mem = s.mem ∧ t.coreRegs = s.coreRegs)
    ∧ (∀ (e : DmaId) (value : W64),
      (bitAt value 0 = false → exec (.dmaGo e value) s = .next s)
      ∧ (bitAt value 0 = true → dmaState s e.val = 1 → ∃ t, exec (.dmaGo e value) s = .next t
        ∧ rd t (R.dmaStatus e.val) = setBit (rd s (R.dmaStatus e.val)) 2 ∧ hubRegsKept s t [R.dmaStatus e.val]
        ∧ t.mem = s.mem ∧ t.coreRegs = s.coreRegs)
      ∧ (bitAt value 0 = true → dmaState s e.val ≠ 1 → ∃ t, exec (.dmaGo e value) s = .next t ∧ dmaState t e.val = 1
        ∧ rdF t (R.dmaStatus e.val) 4 4 = 0 ∧ rdF t (R.dmaStatus e.val) 32 32 = 0
        ∧ hubRegsKept s t [R.dmaStatus e.val, R.hubDrain] ∧ noted s t true ∧ bytesKept s t 0 0 ∧ t.coreRegs = s.coreRegs
        ∧ ∀ n, dmaCore s e.val = some n → dmaReceives s e.val = false → dmaBlocks s e.val ≠ 0 → (dmaRunOf t e.val).phase = 1
          ∧ ∀ f ∈ dmaBind s e.val n ++ [dmaSetup s e.val n 7], hubSent s t (n / 32) (0x600 + e.val) f))
    ∧ (∀ (acc : Width) (value w : W64), acc ≠ .other →
      w = writeBits (hubInfo R.epConfig) (rd s R.epConfig) (value &&& widthMask acc) acc →
      ∃ t, exec (.registerWrite (.hub R.epConfig) acc value) s = .next t ∧ rd t R.epConfig = w
        ∧ hubRegsKept s t [R.epConfig, R.epStatus] ∧ bytesKept s t 0 0 ∧ t.coreRegs = s.coreRegs
        ∧ (bitAt w 3 = false → t.conv.flow = [] ∧ rd t R.epStatus = clrBit (rd s R.epStatus) 1)
        ∧ (bitAt w 3 = true → t.conv = s.conv ∧ rd t R.epStatus = rd s R.epStatus))
    ∧ (∀ (o : Nat) (acc : Width) (value : W64), o ∈ plainRegs → acc ≠ .other →
      ∃ t, exec (.registerWrite (.hub o) acc value) s = .next t
        ∧ rd t o = writeBits (hubInfo o) (rd s o) (value &&& widthMask acc) acc ∧ hubRegsKept s t [o]
        ∧ noted s t (decide (o < 0x100000) && decide (((rd s o ^^^ rd t o) &&& (hubInfo o).rw) ≠ 0))
        ∧ bytesKept s t 0 0 ∧ t.coreRegs = s.coreRegs)
    ∧ (∀ (value w : W64), w = writeBits (hubInfo R.meshShape) (rd s R.meshShape) value .whole →
      (1 ≤ fld w 8 7 → fld w 8 7 ≤ 64 → fld w 0 8 ≤ 64 → ∃ t,
        exec (.registerWrite (.hub R.meshShape) .whole value) s = .next t ∧ rd t R.meshShape = w)
      ∧ ((fld w 8 7 = 0 ∨ 64 < fld w 8 7 ∨ 64 < fld w 0 8) →
        exec (.registerWrite (.hub R.meshShape) .whole value) s = .next s))
    ∧ (∀ (n : CoreId) (value w : W64), w = writeBits (hubInfo (R.rtrConfig n.val)) (rd s (R.rtrConfig n.val)) value .whole →
      (4 ≤ fld w 0 6 → fld w 0 6 ≤ 32 → ∃ t, exec (.registerWrite (.hub (R.rtrConfig n.val)) .whole value) s = .next t
        ∧ rd t (R.rtrConfig n.val) = w ∧ hubRegsKept s t [R.rtrConfig n.val])
      ∧ ((fld w 0 6 < 4 ∨ 32 < fld w 0 6) →
        exec (.registerWrite (.hub (R.rtrConfig n.val)) .whole value) s = .next s))
    ∧ (∀ (n : CoreId) (r : Nat) (acc : Width) (value : W64), r % 8 = 0 → r < 0x8000 → acc ≠ .other → r ≠ R.qopCmd →
      r ≠ R.plasMod → (core s n.val).halted = false → island s n.val < 2 →
      ∃ t, exec (.registerWrite (.core n r) acc value) s = .next t
        ∧ cr t n.val r = writeBits (coreInfo n.val r) (cr s n.val r) (value &&& widthMask acc) acc
        ∧ coreRegsKept s t n.val [r] ∧ noted s t (assigned s n.val && decide ((coreInfo n.val r).rw ≠ 0))
        ∧ bytesKept s t 0 0)
    ∧ (∀ (n : CoreId) (r : Nat) (acc : Width) (value : W64), r % 8 = 0 → r < 0x8000 → acc ≠ .other →
      (core s n.val).halted = true → ∃ t, exec (.registerWrite (.core n r) acc value) s = .next t
        ∧ (core t n.val).hostWaits = (core s n.val).hostWaits ++ [.reg r acc (value &&& widthMask acc)]
        ∧ t.mem = s.mem ∧ t.coreRegs = s.coreRegs ∧ hubRegsKept s t [])

/-- R207, R245, R254, R313, R314, R324 to R326, R333, R334, R347: a copy between blocks of DDR5 moves data and job, makes a
fresh tag for the new place, and keeps poison, as a new poisoning; a block that the host owns stops the engine; what the
memory's code corrects is counted, and what it cannot is poison; a receiving engine is done with its last block; a copy to a core goes by the core's answers (the gap after NACK_BUSY is log
entry 149). -/
def Obligations.DmaCopies : Prop :=
  ∀ (e : DmaId) (s : State) (src dst : Nat) (errs : List MemErr), live s = true → dmaState s e.val = 1 →
    src = rdF s (R.dmaSrc e.val) 0 48 → dst = rdF s (R.dmaDst e.val) 0 48 →
    (dmaReceives s e.val = true → dmaBlocks s e.val ≤ rdF s (R.dmaStatus e.val) 32 32 →
      ∃ t, exec (.dmaDone e errs) s = .next t ∧ dmaState t e.val = 2 ∧ hubRegsKept s t [R.dmaStatus e.val] ∧ t.mem = s.mem
        ∧ t.coreRegs = s.coreRegs)
    ∧ (dmaReceives s e.val = true → rdF s (R.dmaStatus e.val) 32 32 < dmaBlocks s e.val →
      exec (.dmaDone e errs) s = .next s)
    ∧ (∀ n, dmaReceives s e.val = false → dmaCore s e.val = some n →
      ((dmaRunOf s e.val).phase = 3 ∨ dmaBlocks s e.val = 0 → ∃ t, exec (.dmaDone e errs) s = .next t
        ∧ dmaState t e.val = 2 ∧ hubRegsKept s t [R.dmaStatus e.val] ∧ t.mem = s.mem ∧ t.coreRegs = s.coreRegs)
      ∧ ((dmaRunOf s e.val).phase ≠ 3 → dmaBlocks s e.val ≠ 0 → exec (.dmaDone e errs) s = .next s)
      ∧ (∀ f, (dmaRunOf s e.val).phase ≠ 0 → isStatus f = true → fSrc f = n → f ∈ s.mesh.hubRx →
        (fCode f = 0x20 → ∃ t, exec (.ctrlResp (.dma e) f) s = .next t ∧ (dmaRunOf t e.val).phase = 3 ∧ t.mem = s.mem
          ∧ t.coreRegs = s.coreRegs)
        ∧ (fCode f = 0x11 → ∃ t, exec (.nackReceived (.dma e) f) s = .next t
          ∧ (dmaRunOf t e.val).busy = some (timeAdd (nowNs s) 2000) ∧ t.mem = s.mem ∧ t.coreRegs = s.coreRegs)
        ∧ (0x31 ≤ fCode f → fCode f ≤ 0x34 → ∃ t, exec (.ctrlResp (.dma e) f) s = .next t ∧ dmaState t e.val = 3
          ∧ rdF t (R.dmaStatus e.val) 4 4 = 4 ∧ rd t (R.dmaFaultAddr e.val) = w64 dst
          ∧ t.mem = s.mem ∧ ((circMatch s (1024 + n / 32) 4 (dmaCircuit s e.val)).isSome = true →
            hubSent s t (n / 32) (0x600 + e.val) (dmaSetup s e.val n 8)))
        ∧ (fCode f = 0x21 → ∃ t, exec (.ctrlResp (.dma e) f) s = .next t ∧ dmaState t e.val = 3
          ∧ rdF t (R.dmaStatus e.val) 4 4 = 5 ∧ rd t (R.dmaFaultAddr e.val) = w64 dst ∧ t.mem = s.mem)))
    ∧ (dmaReceives s e.val = false → dmaBlocks s e.val = 1 → inDdr s src 1 → inDdr s dst 1 → flagAt s src ≠ 1 →
      flagAt s dst % 2 = 0 →
      ((checkAt s src (if dmaChecks s e.val then some (dmaJob s e.val) else none)).1 = .good →
        ∃ t, exec (.dmaDone e []) s = .next t ∧ dmaState t e.val = 2
          ∧ rdF t (R.dmaStatus e.val) 32 32 = (rdF s (R.dmaStatus e.val) 32 32 + 1) % 2 ^ 32
          ∧ (∀ k, k < 256 → ldB t (dst + k) = ldB s (src + k))
          ∧ (∀ a, (a < dst ∨ dst + 256 ≤ a) → ldB t a = ldB s a)
          ∧ tagAt t dst = mkTag (crc32c (ldN s src 256)) (fld (tagAt s src) 32 8) (dst / 256) false
              (bitAt (tagAt s src) 57) false false
          ∧ (∀ a, a / 256 ≠ dst / 256 → tagAt t a = tagAt s a)
          ∧ hubRegsKept s t [R.dmaStatus e.val] ∧ t.coreRegs = s.coreRegs)
      ∧ (bitAt (tagAt s src) 56 = true → ∃ t, exec (.dmaDone e []) s = .next t ∧ dmaState t e.val = 2
          ∧ bitAt (tagAt t dst) 56 = true ∧ (∀ k, k < 256 → ldB t (dst + k) = ldB s (src + k))
          ∧ rd t R.poisonSet = w64 (satAdd 32 (rd s R.poisonSet).toNat 1))
      ∧ (∃ t, exec (.dmaDone e [⟨src, false⟩]) s = .next t ∧ dmaState t e.val = 2
          ∧ rd t (R.ddrCe (ddrChannel src)) = w64 (satAdd 32 (rd s (R.ddrCe (ddrChannel src))).toNat 1)
          ∧ (∀ k, k < 256 → ldB t (dst + k) = ldB s (src + k)))
      ∧ (∃ t, exec (.dmaDone e [⟨src, true⟩]) s = .next t ∧ dmaState t e.val = 2 ∧ bitAt (tagAt t dst) 56 = true
          ∧ rd t (R.ddrUe (ddrChannel src)) = w64 (satAdd 32 (rd s (R.ddrUe (ddrChannel src))).toNat 1)
          ∧ rdB t R.memAlarm 0 = true))
    ∧ (dmaReceives s e.val = false → 0 < dmaBlocks s e.val → inDdr s src 1 → inDdr s dst 1 → flagAt s src = 1 →
      dmaChecks s e.val = false → ∃ t, exec (.dmaDone e []) s = .next t ∧ dmaState t e.val = 3
        ∧ rdF t (R.dmaStatus e.val) 4 4 = 2 ∧ rd t (R.dmaFaultAddr e.val) = w64 src ∧ rdB t R.ownAlarm 1 = true
        ∧ t.mem = s.mem ∧ t.tags = s.tags ∧ t.coreRegs = s.coreRegs)

/-- R26, R29, R30, R315, R316, R323 to R325, R327, R329, R339, R343, R347, R348, R375, R377 to R379: host accesses. A write through the
window stores its bytes and a fresh tag, unless the device owns the granule, which is logged; a word that port A writes in
the same cycle keeps port A's value and is counted; an access to a halted core waits; a slot that maps nothing discards
writes and reads as ones; a read brings the bytes and tells of a bad block, or of a bad word of bank 62; a verified write keeps the host's tag and marks
the block good or bad; host memory keeps what a completion brought; the management port reaches mailbox 7 at its address, and
signals a completion there by in-band interrupt or ALERT#, by its bus mode (log entry 153). -/
def Obligations.HostWindow : Prop :=
  ∀ (s : State), live s = true →
    (∀ (o : BitVec 32) (data : List Byte) (a : Nat) (raced : Bool), windowed s o.toNat a data.length →
      (∀ b, b = a / 256 * 256 → inDdr s b 1 →
        (flagAt s a < 2 → ∃ t, exec (.hostWindowWrite o data raced) s = .next t
          ∧ (∀ k, k < data.length → ldB t (a + k) = data.getD k 0)
          ∧ (∀ x, (x < a ∨ a + data.length ≤ x) → ldB t x = ldB s x)
          ∧ tagAt t a = mkTag (crc32c (ldN t b 256)) (fld (slotOf s o.toNat) 52 8) (a / 256)
              (decide (data.length < 256) && bitAt (tagAt s a) 56) (bitAt (slotOf s o.toNat) 51) false false
          ∧ (∀ x, x / 256 ≠ a / 256 → tagAt t x = tagAt s x) ∧ hubRegsKept s t [] ∧ t.coreRegs = s.coreRegs)
        ∧ (2 ≤ flagAt s a → ∃ t, exec (.hostWindowWrite o data raced) s = .next t ∧ t.mem = s.mem ∧ t.tags = s.tags
          ∧ rdB t R.ownAlarm 0 = true ∧ rd t R.ownViolAddr = w64 a
          ∧ rd t R.ownViolation = w64 (satAdd 32 (rd s R.ownViolation).toNat 1) ∧ t.coreRegs = s.coreRegs))
      ∧ (∀ (n : CoreId) (off : Nat), a = coreBase n.val + off → off + data.length ≤ 0x78000 →
        ((core s n.val).halted = false → island s n.val < 2 → assigned s n.val = false →
          ((raced = true → ∀ w, plasWrites s n.val w = false) →
            ∃ t, exec (.hostWindowWrite o data raced) s = .next t ∧ (∀ k, k < data.length → ldB t (a + k) = data.getD k 0)
              ∧ (∀ x, (x < a ∨ a + data.length ≤ x) → ldB t x = ldB s x) ∧ coreRegsKept s t n.val [R.plasWriteLost]
              ∧ counted s t n.val R.plasWriteLost 0)
          ∧ (raced = true → data.length = 8 → off % 8 = 0 → plasWrites s n.val off = true →
            ∃ t, exec (.hostWindowWrite o data raced) s = .next t ∧ (∀ x, ldB t x = ldB s x)
              ∧ counted s t n.val R.plasWriteLost 1 ∧ coreRegsKept s t n.val [R.plasWriteLost]))
        ∧ ((core s n.val).halted = true → ∃ t, exec (.hostWindowWrite o data raced) s = .next t ∧ t.mem = s.mem
          ∧ t.coreRegs = s.coreRegs
          ∧ (core t n.val).hostWaits = (core s n.val).hostWaits ++ [.write off data true raced]))
      ∧ (regionOf s a = .hubDual → flagAt s a < 2 → data.length = 8 → a % 8 = 0 → raced = true → portAWrites s a = true →
        ∃ t, exec (.hostWindowWrite o data raced) s = .next t ∧ (∀ x, ldB t x = ldB s x)
          ∧ rd t R.hubWriteLost = w64 (satAdd 32 (rd s R.hubWriteLost).toNat 1) ∧ t.coreRegs = s.coreRegs))
    ∧ (∀ (o : BitVec 32) (data : List Byte) (raced : Bool), slotMaps (slotOf s o.toNat) = false →
      o.toNat % 256 + data.length ≤ 256 → exec (.hostWindowWrite o data raced) s = .next s)
    ∧ (∀ (o : BitVec 32) (n a : Nat) (errs : List MemErr), windowed s o.toNat a n →
      (∀ (c : CoreId) (off : Nat), a = coreBase c.val + off → off < 0x100000 → (core s c.val).halted = true →
        ∃ t, exec (.hostWindowRead o n errs) s = .next t ∧ t.mem = s.mem ∧ t.outs = s.outs
          ∧ (core t c.val).hostWaits = (core s c.val).hostWaits ++ [.read o.toNat n]))
    ∧ (∀ (o : BitVec 32) (n a : Nat) (errs : List MemErr) (u : State), windowed s o.toNat a n → inDdr s (a / 256 * 256) 1 →
      u = meetErrs s errs a n →
      (flagAt s a ≠ 2 → (checkAt u a none).1 = .good → ∃ t, exec (.hostWindowRead o n errs) s = .next t
        ∧ t.outs.read = ldN u a n ∧ t.outs.readEp = false ∧ t.mem = u.mem ∧ t.tags = u.tags ∧ hubRegsKept u t []
        ∧ t.coreRegs = u.coreRegs)
      ∧ (flagAt s a ≠ 2 → bitAt (tagAt u a) 56 = true → ∃ t, exec (.hostWindowRead o n errs) s = .next t
        ∧ t.outs.read = ldN u a n ∧ t.outs.readEp = true
        ∧ rd t R.hostPoisonRead = w64 (satAdd 32 (rd u R.hostPoisonRead).toNat 1) ∧ t.mem = u.mem ∧ t.tags = u.tags)
      ∧ (errs = [⟨a, true⟩] → (∀ x, x / 4 ≠ a / 4 → ldB u x = ldB s x) ∧ bitAt (tagAt u a) 56 = true ∧ rdF u R.errLogInfo 0 8 = 0
        ∧ rd u (R.ddrUe (ddrChannel a)) = w64 (satAdd 32 (rd s (R.ddrUe (ddrChannel a))).toNat 1))
      ∧ (errs = [⟨a, false⟩] → u.mem = s.mem ∧ u.tags = s.tags
        ∧ rd u (R.ddrCe (ddrChannel a)) = w64 (satAdd 32 (rd s (R.ddrCe (ddrChannel a))).toNat 1))
      ∧ (flagAt s a = 2 → ∃ t, exec (.hostWindowRead o n errs) s = .next t ∧ t.outs.read = List.replicate n 0xFF
        ∧ t.outs.readEp = false ∧ rdB t R.ownAlarm 0 = true ∧ t.mem = s.mem ∧ t.tags = s.tags))
    ∧ (∀ (o : BitVec 32) (n a : Nat) (bad : Bool), windowed s o.toNat a n → a % 8 = 0 → regionOf s a = .hubDual →
      flagAt s a ≠ 2 → a < 0x001001F80000 → ∃ t, exec (.hostWindowRead o n [⟨a, bad⟩]) s = .next t ∧ t.outs.read = ldN t a n
        ∧ t.outs.readEp = bad ∧ rd t R.hostPoisonRead = rd s R.hostPoisonRead ∧ rdB t R.memAlarm 2 = (bad || rdB s R.memAlarm 2)
        ∧ (∀ x, (x < a ∨ a + 8 ≤ x) → ldB t x = ldB s x) ∧ (bad = false → t.mem = s.mem) ∧ t.tags = s.tags)
    ∧ (∀ (o : BitVec 32) (n : Nat) (errs : List MemErr), slotMaps (slotOf s o.toNat) = false → o.toNat % 256 + n ≤ 256 →
      ∃ t, exec (.hostWindowRead o n errs) s = .next t ∧ t.outs.read = List.replicate n 0xFF ∧ t.outs.readEp = false
        ∧ t.mem = s.mem ∧ t.coreRegs = s.coreRegs ∧ hubRegsKept s t [])
    ∧ (∀ (o : BitVec 32) (data : List Byte) (a : Nat), slotVerified (slotOf s o.toNat) = true → data.length = 256 →
      a = slotAddress (slotOf s o.toNat) o.toNat → inDdr s a 1 → o.toNat % 0x10000000 + 256 ≤ tagArea → flagAt s a < 2 →
      ∃ t, exec (.verifiedWrite o data) s = .next t ∧ (∀ k, k < 256 → ldB t (a + k) = data.getD k 0)
        ∧ (∀ x, (x < a ∨ a + 256 ≤ x) → ldB t x = ldB s x) ∧ (∀ x, x / 256 ≠ a / 256 → tagAt t x = tagAt s x)
        ∧ t.coreRegs = s.coreRegs
        ∧ (bitAt (tagAt s a) 56 = false → crc32c data = fld (tagAt s a) 0 32 → fld (tagAt s a) 40 16 = a / 256 % 65536 →
          tagAt t a = setBit (clrBit (tagAt s a) 59) 58 ∧ hubRegsKept s t [])
        ∧ (bitAt (tagAt s a) 56 = true ∨ crc32c data ≠ fld (tagAt s a) 0 32 ∨ fld (tagAt s a) 40 16 ≠ a / 256 % 65536 →
          tagAt t a = setBit (clrBit (tagAt s a) 59) 56 ∧ rd t R.verifyFail = w64 (satAdd 32 (rd s R.verifyFail).toNat 1)
            ∧ rdB t R.memAlarm 3 = true))
    ∧ (∀ (a : BitVec 64) (data : List Byte) (ok : Bool), data.length = 256 →
      ∃ t, exec (.hostMemoryCompletion a data ok) s = .next t
        ∧ (t.hostRd.find? fun b => b.addr = a.toNat) = some ⟨a.toNat, data, !ok⟩
        ∧ (∀ x, x ≠ a.toNat → (t.hostRd.find? fun b => b.addr = x) = s.hostRd.find? fun b => b.addr = x)
        ∧ t.mem = s.mem ∧ t.regs = s.regs ∧ t.coreRegs = s.coreRegs)
    ∧ (∀ (x : MgmtXfer) (ptr : BitVec 16) (b : Byte), mgmtAnswers s x = true → 0x1000 ≤ ptr.toNat → ptr.toNat < 0x5000 →
      ∃ t, exec (.mgmtPortWrite x ptr [b]) s = .next t
        ∧ (∀ a, x = .i3c a → alertLow t = false ∧ inBand t = if rdB s (R.mbStatus 7) 2 then some 0x07 else none)
        ∧ (∀ a, x = .smbus a → inBand t = none ∧ alertLow t = rdB s (R.mbStatus 7) 2)
        ∧ ldB t (ringBase 7 false + (ptr.toNat - 0x1000)) = b
        ∧ (∀ a, a ≠ ringBase 7 false + (ptr.toNat - 0x1000) → ldB t a = ldB s a) ∧ t.mbox.mgmtPtr = ptr.toNat + 1
        ∧ t.regs = s.regs ∧ t.coreRegs = s.coreRegs)
    ∧ (∀ (x : MgmtXfer) (ptr : BitVec 16) (data : List Byte) (n : Nat), mgmtAnswers s x = false → (∀ d, x ≠ .setdasa 0x5A d) →
      exec (.mgmtPortWrite x ptr data) s = .next s ∧ exec (.mgmtPortRead x n) s = .next s)
    ∧ (∀ (d : BitVec 7) (ptr : BitVec 16) (data : List Byte), ∃ t, exec (.mgmtPortWrite (.setdasa 0x5A d) ptr data) s = .next t
      ∧ t.mem = s.mem ∧ t.regs = s.regs ∧ ∀ a, (mgmtAnswers t (.i3c a) = true ↔ a = d))
    ∧ (∀ (x : MgmtXfer) (data : List Byte) (n : Nat), mgmtAnswers s x = true → data.length = 8 → n = leNat data % 65536 → rdB s (R.mbStatus 7) 0 = true →
      idxSub n (cmdCi s 7) ≤ 256 → idxSub (cmdPi s 7) (cmdCi s 7) ≤ idxSub n (cmdCi s 7) →
      ∃ t, exec (.mgmtPortWrite x 0 data) s = .next t ∧ rd t (R.mbCmdPi 7) = w64 n ∧ t.mbox.mgmtPtr = 8
        ∧ hubRegsKept s t [R.mbCmdPi 7] ∧ t.mem = s.mem)
    ∧ (∀ (x : MgmtXfer) (n p : Nat), mgmtAnswers s x = true → p = s.mbox.mgmtPtr →
      (0x1000 ≤ p → p + n ≤ 0x5000 → ∃ t, exec (.mgmtPortRead x n) s = .next t
        ∧ t.mbox.mgmtRead = ldN s (ringBase 7 false + (p - 0x1000)) n ∧ t.mbox.mgmtPtr = p + n ∧ t.mem = s.mem
        ∧ t.regs = s.regs ∧ t.coreRegs = s.coreRegs)
      ∧ (0x5000 ≤ p → p + n ≤ 0x9000 → ∃ t, exec (.mgmtPortRead x n) s = .next t
        ∧ t.mbox.mgmtRead = ldN s (ringBase 7 true + (p - 0x5000)) n ∧ t.mbox.mgmtPtr = p + n ∧ t.mem = s.mem
        ∧ t.regs = s.regs)
      ∧ (p < 0x40 → p % 8 = 0 → n = 8 → ∃ t, exec (.mgmtPortRead x n) s = .next t
        ∧ t.mbox.mgmtRead = leBytes 8 (hubPeek s (0x1700 + p)).toNat ∧ t.mbox.mgmtPtr = p + 8 ∧ t.mem = s.mem
        ∧ t.regs = s.regs))

/-! ### Power, memories and resets -/

/-- R425, R426, R428 to R432, R434, R459: the power manager. An epoch sets the islands of running jobs, and its cap is the
highest code that its budget allows, within 16 to 80, where nothing holds it lower; readings set the conditions and alarms
of R432, the hottest resets the package; islands fall asleep and wake; a regulator's fault is latched. -/
def Obligations.PowerManager : Prop :=
  ∀ (s : State), live s = true →
    (∀ (mw u : Nat) (cores : List Nat) (v : State) (loads : List (Nat × DieLoad)) (over_ : Bool) (budget : Int),
      v = setIslands s cores → loads = [0, 1, 2, 3].map (fun d => (d, dieLoad v d)) →
      u = max (mw - toMw s.power.modelled) (rdF s R.pwrUncoreMin 0 32) →
      over_ = decide (rdF s R.pwrLimit 0 7 * 1000 * ((mw :: s.power.epochs).take 100).length
        < ((mw :: s.power.epochs).take 100).sum) →
      budget = ((rdF s R.pwrLimit 0 7 * 1000 * mW : Nat) : Int) - (u * mW : Nat) - (reservation v (l0Cores v) : Nat) →
      ∃ t, exec (.powerEpoch mw cores) s = .next t ∧ 16 ≤ rdF t R.pwrCap 0 7 ∧ rdF t R.pwrCap 0 7 ≤ 80
        ∧ (∀ j n, j < 64 → jobState s j = 3 → n ∈ coresOf s j → island t n = if cores.contains n then 0 else 1)
        ∧ (∀ n, n < 1024 → (∀ j, j < 64 → jobState s j = 3 → n ∉ coresOf s j) → island t n = island s n)
        ∧ (over_ = false → s.power.warm = false → s.power.crit = false →
          (16 < rdF t R.pwrCap 0 7 → (epochCost v loads (rdF t R.pwrCap 0 7) : Int) ≤ budget)
          ∧ ∀ c, rdF t R.pwrCap 0 7 < c → c ≤ 80 → budget < epochCost v loads c)
        ∧ (s.power.crit = true → rdF t R.pwrCap 0 7 = 16) ∧ (over_ = true → rdB t R.pwrAlarm 0 = true)
        ∧ rd t R.pwrUncore = w64 (u % 2 ^ 32) ∧ t.power.vreg = [] ∧ t.mem = s.mem
        ∧ (∀ n r, n < 1024 → r < 0x8000 → r ≠ R.coreStatus → cr t n r = cr s n r))
    ∧ (∀ (temps : List Int) (h warn : Int) (k : Nat), temps.length = 64 → hottest temps 0 = (h, k) →
      warn = (tMax - (rdF s R.thermWarnOffset 0 4 : Nat)) * 16 →
      temps.getD k 0 = h ∧ (∀ x ∈ temps, x ≤ h)
      ∧ ((tMax + 10) * 16 ≤ h → ∃ t, exec (.thermalSample temps) s = .next t ∧ t.chip.phase = .coldHeld
        ∧ t.power.hot = true ∧ resetRecorded s t 0 0xF 1)
      ∧ (h < (tMax + 10) * 16 → ∃ t, exec (.thermalSample temps) s = .next t ∧ t.chip.temps = temps
        ∧ rd t R.thermStatus = w64 (ux 16 h + k * 2 ^ 16) ∧ t.chip.phase = .running ∧ t.mem = s.mem
        ∧ t.coreRegs = s.coreRegs
        ∧ (warn ≤ h → t.power.warm = true ∧ rdB t R.pwrAlarm 1 = true) ∧ (h ≤ warn - 32 → t.power.warm = false)
        ∧ (tMax * 16 ≤ h → t.power.crit = true ∧ rdB t R.pwrAlarm 2 = true) ∧ (h < warn → t.power.crit = false)))
    ∧ (∀ die : Fin 4, ∃ t, exec (.vregFault die) s = .next t ∧ rdB t R.pwrAlarm 6 = true
      ∧ t.power.vreg.contains die.val = true ∧ hubRegsKept s t [R.pwrAlarm] ∧ t.mem = s.mem ∧ t.coreRegs = s.coreRegs)
    ∧ (∀ n : CoreId,
      (island s n.val < 2 → inJob s n.val = false → ∃ t, exec (.islandNap n) s = .next t ∧ island t n.val = 3
        ∧ coreRegsKept s t n.val [R.coreStatus] ∧ t.mem = s.mem ∧ hubRegsKept s t [])
      ∧ (island s n.val < 2 → inJob s n.val = true →
        (∀ j, j < 64 → n.val ∈ coresOf s j → jobState s j ≠ 3 ∧ jobState s j ≠ 5 ∧ jobState s j ≠ 8) →
        ∃ t, exec (.islandNap n) s = .next t ∧ island t n.val = 2 ∧ coreRegsKept s t n.val [R.coreStatus] ∧ t.mem = s.mem
          ∧ hubRegsKept s t [])
      ∧ (∀ merged, 2 ≤ island s n.val → ∃ t, exec (.islandWake n merged) s = .next t ∧ island t n.val = 1
        ∧ coreRegsKept s t n.val [R.coreStatus, R.corePulseOvr] ∧ (merged = true → crB t n.val R.corePulseOvr 1 = true)
        ∧ (∀ a, (a < coreBase n.val ∨ coreBase n.val + 0x78000 ≤ a) → ldB t a = ldB s a)
        ∧ (island s n.val = 2 ∨ inJob s n.val = true → t.mem = s.mem))
      ∧ (∀ merged, island s n.val < 2 → exec (.islandWake n merged) s = .next s))

/-- R34, R313, R314, R324, R328, R330, R331, R433: scrubbing. A beat in a tag counts on the channel of the tag's address.
Patrol moves on through the data region and counts what it finds; an uncorrectable block is poisoned; a pass that its period leaves unfinished sets the alarm; the scrub of a core's memory
counts what it corrects and loses the word it cannot; a pause of a DDR5 channel changes nothing. -/
def Obligations.Scrubbing : Prop :=
  ∀ (s : State), live s = true →
    (∀ (ecc : Ecc) (inTag : Bool) (a : Nat), s.power.patrolDone = false → a = rdF s R.patrolStatus 0 48 → inDdr s a 1 →
      (a + 256 < (rd s R.ddrDataEnd).toNat → ∃ t, exec (.patrolScrubRead ecc inTag) s = .next t
        ∧ rdF t R.patrolStatus 0 48 = a + 256 ∧ rdF t R.patrolStatus 48 16 = rdF s R.patrolStatus 48 16
        ∧ (ecc ≠ .uncorrectable ∨ inTag = true → t.mem = s.mem) ∧ t.coreRegs = s.coreRegs
        ∧ (∀ x, (x < a ∨ a + 256 ≤ x) → ldB t x = ldB s x)
        ∧ (ecc = .clean → t.tags = s.tags ∧ hubRegsKept s t [R.patrolStatus])
        ∧ (ecc = .corrected → t.tags = s.tags ∧ hubRegsKept s t [R.patrolStatus, R.ddrCe (beatChannel s a inTag)]
          ∧ rd t (R.ddrCe (beatChannel s a inTag)) = w64 (satAdd 32 (rd s (R.ddrCe (beatChannel s a inTag))).toNat 1))
        ∧ (ecc = .uncorrectable → bitAt (tagAt t a) 56 = true ∧ rdB t R.memAlarm 0 = true
          ∧ rd t (R.ddrUe (beatChannel s a inTag)) = w64 (satAdd 32 (rd s (R.ddrUe (beatChannel s a inTag))).toNat 1)
          ∧ (inTag = true → tagAt t a = setBit 0 56) ∧ ∀ x, x / 256 ≠ a / 256 → tagAt t x = tagAt s x))
      ∧ ((rd s R.ddrDataEnd).toNat = a + 256 → ∃ t, exec (.patrolScrubRead ecc inTag) s = .next t
        ∧ t.power.patrolDone = true ∧ rdF t R.patrolStatus 0 48 = 0
        ∧ rdF t R.patrolStatus 48 16 = (rdF s R.patrolStatus 48 16 + 1) % 65536))
    ∧ (∀ (ecc : Ecc) (inTag : Bool), s.power.patrolDone = true → nowNs s < s.power.patrolFrom + patrolPeriod s →
      exec (.patrolScrubRead ecc inTag) s = .next s)
    ∧ (s.power.patrolDone = false → rd s R.ddrDataEnd ≠ 0 → s.power.patrolFrom + patrolPeriod s ≤ nowNs s →
      ∃ t, exec .patrolLate s = .next t ∧ rdB t R.memAlarm 4 = true
        ∧ t.power.patrolFrom = s.power.patrolFrom + patrolPeriod s ∧ hubRegsKept s t [R.memAlarm] ∧ t.mem = s.mem)
    ∧ (nowNs s < s.power.patrolFrom + patrolPeriod s → exec .patrolLate s = .next s)
    ∧ (∀ (n : CoreId) (off : Nat) (raced : Bool), off % 8 = 0 → off < 0x78000 → (core s n.val).halted = false →
      (core s n.val).testing = false → island s n.val < 2 →
      exec (.sramScrubRead (coreBase n.val + off) .clean raced) s = .next s
      ∧ (∃ t, exec (.sramScrubRead (coreBase n.val + off) .corrected raced) s = .next t
        ∧ rd t (R.sramCe (dieOf n.val)) = w64 (satAdd 32 (rd s (R.sramCe (dieOf n.val))).toNat 1)
        ∧ hubRegsKept s t [R.sramCe (dieOf n.val)] ∧ t.mem = s.mem ∧ t.coreRegs = s.coreRegs)
      ∧ (assigned s n.val = false → ∃ t, exec (.sramScrubRead (coreBase n.val + off) .uncorrectable raced) s = .next t
        ∧ rd t (R.sramUe (dieOf n.val)) = w64 (satAdd 32 (rd s (R.sramUe (dieOf n.val))).toNat 1)
        ∧ rdB t R.memAlarm 1 = true ∧ (∀ a, (a < coreBase n.val + off ∨ coreBase n.val + off + 8 ≤ a) → ldB t a = ldB s a)
        ∧ t.coreRegs = s.coreRegs ∧ t.faults = s.faults))
    ∧ ∀ (ch : Fin 4) (zq : Bool), exec (.ddrCalibration ch zq) s = .next s

/-- R309, R421 to R425, R462: P-STANDBY and the clock. The entry latches the pads, holds them, and puts the islands to
sleep; an enabled source wakes the package, device time goes on by the ticks that passed, and the record names the lowest
source; the reference clock's stop and return change nothing else. -/
def Obligations.StandbyAndClock : Prop :=
  ∀ (s : State),
    (live s = true → s.chip.standbyAsked = true → ∃ t, exec .standbyEntry s = .next t ∧ t.chip.phase = .standby
      ∧ t.chip.standbyAsked = false ∧ t.chip.padGpio = BitVec.ofNat 16 (rdF s R.gpioOut 0 16) ∧ rdB t R.pwrState 3 = true
      ∧ rd t R.standbyEntries = w64 (satAdd 32 (rd s R.standbyEntries).toNat 1) ∧ t.mem = s.mem
      ∧ ∀ n, n < 1024 → island t n = if island s n < 2 then (if inJob s n then 2 else 3) else island s n)
    ∧ (s.chip.standbyAsked = false → exec .standbyEntry s = .next s)
    ∧ (∀ (mask : BitVec 8) (gpio : Fin 16) (ticks m : Nat), s.chip.phase = .standby → s.chip.refclk = true →
      m = wakeMask s mask gpio (nowNs s + 1000 * ticks) →
      (m = 0 → exec (.standbyWake mask gpio ticks) s = .next s)
      ∧ (m ≠ 0 → ∃ t, exec (.standbyWake mask gpio ticks) s = .next t ∧ t.chip.phase = .running
        ∧ t.time = s.time + 1000 * ticks * 2 ^ 32 ∧ rd t R.wakeTime = w64 (nowNs t) ∧ rdF t R.wakeSource 16 8 = m
        ∧ (∀ k, k < 8 → m / 2 ^ k % 2 = 1 → (∀ i, i < k → m / 2 ^ i % 2 = 0) → rdF t R.wakeSource 0 8 = k + 1)
        ∧ t.mem = s.mem ∧ t.coreRegs = s.coreRegs))
    ∧ exec .refclkLoss s = .next { s with chip := { s.chip with refclk := false } }
    ∧ exec .refclkReturn s = .next { s with chip := { s.chip with refclk := true } }

/-- R277, R282, R415 to R417, R432, R436 to R438, R454 to R458, R461: the resets. A cold reset loses all but fuses, flash, pins and
the always-on record; a warm one keeps device time, tags and memory below bank 61; a hot or function-level one resets the
host interface and the converters' counters, and jobs run on; the loss of VDD_AON loses the record too. Leaving EXTEST or CLAMP is a cold reset. -/
def Obligations.Resets : Prop :=
  ∀ (s : State),
    (∀ (cause : ColdCause) (supply bits : Nat), s.chip.phase ≠ .off → s.chip.phase ≠ .coldHeld →
      ((∃ rail : Fin 16, cause = .supply rail ∧ rail.val ≤ 10 ∧ supply = rail.val ∧ bits = 0)
        ∨ (cause = .thermal ∧ supply = 0xF ∧ bits = 1)
        ∨ (cause = .jtag ∧ tapDrives s = true ∧ supply = 0xF ∧ bits = 4)) →
      ∃ t, exec (.coldReset cause) s = .next t ∧ t.chip.phase = .coldHeld ∧ resetRecorded s t 0 supply bits
        ∧ t.mem = [] ∧ t.tags = [] ∧ t.time = 0 ∧ t.coreRegs = [] ∧ t.jobs = [] ∧ t.breaths = []
        ∧ (∀ o, alwaysOn o = false → o ≠ R.msixPba → rd t o = hubReset o)
        ∧ t.boot.fuses = s.boot.fuses ∧ t.flash = s.flash ∧ t.pending = s.pending)
    ∧ ((s.chip.phase = .off → ∃ t, exec (.coldReset .powerOn) s = .next t ∧ t.chip.phase = .coldHeld
        ∧ rd t R.resetCause = w64 (0xF * 16 + 2 * 256))
      ∧ (s.chip.phase ≠ .off → exec (.coldReset .powerOn) s = .next s))
    ∧ (s.chip.perst = false → s.chip.phase ≠ .coldHeld → s.chip.phase ≠ .off → s.chip.refclk = true →
      ∃ t, exec .warmReset s = .next t ∧ t.chip.phase = .warmHeld ∧ t.chip.perst = true ∧ resetRecorded s t 1 0xF 0
        ∧ t.time = s.time ∧ t.tags = s.tags ∧ noted s t true
        ∧ (∀ a, a < 0x001001E80000 → (a < journalBase + s.mbox.journalSeq % 4096 * 32
            ∨ journalBase + s.mbox.journalSeq % 4096 * 32 + 32 ≤ a) → ldB t a = ldB s a)
        ∧ (∀ a, 0x001001E80000 ≤ a → ldB t a = 0) ∧ t.coreRegs = [] ∧ t.jobs = [] ∧ t.breaths = []
        ∧ (∀ o, alwaysOn o = false → o ≠ R.pwrState → o ≠ R.msixPba → rd t o = hubReset o)
        ∧ t.boot.fuses = s.boot.fuses ∧ t.flash = s.flash ∧ t.pending = s.pending)
    ∧ (s.chip.perst = true → exec .warmReset s = .next s)
    ∧ (∀ flr : Bool, live s = true → s.chip.perst = false → s.mbox.runs = [] →
      ∃ t, exec (.hotReset flr) s = .next t ∧ resetRecorded s t (if flr then 3 else 2) 0xF 0 ∧ noted s t true
        ∧ t.chip.phase = .running ∧ t.time = s.time ∧ (∀ m, m < 8 → rdB t (R.mbStatus m) 0 = true)
        ∧ (∀ o, hostReg o = true ∨ convCounterReg o = true → (∀ m, m < 8 → o ≠ R.mbStatus m) → o ≠ R.msixPba →
          rd t o = hubReset o)
        ∧ t.mbox.kept = [] ∧ t.tim = {} ∧ t.hostRd = [] ∧ t.coreRegs = s.coreRegs ∧ t.tags = s.tags ∧ t.jobs = s.jobs
        ∧ (∀ j, j < 64 → jobState t j = jobState s j ∧ brthState t j = brthState s j)
        ∧ bytesKept s t 0x001001F00000 0x80000)
    ∧ (∀ ir : TapIr, s.chip.phase ≠ .off →
      (tapDrives s = false → ∃ t, exec (.jtagInstruction ir) s = .next t ∧ t.chip.tapIr = ir
        ∧ (ir = .idcode → t.chip.tapDr = 0x24C10173) ∧ t.chip.phase = s.chip.phase ∧ t.mem = s.mem ∧ t.regs = s.regs
        ∧ t.coreRegs = s.coreRegs)
      ∧ (tapDrives s = true → ir ≠ s.chip.tapIr → s.chip.phase ≠ .coldHeld → ∃ t, exec (.jtagInstruction ir) s = .next t
        ∧ t.chip.tapIr = ir ∧ t.chip.phase = .coldHeld ∧ resetRecorded s t 0 0xF 4 ∧ t.mem = []))
    ∧ (∃ t, exec .vddAonLoss s = .next t ∧ t.chip.phase = .off ∧ t.time = 0 ∧ t.mem = [] ∧ t.regs = [] ∧ t.coreRegs = []
      ∧ t.boot.fuses = s.boot.fuses ∧ t.flash = s.flash ∧ t.chip.tapIr = .logicReset)

/-! ### Boot -/

/-- R220, R360, R436, R437, R444, R445: the release of a reset boots the slot that the boot pointer names, else the other
one, else recovery, which serves mailboxes 0 and 7 alone; a link whose training fails is DOWN. R446: Chanter blows fuses, the
lowest whole ones, until the counter equals the running firmware's `SVN`, and makes a journal entry; a counter that is not
lower stays. -/
def Obligations.BootAndFuses : Prop :=
  (∀ (c : Instr) (s v : State) (k : Nat) (down : List LinkId), s.chip.refclk = true → k = namedSlot s →
    ((c = .coldResetRelease down ∧ s.chip.phase = .coldHeld ∧ s.power.hot = false ∧ v = s)
      ∨ (c = .perstDeassertion down ∧ s.chip.phase = .warmHeld ∧ s.chip.perst = true
        ∧ v = { s with chip := { s.chip with perst := false } })) →
    (∀ b, verifySlot s b = .good → (b = k ∨ (b = 1 - k ∧ verifySlot s k ≠ .good)) →
      ∃ t, exec c s = .next t ∧ t.chip.phase = .running ∧ t.chip.perst = v.chip.perst ∧ t.boot.slot = b
        ∧ t.boot.fallback = decide (b ≠ k) ∧ t.boot.svn = fwSvn s b ∧ t.boot.version = fwVersion s b
        ∧ t.boot.meas = fwMeasure s b ∧ t.boot.fuses = s.boot.fuses ∧ (∀ m, m < 8 → rdB t (R.mbStatus m) 0 = true)
        ∧ (down = [] → t.mem = s.mem) ∧ t.tags = s.tags ∧ t.time = s.time
        ∧ ∀ l ∈ down, linkExists l = true → stateOf t l = 3)
    ∧ (verifySlot s k ≠ .good → verifySlot s (1 - k) ≠ .good →
      ∃ t, exec c s = .next t ∧ t.chip.phase = .recovery ∧ rdB t (R.mbStatus 0) 0 = true ∧ rdB t (R.mbStatus 7) 0 = true
        ∧ (∀ m, 0 < m → m < 7 → rd t (R.mbStatus m) = rd s (R.mbStatus m)) ∧ t.mem = s.mem
        ∧ t.boot.fuses = s.boot.fuses ∧ ∀ l ∈ down, linkExists l = true → stateOf t l = 3))
  ∧ (∀ (s : State), live s = true →
    (rollback s < s.boot.svn → s.boot.svn ≤ 64 → ∃ t, exec .rollbackFuseBlow s = .next t ∧ rollback t = s.boot.svn
      ∧ (∀ i k, i < 64 → k < i → t.boot.fuses.getLsbD i = true → s.boot.fuses.getLsbD i = false →
        t.boot.fuses.getLsbD k = true)
      ∧ t.boot.svn = s.boot.svn ∧ noted s t true ∧ bytesKept s t 0 0 ∧ t.flash = s.flash ∧ t.coreRegs = s.coreRegs)
    ∧ (s.boot.svn ≤ rollback s → exec .rollbackFuseBlow s = .next s))

/-- R443, R444, R446: no step lets firmware run that is older than the rollback counter. -/
def Obligations.NoRollback : Prop :=
  ∀ s t : State, notRolledBack s → step s = .next t → notRolledBack t

/-! ### Values that the spec gives -/

/-- R12, R147: the neuro die of every core, and the test vectors of the counter hash with their intermediate words. -/
def Obligations.DiesAndHashVectors : Prop :=
  (∀ x y, x < 32 → y < 32 → dieOf (y * 32 + x) = 2 * (y / 16) + x / 16)
    ∧ hashMix 0x7A50C35D = 0xC01D56B0 ∧ hashMix 0xC01D56B0 = 0x5C280BF8 ∧ hash32 0 0 0 0 0 0 = 0xB4B34AF4
    ∧ hashMix (0x2A ^^^ 0x03000000 ^^^ 0x7A50C35D) = 0xE91CB4A1 ∧ hashMix (0xE91CB4A1 ^^^ 1002) = 0xCE5C13B0
    ∧ hash32 0x2A 1002 0 293 700 3 = 0x795ED16D

/-- R289, R320, R350: the machine right after reset. Device time is 0 and `TIME_INCR` is 0.625 ns; a block of hub SRAM
reads as zeros and passes its check; the granules of banks 58 to 61 and 63 are DEVICE and every other one FREE; nothing
waits. Nothing has been rolled back. Memory is in its canonical form. The fixed flags of bank 62 are FREE. -/
def Obligations.ResetState : Prop :=
  State.reset.pending = [] ∧ nowNs State.reset = 0 ∧ rd State.reset R.timeIncr = 0xA0000000
    ∧ State.reset.chip.phase = .coldHeld ∧ Memory.wf State.reset.mem = true ∧ notRolledBack State.reset
    ∧ (∀ o, rd State.reset o = hubReset o) ∧ (∀ j, j < 64 → jobState State.reset j = 0)
    ∧ (∀ a, hubSram ≤ a → a < 0x001001D00000 → ldB State.reset a = 0
      ∧ tagAt State.reset a = mkTag zeroCrc 0 (a / 256) false false false true ∧ (checkAt State.reset a none).1 = .good)
    ∧ ∀ b, b < 64 → ∀ i, i < 8 →
      flagOf State.reset (1047552 + 8 * b + i) = if (58 ≤ b ∧ b ≤ 61) ∨ b = 63 then 2 else 0

/-! ### Neuron programs -/

/-- R118, R121, R125: neuron instructions. One whose predicate is false leaves the lane as it is, and costs its cycles;
MUL, MAC and MSU reduce both sources to 16 bits before the exact product; SRSHR rounds by its hash word, and with shift 0
writes its source. -/
def Obligations.NeuronInstructions : Prop :=
  ∀ (g : GroupCtx) (xin : Int) (l : Lane) (pc w d sh : Nat) (a b : Int) (half : Bool),
    d = w / 2 ^ 19 % 32 → a = readReg g l (w / 2 ^ 14 % 32) → b = readReg g l (w / 2 ^ 9 % 32) → sh = w / 8 % 32 →
    half = decide (w / 2 ^ 8 % 2 = 1) →
    ((w / 2 ^ 24 % 4 = 1 ∧ l.f = false ∨ w / 2 ^ 24 % 4 = 2 ∧ l.f = true) → laneInstr g xin l pc w = l)
    ∧ (∀ graded w', w / 2 ^ 26 % 64 = w' / 2 ^ 26 % 64 → instrCost graded w = instrCost graded w')
    ∧ ((w / 2 ^ 24 % 4 = 0 ∨ (w / 2 ^ 24 % 4 = 1 ∧ l.f = true) ∨ (w / 2 ^ 24 % 4 = 2 ∧ l.f = false)) →
      (w / 2 ^ 26 % 64 = 0x0D → d < 12 → laneInstr g xin l pc w =
        { l with r := l.r.set d (sat (rs half (sat a 16 * sat b 16) sh) 16)
                 arithSat := l.arithSat + b2n (satHit (rs half (sat a 16 * sat b 16) sh) 16) })
      ∧ (w / 2 ^ 26 % 64 = 0x0E → d = 13 → laneInstr g xin l pc w =
        { l with r := l.r.set 13 (sat (l.r.getD 13 0 + rs half (sat a 16 * sat b 16) sh) 32)
                 arithSat := l.arithSat + b2n (satHit (l.r.getD 13 0 + rs half (sat a 16 * sat b 16) sh) 32) })
      ∧ (w / 2 ^ 26 % 64 = 0x0F → d = 13 → laneInstr g xin l pc w =
        { l with r := l.r.set 13 (sat (l.r.getD 13 0 - rs half (sat a 16 * sat b 16) sh) 32)
                 arithSat := l.arithSat + b2n (satHit (l.r.getD 13 0 - rs half (sat a 16 * sat b 16) sh) 32) })
      ∧ (∀ x : Int, w / 2 ^ 26 % 64 = 0x16 → d < 12 →
        x = (if sh = 0 then a else (a + (neHash g l (w / 2 ^ 9 % 32) % 2 ^ sh : Nat)) / (2 ^ sh : Nat)) →
        laneInstr g xin l pc w =
          { l with r := l.r.set d (sat x 16), arithSat := l.arithSat + b2n (satHit x 16) }))
end

