-- ==== Sys2Proof/Laws/Sparse.lean ====
section
/-! SUPPORT. The sparse table: a read after a write, and the canonical form that every write keeps. -/
namespace Sys2Proof.Machine

variable {α : Type}

theorem Sparse.get_ins (d : Nat → α) (k k' : Nat) (v : α) :
    ∀ m : Sparse α, (∀ e ∈ m, e.1 ≠ k) →
      Sparse.get d (Sparse.ins k v m) k' = if k' = k then v else Sparse.get d m k'
  | [], _ => by by_cases h : k' = k <;> simp [Sparse.ins, Sparse.get, h, Ne.symm]
  | (a, w) :: r, hne => by
    have ha : a ≠ k := hne (a, w) (by simp)
    have ih := Sparse.get_ins d k k' v r fun e he => hne e (List.mem_cons_of_mem _ he)
    by_cases hlt : k < a
    · by_cases h : k' = k <;> simp [Sparse.ins, Sparse.get, hlt, h, eq_comm (a := k)]
    · by_cases hk : a = k'
      · subst hk
        simp [Sparse.ins, Sparse.get, hlt, ha]
      · simp [Sparse.ins, Sparse.get, hlt, hk, ih]

theorem Sparse.get_del (d : Nat → α) (k k' : Nat) :
    ∀ m : Sparse α, Sparse.get d (Sparse.del m k) k' = if k' = k then d k' else Sparse.get d m k'
  | [] => by simp [Sparse.del, Sparse.get]
  | (a, w) :: r => by
    have ih := Sparse.get_del d k k' r
    rw [Sparse.del] at ih ⊢
    by_cases ha : a = k
    · subst ha
      by_cases h : k' = a
      · simpa [h] using ih
      · simpa [Sparse.get, h, Ne.symm h] using ih
    · by_cases h : k' = k
      · subst h
        simpa [Sparse.get, ha] using ih
      · simp only [List.filter_cons, bne_iff_ne, ne_eq, ha, not_false_eq_true, ↓reduceIte, Sparse.get, ih, h]

/-- A read after a write: the value written at its key, and what stood there at any other. -/
theorem Sparse.get_set [DecidableEq α] (d : Nat → α) (m : Sparse α) (k k' : Nat) (v : α) :
    Sparse.get d (Sparse.set d m k v) k' = if k' = k then v else Sparse.get d m k' := by
  unfold Sparse.set
  split
  · rename_i hv
    rw [Sparse.get_del]
    split <;> simp_all
  · rw [Sparse.get_ins, Sparse.get_del]
    · split <;> rfl
    · intro e he
      simpa [Sparse.del] using (List.mem_filter.1 he).2

theorem Sparse.get_clear (d : Nat → α) (p : Nat → Bool) (k : Nat) :
    ∀ m : Sparse α, Sparse.get d (Sparse.clear m p) k = if p k then d k else Sparse.get d m k
  | [] => by simp [Sparse.clear, Sparse.get]
  | (a, w) :: r => by
    have ih := Sparse.get_clear d p k r
    rw [Sparse.clear] at ih ⊢
    by_cases ha : p a
    · by_cases h : a = k
      · subst h
        simpa [ha] using ih
      · simpa [ha, Sparse.get, h] using ih
    · by_cases h : a = k
      · subst h
        simp [ha, Sparse.get]
      · simpa [ha, Sparse.get, h] using ih

/-! ### Canonical form -/

section
variable [DecidableEq α] (d : Nat → α)

theorem Sparse.wf_iff (m : Sparse α) :
    Sparse.wf d m = true ↔ m.Pairwise (fun a b => a.1 < b.1) ∧ ∀ e ∈ m, e.2 ≠ d e.1 := by
  induction m with
  | nil => simp [Sparse.wf]
  | cons e r ih =>
    obtain ⟨k, v⟩ := e
    cases r with
    | nil => simp [Sparse.wf]
    | cons e' r' =>
      obtain ⟨k', v'⟩ := e'
      simp only [Sparse.wf, Bool.and_eq_true, decide_eq_true_eq, ih]
      constructor
      · rintro ⟨⟨hv, hk⟩, hp, he⟩
        refine ⟨List.pairwise_cons.2 ⟨?_, hp⟩, ?_⟩
        · intro x hx
          rcases List.mem_cons.1 hx with rfl | hx
          · exact hk
          · exact Nat.lt_trans hk ((List.pairwise_cons.1 hp).1 x hx)
        · intro x hx
          rcases List.mem_cons.1 hx with rfl | hx
          · exact hv
          · exact he x hx
      · rintro ⟨hp, he⟩
        have hp' := List.pairwise_cons.1 hp
        exact ⟨⟨he (k, v) (by simp), hp'.1 (k', v') (by simp)⟩, hp'.2, fun x hx => he x (List.mem_cons_of_mem _ hx)⟩

omit [DecidableEq α] in
theorem Sparse.mem_ins (k : Nat) (v : α) :
    ∀ (m : Sparse α) (e : Nat × α), e ∈ Sparse.ins k v m ↔ e = (k, v) ∨ e ∈ m
  | [], e => by simp [Sparse.ins]
  | (a, w) :: r, e => by
    unfold Sparse.ins
    split
    · simp
    · simp only [List.mem_cons, Sparse.mem_ins k v r e]
      tauto

omit [DecidableEq α] in
theorem Sparse.pairwise_ins (k : Nat) (v : α) :
    ∀ m : Sparse α, m.Pairwise (fun a b => a.1 < b.1) → (∀ e ∈ m, e.1 ≠ k) →
      (Sparse.ins k v m).Pairwise (fun a b => a.1 < b.1)
  | [], _, _ => by simp [Sparse.ins]
  | (a, w) :: r, hp, hne => by
    have hp' := List.pairwise_cons.1 hp
    unfold Sparse.ins
    split
    · rename_i hlt
      refine List.pairwise_cons.2 ⟨fun x hx => ?_, hp⟩
      rcases List.mem_cons.1 hx with rfl | hx
      · exact hlt
      · exact Nat.lt_trans hlt (hp'.1 x hx)
    · rename_i hlt
      refine List.pairwise_cons.2 ⟨fun x hx => ?_, Sparse.pairwise_ins k v r hp'.2 fun e he => hne e (by simp [he])⟩
      rcases (Sparse.mem_ins k v r x).1 hx with rfl | hx
      · exact Nat.lt_of_le_of_ne (Nat.le_of_not_lt hlt) (hne (a, w) (by simp))
      · exact hp'.1 x hx

theorem Sparse.wf_filter (m : Sparse α) (p : Nat × α → Bool) (h : Sparse.wf d m = true) :
    Sparse.wf d (m.filter p) = true := by
  rw [Sparse.wf_iff] at h ⊢
  exact ⟨h.1.sublist List.filter_sublist, fun e he => h.2 e (List.mem_filter.1 he).1⟩

/-- A write keeps the canonical form. -/
theorem Sparse.wf_set (m : Sparse α) (k : Nat) (v : α) (h : Sparse.wf d m = true) :
    Sparse.wf d (Sparse.set d m k v) = true := by
  have hd : Sparse.wf d (Sparse.del m k) = true := Sparse.wf_filter d m _ h
  unfold Sparse.set
  split
  · exact hd
  · rename_i hv
    have hne : ∀ e ∈ Sparse.del m k, e.1 ≠ k := fun e he => by simpa [Sparse.del] using (List.mem_filter.1 he).2
    rw [Sparse.wf_iff] at hd ⊢
    refine ⟨Sparse.pairwise_ins k v _ hd.1 hne, fun e he => ?_⟩
    rcases (Sparse.mem_ins k v _ e).1 he with rfl | he
    · exact hv
    · exact hd.2 e he

theorem Sparse.wf_clear (m : Sparse α) (p : Nat → Bool) (h : Sparse.wf d m = true) :
    Sparse.wf d (Sparse.clear m p) = true := Sparse.wf_filter d m _ h

end

end Sys2Proof.Machine
end

