-- ==== Sys2Proof/Laws/State.lean ====
section
/-! SUPPORT. What each named update of the state leaves alone: one lemma for each field. -/
namespace Sys2Proof.Machine

variable (s : State)

/-! ### `wr` -/
section
variable (o : Nat) (v : W64)
@[simp] theorem wr_pending : (wr s o v).pending = s.pending := rfl
@[simp] theorem wr_coreRegs : (wr s o v).coreRegs = s.coreRegs := rfl
@[simp] theorem wr_mem : (wr s o v).mem = s.mem := rfl
@[simp] theorem wr_tags : (wr s o v).tags = s.tags := rfl
@[simp] theorem wr_time : (wr s o v).time = s.time := rfl
@[simp] theorem wr_free : (wr s o v).free = s.free := rfl
@[simp] theorem wr_chip : (wr s o v).chip = s.chip := rfl
@[simp] theorem wr_mbox : (wr s o v).mbox = s.mbox := rfl
@[simp] theorem wr_outs : (wr s o v).outs = s.outs := rfl
@[simp] theorem wr_hostRd : (wr s o v).hostRd = s.hostRd := rfl
@[simp] theorem wr_breaths : (wr s o v).breaths = s.breaths := rfl
@[simp] theorem wr_jobs : (wr s o v).jobs = s.jobs := rfl
@[simp] theorem wr_faults : (wr s o v).faults = s.faults := rfl
@[simp] theorem wr_tim : (wr s o v).tim = s.tim := rfl
@[simp] theorem wr_cores : (wr s o v).cores = s.cores := rfl
@[simp] theorem wr_mesh : (wr s o v).mesh = s.mesh := rfl
@[simp] theorem wr_conv : (wr s o v).conv = s.conv := rfl
@[simp] theorem wr_boot : (wr s o v).boot = s.boot := rfl
@[simp] theorem wr_power : (wr s o v).power = s.power := rfl
@[simp] theorem wr_flash : (wr s o v).flash = s.flash := rfl
@[simp] theorem wr_erased : (wr s o v).erased = s.erased := rfl
end

/-! ### `wrF` -/
section
variable (o lo n v : Nat)
@[simp] theorem wrF_pending : (wrF s o lo n v).pending = s.pending := rfl
@[simp] theorem wrF_coreRegs : (wrF s o lo n v).coreRegs = s.coreRegs := rfl
@[simp] theorem wrF_mem : (wrF s o lo n v).mem = s.mem := rfl
@[simp] theorem wrF_tags : (wrF s o lo n v).tags = s.tags := rfl
@[simp] theorem wrF_time : (wrF s o lo n v).time = s.time := rfl
@[simp] theorem wrF_free : (wrF s o lo n v).free = s.free := rfl
@[simp] theorem wrF_chip : (wrF s o lo n v).chip = s.chip := rfl
@[simp] theorem wrF_mbox : (wrF s o lo n v).mbox = s.mbox := rfl
@[simp] theorem wrF_outs : (wrF s o lo n v).outs = s.outs := rfl
@[simp] theorem wrF_hostRd : (wrF s o lo n v).hostRd = s.hostRd := rfl
@[simp] theorem wrF_breaths : (wrF s o lo n v).breaths = s.breaths := rfl
@[simp] theorem wrF_jobs : (wrF s o lo n v).jobs = s.jobs := rfl
@[simp] theorem wrF_faults : (wrF s o lo n v).faults = s.faults := rfl
@[simp] theorem wrF_tim : (wrF s o lo n v).tim = s.tim := rfl
@[simp] theorem wrF_cores : (wrF s o lo n v).cores = s.cores := rfl
@[simp] theorem wrF_mesh : (wrF s o lo n v).mesh = s.mesh := rfl
@[simp] theorem wrF_conv : (wrF s o lo n v).conv = s.conv := rfl
@[simp] theorem wrF_boot : (wrF s o lo n v).boot = s.boot := rfl
@[simp] theorem wrF_power : (wrF s o lo n v).power = s.power := rfl
@[simp] theorem wrF_flash : (wrF s o lo n v).flash = s.flash := rfl
@[simp] theorem wrF_erased : (wrF s o lo n v).erased = s.erased := rfl
end

/-! ### `setB` -/
section
variable (o i : Nat)
@[simp] theorem setB_pending : (setB s o i).pending = s.pending := rfl
@[simp] theorem setB_coreRegs : (setB s o i).coreRegs = s.coreRegs := rfl
@[simp] theorem setB_mem : (setB s o i).mem = s.mem := rfl
@[simp] theorem setB_tags : (setB s o i).tags = s.tags := rfl
@[simp] theorem setB_time : (setB s o i).time = s.time := rfl
@[simp] theorem setB_free : (setB s o i).free = s.free := rfl
@[simp] theorem setB_chip : (setB s o i).chip = s.chip := rfl
@[simp] theorem setB_mbox : (setB s o i).mbox = s.mbox := rfl
@[simp] theorem setB_outs : (setB s o i).outs = s.outs := rfl
@[simp] theorem setB_hostRd : (setB s o i).hostRd = s.hostRd := rfl
@[simp] theorem setB_breaths : (setB s o i).breaths = s.breaths := rfl
@[simp] theorem setB_jobs : (setB s o i).jobs = s.jobs := rfl
@[simp] theorem setB_faults : (setB s o i).faults = s.faults := rfl
@[simp] theorem setB_tim : (setB s o i).tim = s.tim := rfl
@[simp] theorem setB_cores : (setB s o i).cores = s.cores := rfl
@[simp] theorem setB_mesh : (setB s o i).mesh = s.mesh := rfl
@[simp] theorem setB_conv : (setB s o i).conv = s.conv := rfl
@[simp] theorem setB_boot : (setB s o i).boot = s.boot := rfl
@[simp] theorem setB_power : (setB s o i).power = s.power := rfl
@[simp] theorem setB_flash : (setB s o i).flash = s.flash := rfl
@[simp] theorem setB_erased : (setB s o i).erased = s.erased := rfl
end

/-! ### `clrB` -/
section
variable (o i : Nat)
@[simp] theorem clrB_pending : (clrB s o i).pending = s.pending := rfl
@[simp] theorem clrB_coreRegs : (clrB s o i).coreRegs = s.coreRegs := rfl
@[simp] theorem clrB_mem : (clrB s o i).mem = s.mem := rfl
@[simp] theorem clrB_tags : (clrB s o i).tags = s.tags := rfl
@[simp] theorem clrB_time : (clrB s o i).time = s.time := rfl
@[simp] theorem clrB_free : (clrB s o i).free = s.free := rfl
@[simp] theorem clrB_chip : (clrB s o i).chip = s.chip := rfl
@[simp] theorem clrB_mbox : (clrB s o i).mbox = s.mbox := rfl
@[simp] theorem clrB_outs : (clrB s o i).outs = s.outs := rfl
@[simp] theorem clrB_hostRd : (clrB s o i).hostRd = s.hostRd := rfl
@[simp] theorem clrB_breaths : (clrB s o i).breaths = s.breaths := rfl
@[simp] theorem clrB_jobs : (clrB s o i).jobs = s.jobs := rfl
@[simp] theorem clrB_faults : (clrB s o i).faults = s.faults := rfl
@[simp] theorem clrB_tim : (clrB s o i).tim = s.tim := rfl
@[simp] theorem clrB_cores : (clrB s o i).cores = s.cores := rfl
@[simp] theorem clrB_mesh : (clrB s o i).mesh = s.mesh := rfl
@[simp] theorem clrB_conv : (clrB s o i).conv = s.conv := rfl
@[simp] theorem clrB_boot : (clrB s o i).boot = s.boot := rfl
@[simp] theorem clrB_power : (clrB s o i).power = s.power := rfl
@[simp] theorem clrB_flash : (clrB s o i).flash = s.flash := rfl
@[simp] theorem clrB_erased : (clrB s o i).erased = s.erased := rfl
end

/-! ### `bump` -/
section
variable (o n : Nat)
@[simp] theorem bump_pending : (bump s o n).pending = s.pending := rfl
@[simp] theorem bump_coreRegs : (bump s o n).coreRegs = s.coreRegs := rfl
@[simp] theorem bump_mem : (bump s o n).mem = s.mem := rfl
@[simp] theorem bump_tags : (bump s o n).tags = s.tags := rfl
@[simp] theorem bump_time : (bump s o n).time = s.time := rfl
@[simp] theorem bump_free : (bump s o n).free = s.free := rfl
@[simp] theorem bump_chip : (bump s o n).chip = s.chip := rfl
@[simp] theorem bump_mbox : (bump s o n).mbox = s.mbox := rfl
@[simp] theorem bump_outs : (bump s o n).outs = s.outs := rfl
@[simp] theorem bump_hostRd : (bump s o n).hostRd = s.hostRd := rfl
@[simp] theorem bump_breaths : (bump s o n).breaths = s.breaths := rfl
@[simp] theorem bump_jobs : (bump s o n).jobs = s.jobs := rfl
@[simp] theorem bump_faults : (bump s o n).faults = s.faults := rfl
@[simp] theorem bump_tim : (bump s o n).tim = s.tim := rfl
@[simp] theorem bump_cores : (bump s o n).cores = s.cores := rfl
@[simp] theorem bump_mesh : (bump s o n).mesh = s.mesh := rfl
@[simp] theorem bump_conv : (bump s o n).conv = s.conv := rfl
@[simp] theorem bump_boot : (bump s o n).boot = s.boot := rfl
@[simp] theorem bump_power : (bump s o n).power = s.power := rfl
@[simp] theorem bump_flash : (bump s o n).flash = s.flash := rfl
@[simp] theorem bump_erased : (bump s o n).erased = s.erased := rfl
end

/-! ### `cw` -/
section
variable (n r : Nat) (v : W64)
@[simp] theorem cw_pending : (cw s n r v).pending = s.pending := rfl
@[simp] theorem cw_regs : (cw s n r v).regs = s.regs := rfl
@[simp] theorem cw_mem : (cw s n r v).mem = s.mem := rfl
@[simp] theorem cw_tags : (cw s n r v).tags = s.tags := rfl
@[simp] theorem cw_time : (cw s n r v).time = s.time := rfl
@[simp] theorem cw_free : (cw s n r v).free = s.free := rfl
@[simp] theorem cw_chip : (cw s n r v).chip = s.chip := rfl
@[simp] theorem cw_mbox : (cw s n r v).mbox = s.mbox := rfl
@[simp] theorem cw_outs : (cw s n r v).outs = s.outs := rfl
@[simp] theorem cw_hostRd : (cw s n r v).hostRd = s.hostRd := rfl
@[simp] theorem cw_breaths : (cw s n r v).breaths = s.breaths := rfl
@[simp] theorem cw_jobs : (cw s n r v).jobs = s.jobs := rfl
@[simp] theorem cw_faults : (cw s n r v).faults = s.faults := rfl
@[simp] theorem cw_tim : (cw s n r v).tim = s.tim := rfl
@[simp] theorem cw_cores : (cw s n r v).cores = s.cores := rfl
@[simp] theorem cw_mesh : (cw s n r v).mesh = s.mesh := rfl
@[simp] theorem cw_conv : (cw s n r v).conv = s.conv := rfl
@[simp] theorem cw_boot : (cw s n r v).boot = s.boot := rfl
@[simp] theorem cw_power : (cw s n r v).power = s.power := rfl
@[simp] theorem cw_flash : (cw s n r v).flash = s.flash := rfl
@[simp] theorem cw_erased : (cw s n r v).erased = s.erased := rfl
end

/-! ### `cwF` -/
section
variable (n r lo w v : Nat)
@[simp] theorem cwF_pending : (cwF s n r lo w v).pending = s.pending := rfl
@[simp] theorem cwF_regs : (cwF s n r lo w v).regs = s.regs := rfl
@[simp] theorem cwF_mem : (cwF s n r lo w v).mem = s.mem := rfl
@[simp] theorem cwF_tags : (cwF s n r lo w v).tags = s.tags := rfl
@[simp] theorem cwF_time : (cwF s n r lo w v).time = s.time := rfl
@[simp] theorem cwF_free : (cwF s n r lo w v).free = s.free := rfl
@[simp] theorem cwF_chip : (cwF s n r lo w v).chip = s.chip := rfl
@[simp] theorem cwF_mbox : (cwF s n r lo w v).mbox = s.mbox := rfl
@[simp] theorem cwF_outs : (cwF s n r lo w v).outs = s.outs := rfl
@[simp] theorem cwF_hostRd : (cwF s n r lo w v).hostRd = s.hostRd := rfl
@[simp] theorem cwF_breaths : (cwF s n r lo w v).breaths = s.breaths := rfl
@[simp] theorem cwF_jobs : (cwF s n r lo w v).jobs = s.jobs := rfl
@[simp] theorem cwF_faults : (cwF s n r lo w v).faults = s.faults := rfl
@[simp] theorem cwF_tim : (cwF s n r lo w v).tim = s.tim := rfl
@[simp] theorem cwF_cores : (cwF s n r lo w v).cores = s.cores := rfl
@[simp] theorem cwF_mesh : (cwF s n r lo w v).mesh = s.mesh := rfl
@[simp] theorem cwF_conv : (cwF s n r lo w v).conv = s.conv := rfl
@[simp] theorem cwF_boot : (cwF s n r lo w v).boot = s.boot := rfl
@[simp] theorem cwF_power : (cwF s n r lo w v).power = s.power := rfl
@[simp] theorem cwF_flash : (cwF s n r lo w v).flash = s.flash := rfl
@[simp] theorem cwF_erased : (cwF s n r lo w v).erased = s.erased := rfl
end

/-! ### `cwB` -/
section
variable (n r i : Nat) (b : Bool)
@[simp] theorem cwB_pending : (cwB s n r i b).pending = s.pending := rfl
@[simp] theorem cwB_regs : (cwB s n r i b).regs = s.regs := rfl
@[simp] theorem cwB_mem : (cwB s n r i b).mem = s.mem := rfl
@[simp] theorem cwB_tags : (cwB s n r i b).tags = s.tags := rfl
@[simp] theorem cwB_time : (cwB s n r i b).time = s.time := rfl
@[simp] theorem cwB_free : (cwB s n r i b).free = s.free := rfl
@[simp] theorem cwB_chip : (cwB s n r i b).chip = s.chip := rfl
@[simp] theorem cwB_mbox : (cwB s n r i b).mbox = s.mbox := rfl
@[simp] theorem cwB_outs : (cwB s n r i b).outs = s.outs := rfl
@[simp] theorem cwB_hostRd : (cwB s n r i b).hostRd = s.hostRd := rfl
@[simp] theorem cwB_breaths : (cwB s n r i b).breaths = s.breaths := rfl
@[simp] theorem cwB_jobs : (cwB s n r i b).jobs = s.jobs := rfl
@[simp] theorem cwB_faults : (cwB s n r i b).faults = s.faults := rfl
@[simp] theorem cwB_tim : (cwB s n r i b).tim = s.tim := rfl
@[simp] theorem cwB_cores : (cwB s n r i b).cores = s.cores := rfl
@[simp] theorem cwB_mesh : (cwB s n r i b).mesh = s.mesh := rfl
@[simp] theorem cwB_conv : (cwB s n r i b).conv = s.conv := rfl
@[simp] theorem cwB_boot : (cwB s n r i b).boot = s.boot := rfl
@[simp] theorem cwB_power : (cwB s n r i b).power = s.power := rfl
@[simp] theorem cwB_flash : (cwB s n r i b).flash = s.flash := rfl
@[simp] theorem cwB_erased : (cwB s n r i b).erased = s.erased := rfl
end

/-! ### `cbump` -/
section
variable (n r k : Nat)
@[simp] theorem cbump_pending : (cbump s n r k).pending = s.pending := rfl
@[simp] theorem cbump_regs : (cbump s n r k).regs = s.regs := rfl
@[simp] theorem cbump_mem : (cbump s n r k).mem = s.mem := rfl
@[simp] theorem cbump_tags : (cbump s n r k).tags = s.tags := rfl
@[simp] theorem cbump_time : (cbump s n r k).time = s.time := rfl
@[simp] theorem cbump_free : (cbump s n r k).free = s.free := rfl
@[simp] theorem cbump_chip : (cbump s n r k).chip = s.chip := rfl
@[simp] theorem cbump_mbox : (cbump s n r k).mbox = s.mbox := rfl
@[simp] theorem cbump_outs : (cbump s n r k).outs = s.outs := rfl
@[simp] theorem cbump_hostRd : (cbump s n r k).hostRd = s.hostRd := rfl
@[simp] theorem cbump_breaths : (cbump s n r k).breaths = s.breaths := rfl
@[simp] theorem cbump_jobs : (cbump s n r k).jobs = s.jobs := rfl
@[simp] theorem cbump_faults : (cbump s n r k).faults = s.faults := rfl
@[simp] theorem cbump_tim : (cbump s n r k).tim = s.tim := rfl
@[simp] theorem cbump_cores : (cbump s n r k).cores = s.cores := rfl
@[simp] theorem cbump_mesh : (cbump s n r k).mesh = s.mesh := rfl
@[simp] theorem cbump_conv : (cbump s n r k).conv = s.conv := rfl
@[simp] theorem cbump_boot : (cbump s n r k).boot = s.boot := rfl
@[simp] theorem cbump_power : (cbump s n r k).power = s.power := rfl
@[simp] theorem cbump_flash : (cbump s n r k).flash = s.flash := rfl
@[simp] theorem cbump_erased : (cbump s n r k).erased = s.erased := rfl
end

/-! ### `stB` -/
section
variable (a : Nat) (b : Byte)
@[simp] theorem stB_pending : (stB s a b).pending = s.pending := rfl
@[simp] theorem stB_regs : (stB s a b).regs = s.regs := rfl
@[simp] theorem stB_coreRegs : (stB s a b).coreRegs = s.coreRegs := rfl
@[simp] theorem stB_tags : (stB s a b).tags = s.tags := rfl
@[simp] theorem stB_time : (stB s a b).time = s.time := rfl
@[simp] theorem stB_free : (stB s a b).free = s.free := rfl
@[simp] theorem stB_chip : (stB s a b).chip = s.chip := rfl
@[simp] theorem stB_mbox : (stB s a b).mbox = s.mbox := rfl
@[simp] theorem stB_outs : (stB s a b).outs = s.outs := rfl
@[simp] theorem stB_hostRd : (stB s a b).hostRd = s.hostRd := rfl
@[simp] theorem stB_breaths : (stB s a b).breaths = s.breaths := rfl
@[simp] theorem stB_jobs : (stB s a b).jobs = s.jobs := rfl
@[simp] theorem stB_faults : (stB s a b).faults = s.faults := rfl
@[simp] theorem stB_tim : (stB s a b).tim = s.tim := rfl
@[simp] theorem stB_cores : (stB s a b).cores = s.cores := rfl
@[simp] theorem stB_mesh : (stB s a b).mesh = s.mesh := rfl
@[simp] theorem stB_conv : (stB s a b).conv = s.conv := rfl
@[simp] theorem stB_boot : (stB s a b).boot = s.boot := rfl
@[simp] theorem stB_power : (stB s a b).power = s.power := rfl
@[simp] theorem stB_flash : (stB s a b).flash = s.flash := rfl
@[simp] theorem stB_erased : (stB s a b).erased = s.erased := rfl
end

/-! ### `setTag` -/
section
variable (a : Nat) (t : W64)
@[simp] theorem setTag_pending : (setTag s a t).pending = s.pending := rfl
@[simp] theorem setTag_regs : (setTag s a t).regs = s.regs := rfl
@[simp] theorem setTag_coreRegs : (setTag s a t).coreRegs = s.coreRegs := rfl
@[simp] theorem setTag_mem : (setTag s a t).mem = s.mem := rfl
@[simp] theorem setTag_time : (setTag s a t).time = s.time := rfl
@[simp] theorem setTag_free : (setTag s a t).free = s.free := rfl
@[simp] theorem setTag_chip : (setTag s a t).chip = s.chip := rfl
@[simp] theorem setTag_mbox : (setTag s a t).mbox = s.mbox := rfl
@[simp] theorem setTag_outs : (setTag s a t).outs = s.outs := rfl
@[simp] theorem setTag_hostRd : (setTag s a t).hostRd = s.hostRd := rfl
@[simp] theorem setTag_breaths : (setTag s a t).breaths = s.breaths := rfl
@[simp] theorem setTag_jobs : (setTag s a t).jobs = s.jobs := rfl
@[simp] theorem setTag_faults : (setTag s a t).faults = s.faults := rfl
@[simp] theorem setTag_tim : (setTag s a t).tim = s.tim := rfl
@[simp] theorem setTag_cores : (setTag s a t).cores = s.cores := rfl
@[simp] theorem setTag_mesh : (setTag s a t).mesh = s.mesh := rfl
@[simp] theorem setTag_conv : (setTag s a t).conv = s.conv := rfl
@[simp] theorem setTag_boot : (setTag s a t).boot = s.boot := rfl
@[simp] theorem setTag_power : (setTag s a t).power = s.power := rfl
@[simp] theorem setTag_flash : (setTag s a t).flash = s.flash := rfl
@[simp] theorem setTag_erased : (setTag s a t).erased = s.erased := rfl
end

/-! ### `setCore` -/
section
variable (n : Nat) (c : Core)
@[simp] theorem setCore_pending : (setCore s n c).pending = s.pending := rfl
@[simp] theorem setCore_regs : (setCore s n c).regs = s.regs := rfl
@[simp] theorem setCore_coreRegs : (setCore s n c).coreRegs = s.coreRegs := rfl
@[simp] theorem setCore_mem : (setCore s n c).mem = s.mem := rfl
@[simp] theorem setCore_tags : (setCore s n c).tags = s.tags := rfl
@[simp] theorem setCore_time : (setCore s n c).time = s.time := rfl
@[simp] theorem setCore_free : (setCore s n c).free = s.free := rfl
@[simp] theorem setCore_chip : (setCore s n c).chip = s.chip := rfl
@[simp] theorem setCore_mbox : (setCore s n c).mbox = s.mbox := rfl
@[simp] theorem setCore_outs : (setCore s n c).outs = s.outs := rfl
@[simp] theorem setCore_hostRd : (setCore s n c).hostRd = s.hostRd := rfl
@[simp] theorem setCore_breaths : (setCore s n c).breaths = s.breaths := rfl
@[simp] theorem setCore_jobs : (setCore s n c).jobs = s.jobs := rfl
@[simp] theorem setCore_faults : (setCore s n c).faults = s.faults := rfl
@[simp] theorem setCore_tim : (setCore s n c).tim = s.tim := rfl
@[simp] theorem setCore_mesh : (setCore s n c).mesh = s.mesh := rfl
@[simp] theorem setCore_conv : (setCore s n c).conv = s.conv := rfl
@[simp] theorem setCore_boot : (setCore s n c).boot = s.boot := rfl
@[simp] theorem setCore_power : (setCore s n c).power = s.power := rfl
@[simp] theorem setCore_flash : (setCore s n c).flash = s.flash := rfl
@[simp] theorem setCore_erased : (setCore s n c).erased = s.erased := rfl
end

/-! ### `upCore` -/
section
variable (n : Nat) (f : Core → Core)
@[simp] theorem upCore_pending : (upCore s n f).pending = s.pending := rfl
@[simp] theorem upCore_regs : (upCore s n f).regs = s.regs := rfl
@[simp] theorem upCore_coreRegs : (upCore s n f).coreRegs = s.coreRegs := rfl
@[simp] theorem upCore_mem : (upCore s n f).mem = s.mem := rfl
@[simp] theorem upCore_tags : (upCore s n f).tags = s.tags := rfl
@[simp] theorem upCore_time : (upCore s n f).time = s.time := rfl
@[simp] theorem upCore_free : (upCore s n f).free = s.free := rfl
@[simp] theorem upCore_chip : (upCore s n f).chip = s.chip := rfl
@[simp] theorem upCore_mbox : (upCore s n f).mbox = s.mbox := rfl
@[simp] theorem upCore_outs : (upCore s n f).outs = s.outs := rfl
@[simp] theorem upCore_hostRd : (upCore s n f).hostRd = s.hostRd := rfl
@[simp] theorem upCore_breaths : (upCore s n f).breaths = s.breaths := rfl
@[simp] theorem upCore_jobs : (upCore s n f).jobs = s.jobs := rfl
@[simp] theorem upCore_faults : (upCore s n f).faults = s.faults := rfl
@[simp] theorem upCore_tim : (upCore s n f).tim = s.tim := rfl
@[simp] theorem upCore_mesh : (upCore s n f).mesh = s.mesh := rfl
@[simp] theorem upCore_conv : (upCore s n f).conv = s.conv := rfl
@[simp] theorem upCore_boot : (upCore s n f).boot = s.boot := rfl
@[simp] theorem upCore_power : (upCore s n f).power = s.power := rfl
@[simp] theorem upCore_flash : (upCore s n f).flash = s.flash := rfl
@[simp] theorem upCore_erased : (upCore s n f).erased = s.erased := rfl
end

/-! ### `setBrth` -/
section
variable (j : Nat) (b : Breath)
@[simp] theorem setBrth_pending : (setBrth s j b).pending = s.pending := rfl
@[simp] theorem setBrth_regs : (setBrth s j b).regs = s.regs := rfl
@[simp] theorem setBrth_coreRegs : (setBrth s j b).coreRegs = s.coreRegs := rfl
@[simp] theorem setBrth_mem : (setBrth s j b).mem = s.mem := rfl
@[simp] theorem setBrth_tags : (setBrth s j b).tags = s.tags := rfl
@[simp] theorem setBrth_time : (setBrth s j b).time = s.time := rfl
@[simp] theorem setBrth_free : (setBrth s j b).free = s.free := rfl
@[simp] theorem setBrth_chip : (setBrth s j b).chip = s.chip := rfl
@[simp] theorem setBrth_mbox : (setBrth s j b).mbox = s.mbox := rfl
@[simp] theorem setBrth_outs : (setBrth s j b).outs = s.outs := rfl
@[simp] theorem setBrth_hostRd : (setBrth s j b).hostRd = s.hostRd := rfl
@[simp] theorem setBrth_jobs : (setBrth s j b).jobs = s.jobs := rfl
@[simp] theorem setBrth_faults : (setBrth s j b).faults = s.faults := rfl
@[simp] theorem setBrth_tim : (setBrth s j b).tim = s.tim := rfl
@[simp] theorem setBrth_cores : (setBrth s j b).cores = s.cores := rfl
@[simp] theorem setBrth_mesh : (setBrth s j b).mesh = s.mesh := rfl
@[simp] theorem setBrth_conv : (setBrth s j b).conv = s.conv := rfl
@[simp] theorem setBrth_boot : (setBrth s j b).boot = s.boot := rfl
@[simp] theorem setBrth_power : (setBrth s j b).power = s.power := rfl
@[simp] theorem setBrth_flash : (setBrth s j b).flash = s.flash := rfl
@[simp] theorem setBrth_erased : (setBrth s j b).erased = s.erased := rfl
end

/-! ### `setJob` -/
section
variable (j : Nat) (b : Job)
@[simp] theorem setJob_pending : (setJob s j b).pending = s.pending := rfl
@[simp] theorem setJob_regs : (setJob s j b).regs = s.regs := rfl
@[simp] theorem setJob_coreRegs : (setJob s j b).coreRegs = s.coreRegs := rfl
@[simp] theorem setJob_mem : (setJob s j b).mem = s.mem := rfl
@[simp] theorem setJob_tags : (setJob s j b).tags = s.tags := rfl
@[simp] theorem setJob_time : (setJob s j b).time = s.time := rfl
@[simp] theorem setJob_free : (setJob s j b).free = s.free := rfl
@[simp] theorem setJob_chip : (setJob s j b).chip = s.chip := rfl
@[simp] theorem setJob_mbox : (setJob s j b).mbox = s.mbox := rfl
@[simp] theorem setJob_outs : (setJob s j b).outs = s.outs := rfl
@[simp] theorem setJob_hostRd : (setJob s j b).hostRd = s.hostRd := rfl
@[simp] theorem setJob_breaths : (setJob s j b).breaths = s.breaths := rfl
@[simp] theorem setJob_faults : (setJob s j b).faults = s.faults := rfl
@[simp] theorem setJob_tim : (setJob s j b).tim = s.tim := rfl
@[simp] theorem setJob_cores : (setJob s j b).cores = s.cores := rfl
@[simp] theorem setJob_mesh : (setJob s j b).mesh = s.mesh := rfl
@[simp] theorem setJob_conv : (setJob s j b).conv = s.conv := rfl
@[simp] theorem setJob_boot : (setJob s j b).boot = s.boot := rfl
@[simp] theorem setJob_power : (setJob s j b).power = s.power := rfl
@[simp] theorem setJob_flash : (setJob s j b).flash = s.flash := rfl
@[simp] theorem setJob_erased : (setJob s j b).erased = s.erased := rfl
end

/-! ### `stN`, `stU`, `stZ` -/
/-- A store of bytes changes memory only. -/
theorem stN_frame : ∀ (l : List Byte) (s : State) (a : Nat), stN s a l = { s with mem := (stN s a l).mem }
  | [], _, _ => rfl
  | b :: r, s, a => by
    have h := stN_frame r (stB s a b) (a + 1)
    simp only [stN]
    rw [h]
    rfl

@[simp] theorem stN_pending (a : Nat) (l : List Byte) : (stN s a l).pending = s.pending := by rw [stN_frame]
@[simp] theorem stU_pending (a n v : Nat) : (stU s a n v).pending = s.pending := stN_pending s a _
@[simp] theorem stZ_pending (a n : Nat) : (stZ s a n).pending = s.pending := stN_pending s a _
@[simp] theorem stN_regs (a : Nat) (l : List Byte) : (stN s a l).regs = s.regs := by rw [stN_frame]
@[simp] theorem stU_regs (a n v : Nat) : (stU s a n v).regs = s.regs := stN_regs s a _
@[simp] theorem stZ_regs (a n : Nat) : (stZ s a n).regs = s.regs := stN_regs s a _
@[simp] theorem stN_coreRegs (a : Nat) (l : List Byte) : (stN s a l).coreRegs = s.coreRegs := by rw [stN_frame]
@[simp] theorem stU_coreRegs (a n v : Nat) : (stU s a n v).coreRegs = s.coreRegs := stN_coreRegs s a _
@[simp] theorem stZ_coreRegs (a n : Nat) : (stZ s a n).coreRegs = s.coreRegs := stN_coreRegs s a _
@[simp] theorem stN_tags (a : Nat) (l : List Byte) : (stN s a l).tags = s.tags := by rw [stN_frame]
@[simp] theorem stU_tags (a n v : Nat) : (stU s a n v).tags = s.tags := stN_tags s a _
@[simp] theorem stZ_tags (a n : Nat) : (stZ s a n).tags = s.tags := stN_tags s a _
@[simp] theorem stN_time (a : Nat) (l : List Byte) : (stN s a l).time = s.time := by rw [stN_frame]
@[simp] theorem stU_time (a n v : Nat) : (stU s a n v).time = s.time := stN_time s a _
@[simp] theorem stZ_time (a n : Nat) : (stZ s a n).time = s.time := stN_time s a _
@[simp] theorem stN_free (a : Nat) (l : List Byte) : (stN s a l).free = s.free := by rw [stN_frame]
@[simp] theorem stU_free (a n v : Nat) : (stU s a n v).free = s.free := stN_free s a _
@[simp] theorem stZ_free (a n : Nat) : (stZ s a n).free = s.free := stN_free s a _
@[simp] theorem stN_chip (a : Nat) (l : List Byte) : (stN s a l).chip = s.chip := by rw [stN_frame]
@[simp] theorem stU_chip (a n v : Nat) : (stU s a n v).chip = s.chip := stN_chip s a _
@[simp] theorem stZ_chip (a n : Nat) : (stZ s a n).chip = s.chip := stN_chip s a _
@[simp] theorem stN_mbox (a : Nat) (l : List Byte) : (stN s a l).mbox = s.mbox := by rw [stN_frame]
@[simp] theorem stU_mbox (a n v : Nat) : (stU s a n v).mbox = s.mbox := stN_mbox s a _
@[simp] theorem stZ_mbox (a n : Nat) : (stZ s a n).mbox = s.mbox := stN_mbox s a _
@[simp] theorem stN_outs (a : Nat) (l : List Byte) : (stN s a l).outs = s.outs := by rw [stN_frame]
@[simp] theorem stU_outs (a n v : Nat) : (stU s a n v).outs = s.outs := stN_outs s a _
@[simp] theorem stZ_outs (a n : Nat) : (stZ s a n).outs = s.outs := stN_outs s a _
@[simp] theorem stN_hostRd (a : Nat) (l : List Byte) : (stN s a l).hostRd = s.hostRd := by rw [stN_frame]
@[simp] theorem stU_hostRd (a n v : Nat) : (stU s a n v).hostRd = s.hostRd := stN_hostRd s a _
@[simp] theorem stZ_hostRd (a n : Nat) : (stZ s a n).hostRd = s.hostRd := stN_hostRd s a _
@[simp] theorem stN_breaths (a : Nat) (l : List Byte) : (stN s a l).breaths = s.breaths := by rw [stN_frame]
@[simp] theorem stU_breaths (a n v : Nat) : (stU s a n v).breaths = s.breaths := stN_breaths s a _
@[simp] theorem stZ_breaths (a n : Nat) : (stZ s a n).breaths = s.breaths := stN_breaths s a _
@[simp] theorem stN_jobs (a : Nat) (l : List Byte) : (stN s a l).jobs = s.jobs := by rw [stN_frame]
@[simp] theorem stU_jobs (a n v : Nat) : (stU s a n v).jobs = s.jobs := stN_jobs s a _
@[simp] theorem stZ_jobs (a n : Nat) : (stZ s a n).jobs = s.jobs := stN_jobs s a _
@[simp] theorem stN_faults (a : Nat) (l : List Byte) : (stN s a l).faults = s.faults := by rw [stN_frame]
@[simp] theorem stU_faults (a n v : Nat) : (stU s a n v).faults = s.faults := stN_faults s a _
@[simp] theorem stZ_faults (a n : Nat) : (stZ s a n).faults = s.faults := stN_faults s a _
@[simp] theorem stN_tim (a : Nat) (l : List Byte) : (stN s a l).tim = s.tim := by rw [stN_frame]
@[simp] theorem stU_tim (a n v : Nat) : (stU s a n v).tim = s.tim := stN_tim s a _
@[simp] theorem stZ_tim (a n : Nat) : (stZ s a n).tim = s.tim := stN_tim s a _
@[simp] theorem stN_cores (a : Nat) (l : List Byte) : (stN s a l).cores = s.cores := by rw [stN_frame]
@[simp] theorem stU_cores (a n v : Nat) : (stU s a n v).cores = s.cores := stN_cores s a _
@[simp] theorem stZ_cores (a n : Nat) : (stZ s a n).cores = s.cores := stN_cores s a _
@[simp] theorem stN_mesh (a : Nat) (l : List Byte) : (stN s a l).mesh = s.mesh := by rw [stN_frame]
@[simp] theorem stU_mesh (a n v : Nat) : (stU s a n v).mesh = s.mesh := stN_mesh s a _
@[simp] theorem stZ_mesh (a n : Nat) : (stZ s a n).mesh = s.mesh := stN_mesh s a _
@[simp] theorem stN_conv (a : Nat) (l : List Byte) : (stN s a l).conv = s.conv := by rw [stN_frame]
@[simp] theorem stU_conv (a n v : Nat) : (stU s a n v).conv = s.conv := stN_conv s a _
@[simp] theorem stZ_conv (a n : Nat) : (stZ s a n).conv = s.conv := stN_conv s a _
@[simp] theorem stN_boot (a : Nat) (l : List Byte) : (stN s a l).boot = s.boot := by rw [stN_frame]
@[simp] theorem stU_boot (a n v : Nat) : (stU s a n v).boot = s.boot := stN_boot s a _
@[simp] theorem stZ_boot (a n : Nat) : (stZ s a n).boot = s.boot := stN_boot s a _
@[simp] theorem stN_power (a : Nat) (l : List Byte) : (stN s a l).power = s.power := by rw [stN_frame]
@[simp] theorem stU_power (a n v : Nat) : (stU s a n v).power = s.power := stN_power s a _
@[simp] theorem stZ_power (a n : Nat) : (stZ s a n).power = s.power := stN_power s a _
@[simp] theorem stN_flash (a : Nat) (l : List Byte) : (stN s a l).flash = s.flash := by rw [stN_frame]
@[simp] theorem stU_flash (a n v : Nat) : (stU s a n v).flash = s.flash := stN_flash s a _
@[simp] theorem stZ_flash (a n : Nat) : (stZ s a n).flash = s.flash := stN_flash s a _
@[simp] theorem stN_erased (a : Nat) (l : List Byte) : (stN s a l).erased = s.erased := by rw [stN_frame]
@[simp] theorem stU_erased (a n v : Nat) : (stU s a n v).erased = s.erased := stN_erased s a _
@[simp] theorem stZ_erased (a n : Nat) : (stZ s a n).erased = s.erased := stN_erased s a _

end Sys2Proof.Machine
end

