-- ==== Sys2Proof/Laws/Ops.lean ====
section
/-! SUPPORT. What the shared operations do: registers and memory read after write, the canonical form of memory, bit
fields, the interrupt messages and the frame of every command. -/
namespace Sys2Proof.Machine

/-! ### Registers -/

theorem rd_wr (s : State) (o o' : Nat) (v : W64) : rd (wr s o v) o' = if o' = o then v else rd s o' :=
  Sparse.get_set ..

@[simp] theorem rd_wr_self (s : State) (o : Nat) (v : W64) : rd (wr s o v) o = v := by simp [rd_wr]

theorem rd_wr_ne {s : State} {o o' : Nat} {v : W64} (h : o' ≠ o) : rd (wr s o v) o' = rd s o' := by simp [rd_wr, h]

theorem cr_cw (s : State) (n r n' r' : Nat) (v : W64) :
    cr (cw s n r v) n' r' = if coreKey n' r' = coreKey n r then v else cr s n' r' := Sparse.get_set ..

@[simp] theorem cr_cw_self (s : State) (n r : Nat) (v : W64) : cr (cw s n r v) n r = v := by simp [cr_cw]

/-- A hub register reads by its table alone. -/
theorem rd_of_regs {s t : State} (h : t.regs = s.regs) (o : Nat) : rd t o = rd s o := by simp [rd, h]

/-- A core register reads by its table alone. -/
theorem cr_of_coreRegs {s t : State} (h : t.coreRegs = s.coreRegs) (n r : Nat) : cr t n r = cr s n r := by simp [cr, h]

theorem setB_eq (s : State) (o i : Nat) : setB s o i = wr s o (setBit (rd s o) i) := rfl
theorem clrB_eq (s : State) (o i : Nat) : clrB s o i = wr s o (clrBit (rd s o) i) := rfl
theorem wrF_eq (s : State) (o lo n v : Nat) : wrF s o lo n v = wr s o (putFld (rd s o) lo n v) := rfl
theorem bump_eq (s : State) (o n : Nat) : bump s o n = wr s o (w64 (satAdd 32 (rd s o).toNat n)) := rfl

/-! ### Bits -/

theorem getLsbD_bit (i k : Nat) : (BitVec.ofNat 64 (2 ^ i)).getLsbD k = decide (k = i ∧ k < 64) := by
  rw [BitVec.getLsbD_ofNat, Nat.testBit_two_pow]
  by_cases h : i = k
  · subst h; simp
  · simp [h, Ne.symm h]

@[simp] theorem bitAt_setBit (w : W64) (i k : Nat) : bitAt (setBit w i) k = (bitAt w k || decide (k = i ∧ k < 64)) := by
  rw [bitAt, setBit, BitVec.getLsbD_or, getLsbD_bit]
  rfl

@[simp] theorem bitAt_clrBit (w : W64) (i k : Nat) : bitAt (clrBit w i) k = (bitAt w k && !decide (k = i)) := by
  rw [bitAt, clrBit, BitVec.getLsbD_and, BitVec.getLsbD_not, getLsbD_bit]
  by_cases h : k < 64
  · simp [h, bitAt]
  · simp [h, bitAt, BitVec.getLsbD_of_ge w k (by omega)]

theorem fld_lt (w : W64) (lo n : Nat) : fld w lo n < 2 ^ n := Nat.mod_lt _ (Nat.two_pow_pos n)

/-! ### Memory -/

theorem ldB_stB (s : State) (a a' : Nat) (b : Byte) : ldB (stB s a b) a' = if a' = a then b else ldB s a' :=
  Sparse.get_set ..

/-- A byte outside a store of bytes is as before. -/
theorem ldB_stN_out : ∀ (l : List Byte) (s : State) (a x : Nat), x < a ∨ a + l.length ≤ x →
    ldB (stN s a l) x = ldB s x
  | [], _, _, _, _ => rfl
  | b :: r, s, a, x, h => by
    simp only [List.length_cons] at h
    rw [stN, ldB_stN_out r _ _ _ (by omega), ldB_stB, if_neg (by omega)]

/-- A byte inside a store of bytes is the one stored there. -/
theorem ldB_stN_in : ∀ (l : List Byte) (s : State) (a i : Nat), i < l.length → ldB (stN s a l) (a + i) = l.getD i 0
  | [], _, _, _, h => by simp at h
  | b :: r, s, a, 0, _ => by
    rw [stN, ldB_stN_out _ _ _ _ (by omega), ldB_stB]
    simp
  | b :: r, s, a, i + 1, h => by
    rw [stN, show a + (i + 1) = a + 1 + i by omega, ldB_stN_in r _ _ _ (by simpa using h)]
    simp

/-- What is stored is read back. -/
theorem ldN_stN (s : State) (a : Nat) (l : List Byte) : ldN (stN s a l) a l.length = l := by
  apply List.ext_getElem
  · simp [ldN]
  · intro i h _
    have hi : i < l.length := by simpa [ldN] using h
    simp [ldN, ldB_stN_in l s a i hi, hi]

@[simp] theorem leBytes_length : ∀ n v, (leBytes n v).length = n
  | 0, _ => rfl
  | n + 1, v => by simp [leBytes, leBytes_length n]

theorem ldB_stU_out (s : State) (a n v x : Nat) (h : x < a ∨ a + n ≤ x) : ldB (stU s a n v) x = ldB s x :=
  ldB_stN_out _ _ _ _ (by simpa using h)

theorem ldB_stZ_out (s : State) (a n x : Nat) (h : x < a ∨ a + n ≤ x) : ldB (stZ s a n) x = ldB s x :=
  ldB_stN_out _ _ _ _ (by simpa using h)

/-! ### The canonical form of memory and of the tables -/

/-- A state whose memory is another's is as canonical. -/
theorem wf_of_mem {s t : State} (e : t.mem = s.mem) (h : Memory.wf s.mem) : Memory.wf t.mem := e ▸ h

theorem stB_wf (s : State) (a : Nat) (b : Byte) (h : Memory.wf s.mem) : Memory.wf (stB s a b).mem :=
  Sparse.wf_set memDefault s.mem a b h

theorem stN_wf : ∀ (l : List Byte) (s : State) (a : Nat), Memory.wf s.mem → Memory.wf (stN s a l).mem
  | [], _, _, h => h
  | _ :: r, _, _, h => stN_wf r _ _ (stB_wf _ _ _ h)

theorem stU_wf (s : State) (a n v : Nat) (h : Memory.wf s.mem) : Memory.wf (stU s a n v).mem := stN_wf _ _ _ h
theorem stZ_wf (s : State) (a n : Nat) (h : Memory.wf s.mem) : Memory.wf (stZ s a n).mem := stN_wf _ _ _ h
theorem setFlag_wf (s : State) (g v : Nat) (h : Memory.wf s.mem) : Memory.wf (setFlag s g v).mem := stB_wf _ _ _ h

theorem setFlags_wf : ∀ (n : Nat) (s : State) (g v : Nat), Memory.wf s.mem → Memory.wf (setFlags s g n v).mem
  | 0, _, _, _, h => h
  | n + 1, _, _, _, h => setFlags_wf n _ _ _ (setFlag_wf _ _ _ h)

theorem stBlock_wf (s : State) (a : Nat) (d : List Byte) (job : Nat) (x p v : Bool) (h : Memory.wf s.mem) :
    Memory.wf (stBlock s a d job x p v).mem :=
  wf_of_mem (s := stN s a d) (by rw [stBlock, setTag_mem]) (stN_wf _ _ _ h)

theorem stTagged_wf (job : Nat) (x : Bool) :
    ∀ (k : Nat) (s : State) (a : Nat) (l : List Byte), Memory.wf s.mem → Memory.wf (stTagged job x k s a l).mem
  | 0, _, _, _, h => h
  | k + 1, s, a, l, h => by
    rw [stTagged]
    split
    · exact h
    · exact stTagged_wf job x k _ _ _ (stBlock_wf _ _ _ _ _ _ _ h)

theorem writeBlock_wf (s : State) (a : Nat) (d : List Byte) (job : Nat) (x p o : Bool) (h : Memory.wf s.mem) :
    Memory.wf (writeBlock s a d job x p o).2.mem := by
  have hb := stBlock_wf (if p then bump s R.poisonSet 1 else s) (a / 256 * 256) d job x p false (by split <;> exact h)
  unfold writeBlock
  split <;> try dsimp only
  all_goals try split
  all_goals first | exact h | exact hb

theorem writeBlocks_wf : ∀ (n : Nat) (s : State) (a : Nat) (l : List Byte),
    Memory.wf s.mem → Memory.wf (writeBlocks n s a l).mem
  | 0, _, _, _, h => h
  | n + 1, _, _, _, h => writeBlocks_wf n _ _ _ (writeBlock_wf _ _ _ _ _ _ _ h)

theorem zeroMem_wf (s : State) (a n : Nat) (h : Memory.wf s.mem) : Memory.wf (zeroMem s a n).mem :=
  Sparse.wf_clear memDefault s.mem (fun x => decide (a ≤ x ∧ x < a + n)) h

/-- Memory at reset lists nothing. -/
theorem reset_wf : Memory.wf State.reset.mem := rfl

/-! ### Interrupt messages and the frames of commands -/

/-- What the interrupt messages of a command may touch: the pending bits, and what has been sent. -/
theorem sendMsix_frame (s : State) (v : Nat) :
    sendMsix s v = { s with regs := (sendMsix s v).regs, outs := (sendMsix s v).outs } := by
  unfold sendMsix
  split <;> rfl

theorem rd_sendMsix (s : State) (v : Nat) {o : Nat} (h : o ≠ R.msixPba) : rd (sendMsix s v) o = rd s o := by
  unfold sendMsix
  split
  · exact rd_wr_ne h
  · rfl

theorem settle_frame (s t : State) : settle s t = { t with regs := (settle s t).regs, outs := (settle s t).outs } := by
  unfold settle
  generalize List.range 15 = l
  suffices h : ∀ u : State, u = { t with regs := u.regs, outs := u.outs } → ∀ w, w = l.foldl (fun s' k =>
      if irqSource t k && !irqSource s k && rdB t R.irqEnable k then sendMsix s' (irqVector t k) else s') u →
      w = { t with regs := w.regs, outs := w.outs } from h t rfl _ rfl
  induction l with
  | nil => rintro u hu w rfl; exact hu
  | cons k r ih =>
    rintro u hu w rfl
    refine ih _ ?_ _ rfl
    dsimp only
    split
    · rw [sendMsix_frame, hu]
    · exact hu

/-- The messages leave every register but the pending bits alone. -/
theorem rd_settle (s t : State) {o : Nat} (h : o ≠ R.msixPba) : rd (settle s t) o = rd t o := by
  unfold settle
  generalize List.range 15 = l
  suffices hh : ∀ u : State, rd u o = rd t o → rd (l.foldl (fun s' k =>
      if irqSource t k && !irqSource s k && rdB t R.irqEnable k then sendMsix s' (irqVector t k) else s') u) o = rd t o
    from hh t rfl
  induction l with
  | nil => exact fun u hu => hu
  | cons k r ih =>
    intro u hu
    refine ih _ ?_
    dsimp only
    split
    · rw [rd_sendMsix _ _ h, hu]
    · exact hu
@[simp] theorem settle_pending (s t : State) : (settle s t).pending = t.pending := by rw [settle_frame]
@[simp] theorem settle_coreRegs (s t : State) : (settle s t).coreRegs = t.coreRegs := by rw [settle_frame]
@[simp] theorem settle_mem (s t : State) : (settle s t).mem = t.mem := by rw [settle_frame]
@[simp] theorem settle_tags (s t : State) : (settle s t).tags = t.tags := by rw [settle_frame]
@[simp] theorem settle_time (s t : State) : (settle s t).time = t.time := by rw [settle_frame]
@[simp] theorem settle_free (s t : State) : (settle s t).free = t.free := by rw [settle_frame]
@[simp] theorem settle_chip (s t : State) : (settle s t).chip = t.chip := by rw [settle_frame]
@[simp] theorem settle_mbox (s t : State) : (settle s t).mbox = t.mbox := by rw [settle_frame]
@[simp] theorem settle_hostRd (s t : State) : (settle s t).hostRd = t.hostRd := by rw [settle_frame]
@[simp] theorem settle_breaths (s t : State) : (settle s t).breaths = t.breaths := by rw [settle_frame]
@[simp] theorem settle_jobs (s t : State) : (settle s t).jobs = t.jobs := by rw [settle_frame]
@[simp] theorem settle_faults (s t : State) : (settle s t).faults = t.faults := by rw [settle_frame]
@[simp] theorem settle_tim (s t : State) : (settle s t).tim = t.tim := by rw [settle_frame]
@[simp] theorem settle_cores (s t : State) : (settle s t).cores = t.cores := by rw [settle_frame]
@[simp] theorem settle_mesh (s t : State) : (settle s t).mesh = t.mesh := by rw [settle_frame]
@[simp] theorem settle_conv (s t : State) : (settle s t).conv = t.conv := by rw [settle_frame]
@[simp] theorem settle_boot (s t : State) : (settle s t).boot = t.boot := by rw [settle_frame]
@[simp] theorem settle_power (s t : State) : (settle s t).power = t.power := by rw [settle_frame]
@[simp] theorem settle_flash (s t : State) : (settle s t).flash = t.flash := by rw [settle_frame]
@[simp] theorem settle_erased (s t : State) : (settle s t).erased = t.erased := by rw [settle_frame]

/-- A command that nothing routes sends no message. -/
theorem settle_none (s t : State) (h : ∀ k < 15, (irqSource t k && !irqSource s k && rdB t R.irqEnable k) = false) :
    settle s t = t := by
  unfold settle
  suffices hh : ∀ l : List Nat, (∀ k ∈ l, k < 15) → l.foldl (fun s' k =>
      if irqSource t k && !irqSource s k && rdB t R.irqEnable k then sendMsix s' (irqVector t k) else s') t = t from
    hh _ fun k hk => List.mem_range.1 hk
  intro l
  induction l with
  | nil => exact fun _ => rfl
  | cons k r ih =>
    intro hl
    rw [List.foldl_cons, h k (hl k (by simp))]
    exact ih fun x hx => hl x (List.mem_cons_of_mem _ hx)

/-- A command that changes nothing sends nothing. -/
theorem settle_self (s : State) : settle s s = s := settle_none s s fun k _ => by simp

theorem keepQueue_self (s : State) : keepQueue s s = s := rfl

@[simp] theorem keepAll_regs (s t : State) : (keepAll s t).regs = t.regs := rfl
@[simp] theorem keepAll_coreRegs (s t : State) : (keepAll s t).coreRegs = t.coreRegs := rfl
@[simp] theorem keepAll_mem (s t : State) : (keepAll s t).mem = t.mem := rfl
@[simp] theorem keepAll_tags (s t : State) : (keepAll s t).tags = t.tags := rfl
@[simp] theorem keepAll_free (s t : State) : (keepAll s t).free = t.free := rfl
@[simp] theorem keepAll_mbox (s t : State) : (keepAll s t).mbox = t.mbox := rfl
@[simp] theorem keepAll_outs (s t : State) : (keepAll s t).outs = t.outs := rfl
@[simp] theorem keepAll_hostRd (s t : State) : (keepAll s t).hostRd = t.hostRd := rfl
@[simp] theorem keepAll_breaths (s t : State) : (keepAll s t).breaths = t.breaths := rfl
@[simp] theorem keepAll_jobs (s t : State) : (keepAll s t).jobs = t.jobs := rfl
@[simp] theorem keepAll_faults (s t : State) : (keepAll s t).faults = t.faults := rfl
@[simp] theorem keepAll_tim (s t : State) : (keepAll s t).tim = t.tim := rfl
@[simp] theorem keepAll_cores (s t : State) : (keepAll s t).cores = t.cores := rfl
@[simp] theorem keepAll_mesh (s t : State) : (keepAll s t).mesh = t.mesh := rfl
@[simp] theorem keepAll_conv (s t : State) : (keepAll s t).conv = t.conv := rfl
@[simp] theorem keepAll_power (s t : State) : (keepAll s t).power = t.power := rfl
@[simp] theorem keepAll_pending (s t : State) : (keepAll s t).pending = s.pending := rfl
@[simp] theorem keepAll_time (s t : State) : (keepAll s t).time = s.time := rfl
@[simp] theorem keepAll_boot (s t : State) : (keepAll s t).boot = s.boot := rfl
@[simp] theorem keepAll_flash (s t : State) : (keepAll s t).flash = s.flash := rfl
@[simp] theorem keepAll_erased (s t : State) : (keepAll s t).erased = s.erased := rfl

@[simp] theorem rd_keepAll (s t : State) (o : Nat) : rd (keepAll s t) o = rd t o := rfl
@[simp] theorem cr_keepAll (s t : State) (n r : Nat) : cr (keepAll s t) n r = cr t n r := rfl
@[simp] theorem ldB_keepAll (s t : State) (a : Nat) : ldB (keepAll s t) a = ldB t a := rfl
@[simp] theorem cr_settle (s t : State) (n r : Nat) : cr (settle s t) n r = cr t n r := cr_of_coreRegs (by simp) n r
@[simp] theorem ldB_settle (s t : State) (a : Nat) : ldB (settle s t) a = ldB t a := by simp [ldB]

/-- What an ordinary command does, once: in a package that serves, its effect within its frame and the messages that
follow; else nothing. -/
theorem act_eq (s : State) (eff : State → State) :
    act s eff = .next (if live s then settle s (keepAll s (eff s)) else s) := rfl

theorem act_live {s : State} (eff : State → State) (h : live s) : act s eff = .next (settle s (keepAll s (eff s))) := by
  rw [act_eq, if_pos h]

theorem act_held {s : State} (eff : State → State) (h : ¬ live s) : act s eff = .next s := by rw [act_eq, if_neg h]

theorem actServed_live {s : State} (eff : State → State) (h : serves s) :
    actServed s eff = .next (settle s (keepAll s (eff s))) := by rw [actServed, if_pos h]

theorem serves_of_live {s : State} (h : live s) : serves s := by
  simp only [live, serves, Bool.and_eq_true, Bool.or_eq_true, decide_eq_true_eq] at *
  exact ⟨.inl h.1, h.2⟩

/-! ### CRC-32C -/

theorem crc32cFrom_nil (c : Nat) : crc32cFrom c [] = c := by cases c <;> rfl
theorem crc32cFrom_cons (c : Nat) (b : Byte) (r : List Byte) : crc32cFrom c (b :: r) = crc32cFrom (crc32cByte c b) r := by
  cases c <;> rfl
/-- The register after a list of bytes is a left fold (R317). -/
theorem crc32cFrom_eq (c : Nat) (l : List Byte) : crc32cFrom c l = l.foldl crc32cByte c := by
  induction l generalizing c with
  | nil => exact crc32cFrom_nil c
  | cons b r ih => rw [crc32cFrom_cons, ih, List.foldl_cons]

end Sys2Proof.Machine
end

