-- ==== Sys2Proof/Laws/Mbox.lean ====
section
/-! SUPPORT. What Chanter's service of commands changes, and what a served command's answer is. -/
namespace Sys2Proof.Machine

variable (s : State)

/-- `t` differs from `s` in memory, hub registers and the mailbox records alone. -/
def MailOnly (s t : State) : Prop := ∃ m r b, t = { s with mem := m, regs := r, mbox := b }

theorem MailOnly.refl (s : State) : MailOnly s s := ⟨_, _, _, rfl⟩

theorem MailOnly.trans {s t u : State} (h : MailOnly s t) (k : MailOnly t u) : MailOnly s u := by
  obtain ⟨_, _, _, rfl⟩ := h
  obtain ⟨m, r, b, rfl⟩ := k
  exact ⟨m, r, b, rfl⟩

theorem MailOnly.wr {s t : State} (h : MailOnly s t) (o : Nat) (v : W64) : MailOnly s (wr t o v) := h.trans ⟨_, _, _, rfl⟩
theorem MailOnly.mbox {s t : State} (h : MailOnly s t) (b : Mbox) : MailOnly s { t with mbox := b } :=
  h.trans ⟨_, _, _, rfl⟩
theorem MailOnly.stN {s t : State} (h : MailOnly s t) (a : Nat) (l : List Byte) : MailOnly s (stN t a l) :=
  h.trans ⟨_, _, _, stN_frame l t a⟩

/-! ### Journal entries -/

theorem journal_frame (op so m st tg : Nat) (ch : Change) : MailOnly s (journal s op so m st tg ch) :=
  ((((MailOnly.refl s).stN _ _).stN _ _).stN _ _).stN _ _ |>.mbox _

@[simp] theorem journal_regs (op so m st tg : Nat) (ch : Change) : (journal s op so m st tg ch).regs = s.regs := by
  simp [journal]

@[simp] theorem journal_pending (op so m st tg : Nat) (ch : Change) : (journal s op so m st tg ch).pending = s.pending := by
  obtain ⟨_, _, _, h⟩ := journal_frame s _ _ _ _ _ _
  rw [h]
@[simp] theorem journal_coreRegs (op so m st tg : Nat) (ch : Change) : (journal s op so m st tg ch).coreRegs = s.coreRegs := by
  obtain ⟨_, _, _, h⟩ := journal_frame s _ _ _ _ _ _
  rw [h]
@[simp] theorem journal_tags (op so m st tg : Nat) (ch : Change) : (journal s op so m st tg ch).tags = s.tags := by
  obtain ⟨_, _, _, h⟩ := journal_frame s _ _ _ _ _ _
  rw [h]
@[simp] theorem journal_time (op so m st tg : Nat) (ch : Change) : (journal s op so m st tg ch).time = s.time := by
  obtain ⟨_, _, _, h⟩ := journal_frame s _ _ _ _ _ _
  rw [h]
@[simp] theorem journal_free (op so m st tg : Nat) (ch : Change) : (journal s op so m st tg ch).free = s.free := by
  obtain ⟨_, _, _, h⟩ := journal_frame s _ _ _ _ _ _
  rw [h]
@[simp] theorem journal_chip (op so m st tg : Nat) (ch : Change) : (journal s op so m st tg ch).chip = s.chip := by
  obtain ⟨_, _, _, h⟩ := journal_frame s _ _ _ _ _ _
  rw [h]
@[simp] theorem journal_outs (op so m st tg : Nat) (ch : Change) : (journal s op so m st tg ch).outs = s.outs := by
  obtain ⟨_, _, _, h⟩ := journal_frame s _ _ _ _ _ _
  rw [h]
@[simp] theorem journal_hostRd (op so m st tg : Nat) (ch : Change) : (journal s op so m st tg ch).hostRd = s.hostRd := by
  obtain ⟨_, _, _, h⟩ := journal_frame s _ _ _ _ _ _
  rw [h]
@[simp] theorem journal_breaths (op so m st tg : Nat) (ch : Change) : (journal s op so m st tg ch).breaths = s.breaths := by
  obtain ⟨_, _, _, h⟩ := journal_frame s _ _ _ _ _ _
  rw [h]
@[simp] theorem journal_jobs (op so m st tg : Nat) (ch : Change) : (journal s op so m st tg ch).jobs = s.jobs := by
  obtain ⟨_, _, _, h⟩ := journal_frame s _ _ _ _ _ _
  rw [h]
@[simp] theorem journal_faults (op so m st tg : Nat) (ch : Change) : (journal s op so m st tg ch).faults = s.faults := by
  obtain ⟨_, _, _, h⟩ := journal_frame s _ _ _ _ _ _
  rw [h]
@[simp] theorem journal_tim (op so m st tg : Nat) (ch : Change) : (journal s op so m st tg ch).tim = s.tim := by
  obtain ⟨_, _, _, h⟩ := journal_frame s _ _ _ _ _ _
  rw [h]
@[simp] theorem journal_cores (op so m st tg : Nat) (ch : Change) : (journal s op so m st tg ch).cores = s.cores := by
  obtain ⟨_, _, _, h⟩ := journal_frame s _ _ _ _ _ _
  rw [h]
@[simp] theorem journal_mesh (op so m st tg : Nat) (ch : Change) : (journal s op so m st tg ch).mesh = s.mesh := by
  obtain ⟨_, _, _, h⟩ := journal_frame s _ _ _ _ _ _
  rw [h]
@[simp] theorem journal_conv (op so m st tg : Nat) (ch : Change) : (journal s op so m st tg ch).conv = s.conv := by
  obtain ⟨_, _, _, h⟩ := journal_frame s _ _ _ _ _ _
  rw [h]
@[simp] theorem journal_boot (op so m st tg : Nat) (ch : Change) : (journal s op so m st tg ch).boot = s.boot := by
  obtain ⟨_, _, _, h⟩ := journal_frame s _ _ _ _ _ _
  rw [h]
@[simp] theorem journal_power (op so m st tg : Nat) (ch : Change) : (journal s op so m st tg ch).power = s.power := by
  obtain ⟨_, _, _, h⟩ := journal_frame s _ _ _ _ _ _
  rw [h]
@[simp] theorem journal_flash (op so m st tg : Nat) (ch : Change) : (journal s op so m st tg ch).flash = s.flash := by
  obtain ⟨_, _, _, h⟩ := journal_frame s _ _ _ _ _ _
  rw [h]
@[simp] theorem journal_erased (op so m st tg : Nat) (ch : Change) : (journal s op so m st tg ch).erased = s.erased := by
  obtain ⟨_, _, _, h⟩ := journal_frame s _ _ _ _ _ _
  rw [h]

@[simp] theorem journal_kept (op so m st tg : Nat) (ch : Change) :
    (journal s op so m st tg ch).mbox.kept = s.mbox.kept := by simp [journal]

/-! ### Completions -/

/-- The registers of the mailboxes (Table 13-8). -/
def inMailbox (o : Nat) : Prop := 0x1000 ≤ o ∧ o < 0x1800

theorem writeCompletion_frame (m : Nat) (w : List W64) : MailOnly s (writeCompletion s m w) := by
  unfold writeCompletion
  extract_lets a t u v
  have h : MailOnly s v := ((((MailOnly.refl s).stN _ _).mbox _).wr _ _).wr _ _
  split
  · split
    · exact (h.wr _ _).mbox _
    · exact h.wr _ _
  · exact h

theorem putCompletion_frame (src : Src) (w : List W64) : MailOnly s (putCompletion s src w) := by
  unfold putCompletion
  split
  · split
    · exact (MailOnly.refl s).mbox _
    · exact writeCompletion_frame ..
  · exact (MailOnly.refl s).mbox _

theorem complete_frame (src : Src) (op tag d st dt : Nat) (p : List W64) (ch : Option Change) :
    MailOnly s (complete s src op tag d st dt p ch) := by
  unfold complete
  dsimp only
  refine MailOnly.mbox (MailOnly.trans ?_ (putCompletion_frame _ src _)) _
  split
  · exact journal_frame ..
  · exact MailOnly.refl s

@[simp] theorem complete_pending (src : Src) (op tag d st dt : Nat) (p : List W64) (ch : Option Change) : (complete s src op tag d st dt p ch).pending = s.pending := by
  obtain ⟨_, _, _, h⟩ := complete_frame s _ _ _ _ _ _ _ _
  rw [h]
@[simp] theorem complete_coreRegs (src : Src) (op tag d st dt : Nat) (p : List W64) (ch : Option Change) : (complete s src op tag d st dt p ch).coreRegs = s.coreRegs := by
  obtain ⟨_, _, _, h⟩ := complete_frame s _ _ _ _ _ _ _ _
  rw [h]
@[simp] theorem complete_tags (src : Src) (op tag d st dt : Nat) (p : List W64) (ch : Option Change) : (complete s src op tag d st dt p ch).tags = s.tags := by
  obtain ⟨_, _, _, h⟩ := complete_frame s _ _ _ _ _ _ _ _
  rw [h]
@[simp] theorem complete_time (src : Src) (op tag d st dt : Nat) (p : List W64) (ch : Option Change) : (complete s src op tag d st dt p ch).time = s.time := by
  obtain ⟨_, _, _, h⟩ := complete_frame s _ _ _ _ _ _ _ _
  rw [h]
@[simp] theorem complete_free (src : Src) (op tag d st dt : Nat) (p : List W64) (ch : Option Change) : (complete s src op tag d st dt p ch).free = s.free := by
  obtain ⟨_, _, _, h⟩ := complete_frame s _ _ _ _ _ _ _ _
  rw [h]
@[simp] theorem complete_chip (src : Src) (op tag d st dt : Nat) (p : List W64) (ch : Option Change) : (complete s src op tag d st dt p ch).chip = s.chip := by
  obtain ⟨_, _, _, h⟩ := complete_frame s _ _ _ _ _ _ _ _
  rw [h]
@[simp] theorem complete_outs (src : Src) (op tag d st dt : Nat) (p : List W64) (ch : Option Change) : (complete s src op tag d st dt p ch).outs = s.outs := by
  obtain ⟨_, _, _, h⟩ := complete_frame s _ _ _ _ _ _ _ _
  rw [h]
@[simp] theorem complete_hostRd (src : Src) (op tag d st dt : Nat) (p : List W64) (ch : Option Change) : (complete s src op tag d st dt p ch).hostRd = s.hostRd := by
  obtain ⟨_, _, _, h⟩ := complete_frame s _ _ _ _ _ _ _ _
  rw [h]
@[simp] theorem complete_breaths (src : Src) (op tag d st dt : Nat) (p : List W64) (ch : Option Change) : (complete s src op tag d st dt p ch).breaths = s.breaths := by
  obtain ⟨_, _, _, h⟩ := complete_frame s _ _ _ _ _ _ _ _
  rw [h]
@[simp] theorem complete_jobs (src : Src) (op tag d st dt : Nat) (p : List W64) (ch : Option Change) : (complete s src op tag d st dt p ch).jobs = s.jobs := by
  obtain ⟨_, _, _, h⟩ := complete_frame s _ _ _ _ _ _ _ _
  rw [h]
@[simp] theorem complete_faults (src : Src) (op tag d st dt : Nat) (p : List W64) (ch : Option Change) : (complete s src op tag d st dt p ch).faults = s.faults := by
  obtain ⟨_, _, _, h⟩ := complete_frame s _ _ _ _ _ _ _ _
  rw [h]
@[simp] theorem complete_tim (src : Src) (op tag d st dt : Nat) (p : List W64) (ch : Option Change) : (complete s src op tag d st dt p ch).tim = s.tim := by
  obtain ⟨_, _, _, h⟩ := complete_frame s _ _ _ _ _ _ _ _
  rw [h]
@[simp] theorem complete_cores (src : Src) (op tag d st dt : Nat) (p : List W64) (ch : Option Change) : (complete s src op tag d st dt p ch).cores = s.cores := by
  obtain ⟨_, _, _, h⟩ := complete_frame s _ _ _ _ _ _ _ _
  rw [h]
@[simp] theorem complete_mesh (src : Src) (op tag d st dt : Nat) (p : List W64) (ch : Option Change) : (complete s src op tag d st dt p ch).mesh = s.mesh := by
  obtain ⟨_, _, _, h⟩ := complete_frame s _ _ _ _ _ _ _ _
  rw [h]
@[simp] theorem complete_conv (src : Src) (op tag d st dt : Nat) (p : List W64) (ch : Option Change) : (complete s src op tag d st dt p ch).conv = s.conv := by
  obtain ⟨_, _, _, h⟩ := complete_frame s _ _ _ _ _ _ _ _
  rw [h]
@[simp] theorem complete_boot (src : Src) (op tag d st dt : Nat) (p : List W64) (ch : Option Change) : (complete s src op tag d st dt p ch).boot = s.boot := by
  obtain ⟨_, _, _, h⟩ := complete_frame s _ _ _ _ _ _ _ _
  rw [h]
@[simp] theorem complete_power (src : Src) (op tag d st dt : Nat) (p : List W64) (ch : Option Change) : (complete s src op tag d st dt p ch).power = s.power := by
  obtain ⟨_, _, _, h⟩ := complete_frame s _ _ _ _ _ _ _ _
  rw [h]
@[simp] theorem complete_flash (src : Src) (op tag d st dt : Nat) (p : List W64) (ch : Option Change) : (complete s src op tag d st dt p ch).flash = s.flash := by
  obtain ⟨_, _, _, h⟩ := complete_frame s _ _ _ _ _ _ _ _
  rw [h]
@[simp] theorem complete_erased (src : Src) (op tag d st dt : Nat) (p : List W64) (ch : Option Change) : (complete s src op tag d st dt p ch).erased = s.erased := by
  obtain ⟨_, _, _, h⟩ := complete_frame s _ _ _ _ _ _ _ _
  rw [h]
@[simp] theorem putCompletion_pending (src : Src) (w : List W64) : (putCompletion s src w).pending = s.pending := by
  obtain ⟨_, _, _, h⟩ := putCompletion_frame s _ _
  rw [h]
@[simp] theorem putCompletion_coreRegs (src : Src) (w : List W64) : (putCompletion s src w).coreRegs = s.coreRegs := by
  obtain ⟨_, _, _, h⟩ := putCompletion_frame s _ _
  rw [h]
@[simp] theorem putCompletion_tags (src : Src) (w : List W64) : (putCompletion s src w).tags = s.tags := by
  obtain ⟨_, _, _, h⟩ := putCompletion_frame s _ _
  rw [h]
@[simp] theorem putCompletion_time (src : Src) (w : List W64) : (putCompletion s src w).time = s.time := by
  obtain ⟨_, _, _, h⟩ := putCompletion_frame s _ _
  rw [h]
@[simp] theorem putCompletion_free (src : Src) (w : List W64) : (putCompletion s src w).free = s.free := by
  obtain ⟨_, _, _, h⟩ := putCompletion_frame s _ _
  rw [h]
@[simp] theorem putCompletion_chip (src : Src) (w : List W64) : (putCompletion s src w).chip = s.chip := by
  obtain ⟨_, _, _, h⟩ := putCompletion_frame s _ _
  rw [h]
@[simp] theorem putCompletion_outs (src : Src) (w : List W64) : (putCompletion s src w).outs = s.outs := by
  obtain ⟨_, _, _, h⟩ := putCompletion_frame s _ _
  rw [h]
@[simp] theorem putCompletion_hostRd (src : Src) (w : List W64) : (putCompletion s src w).hostRd = s.hostRd := by
  obtain ⟨_, _, _, h⟩ := putCompletion_frame s _ _
  rw [h]
@[simp] theorem putCompletion_breaths (src : Src) (w : List W64) : (putCompletion s src w).breaths = s.breaths := by
  obtain ⟨_, _, _, h⟩ := putCompletion_frame s _ _
  rw [h]
@[simp] theorem putCompletion_jobs (src : Src) (w : List W64) : (putCompletion s src w).jobs = s.jobs := by
  obtain ⟨_, _, _, h⟩ := putCompletion_frame s _ _
  rw [h]
@[simp] theorem putCompletion_faults (src : Src) (w : List W64) : (putCompletion s src w).faults = s.faults := by
  obtain ⟨_, _, _, h⟩ := putCompletion_frame s _ _
  rw [h]
@[simp] theorem putCompletion_tim (src : Src) (w : List W64) : (putCompletion s src w).tim = s.tim := by
  obtain ⟨_, _, _, h⟩ := putCompletion_frame s _ _
  rw [h]
@[simp] theorem putCompletion_cores (src : Src) (w : List W64) : (putCompletion s src w).cores = s.cores := by
  obtain ⟨_, _, _, h⟩ := putCompletion_frame s _ _
  rw [h]
@[simp] theorem putCompletion_mesh (src : Src) (w : List W64) : (putCompletion s src w).mesh = s.mesh := by
  obtain ⟨_, _, _, h⟩ := putCompletion_frame s _ _
  rw [h]
@[simp] theorem putCompletion_conv (src : Src) (w : List W64) : (putCompletion s src w).conv = s.conv := by
  obtain ⟨_, _, _, h⟩ := putCompletion_frame s _ _
  rw [h]
@[simp] theorem putCompletion_boot (src : Src) (w : List W64) : (putCompletion s src w).boot = s.boot := by
  obtain ⟨_, _, _, h⟩ := putCompletion_frame s _ _
  rw [h]
@[simp] theorem putCompletion_power (src : Src) (w : List W64) : (putCompletion s src w).power = s.power := by
  obtain ⟨_, _, _, h⟩ := putCompletion_frame s _ _
  rw [h]
@[simp] theorem putCompletion_flash (src : Src) (w : List W64) : (putCompletion s src w).flash = s.flash := by
  obtain ⟨_, _, _, h⟩ := putCompletion_frame s _ _
  rw [h]
@[simp] theorem putCompletion_erased (src : Src) (w : List W64) : (putCompletion s src w).erased = s.erased := by
  obtain ⟨_, _, _, h⟩ := putCompletion_frame s _ _
  rw [h]

theorem rd_writeCompletion (m : Fin 8) (w : List W64) {o : Nat} (h : ¬ inMailbox o) :
    rd (writeCompletion s m.val w) o = rd s o := by
  have hm := m.isLt
  have h1 : o ≠ R.mbCplPi m.val := by unfold R.mbCplPi inMailbox at *; omega
  have h2 : o ≠ R.mbStatus m.val := by unfold R.mbStatus inMailbox at *; omega
  have h3 : o ≠ R.mbStatus 0 := by unfold R.mbStatus inMailbox at *; omega
  unfold writeCompletion
  extract_lets a t u v
  have hv : rd v o = rd s o := by
    simp only [v, u]
    rw [setB_eq, rd_wr_ne h2, rd_wr_ne h1]
    exact rd_of_regs (by simp [t, notePortA]) o
  split
  · split
    · rw [← hv]
      show rd (setB v (R.mbStatus 0) 3) o = _
      rw [setB_eq, rd_wr_ne h3]
    · rw [setB_eq, rd_wr_ne h2, hv]
  · exact hv

theorem rd_putCompletion (src : Src) (w : List W64) {o : Nat} (h : ¬ inMailbox o) :
    rd (putCompletion s src w) o = rd s o := by
  unfold putCompletion
  split
  · split
    · rfl
    · exact rd_writeCompletion s _ w h
  · rfl

/-- A completion leaves every register outside the mailboxes alone. -/
theorem rd_complete (src : Src) (op tag d st dt : Nat) (p : List W64) (ch : Option Change) {o : Nat}
    (h : ¬ inMailbox o) : rd (complete s src op tag d st dt p ch) o = rd s o := by
  unfold complete
  extract_lets q t w
  show rd (putCompletion t src w) o = rd s o
  rw [rd_putCompletion t src w h]
  simp only [t]
  split
  · exact rd_of_regs (by simp) o
  · rfl

/-- The completion kept last for a source (R374). -/
def lastKept (k : Nat) : Option Kept := (Sparse.get (fun _ => []) s.mbox.kept k).head?

@[simp] theorem lastKept_keep (k tag d : Nat) (w : List W64) : lastKept (keep s k tag d w) k = some ⟨tag, d, w⟩ := by
  simp [lastKept, keep, Sparse.get_set]

/-- The sequence that a completion reports: that of its journal entry, or all ones (R390). -/
def seqOf (ch : Option Change) : Nat := if ch.isSome then s.mbox.journalSeq else 0xFFFFFFFF

/-- What a completed command's kept answer is. -/
theorem lastKept_complete (src : Src) (op tag d st dt : Nat) (p : List W64) (ch : Option Change) :
    lastKept (complete s src op tag d st dt p ch) (srcRecord src) =
      some ⟨tag, d, cplWords op tag st false dt (seqOf s ch) p⟩ := by
  unfold complete
  simp only [lastKept_keep]
  rfl

/-! ### Service -/

theorem noteBell_frame (ci : Nat) : MailOnly s (noteBell s ci) := by
  unfold noteBell
  split
  · dsimp only
    split
    · split <;> exact ((MailOnly.refl s).mbox _).wr _ _
    · exact (MailOnly.refl s).mbox _
  · exact MailOnly.refl s

theorem rd_noteBell (ci : Nat) {o : Nat} (h : o ≠ R.mbStartMax 0) : rd (noteBell s ci) o = rd s o := by
  unfold noteBell
  split
  · dsimp only
    split
    · split <;> rw [rd_wr_ne h] <;> rfl
    · rfl
  · rfl

theorem takeFront_frame (src : Src) : MailOnly s (takeFront s src) := by
  unfold takeFront
  split
  · dsimp only
    split
    · exact (noteBell_frame s _).wr _ _
    · exact ((MailOnly.refl s).wr _ _).mbox _
  · exact MailOnly.refl s

@[simp] theorem takeFront_mem (src : Src) : (takeFront s src).mem = s.mem := by
  unfold takeFront
  split
  · dsimp only
    split
    · unfold noteBell
      split
      · dsimp only
        split
        · split <;> rfl
        · rfl
      · rfl
    · rfl
  · rfl

@[simp] theorem takeFront_pending (src : Src) : (takeFront s src).pending = s.pending := by
  obtain ⟨_, _, _, h⟩ := takeFront_frame s _
  rw [h]
@[simp] theorem takeFront_coreRegs (src : Src) : (takeFront s src).coreRegs = s.coreRegs := by
  obtain ⟨_, _, _, h⟩ := takeFront_frame s _
  rw [h]
@[simp] theorem takeFront_tags (src : Src) : (takeFront s src).tags = s.tags := by
  obtain ⟨_, _, _, h⟩ := takeFront_frame s _
  rw [h]
@[simp] theorem takeFront_time (src : Src) : (takeFront s src).time = s.time := by
  obtain ⟨_, _, _, h⟩ := takeFront_frame s _
  rw [h]
@[simp] theorem takeFront_free (src : Src) : (takeFront s src).free = s.free := by
  obtain ⟨_, _, _, h⟩ := takeFront_frame s _
  rw [h]
@[simp] theorem takeFront_chip (src : Src) : (takeFront s src).chip = s.chip := by
  obtain ⟨_, _, _, h⟩ := takeFront_frame s _
  rw [h]
@[simp] theorem takeFront_outs (src : Src) : (takeFront s src).outs = s.outs := by
  obtain ⟨_, _, _, h⟩ := takeFront_frame s _
  rw [h]
@[simp] theorem takeFront_hostRd (src : Src) : (takeFront s src).hostRd = s.hostRd := by
  obtain ⟨_, _, _, h⟩ := takeFront_frame s _
  rw [h]
@[simp] theorem takeFront_breaths (src : Src) : (takeFront s src).breaths = s.breaths := by
  obtain ⟨_, _, _, h⟩ := takeFront_frame s _
  rw [h]
@[simp] theorem takeFront_jobs (src : Src) : (takeFront s src).jobs = s.jobs := by
  obtain ⟨_, _, _, h⟩ := takeFront_frame s _
  rw [h]
@[simp] theorem takeFront_faults (src : Src) : (takeFront s src).faults = s.faults := by
  obtain ⟨_, _, _, h⟩ := takeFront_frame s _
  rw [h]
@[simp] theorem takeFront_tim (src : Src) : (takeFront s src).tim = s.tim := by
  obtain ⟨_, _, _, h⟩ := takeFront_frame s _
  rw [h]
@[simp] theorem takeFront_cores (src : Src) : (takeFront s src).cores = s.cores := by
  obtain ⟨_, _, _, h⟩ := takeFront_frame s _
  rw [h]
@[simp] theorem takeFront_mesh (src : Src) : (takeFront s src).mesh = s.mesh := by
  obtain ⟨_, _, _, h⟩ := takeFront_frame s _
  rw [h]
@[simp] theorem takeFront_conv (src : Src) : (takeFront s src).conv = s.conv := by
  obtain ⟨_, _, _, h⟩ := takeFront_frame s _
  rw [h]
@[simp] theorem takeFront_boot (src : Src) : (takeFront s src).boot = s.boot := by
  obtain ⟨_, _, _, h⟩ := takeFront_frame s _
  rw [h]
@[simp] theorem takeFront_power (src : Src) : (takeFront s src).power = s.power := by
  obtain ⟨_, _, _, h⟩ := takeFront_frame s _
  rw [h]
@[simp] theorem takeFront_flash (src : Src) : (takeFront s src).flash = s.flash := by
  obtain ⟨_, _, _, h⟩ := takeFront_frame s _
  rw [h]
@[simp] theorem takeFront_erased (src : Src) : (takeFront s src).erased = s.erased := by
  obtain ⟨_, _, _, h⟩ := takeFront_frame s _
  rw [h]

theorem rd_takeFront (src : Src) {o : Nat} (h : ¬ inMailbox o) : rd (takeFront s src) o = rd s o := by
  unfold takeFront
  split
  · rename_i m
    have hm := m.isLt
    have h1 : o ≠ R.mbCmdCi m.val := by unfold R.mbCmdCi inMailbox at *; omega
    have h2 : o ≠ R.mbStartMax 0 := by unfold R.mbStartMax inMailbox at *; omega
    dsimp only
    split
    · rw [rd_wr_ne h1, rd_noteBell s _ h2]
    · rw [← rd_wr_ne (s := s) h1]
      rfl
  · rfl

@[simp] theorem cr_takeFront (src : Src) (n r : Nat) : cr (takeFront s src) n r = cr s n r :=
  cr_of_coreRegs (by simp) n r

@[simp] theorem ldB_takeFront (src : Src) (a : Nat) : ldB (takeFront s src) a = ldB s a := by simp [ldB]

@[simp] theorem noteBell_kept (ci : Nat) : (noteBell s ci).mbox.kept = s.mbox.kept := by
  unfold noteBell
  split
  · dsimp only
    split
    · split <;> rfl
    · rfl
  · rfl

@[simp] theorem noteBell_runs (ci : Nat) : (noteBell s ci).mbox.runs = s.mbox.runs := by
  unfold noteBell
  split
  · dsimp only
    split
    · split <;> rfl
    · rfl
  · rfl

@[simp] theorem takeFront_kept (src : Src) : (takeFront s src).mbox.kept = s.mbox.kept := by
  unfold takeFront
  split
  · dsimp only
    split
    · exact noteBell_kept s _
    · rfl
  · rfl

@[simp] theorem takeFront_runs (src : Src) : (takeFront s src).mbox.runs = s.mbox.runs := by
  unfold takeFront
  split
  · dsimp only
    split
    · exact noteBell_runs s _
    · rfl
  · rfl

/-- A served command that is fresh and well formed and meets no lock runs its meaning (R367, R371, R374, R380). -/
theorem serve_fresh {op : Nat} {masks : List Nat} {locks : Cmd → List Lock} {body : Cmd → State → Ans} {src : Src} {c : Cmd}
    (hc : cmdAt s src = some c) (hsrc : c.src = src) (hop : c.opcode = op) (hs : startable s src)
    (hl : ¬ lockHeld s false (locks c)) (hb : ¬ lockHeld s true (locks c))
    (hk : keptOf s c = none) (hr : stillRunning s c = false) (hz : c.f 0 34 6 = 0) (hm : badWord c masks = none) :
    serve op masks locks body src s = runCmd c (body c (takeFront s src)) := by
  have hk' : keptOf (takeFront s src) c = none := by simpa [keptOf] using hk
  have hr' : stillRunning (takeFront s src) c = false := by simpa [stillRunning] using hr
  have hb' : lockHeld (takeFront s src) true (locks c) = false := by simpa [lockHeld] using hb
  unfold serve
  simp only [hc]
  rw [if_pos ⟨hop, hs, hl⟩]
  simp [serveCmd, hsrc, hk', hr', hz, hm, hb']

end Sys2Proof.Machine
end

