-- ==== Sys2Proof/Laws/Claims.lean ====
section
/-! SUPPORT. The terms of the claims about Mbozor commands, from the lemmas on Chanter's service. -/
namespace Sys2Proof.Machine

/-! ### The start of a command -/

theorem cmdAt_src {s : State} {src : Src} {c : Cmd} (h : cmdAt s src = some c) : c.src = src := by
  unfold cmdAt at h
  split at h
  · split at h
    · cases h; rfl
    · cases h
  · split at h
    · cases h; rfl
    · cases h

/-- A command that starts runs its meaning on the state from which it has been taken. -/
theorem serve_starts {s : State} {src : Src} {op : Nat} {masks : List Nat} {locks : Cmd → List Lock}
    {body : Cmd → State → Ans} {c : Cmd} (h : starts s src op masks (locks c) c) :
    serve op masks locks body src s = runCmd c (body c (takeFront s src)) := by
  obtain ⟨hc, ho, hs, hl, hb, hk, hr, hz, hm⟩ := h
  exact serve_fresh s hc (cmdAt_src hc) ho hs (by simp [hl]) (by simp [hb]) hk hr hz hm

theorem runCmd_ends {s : State} {src : Src} {op : Nat} {masks : List Nat} {locks : List Lock} {c : Cmd}
    (h : starts s src op masks locks c) (t : State) (st dt : Nat) (p : List W64) (ch : Option Change) :
    runCmd c (.ends t st dt p ch) = complete t src c.opcode c.tag c.digest st dt p ch := by
  rw [← cmdAt_src h.1]
  rfl

/-! ### Sequence numbers -/

@[simp] theorem bellsFail_journalSeq (s : State) : (bellsFail s).mbox.journalSeq = s.mbox.journalSeq := rfl

@[simp] theorem writeCompletion_journalSeq (s : State) (m : Nat) (w : List W64) :
    (writeCompletion s m w).mbox.journalSeq = s.mbox.journalSeq := by
  unfold writeCompletion
  extract_lets b t u v
  have ht : v.mbox.journalSeq = s.mbox.journalSeq := by
    simp only [v, u, t, setB_mbox, wr_mbox, notePortA, stN_mbox]
  split
  · split
    · rw [bellsFail_journalSeq, setB_mbox, ht]
    · rw [setB_mbox, ht]
  · exact ht

@[simp] theorem putCompletion_journalSeq (s : State) (src : Src) (w : List W64) :
    (putCompletion s src w).mbox.journalSeq = s.mbox.journalSeq := by
  unfold putCompletion
  split
  · split
    · rfl
    · simp
  · rfl

@[simp] theorem noteBell_journalSeq (s : State) (ci : Nat) : (noteBell s ci).mbox.journalSeq = s.mbox.journalSeq := by
  unfold noteBell
  split
  · dsimp only
    split
    · split <;> rfl
    · rfl
  · rfl

@[simp] theorem takeFront_journalSeq (s : State) (src : Src) : (takeFront s src).mbox.journalSeq = s.mbox.journalSeq := by
  unfold takeFront
  split
  · dsimp only
    split
    · exact noteBell_journalSeq s _
    · rfl
  · rfl

/-- What a completed command leaves: its kept answer, and the next journal sequence. -/
theorem completed_of {s v t : State} {src : Src} {c : Cmd} {st dt : Nat} {p : List W64} {ch : Option Change}
    (hv : v.mbox.journalSeq = s.mbox.journalSeq)
    (ht : t.mbox = (complete v src c.opcode c.tag c.digest st dt p ch).mbox) :
    completed s t src c st dt p ch.isSome := by
  constructor
  · have h := lastKept_complete v src c.opcode c.tag c.digest st dt p ch
    rw [lastKept, ← ht] at h
    rw [keptLast, h, seqOf, hv]
  · rw [ht]
    unfold complete
    cases ch <;> simp [keep, journal, hv]

/-! ### Bytes and registers of a completion -/

theorem ldB_of_mem {s t : State} (h : t.mem = s.mem) (a : Nat) : ldB t a = ldB s a := by simp [ldB, h]

@[simp] theorem bytesOf_length (l : List W64) : (bytesOf l).length = 8 * l.length := by
  induction l with
  | nil => rfl
  | cons a r ih => simp [bytesOf] at *; omega

@[simp] theorem cplWords_length (op tag st : Nat) (d : Bool) (dt q : Nat) (p : List W64) :
    (cplWords op tag st d dt q p).length = 8 := by
  simp [cplWords]
  omega

theorem ldB_writeCompletion (s : State) (m : Nat) (w : List W64) (a : Nat)
    (h : a < ringEntry m true (cplPi s m) ∨ ringEntry m true (cplPi s m) + 8 * w.length ≤ a) :
    ldB (writeCompletion s m w) a = ldB s a := by
  unfold writeCompletion
  extract_lets b t u v
  have ht : ldB v a = ldB s a := by
    rw [ldB_of_mem (t := v) (s := stN s b (bytesOf w)) (by simp [v, u, t, notePortA])]
    exact ldB_stN_out _ _ _ _ (by simpa using h)
  split
  · split
    · rw [← ht]; exact ldB_of_mem rfl a
    · rw [← ht]; exact ldB_of_mem rfl a
  · exact ht

theorem ldB_putCompletion (s : State) (src : Src) (w : List W64) (a : Nat) (hw : w.length = 8)
    (h : ¬ boxByte s src false a) : ldB (putCompletion s src w) a = ldB s a := by
  unfold putCompletion
  split
  · rename_i m
    split
    · rfl
    · rename_i hf
      simp only [boxByte, Bool.false_eq_true, false_and, or_false, not_and] at h
      apply ldB_writeCompletion
      have := h (by simpa using hf)
      omega
  · rfl

theorem ldB_journal (s : State) (op so m st tg : Nat) (ch : Change) (a : Nat)
    (h : a < journalBase + s.mbox.journalSeq % 4096 * 32 ∨ journalBase + s.mbox.journalSeq % 4096 * 32 + 32 ≤ a) :
    ldB (journal s op so m st tg ch) a = ldB s a := by
  unfold journal
  extract_lets b t u v w
  have e : ldB w a = ldB s a := by
    simp only [w, v, u, t]
    rw [ldB_stU_out _ _ _ _ _ (by omega), ldB_stU_out _ _ _ _ _ (by omega), ldB_stU_out _ _ _ _ _ (by omega),
      ldB_stU_out _ _ _ _ _ (by omega)]
  rw [← e]
  show Sparse.get memDefault _ a = _
  rfl

theorem cplPi_of_regs {s t : State} (h : t.regs = s.regs) (m : Nat) : cplPi t m = cplPi s m := by simp [cplPi, rdF, rd_of_regs h]
theorem cplFull_of_regs {s t : State} (h : t.regs = s.regs) (m : Nat) : cplFull t m = cplFull s m := by
  simp [cplFull, cplPi, cplCi, rdF, rd_of_regs h]

/-- A completion stores nothing outside its own bytes. -/
theorem ldB_complete (s : State) (src : Src) (op tag d st dt : Nat) (p : List W64) (ch : Option Change) (a : Nat)
    (h : ¬ boxByte s src ch.isSome a) : ldB (complete s src op tag d st dt p ch) a = ldB s a := by
  unfold complete
  extract_lets q t w
  refine (ldB_of_mem (s := putCompletion t src w) rfl a).trans ?_
  cases ch with
  | none => exact ldB_putCompletion s src _ a (by simp [w]) h
  | some ch =>
    have hj : t.regs = s.regs := by simp [t]
    rw [ldB_putCompletion t src _ a (by simp [w])]
    · refine ldB_journal s _ _ _ _ _ _ a ?_
      simp [boxByte] at h
      omega
    · simp only [boxByte, Option.isSome_some, true_and, not_or, cplFull_of_regs hj, cplPi_of_regs hj] at h ⊢
      exact ⟨h.1, by simp⟩

theorem rd_writeCompletion_ne (s : State) (m : Fin 8) (w : List W64) (o : Nat)
    (h : o ≠ R.mbCplPi m.val ∧ o ≠ R.mbStatus m.val) : rd (writeCompletion s m.val w) o = rd s o := by
  unfold writeCompletion
  extract_lets b t u v
  have hv : rd v o = rd s o := by
    simp only [v, u]
    rw [setB_eq, rd_wr_ne h.2, rd_wr_ne h.1]
    exact rd_of_regs (by simp [t, notePortA]) o
  split
  · split
    · rename_i h0
      rw [← hv]
      show rd (setB v (R.mbStatus 0) 3) o = _
      rw [setB_eq, rd_wr_ne (by rw [← h0]; exact h.2)]
    · rw [setB_eq, rd_wr_ne h.2, hv]
  · exact hv

/-- A completion changes the registers of its mailbox alone. -/
theorem rd_complete_ne (s : State) (src : Src) (op tag d st dt : Nat) (p : List W64) (ch : Option Change) (o : Nat)
    (h : o ∉ boxRegs src) : rd (complete s src op tag d st dt p ch) o = rd s o := by
  unfold complete
  extract_lets q t w
  have ht : rd t o = rd s o := by
    simp only [t]
    split
    · exact rd_of_regs (by simp) o
    · rfl
  refine (rd_of_regs (s := putCompletion t src w) rfl o).trans ?_
  rw [← ht]
  unfold putCompletion
  split
  · split
    · rfl
    · exact rd_writeCompletion_ne _ _ _ _ (by simp [boxRegs] at h; exact ⟨h.2.1, h.2.2.1⟩)
  · rfl

/-- Taking a command changes the registers of its mailbox alone. -/
theorem rd_takeFront_ne (s : State) (src : Src) (o : Nat) (h : o ∉ boxRegs src) : rd (takeFront s src) o = rd s o := by
  unfold takeFront
  split
  · simp [boxRegs] at h
    dsimp only
    split
    · rename_i h0
      rw [rd_wr_ne h.1, rd_noteBell s _ (by simp at h0; simpa [h0] using h.2.2.2)]
    · rw [← rd_wr_ne (s := s) h.1]
      rfl
  · rfl

theorem cplPi_takeFront (s : State) (src : Src) (m : Fin 8) : cplPi (takeFront s src) m.val = cplPi s m.val := by
  unfold cplPi rdF
  congr 1
  unfold takeFront
  split
  · rename_i k
    have hm := m.isLt
    have hk := k.isLt
    have h1 : R.mbCplPi m.val ≠ R.mbCmdCi k.val := by unfold R.mbCplPi R.mbCmdCi; omega
    have h2 : R.mbCplPi m.val ≠ R.mbStartMax 0 := by unfold R.mbCplPi R.mbStartMax; omega
    dsimp only
    split
    · rw [rd_wr_ne h1, rd_noteBell s _ h2]
    · rw [← rd_wr_ne (s := s) h1]
      rfl
  · rfl

theorem cplCi_takeFront (s : State) (src : Src) (m : Fin 8) : cplCi (takeFront s src) m.val = cplCi s m.val := by
  unfold cplCi rdF
  congr 1
  unfold takeFront
  split
  · rename_i k
    have hm := m.isLt
    have hk := k.isLt
    have h1 : R.mbCplCi m.val ≠ R.mbCmdCi k.val := by unfold R.mbCplCi R.mbCmdCi; omega
    have h2 : R.mbCplCi m.val ≠ R.mbStartMax 0 := by unfold R.mbCplCi R.mbStartMax; omega
    dsimp only
    split
    · rw [rd_wr_ne h1, rd_noteBell s _ h2]
    · rw [← rd_wr_ne (s := s) h1]
      rfl
  · rfl

/-- The bytes that a completion will store are the same once the command has been taken, and after a change that keeps
the completion indices and the journal's sequence. -/
theorem boxByte_of {s v : State} {src : Src} {j : Bool} {a : Nat} (hq : v.mbox.journalSeq = s.mbox.journalSeq)
    (hp : ∀ m : Fin 8, cplPi v m.val = cplPi s m.val) (hc : ∀ m : Fin 8, cplCi v m.val = cplCi s m.val) :
    boxByte v src j a ↔ boxByte s src j a := by
  unfold boxByte
  rw [hq]
  cases src with
  | ring m => simp only [cplFull, hp m, hc m]
  | relay e => rfl

/-- What a served command leaves unchanged, from what its meaning leaves unchanged. -/
theorem boxFrame_of {s v t : State} {src : Src} {op tag d st dt : Nat} {p : List W64} {ch : Option Change}
    {regs : List Nat} {bytes : Nat → Prop}
    (hr : ∀ o, o ∉ regs → rd v o = rd (takeFront s src) o)
    (hregs : ∀ m : Fin 8, R.mbCplPi m.val ∉ regs ∧ R.mbCplCi m.val ∉ regs)
    (hb : ∀ a, ¬ bytes a → ldB v a = ldB s a) (hq : v.mbox.journalSeq = s.mbox.journalSeq)
    (ht : t = after s (complete v src op tag d st dt p ch)) :
    boxFrame s t src ch.isSome regs bytes := by
  subst ht
  constructor
  · intro o h1 h2 h3
    rw [after, rd_settle _ _ h3, rd_keepAll, rd_complete_ne _ _ _ _ _ _ _ _ _ _ h2, hr o h1, rd_takeFront_ne _ _ _ h2]
  · intro a h1 h2
    rw [after, ldB_settle, ldB_keepAll, ldB_complete, hb a h1]
    rw [boxByte_of hq]
    · exact h2
    · intro m
      rw [← cplPi_takeFront s src m]
      simp only [cplPi, rdF, hr _ (hregs m).1]
    · intro m
      rw [← cplCi_takeFront s src m]
      simp only [cplCi, rdF, hr _ (hregs m).2]

theorem after_mbox (s t : State) : (after s t).mbox = t.mbox := by simp [after]

/-- A state that differs in these fields alone differs in its own values of them. -/
theorem only_of {s t : State} (h : ∃ r m b o, t = { s with regs := r, mem := m, mbox := b, outs := o }) :
    t = { s with regs := t.regs, mem := t.mem, mbox := t.mbox, outs := t.outs } := by
  obtain ⟨_, _, _, _, rfl⟩ := h
  rfl

theorem keepAll_mailOnly {s v : State} (h : MailOnly s v) : keepAll s v = v := by
  obtain ⟨_, _, _, rfl⟩ := h
  rfl

theorem after_only {s v : State} (h : MailOnly s v) :
    after s v = { s with regs := (after s v).regs, mem := (after s v).mem, mbox := (after s v).mbox
                         outs := (after s v).outs } := by
  apply only_of
  rw [after, settle_frame, keepAll_mailOnly h]
  obtain ⟨m, r, b, rfl⟩ := h
  exact ⟨_, m, b, _, rfl⟩

/-- A command that only reads. -/
theorem readsOnly_of {s : State} {src : Src} {op : Nat} {masks : List Nat} {locks : List Lock} {c : Cmd}
    (h : starts s src op masks locks c) (p : List W64) :
    readsOnly s (after s (runCmd c (.reads (takeFront s src) p))) src c p := by
  rw [Ans.reads, runCmd_ends h]
  refine ⟨completed_of (ch := none) (takeFront_journalSeq s src) (after_mbox _ _),
    boxFrame_of (ch := none) (fun _ _ => rfl) (by simp) (by simp) (takeFront_journalSeq s src) rfl, ?_⟩
  exact after_only ((takeFront_frame s src).trans (complete_frame ..))

/-- A command that is rejected. -/
theorem rejects_of {s : State} {src : Src} {op : Nat} {masks : List Nat} {locks : List Lock} {c : Cmd}
    (h : starts s src op masks locks c) (st dt : Nat) :
    rejects s (after s (runCmd c (.fail (takeFront s src) st dt))) src c st dt := by
  rw [Ans.fail, runCmd_ends h]
  refine ⟨completed_of (ch := none) (takeFront_journalSeq s src) (after_mbox _ _),
    boxFrame_of (ch := none) (fun _ _ => rfl) (by simp) (by simp) (takeFront_journalSeq s src) rfl, ?_⟩
  exact after_only ((takeFront_frame s src).trans (complete_frame ..))

end Sys2Proof.Machine
end

