-- ==== Sys2Proof/Laws/Commands.lean ====
section
/-! SUPPORT. What any command can do, said once: each row runs in one of seven frames. -/
namespace Sys2Proof.Machine

/-- The frames of `Sys2Proof/Machine/Flags.lean`. -/
inductive Shape where
  | ordinary | served | firmware | time | phase | store | always
  deriving DecidableEq, Repr

/-- The frame of a command. -/
def shapeOf : Instr → Shape
  | .identify _ | .badOpcode _ | .entryError _ _ | .doorbell _ _ | .mbCplCiWrite _ _ | .mgmtPortWrite _ _ _
  | .mgmtPortRead _ _ | .hostWindowWrite _ _ _ | .hostWindowRead _ _ _ | .hotReset _ => .served
  | .fwUpdateBegin _ | .fwUpdateWrite _ | .fwUpdateCommit _ | .fwUpdateCommitDone _ => .firmware
  | .timeAdjust _ => .time
  | .standbyEntry => .phase
  | .rollbackFuseBlow => .store
  | .thermalSample _ | .standbyWake _ _ _ | .coldReset _ | .warmReset | .refclkLoss | .jtagInstruction _
  | .coldResetRelease _ | .perstDeassertion _ | .refclkReturn | .vddAonLoss => .always
  | _ => .ordinary

/-- A frame around an effect. -/
def Shape.run : Shape → State → (State → State) → Host.Outcome State Fault Refusal
  | .ordinary, s, e => act s e
  | .served, s, e => actServed s e
  | .firmware, s, e => actFirmware s e
  | .time, s, e => actTime s e
  | .phase, s, e => actPhase s e
  | .store, s, e => actStore s e
  | .always, s, e => actAlways s e

variable (s : State)

theorem shape_identify (src : Src) : ∃ eff, execIdentify src s = actServed s eff := by
  unfold execIdentify
  exact ⟨_, rfl⟩
theorem shape_nop (src : Src) : ∃ eff, execNop src s = act s eff := by
  unfold execNop
  exact ⟨_, rfl⟩
theorem shape_deviceStatus (src : Src) : ∃ eff, execDeviceStatus src s = act s eff := by
  unfold execDeviceStatus
  exact ⟨_, rfl⟩
theorem shape_powerLimit (src : Src) : ∃ eff, execPowerLimit src s = act s eff := by
  unfold execPowerLimit
  exact ⟨_, rfl⟩
theorem shape_powerState (src : Src) : ∃ eff, execPowerState src s = act s eff := by
  unfold execPowerState
  exact ⟨_, rfl⟩
theorem shape_linkRetrain (src : Src) (up : Bool) : ∃ eff, execLinkRetrain src up s = act s eff := by
  unfold execLinkRetrain
  exact ⟨_, rfl⟩
theorem shape_jobLoad (src : Src) : ∃ eff, execJobLoad src s = act s eff := by
  unfold execJobLoad
  exact ⟨_, rfl⟩
theorem shape_jobLoadDone (job : BitVec 8) : ∃ eff, execJobLoadDone job s = act s eff := by
  unfold execJobLoadDone
  exact ⟨_, rfl⟩
theorem shape_jobStart (src : Src) : ∃ eff, execJobStart src s = act s eff := by
  unfold execJobStart
  exact ⟨_, rfl⟩
theorem shape_jobStop (src : Src) : ∃ eff, execJobStop src s = act s eff := by
  unfold execJobStop
  exact ⟨_, rfl⟩
theorem shape_jobSuspend (src : Src) : ∃ eff, execJobSuspend src s = act s eff := by
  unfold execJobSuspend
  exact ⟨_, rfl⟩
theorem shape_jobResume (src : Src) : ∃ eff, execJobResume src s = act s eff := by
  unfold execJobResume
  exact ⟨_, rfl⟩
theorem shape_jobReset (src : Src) : ∃ eff, execJobReset src s = act s eff := by
  unfold execJobReset
  exact ⟨_, rfl⟩
theorem shape_jobUnload (src : Src) : ∃ eff, execJobUnload src s = act s eff := by
  unfold execJobUnload
  exact ⟨_, rfl⟩
theorem shape_jobQuery (src : Src) : ∃ eff, execJobQuery src s = act s eff := by
  unfold execJobQuery
  exact ⟨_, rfl⟩
theorem shape_jobPolicy (src : Src) : ∃ eff, execJobPolicy src s = act s eff := by
  unfold execJobPolicy
  exact ⟨_, rfl⟩
theorem shape_jobSetL0 (src : Src) : ∃ eff, execJobSetL0 src s = act s eff := by
  unfold execJobSetL0
  exact ⟨_, rfl⟩
theorem shape_tableChange (src : Src) : ∃ eff, execTableChange src s = act s eff := by
  unfold execTableChange
  exact ⟨_, rfl⟩
theorem shape_breathConfig (src : Src) : ∃ eff, execBreathConfig src s = act s eff := by
  unfold execBreathConfig
  exact ⟨_, rfl⟩
theorem shape_breathLagLimit (src : Src) : ∃ eff, execBreathLagLimit src s = act s eff := by
  unfold execBreathLagLimit
  exact ⟨_, rfl⟩
theorem shape_breathClear (src : Src) : ∃ eff, execBreathClear src s = act s eff := by
  unfold execBreathClear
  exact ⟨_, rfl⟩
theorem shape_checkpoint (src : Src) : ∃ eff, execCheckpoint src s = act s eff := by
  unfold execCheckpoint
  exact ⟨_, rfl⟩
theorem shape_checkpointQuery (src : Src) : ∃ eff, execCheckpointQuery src s = act s eff := by
  unfold execCheckpointQuery
  exact ⟨_, rfl⟩
theorem shape_checkpointExport (src : Src) : ∃ eff, execCheckpointExport src s = act s eff := by
  unfold execCheckpointExport
  exact ⟨_, rfl⟩
theorem shape_checkpointImport (src : Src) : ∃ eff, execCheckpointImport src s = act s eff := by
  unfold execCheckpointImport
  exact ⟨_, rfl⟩
theorem shape_weightsRead (src : Src) : ∃ eff, execWeightsRead src s = act s eff := by
  unfold execWeightsRead
  exact ⟨_, rfl⟩
theorem shape_weightsWrite (src : Src) : ∃ eff, execWeightsWrite src s = act s eff := by
  unfold execWeightsWrite
  exact ⟨_, rfl⟩
theorem shape_queueOp (src : Src) : ∃ eff, execQueueOp src s = act s eff := by
  unfold execQueueOp
  exact ⟨_, rfl⟩
theorem shape_queueQuery (src : Src) : ∃ eff, execQueueQuery src s = act s eff := by
  unfold execQueueQuery
  exact ⟨_, rfl⟩
theorem shape_queueBind (src : Src) : ∃ eff, execQueueBind src s = act s eff := by
  unfold execQueueBind
  exact ⟨_, rfl⟩
theorem shape_engineReset (src : Src) : ∃ eff, execEngineReset src s = act s eff := by
  unfold execEngineReset
  exact ⟨_, rfl⟩
theorem shape_convConfig (src : Src) : ∃ eff, execConvConfig src s = act s eff := by
  unfold execConvConfig
  exact ⟨_, rfl⟩
theorem shape_convStart (src : Src) : ∃ eff, execConvStart src s = act s eff := by
  unfold execConvStart
  exact ⟨_, rfl⟩
theorem shape_convStop (src : Src) : ∃ eff, execConvStop src s = act s eff := by
  unfold execConvStop
  exact ⟨_, rfl⟩
theorem shape_timeAdjust (src : Src) : ∃ eff, execTimeAdjust src s = actTime s eff := by
  unfold execTimeAdjust
  exact ⟨_, rfl⟩
theorem shape_ownSet (src : Src) : ∃ eff, execOwnSet src s = act s eff := by
  unfold execOwnSet
  exact ⟨_, rfl⟩
theorem shape_ownQuery (src : Src) : ∃ eff, execOwnQuery src s = act s eff := by
  unfold execOwnQuery
  exact ⟨_, rfl⟩
theorem shape_memFill (src : Src) : ∃ eff, execMemFill src s = act s eff := by
  unfold execMemFill
  exact ⟨_, rfl⟩
theorem shape_telemetryRead (src : Src) : ∃ eff, execTelemetryRead src s = act s eff := by
  unfold execTelemetryRead
  exact ⟨_, rfl⟩
theorem shape_countersClear (src : Src) : ∃ eff, execCountersClear src s = act s eff := by
  unfold execCountersClear
  exact ⟨_, rfl⟩
theorem shape_fieldTest (src : Src) : ∃ eff, execFieldTest src s = act s eff := by
  unfold execFieldTest
  exact ⟨_, rfl⟩
theorem shape_fieldTestQuery (src : Src) : ∃ eff, execFieldTestQuery src s = act s eff := by
  unfold execFieldTestQuery
  exact ⟨_, rfl⟩
theorem shape_coreMark (src : Src) : ∃ eff, execCoreMark src s = act s eff := by
  unfold execCoreMark
  exact ⟨_, rfl⟩
theorem shape_coreHalt (src : Src) (merged : Bool) : ∃ eff, execCoreHalt src merged s = act s eff := by
  unfold execCoreHalt
  exact ⟨_, rfl⟩
theorem shape_coreResume (src : Src) (merged : Bool) : ∃ eff, execCoreResume src merged s = act s eff := by
  unfold execCoreResume
  exact ⟨_, rfl⟩
theorem shape_coreReset (src : Src) : ∃ eff, execCoreReset src s = act s eff := by
  unfold execCoreReset
  exact ⟨_, rfl⟩
theorem shape_attest (src : Src) : ∃ eff, execAttest src s = act s eff := by
  unfold execAttest
  exact ⟨_, rfl⟩
theorem shape_attestSigned (id : Nat) : ∃ eff, execAttestSigned id s = act s eff := by
  unfold execAttestSigned
  exact ⟨_, rfl⟩
theorem shape_certRead (src : Src) : ∃ eff, execCertRead src s = act s eff := by
  unfold execCertRead
  exact ⟨_, rfl⟩
theorem shape_fwUpdateBegin (src : Src) : ∃ eff, execFwUpdateBegin src s = actFirmware s eff := by
  unfold execFwUpdateBegin
  exact ⟨_, rfl⟩
theorem shape_fwUpdateWrite (src : Src) : ∃ eff, execFwUpdateWrite src s = actFirmware s eff := by
  unfold execFwUpdateWrite
  exact ⟨_, rfl⟩
theorem shape_fwUpdateCommit (src : Src) : ∃ eff, execFwUpdateCommit src s = actFirmware s eff := by
  unfold execFwUpdateCommit
  exact ⟨_, rfl⟩
theorem shape_journalRead (src : Src) : ∃ eff, execJournalRead src s = act s eff := by
  unfold execJournalRead
  exact ⟨_, rfl⟩
theorem shape_hierDiscover (src : Src) : ∃ eff, execHierDiscover src s = act s eff := by
  unfold execHierDiscover
  exact ⟨_, rfl⟩
theorem shape_hierQuery (src : Src) : ∃ eff, execHierQuery src s = act s eff := by
  unfold execHierQuery
  exact ⟨_, rfl⟩
theorem shape_hierRelay (src : Src) : ∃ eff, execHierRelay src s = act s eff := by
  unfold execHierRelay
  exact ⟨_, rfl⟩
theorem shape_hierRelayAnswer (id : Nat) (entry : List W64) : ∃ eff, execHierRelayAnswer id entry s = act s eff := by
  unfold execHierRelayAnswer
  exact ⟨_, rfl⟩
theorem shape_hierRelayTimeout (id : Nat) : ∃ eff, execHierRelayTimeout id s = act s eff := by
  unfold execHierRelayTimeout
  exact ⟨_, rfl⟩
theorem shape_badOpcode (src : Src) : ∃ eff, execBadOpcode src s = actServed s eff := by
  unfold execBadOpcode
  exact ⟨_, rfl⟩
theorem shape_entryError (m : Fin 8) (headerBad : Bool) : ∃ eff, execEntryError m headerBad s = actServed s eff := by
  unfold execEntryError
  exact ⟨_, rfl⟩
theorem shape_doorbell (m : Fin 8) (value : W64) : ∃ eff, execDoorbell m value s = actServed s eff := by
  unfold execDoorbell
  exact ⟨_, rfl⟩
theorem shape_mbCplCiWrite (m : Fin 8) (value : W64) : ∃ eff, execMbCplCiWrite m value s = actServed s eff := by
  unfold execMbCplCiWrite
  exact ⟨_, rfl⟩
theorem shape_mgmtPortWrite (x : MgmtXfer) (ptr : BitVec 16) (data : List Byte) :
    ∃ eff, execMgmtPortWrite x ptr data s = actServed s eff := by
  unfold execMgmtPortWrite
  exact ⟨_, rfl⟩
theorem shape_mgmtPortRead (x : MgmtXfer) (n : Nat) : ∃ eff, execMgmtPortRead x n s = actServed s eff := by
  unfold execMgmtPortRead
  exact ⟨_, rfl⟩
theorem shape_registerWrite (a : RegAddr) (acc : Width) (value : W64) :
    ∃ eff, execRegisterWrite a acc value s = act s eff := by
  unfold execRegisterWrite
  exact ⟨_, rfl⟩
theorem shape_timeNowLowRead : ∃ eff, execTimeNowLowRead s = act s eff := by
  unfold execTimeNowLowRead
  exact ⟨_, rfl⟩
theorem shape_tmrCountRead (k : TimerId) : ∃ eff, execTmrCountRead k s = act s eff := by
  unfold execTmrCountRead
  exact ⟨_, rfl⟩
theorem shape_tmrCompareWrite (k : TimerId) (acc : Width) (value : W64) :
    ∃ eff, execTmrCompareWrite k acc value s = act s eff := by
  unfold execTmrCompareWrite
  exact ⟨_, rfl⟩
theorem shape_tmrFreezeWrite (k : TimerId) (freeze : Bool) : ∃ eff, execTmrFreezeWrite k freeze s = act s eff := by
  unfold execTmrFreezeWrite
  exact ⟨_, rfl⟩
theorem shape_ownXferStart (value : W64) : ∃ eff, execOwnXferStart value s = act s eff := by
  unfold execOwnXferStart
  exact ⟨_, rfl⟩
theorem shape_ownXferDone : ∃ eff, execOwnXferDone s = act s eff := by
  unfold execOwnXferDone
  exact ⟨_, rfl⟩
theorem shape_padRelease (value : W64) : ∃ eff, execPadRelease value s = act s eff := by
  unfold execPadRelease
  exact ⟨_, rfl⟩
theorem shape_dmaGo (e : DmaId) (value : W64) : ∃ eff, execDmaGo e value s = act s eff := by
  unfold execDmaGo
  exact ⟨_, rfl⟩
theorem shape_dmaDone (e : DmaId) (errs : List MemErr) : ∃ eff, execDmaDone e errs s = act s eff := by
  unfold execDmaDone
  exact ⟨_, rfl⟩
theorem shape_hostWindowWrite (o : BitVec 32) (data : List Byte) (raced : Bool) :
    ∃ eff, execHostWindowWrite o data raced s = actServed s eff := by
  unfold execHostWindowWrite
  exact ⟨_, rfl⟩
theorem shape_verifiedWrite (o : BitVec 32) (data : List Byte) : ∃ eff, execVerifiedWrite o data s = act s eff := by
  unfold execVerifiedWrite
  exact ⟨_, rfl⟩
theorem shape_hostWindowRead (o : BitVec 32) (n : Nat) (errs : List MemErr) :
    ∃ eff, execHostWindowRead o n errs s = actServed s eff := by
  unfold execHostWindowRead
  exact ⟨_, rfl⟩
theorem shape_hostMemoryCompletion (a : BitVec 64) (data : List Byte) (ok : Bool) :
    ∃ eff, execHostMemoryCompletion a data ok s = act s eff := by
  unfold execHostMemoryCompletion
  exact ⟨_, rfl⟩
theorem shape_queueOpen (n : CoreId) (q : QIdx) (portB : Bool) : ∃ eff, execQueueOpen n q portB s = act s eff := by
  unfold execQueueOpen
  exact ⟨_, rfl⟩
theorem shape_queueClose (n : CoreId) (q : QIdx) (portB : Bool) : ∃ eff, execQueueClose n q portB s = act s eff := by
  unfold execQueueClose
  exact ⟨_, rfl⟩
theorem shape_queueDrain (n : CoreId) (q : QIdx) (portB : Bool) : ∃ eff, execQueueDrain n q portB s = act s eff := by
  unfold execQueueDrain
  exact ⟨_, rfl⟩
theorem shape_queueConsume (n : CoreId) (q : QIdx) (portB : Bool) :
    ∃ eff, execQueueConsume n q portB s = act s eff := by
  unfold execQueueConsume
  exact ⟨_, rfl⟩
theorem shape_queueSend (n : CoreId) (b : QIdx) (off : BitVec 20) (portB : Bool) :
    ∃ eff, execQueueSend n b off portB s = act s eff := by
  unfold execQueueSend
  exact ⟨_, rfl⟩
theorem shape_queuePoll (n : CoreId) (q : QIdx) (mask : BitVec 32) (want : BitVec 32) :
    ∃ eff, execQueuePoll n q mask want s = act s eff := by
  unfold execQueuePoll
  exact ⟨_, rfl⟩
theorem shape_pollSatisfied (n : CoreId) (e : EngId) : ∃ eff, execPollSatisfied n e s = act s eff := by
  unfold execPollSatisfied
  exact ⟨_, rfl⟩
theorem shape_syncInit (n : CoreId) (o : ObjId) (value : W64) (e : EngId) :
    ∃ eff, execSyncInit n o value e s = act s eff := by
  unfold execSyncInit
  exact ⟨_, rfl⟩
theorem shape_syncSignal (n : CoreId) (o : ObjId) (value : W64) (e : EngId) :
    ∃ eff, execSyncSignal n o value e s = act s eff := by
  unfold execSyncSignal
  exact ⟨_, rfl⟩
theorem shape_syncWait (n : CoreId) (o : ObjId) (value : W64) (e : EngId) :
    ∃ eff, execSyncWait n o value e s = act s eff := by
  unfold execSyncWait
  exact ⟨_, rfl⟩
theorem shape_waitTimeout (n : CoreId) (e : EngId) : ∃ eff, execWaitTimeout n e s = act s eff := by
  unfold execWaitTimeout
  exact ⟨_, rfl⟩
theorem shape_qopReserved (n : CoreId) (cmd : W64) (portB : Bool) :
    ∃ eff, execQopReserved n cmd portB s = act s eff := by
  unfold execQopReserved
  exact ⟨_, rfl⟩
theorem shape_enginePark (n : CoreId) (e : EngId) : ∃ eff, execEnginePark n e s = act s eff := by
  unfold execEnginePark
  exact ⟨_, rfl⟩
theorem shape_qreq (n : CoreId) (f : Flit) : ∃ eff, execQreq n f s = act s eff := by
  unfold execQreq
  exact ⟨_, rfl⟩
theorem shape_waitingGrant (n : CoreId) (q : QIdx) : ∃ eff, execWaitingGrant n q s = act s eff := by
  unfold execWaitingGrant
  exact ⟨_, rfl⟩
theorem shape_grant (who : Endpoint) (f : Flit) : ∃ eff, execGrant who f s = act s eff := by
  unfold execGrant
  exact ⟨_, rfl⟩
theorem shape_nackReceived (who : Endpoint) (f : Flit) : ∃ eff, execNackReceived who f s = act s eff := by
  unfold execNackReceived
  exact ⟨_, rfl⟩
theorem shape_nackBusyRetry (who : Endpoint) : ∃ eff, execNackBusyRetry who s = act s eff := by
  unfold execNackBusyRetry
  exact ⟨_, rfl⟩
theorem shape_duplicate (who : Endpoint) (f : Flit) : ∃ eff, execDuplicate who f s = act s eff := by
  unfold execDuplicate
  exact ⟨_, rfl⟩
theorem shape_queueMessage (n : CoreId) (head : Flit) (bodies : List Flit) :
    ∃ eff, execQueueMessage n head bodies s = act s eff := by
  unfold execQueueMessage
  exact ⟨_, rfl⟩
theorem shape_operandMessage (n : CoreId) (head : Flit) (bodies : List Flit) :
    ∃ eff, execOperandMessage n head bodies s = act s eff := by
  unfold execOperandMessage
  exact ⟨_, rfl⟩
theorem shape_operandDelivery (n : CoreId) (q : QIdx) (held : Nat) (taken : Bool) :
    ∃ eff, execOperandDelivery n q held taken s = act s eff := by
  unfold execOperandDelivery
  exact ⟨_, rfl⟩
theorem shape_bulkBind (n : CoreId) (head : Flit) (bodies : List Flit) :
    ∃ eff, execBulkBind n head bodies s = act s eff := by
  unfold execBulkBind
  exact ⟨_, rfl⟩
theorem shape_bulkBlock (n : CoreId) (src : BitVec 12) (circuit : Fin 8) (data : List Byte) (tag : W64) (raced : Bool) :
    ∃ eff, execBulkBlock n src circuit data tag raced s = act s eff := by
  unfold execBulkBlock
  exact ⟨_, rfl⟩
theorem shape_circuitSetup (node : Node) (p : Port) (f : Flit) : ∃ eff, execCircuitSetup node p f s = act s eff := by
  unfold execCircuitSetup
  exact ⟨_, rfl⟩
theorem shape_circuitTeardown (node : Node) (p : Port) (f : Flit) :
    ∃ eff, execCircuitTeardown node p f s = act s eff := by
  unfold execCircuitTeardown
  exact ⟨_, rfl⟩
theorem shape_circuitReply (n : CoreId) (f : Flit) : ∃ eff, execCircuitReply n f s = act s eff := by
  unfold execCircuitReply
  exact ⟨_, rfl⟩
theorem shape_ctrlRead (n : CoreId) (f : Flit) : ∃ eff, execCtrlRead n f s = act s eff := by
  unfold execCtrlRead
  exact ⟨_, rfl⟩
theorem shape_ctrlWriteA (n : CoreId) (f : Flit) : ∃ eff, execCtrlWriteA n f s = act s eff := by
  unfold execCtrlWriteA
  exact ⟨_, rfl⟩
theorem shape_ctrlWriteD (n : CoreId) (f : Flit) (raced : Bool) : ∃ eff, execCtrlWriteD n f raced s = act s eff := by
  unfold execCtrlWriteD
  exact ⟨_, rfl⟩
theorem shape_ctrlResp (who : Endpoint) (f : Flit) : ∃ eff, execCtrlResp who f s = act s eff := by
  unfold execCtrlResp
  exact ⟨_, rfl⟩
theorem shape_routerFlitArrival (n : CoreId) (p : Port) (f : Flit) (cyc : Nat) :
    ∃ eff, execRouterFlitArrival n p f cyc s = act s eff := by
  unfold execRouterFlitArrival
  exact ⟨_, rfl⟩
theorem shape_flitSend (node : Node) (out : Port) (cyc : Nat) : ∃ eff, execFlitSend node out cyc s = act s eff := by
  unfold execFlitSend
  exact ⟨_, rfl⟩
theorem shape_echoReceived (who : Endpoint) (f : Flit) (cyc : Nat) :
    ∃ eff, execEchoReceived who f cyc s = act s eff := by
  unfold execEchoReceived
  exact ⟨_, rfl⟩
theorem shape_laneWordReceive (node : Node) (p : Port) (lane : Bool) (word : LaneWord) :
    ∃ eff, execLaneWordReceive node p lane word s = act s eff := by
  unfold execLaneWordReceive
  exact ⟨_, rfl⟩
theorem shape_controlWordReceive (l : LinkId) (word : BitVec 31) (good : Bool) :
    ∃ eff, execControlWordReceive l word good s = act s eff := by
  unfold execControlWordReceive
  exact ⟨_, rfl⟩
theorem shape_replayTimeout (l : LinkId) (merged : Bool) : ∃ eff, execReplayTimeout l merged s = act s eff := by
  unfold execReplayTimeout
  exact ⟨_, rfl⟩
theorem shape_retryWindowEnd (l : LinkId) : ∃ eff, execRetryWindowEnd l s = act s eff := by
  unfold execRetryWindowEnd
  exact ⟨_, rfl⟩
theorem shape_linkRetrainEnd (l : LinkId) (up : Bool) : ∃ eff, execLinkRetrainEnd l up s = act s eff := by
  unfold execLinkRetrainEnd
  exact ⟨_, rfl⟩
theorem shape_drainBegin : ∃ eff, execDrainBegin s = act s eff := by
  unfold execDrainBegin
  exact ⟨_, rfl⟩
theorem shape_drainFence : ∃ eff, execDrainFence s = act s eff := by
  unfold execDrainFence
  exact ⟨_, rfl⟩
theorem shape_cleanSweep : ∃ eff, execCleanSweep s = act s eff := by
  unfold execCleanSweep
  exact ⟨_, rfl⟩
theorem shape_drainTimeout : ∃ eff, execDrainTimeout s = act s eff := by
  unfold execDrainTimeout
  exact ⟨_, rfl⟩
theorem shape_hubPortFlit (p : HubPort) (f : Flit) (epoch : Nat) : ∃ eff, execHubPortFlit p f epoch s = act s eff := by
  unfold execHubPortFlit
  exact ⟨_, rfl⟩
theorem shape_stepStart (j : BreathId) : ∃ eff, execStepStart j s = act s eff := by
  unfold execStepStart
  exact ⟨_, rfl⟩
theorem shape_mpFetchDone (c : Chan) (errs : List MemErr) : ∃ eff, execMpFetchDone c errs s = act s eff := by
  unfold execMpFetchDone
  exact ⟨_, rfl⟩
theorem shape_mpInject (c : Chan) (cyc : Nat) : ∃ eff, execMpInject c cyc s = act s eff := by
  unfold execMpInject
  exact ⟨_, rfl⟩
theorem shape_timerStartAction (j : BreathId) (merged : Bool) :
    ∃ eff, execTimerStartAction j merged s = act s eff := by
  unfold execTimerStartAction
  exact ⟨_, rfl⟩
theorem shape_stepOverrun (j : BreathId) : ∃ eff, execStepOverrun j s = act s eff := by
  unfold execStepOverrun
  exact ⟨_, rfl⟩
theorem shape_frameSyncCapture (merged : Bool) : ∃ eff, execFrameSyncCapture merged s = act s eff := by
  unfold execFrameSyncCapture
  exact ⟨_, rfl⟩
theorem shape_frameMiss (j : BreathId) : ∃ eff, execFrameMiss j s = act s eff := by
  unfold execFrameMiss
  exact ⟨_, rfl⟩
theorem shape_frameArmMissing (j : BreathId) : ∃ eff, execFrameArmMissing j s = act s eff := by
  unfold execFrameArmMissing
  exact ⟨_, rfl⟩
theorem shape_suspendReached (j : BreathId) : ∃ eff, execSuspendReached j s = act s eff := by
  unfold execSuspendReached
  exact ⟨_, rfl⟩
theorem shape_coreStart (n : CoreId) (j : BreathId) (t : BitVec 32) (ue : Option BadLoad) :
    ∃ eff, execCoreStart n j t ue s = act s eff := by
  unfold execCoreStart
  exact ⟨_, rfl⟩
theorem shape_coreCommit (n : CoreId) (j : BreathId) (t : BitVec 32) (ue : Lost) :
    ∃ eff, execCoreCommit n j t ue s = act s eff := by
  unfold execCoreCommit
  exact ⟨_, rfl⟩
theorem shape_coreHold (n : CoreId) (j : BreathId) (t : BitVec 32) : ∃ eff, execCoreHold n j t s = act s eff := by
  unfold execCoreHold
  exact ⟨_, rfl⟩
theorem shape_heldUpdateStart (n : CoreId) (ue : Option BadLoad) : ∃ eff, execHeldUpdateStart n ue s = act s eff := by
  unfold execHeldUpdateStart
  exact ⟨_, rfl⟩
theorem shape_emitFlit (n : CoreId) (cyc : Nat) (stalled : Nat) : ∃ eff, execEmitFlit n cyc stalled s = act s eff := by
  unfold execEmitFlit
  exact ⟨_, rfl⟩
theorem shape_barrierReportSend (n : CoreId) (kind : RepKind) (tag : StepTag) (cyc : Nat) :
    ∃ eff, execBarrierReportSend n kind tag cyc s = act s eff := by
  unfold execBarrierReportSend
  exact ⟨_, rfl⟩
theorem shape_doneSend (n : CoreId) (cyc : Nat) : ∃ eff, execDoneSend n cyc s = act s eff := by
  unfold execDoneSend
  exact ⟨_, rfl⟩
theorem shape_eventIntake (n : CoreId) (f : Flit) (ue : Lost) : ∃ eff, execEventIntake n f ue s = act s eff := by
  unfold execEventIntake
  exact ⟨_, rfl⟩
theorem shape_deferredIntake (n : CoreId) (ue : Lost) : ∃ eff, execDeferredIntake n ue s = act s eff := by
  unfold execDeferredIntake
  exact ⟨_, rfl⟩
theorem shape_rollbackPass (n : CoreId) (ue : Lost) : ∃ eff, execRollbackPass n ue s = act s eff := by
  unfold execRollbackPass
  exact ⟨_, rfl⟩
theorem shape_splitValue (n : CoreId) (f : Flit) (ue : Lost) : ∃ eff, execSplitValue n f ue s = act s eff := by
  unfold execSplitValue
  exact ⟨_, rfl⟩
theorem shape_splitCount (n : CoreId) (f : Flit) : ∃ eff, execSplitCount n f s = act s eff := by
  unfold execSplitCount
  exact ⟨_, rfl⟩
theorem shape_combineContribution (n : CoreId) (f : Flit) : ∃ eff, execCombineContribution n f s = act s eff := by
  unfold execCombineContribution
  exact ⟨_, rfl⟩
theorem shape_plasticityHeldStart (n : CoreId) (ue : Lost) : ∃ eff, execPlasticityHeldStart n ue s = act s eff := by
  unfold execPlasticityHeldStart
  exact ⟨_, rfl⟩
theorem shape_modWaitEnd (n : CoreId) (cycles : Nat) (ue : Lost) :
    ∃ eff, execModWaitEnd n cycles ue s = act s eff := by
  unfold execModWaitEnd
  exact ⟨_, rfl⟩
theorem shape_plasticityComplete (n : CoreId) (refused : Nat) :
    ∃ eff, execPlasticityComplete n refused s = act s eff := by
  unfold execPlasticityComplete
  exact ⟨_, rfl⟩
theorem shape_snapshotStreamDone (n : CoreId) : ∃ eff, execSnapshotStreamDone n s = act s eff := by
  unfold execSnapshotStreamDone
  exact ⟨_, rfl⟩
theorem shape_deadlockSample : ∃ eff, execDeadlockSample s = act s eff := by
  unfold execDeadlockSample
  exact ⟨_, rfl⟩
theorem shape_deadlock (j : BreathId) : ∃ eff, execDeadlock j s = act s eff := by
  unfold execDeadlock
  exact ⟨_, rfl⟩
theorem shape_membraneReadResponse (c : Chan) (f : Flit) : ∃ eff, execMembraneReadResponse c f s = act s eff := by
  unfold execMembraneReadResponse
  exact ⟨_, rfl⟩
theorem shape_bellDelivery (c : Chan) : ∃ eff, execBellDelivery c s = act s eff := by
  unfold execBellDelivery
  exact ⟨_, rfl⟩
theorem shape_evtInFrame (words : List (BitVec 32)) : ∃ eff, execEvtInFrame words s = act s eff := by
  unfold execEvtInFrame
  exact ⟨_, rfl⟩
theorem shape_evtOutFrame : ∃ eff, execEvtOutFrame s = act s eff := by
  unfold execEvtOutFrame
  exact ⟨_, rfl⟩
theorem shape_evtInClockLoss : ∃ eff, execEvtInClockLoss s = act s eff := by
  unfold execEvtInClockLoss
  exact ⟨_, rfl⟩
theorem shape_deviceTimeTick (at_ : List (Nat × Nat)) : ∃ eff, execDeviceTimeTick at_ s = act s eff := by
  unfold execDeviceTimeTick
  exact ⟨_, rfl⟩
theorem shape_ppsCapture (merged : Bool) : ∃ eff, execPpsCapture merged s = act s eff := by
  unfold execPpsCapture
  exact ⟨_, rfl⟩
theorem shape_timeOutPulse : ∃ eff, execTimeOutPulse s = act s eff := by
  unfold execTimeOutPulse
  exact ⟨_, rfl⟩
theorem shape_timerMatch (k : TimerId) : ∃ eff, execTimerMatch k s = act s eff := by
  unfold execTimerMatch
  exact ⟨_, rfl⟩
theorem shape_timerOverflow (k : TimerId) : ∃ eff, execTimerOverflow k s = act s eff := by
  unfold execTimerOverflow
  exact ⟨_, rfl⟩
theorem shape_timerTrigger (k : TimerId) (merged : Bool) : ∃ eff, execTimerTrigger k merged s = act s eff := by
  unfold execTimerTrigger
  exact ⟨_, rfl⟩
theorem shape_powerEpoch (mw : Nat) (cores : List Nat) : ∃ eff, execPowerEpoch mw cores s = act s eff := by
  unfold execPowerEpoch
  exact ⟨_, rfl⟩
theorem shape_thermalSample (temps : List Int) : ∃ eff, execThermalSample temps s = actAlways s eff := by
  unfold execThermalSample
  exact ⟨_, rfl⟩
theorem shape_vregFault (die : Fin 4) : ∃ eff, execVregFault die s = act s eff := by
  unfold execVregFault
  exact ⟨_, rfl⟩
theorem shape_islandNap (n : CoreId) : ∃ eff, execIslandNap n s = act s eff := by
  unfold execIslandNap
  exact ⟨_, rfl⟩
theorem shape_islandWake (n : CoreId) (merged : Bool) : ∃ eff, execIslandWake n merged s = act s eff := by
  unfold execIslandWake
  exact ⟨_, rfl⟩
theorem shape_ligatureRecalibration (l : LinkId) : ∃ eff, execLigatureRecalibration l s = act s eff := by
  unfold execLigatureRecalibration
  exact ⟨_, rfl⟩
theorem shape_recalForced (l : LinkId) : ∃ eff, execRecalForced l s = act s eff := by
  unfold execRecalForced
  exact ⟨_, rfl⟩
theorem shape_ddrCalibration (ch : Fin 4) (zq : Bool) : ∃ eff, execDdrCalibration ch zq s = act s eff := by
  unfold execDdrCalibration
  exact ⟨_, rfl⟩
theorem shape_patrolScrubRead (ecc : Ecc) (inTag : Bool) : ∃ eff, execPatrolScrubRead ecc inTag s = act s eff := by
  unfold execPatrolScrubRead
  exact ⟨_, rfl⟩
theorem shape_patrolLate : ∃ eff, execPatrolLate s = act s eff := by
  unfold execPatrolLate
  exact ⟨_, rfl⟩
theorem shape_sramScrubRead (a : Nat) (ecc : Ecc) (raced : Bool) :
    ∃ eff, execSramScrubRead a ecc raced s = act s eff := by
  unfold execSramScrubRead
  exact ⟨_, rfl⟩
theorem shape_standbyEntry : ∃ eff, execStandbyEntry s = actPhase s eff := by
  unfold execStandbyEntry
  exact ⟨_, rfl⟩
theorem shape_standbyWake (mask : BitVec 8) (gpio : Fin 16) (ticks : Nat) :
    ∃ eff, execStandbyWake mask gpio ticks s = actAlways s eff := by
  unfold execStandbyWake
  exact ⟨_, rfl⟩
theorem shape_jobFault (job : BitVec 8) (code : BitVec 8) (step : BitVec 32) :
    ∃ eff, execJobFault job code step s = act s eff := by
  unfold execJobFault
  exact ⟨_, rfl⟩
theorem shape_restartReload (job : BitVec 8) : ∃ eff, execRestartReload job s = act s eff := by
  unfold execRestartReload
  exact ⟨_, rfl⟩
theorem shape_checkpointBlock (p : HubPort) (n : CoreId) (seq : BitVec 16) (data : List Byte) (tag : W64) :
    ∃ eff, execCheckpointBlock p n seq data tag s = act s eff := by
  unfold execCheckpointBlock
  exact ⟨_, rfl⟩
theorem shape_checkpointCommit (job : BitVec 8) : ∃ eff, execCheckpointCommit job s = act s eff := by
  unfold execCheckpointCommit
  exact ⟨_, rfl⟩
theorem shape_fieldTestDue (n : CoreId) : ∃ eff, execFieldTestDue n s = act s eff := by
  unfold execFieldTestDue
  exact ⟨_, rfl⟩
theorem shape_fieldTestForced (job : BitVec 8) : ∃ eff, execFieldTestForced job s = act s eff := by
  unfold execFieldTestForced
  exact ⟨_, rfl⟩
theorem shape_fieldTestDone (cores : List CoreId) (failed : List CoreId) :
    ∃ eff, execFieldTestDone cores failed s = act s eff := by
  unfold execFieldTestDone
  exact ⟨_, rfl⟩
theorem shape_peerFrame (p : Fin 4) (fr : Frame) : ∃ eff, execPeerFrame p fr s = act s eff := by
  unfold execPeerFrame
  exact ⟨_, rfl⟩
theorem shape_coldReset (cause : ColdCause) : ∃ eff, execColdReset cause s = actAlways s eff := by
  unfold execColdReset
  exact ⟨_, rfl⟩
theorem shape_warmReset : ∃ eff, execWarmReset s = actAlways s eff := by
  unfold execWarmReset
  exact ⟨_, rfl⟩
theorem shape_hotReset (flr : Bool) : ∃ eff, execHotReset flr s = actServed s eff := by
  unfold execHotReset
  exact ⟨_, rfl⟩
theorem shape_refclkLoss : ∃ eff, execRefclkLoss s = actAlways s eff := by
  unfold execRefclkLoss
  exact ⟨_, rfl⟩
theorem shape_jtagInstruction (ir : TapIr) : ∃ eff, execJtagInstruction ir s = actAlways s eff := by
  unfold execJtagInstruction
  exact ⟨_, rfl⟩
theorem shape_rollbackFuseBlow : ∃ eff, execRollbackFuseBlow s = actStore s eff := by
  unfold execRollbackFuseBlow
  exact ⟨_, rfl⟩
theorem shape_laneLockLoss (l : LinkId) : ∃ eff, execLaneLockLoss l s = act s eff := by
  unfold execLaneLockLoss
  exact ⟨_, rfl⟩
theorem shape_coldResetRelease (down : List LinkId) : ∃ eff, execColdResetRelease down s = actAlways s eff := by
  unfold execColdResetRelease
  exact ⟨_, rfl⟩
theorem shape_perstDeassertion (down : List LinkId) : ∃ eff, execPerstDeassertion down s = actAlways s eff := by
  unfold execPerstDeassertion
  exact ⟨_, rfl⟩
theorem shape_refclkReturn : ∃ eff, execRefclkReturn s = actAlways s eff := by
  unfold execRefclkReturn
  exact ⟨_, rfl⟩
theorem shape_vddAonLoss : ∃ eff, execVddAonLoss s = actAlways s eff := by
  unfold execVddAonLoss
  exact ⟨_, rfl⟩
theorem shape_evtInClockReturn : ∃ eff, execEvtInClockReturn s = act s eff := by
  unfold execEvtInClockReturn
  exact ⟨_, rfl⟩
theorem shape_timerGateChange (k : TimerId) (on : Bool) : ∃ eff, execTimerGateChange k on s = act s eff := by
  unfold execTimerGateChange
  exact ⟨_, rfl⟩
theorem shape_memFillDone (id : Nat) : ∃ eff, execMemFillDone id s = act s eff := by
  unfold execMemFillDone
  exact ⟨_, rfl⟩
theorem shape_checkpointExportDone (id : Nat) : ∃ eff, execCheckpointExportDone id s = act s eff := by
  unfold execCheckpointExportDone
  exact ⟨_, rfl⟩
theorem shape_checkpointImportDone (id : Nat) : ∃ eff, execCheckpointImportDone id s = act s eff := by
  unfold execCheckpointImportDone
  exact ⟨_, rfl⟩
theorem shape_fwUpdateCommitDone (id : Nat) : ∃ eff, execFwUpdateCommitDone id s = actFirmware s eff := by
  unfold execFwUpdateCommitDone
  exact ⟨_, rfl⟩
theorem shape_hierDiscoverDone (id : Nat) (mask : BitVec 16) : ∃ eff, execHierDiscoverDone id mask s = act s eff := by
  unfold execHierDiscoverDone
  exact ⟨_, rfl⟩

/-- Every command runs in its frame. -/
theorem exec_shape (c : Instr) : ∃ eff, exec c s = (shapeOf c).run s eff := by
  cases c
  case identify src => exact shape_identify s src
  case nop src => exact shape_nop s src
  case deviceStatus src => exact shape_deviceStatus s src
  case powerLimit src => exact shape_powerLimit s src
  case powerState src => exact shape_powerState s src
  case linkRetrain src up => exact shape_linkRetrain s src up
  case jobLoad src => exact shape_jobLoad s src
  case jobLoadDone job => exact shape_jobLoadDone s job
  case jobStart src => exact shape_jobStart s src
  case jobStop src => exact shape_jobStop s src
  case jobSuspend src => exact shape_jobSuspend s src
  case jobResume src => exact shape_jobResume s src
  case jobReset src => exact shape_jobReset s src
  case jobUnload src => exact shape_jobUnload s src
  case jobQuery src => exact shape_jobQuery s src
  case jobPolicy src => exact shape_jobPolicy s src
  case jobSetL0 src => exact shape_jobSetL0 s src
  case tableChange src => exact shape_tableChange s src
  case breathConfig src => exact shape_breathConfig s src
  case breathLagLimit src => exact shape_breathLagLimit s src
  case breathClear src => exact shape_breathClear s src
  case checkpoint src => exact shape_checkpoint s src
  case checkpointQuery src => exact shape_checkpointQuery s src
  case checkpointExport src => exact shape_checkpointExport s src
  case checkpointImport src => exact shape_checkpointImport s src
  case weightsRead src => exact shape_weightsRead s src
  case weightsWrite src => exact shape_weightsWrite s src
  case queueOp src => exact shape_queueOp s src
  case queueQuery src => exact shape_queueQuery s src
  case queueBind src => exact shape_queueBind s src
  case engineReset src => exact shape_engineReset s src
  case convConfig src => exact shape_convConfig s src
  case convStart src => exact shape_convStart s src
  case convStop src => exact shape_convStop s src
  case timeAdjust src => exact shape_timeAdjust s src
  case ownSet src => exact shape_ownSet s src
  case ownQuery src => exact shape_ownQuery s src
  case memFill src => exact shape_memFill s src
  case telemetryRead src => exact shape_telemetryRead s src
  case countersClear src => exact shape_countersClear s src
  case fieldTest src => exact shape_fieldTest s src
  case fieldTestQuery src => exact shape_fieldTestQuery s src
  case coreMark src => exact shape_coreMark s src
  case coreHalt src merged => exact shape_coreHalt s src merged
  case coreResume src merged => exact shape_coreResume s src merged
  case coreReset src => exact shape_coreReset s src
  case attest src => exact shape_attest s src
  case attestSigned id => exact shape_attestSigned s id
  case certRead src => exact shape_certRead s src
  case fwUpdateBegin src => exact shape_fwUpdateBegin s src
  case fwUpdateWrite src => exact shape_fwUpdateWrite s src
  case fwUpdateCommit src => exact shape_fwUpdateCommit s src
  case journalRead src => exact shape_journalRead s src
  case hierDiscover src => exact shape_hierDiscover s src
  case hierQuery src => exact shape_hierQuery s src
  case hierRelay src => exact shape_hierRelay s src
  case hierRelayAnswer id entry => exact shape_hierRelayAnswer s id entry
  case hierRelayTimeout id => exact shape_hierRelayTimeout s id
  case badOpcode src => exact shape_badOpcode s src
  case entryError m headerBad => exact shape_entryError s m headerBad
  case doorbell m value => exact shape_doorbell s m value
  case mbCplCiWrite m value => exact shape_mbCplCiWrite s m value
  case mgmtPortWrite x ptr data => exact shape_mgmtPortWrite s x ptr data
  case mgmtPortRead x n => exact shape_mgmtPortRead s x n
  case registerWrite a acc value => exact shape_registerWrite s a acc value
  case timeNowLowRead => exact shape_timeNowLowRead s
  case tmrCountRead k => exact shape_tmrCountRead s k
  case tmrCompareWrite k acc value => exact shape_tmrCompareWrite s k acc value
  case tmrFreezeWrite k freeze => exact shape_tmrFreezeWrite s k freeze
  case ownXferStart value => exact shape_ownXferStart s value
  case ownXferDone => exact shape_ownXferDone s
  case padRelease value => exact shape_padRelease s value
  case dmaGo e value => exact shape_dmaGo s e value
  case dmaDone e errs => exact shape_dmaDone s e errs
  case hostWindowWrite o data raced => exact shape_hostWindowWrite s o data raced
  case verifiedWrite o data => exact shape_verifiedWrite s o data
  case hostWindowRead o n errs => exact shape_hostWindowRead s o n errs
  case hostMemoryCompletion a data ok => exact shape_hostMemoryCompletion s a data ok
  case queueOpen n q portB => exact shape_queueOpen s n q portB
  case queueClose n q portB => exact shape_queueClose s n q portB
  case queueDrain n q portB => exact shape_queueDrain s n q portB
  case queueConsume n q portB => exact shape_queueConsume s n q portB
  case queueSend n b off portB => exact shape_queueSend s n b off portB
  case queuePoll n q mask want => exact shape_queuePoll s n q mask want
  case pollSatisfied n e => exact shape_pollSatisfied s n e
  case syncInit n o value e => exact shape_syncInit s n o value e
  case syncSignal n o value e => exact shape_syncSignal s n o value e
  case syncWait n o value e => exact shape_syncWait s n o value e
  case waitTimeout n e => exact shape_waitTimeout s n e
  case qopReserved n cmd portB => exact shape_qopReserved s n cmd portB
  case enginePark n e => exact shape_enginePark s n e
  case qreq n f => exact shape_qreq s n f
  case waitingGrant n q => exact shape_waitingGrant s n q
  case grant who f => exact shape_grant s who f
  case nackReceived who f => exact shape_nackReceived s who f
  case nackBusyRetry who => exact shape_nackBusyRetry s who
  case duplicate who f => exact shape_duplicate s who f
  case queueMessage n head bodies => exact shape_queueMessage s n head bodies
  case operandMessage n head bodies => exact shape_operandMessage s n head bodies
  case operandDelivery n q held taken => exact shape_operandDelivery s n q held taken
  case bulkBind n head bodies => exact shape_bulkBind s n head bodies
  case bulkBlock n src circuit data tag raced => exact shape_bulkBlock s n src circuit data tag raced
  case circuitSetup node p f => exact shape_circuitSetup s node p f
  case circuitTeardown node p f => exact shape_circuitTeardown s node p f
  case circuitReply n f => exact shape_circuitReply s n f
  case ctrlRead n f => exact shape_ctrlRead s n f
  case ctrlWriteA n f => exact shape_ctrlWriteA s n f
  case ctrlWriteD n f raced => exact shape_ctrlWriteD s n f raced
  case ctrlResp who f => exact shape_ctrlResp s who f
  case routerFlitArrival n p f cyc => exact shape_routerFlitArrival s n p f cyc
  case flitSend node out cyc => exact shape_flitSend s node out cyc
  case echoReceived who f cyc => exact shape_echoReceived s who f cyc
  case laneWordReceive node p lane word => exact shape_laneWordReceive s node p lane word
  case controlWordReceive l word good => exact shape_controlWordReceive s l word good
  case replayTimeout l merged => exact shape_replayTimeout s l merged
  case retryWindowEnd l => exact shape_retryWindowEnd s l
  case linkRetrainEnd l up => exact shape_linkRetrainEnd s l up
  case drainBegin => exact shape_drainBegin s
  case drainFence => exact shape_drainFence s
  case cleanSweep => exact shape_cleanSweep s
  case drainTimeout => exact shape_drainTimeout s
  case hubPortFlit p f epoch => exact shape_hubPortFlit s p f epoch
  case stepStart j => exact shape_stepStart s j
  case mpFetchDone c errs => exact shape_mpFetchDone s c errs
  case mpInject c cyc => exact shape_mpInject s c cyc
  case timerStartAction j merged => exact shape_timerStartAction s j merged
  case stepOverrun j => exact shape_stepOverrun s j
  case frameSyncCapture merged => exact shape_frameSyncCapture s merged
  case frameMiss j => exact shape_frameMiss s j
  case frameArmMissing j => exact shape_frameArmMissing s j
  case suspendReached j => exact shape_suspendReached s j
  case coreStart n j t ue => exact shape_coreStart s n j t ue
  case coreCommit n j t ue => exact shape_coreCommit s n j t ue
  case coreHold n j t => exact shape_coreHold s n j t
  case heldUpdateStart n ue => exact shape_heldUpdateStart s n ue
  case emitFlit n cyc stalled => exact shape_emitFlit s n cyc stalled
  case barrierReportSend n kind tag cyc => exact shape_barrierReportSend s n kind tag cyc
  case doneSend n cyc => exact shape_doneSend s n cyc
  case eventIntake n f ue => exact shape_eventIntake s n f ue
  case deferredIntake n ue => exact shape_deferredIntake s n ue
  case rollbackPass n ue => exact shape_rollbackPass s n ue
  case splitValue n f ue => exact shape_splitValue s n f ue
  case splitCount n f => exact shape_splitCount s n f
  case combineContribution n f => exact shape_combineContribution s n f
  case plasticityHeldStart n ue => exact shape_plasticityHeldStart s n ue
  case modWaitEnd n cycles ue => exact shape_modWaitEnd s n cycles ue
  case plasticityComplete n refused => exact shape_plasticityComplete s n refused
  case snapshotStreamDone n => exact shape_snapshotStreamDone s n
  case deadlockSample => exact shape_deadlockSample s
  case deadlock j => exact shape_deadlock s j
  case membraneReadResponse c f => exact shape_membraneReadResponse s c f
  case bellDelivery c => exact shape_bellDelivery s c
  case evtInFrame words => exact shape_evtInFrame s words
  case evtOutFrame => exact shape_evtOutFrame s
  case evtInClockLoss => exact shape_evtInClockLoss s
  case deviceTimeTick at_ => exact shape_deviceTimeTick s at_
  case ppsCapture merged => exact shape_ppsCapture s merged
  case timeOutPulse => exact shape_timeOutPulse s
  case timerMatch k => exact shape_timerMatch s k
  case timerOverflow k => exact shape_timerOverflow s k
  case timerTrigger k merged => exact shape_timerTrigger s k merged
  case powerEpoch mw cores => exact shape_powerEpoch s mw cores
  case thermalSample temps => exact shape_thermalSample s temps
  case vregFault die => exact shape_vregFault s die
  case islandNap n => exact shape_islandNap s n
  case islandWake n merged => exact shape_islandWake s n merged
  case ligatureRecalibration l => exact shape_ligatureRecalibration s l
  case recalForced l => exact shape_recalForced s l
  case ddrCalibration ch zq => exact shape_ddrCalibration s ch zq
  case patrolScrubRead ecc inTag => exact shape_patrolScrubRead s ecc inTag
  case patrolLate => exact shape_patrolLate s
  case sramScrubRead a ecc raced => exact shape_sramScrubRead s a ecc raced
  case standbyEntry => exact shape_standbyEntry s
  case standbyWake mask gpio ticks => exact shape_standbyWake s mask gpio ticks
  case jobFault job code step => exact shape_jobFault s job code step
  case restartReload job => exact shape_restartReload s job
  case checkpointBlock p n seq data tag => exact shape_checkpointBlock s p n seq data tag
  case checkpointCommit job => exact shape_checkpointCommit s job
  case fieldTestDue n => exact shape_fieldTestDue s n
  case fieldTestForced job => exact shape_fieldTestForced s job
  case fieldTestDone cores failed => exact shape_fieldTestDone s cores failed
  case peerFrame p fr => exact shape_peerFrame s p fr
  case coldReset cause => exact shape_coldReset s cause
  case warmReset => exact shape_warmReset s
  case hotReset flr => exact shape_hotReset s flr
  case refclkLoss => exact shape_refclkLoss s
  case jtagInstruction ir => exact shape_jtagInstruction s ir
  case rollbackFuseBlow => exact shape_rollbackFuseBlow s
  case laneLockLoss l => exact shape_laneLockLoss s l
  case coldResetRelease down => exact shape_coldResetRelease s down
  case perstDeassertion down => exact shape_perstDeassertion s down
  case refclkReturn => exact shape_refclkReturn s
  case vddAonLoss => exact shape_vddAonLoss s
  case evtInClockReturn => exact shape_evtInClockReturn s
  case timerGateChange k on => exact shape_timerGateChange s k on
  case memFillDone id => exact shape_memFillDone s id
  case checkpointExportDone id => exact shape_checkpointExportDone s id
  case checkpointImportDone id => exact shape_checkpointImportDone s id
  case fwUpdateCommitDone id => exact shape_fwUpdateCommitDone s id
  case hierDiscoverDone id mask => exact shape_hierDiscoverDone s id mask

/-- The rows of the resets, the pins and the supplies: those that run in every phase. -/
theorem always_cases {c : Instr} (h : shapeOf c = .always) :
    (∃ m g t, c = .standbyWake m g t) ∨ (∃ k, c = .coldReset k) ∨ c = .warmReset ∨ c = .refclkLoss ∨
      (∃ i, c = .jtagInstruction i) ∨ (∃ d, c = .coldResetRelease d) ∨ (∃ d, c = .perstDeassertion d) ∨
      c = .refclkReturn ∨ c = .vddAonLoss ∨ ∃ l, c = .thermalSample l := by
  cases c <;> first | (cases h; done) | simp

/-- The rows with a frame of their own. -/
theorem time_cases {c : Instr} (h : shapeOf c = .time) : ∃ src, c = .timeAdjust src := by
  cases c <;> first | (cases h; done) | simp

theorem phase_cases {c : Instr} (h : shapeOf c = .phase) : c = .standbyEntry := by
  cases c <;> first | (cases h; done) | simp

theorem store_cases {c : Instr} (h : shapeOf c = .store) : c = .rollbackFuseBlow := by
  cases c <;> first | (cases h; done) | simp

theorem firmware_cases {c : Instr} (h : shapeOf c = .firmware) :
    (∃ src, c = .fwUpdateBegin src) ∨ (∃ src, c = .fwUpdateWrite src) ∨ (∃ src, c = .fwUpdateCommit src) ∨
      ∃ id, c = .fwUpdateCommitDone id := by
  cases c <;> first | (cases h; done) | simp

end Sys2Proof.Machine
end

