-- ==== Sys2Proof/Tests/Slice0.lean ====
section
/-! SUPPORT. Tests: ill-formed commands that WellFormed refuses, values that the spec gives, and for every statement
states and operands that meet its hypotheses. Expected values come from the spec's words, tables and worked examples. -/
namespace Sys2Proof.Tests
open Sys2Proof Sys2Proof.Machine

-- One test after another: each evaluates a whole machine, and many at once need too many threads.
set_option Elab.async false

/-! ### Well-formedness -/

theorem test_wf_accepts :
    (Instr.nop (.ring 0)).wf = true ∧ (Instr.nop (.relay (List.replicate 8 0))).wf = true
      ∧ (Instr.registerWrite (.hub 0x2000) .whole 1).wf = true ∧ (Instr.flitSend (.hub 3) .east 0).wf = true
      ∧ (Instr.coldReset (.supply 10)).wf = true ∧ (Instr.qopReserved 0 9 false).wf = true := by decide +kernel
theorem test_wf_short_entry : (Instr.nop (.relay [0])).wf = false ∧ (Instr.hierRelayAnswer 0 [0]).wf = false := by
  decide +kernel
theorem test_wf_register :
    (Instr.registerWrite (.hub 0x2004) .whole 1).wf = false ∧ (Instr.registerWrite (.hub 0x1000000) .whole 1).wf = false
      ∧ (Instr.registerWrite (.core 0 0x8000) .whole 1).wf = false := by decide +kernel
theorem test_wf_window :
    (Instr.hostWindowRead 0 0 []).wf = false ∧ (Instr.hostWindowRead 0xFFFFFFFF 2 []).wf = false
      ∧ (Instr.hostWindowWrite 0 [] false).wf = false ∧ (Instr.verifiedWrite 0 []).wf = false := by decide +kernel
theorem test_wf_block :
    (Instr.hostMemoryCompletion 0 [0] true).wf = false
      ∧ (Instr.hostMemoryCompletion 1 (List.replicate 256 0) true).wf = false
      ∧ (Instr.bulkBlock 0 0 0 [0] 0 false).wf = false ∧ (Instr.checkpointBlock 0 0 0 [0] 0).wf = false := by decide +kernel
theorem test_wf_reserved_op : (Instr.qopReserved 0 0 false).wf = false ∧ (Instr.qopReserved 0 5 true).wf = true := by
  decide +kernel
theorem test_wf_message :
    (Instr.queueMessage 0 0 [0]).wf = false ∧ (Instr.operandMessage 0 0 []).wf = false
      ∧ (Instr.bulkBind 0 0 (List.replicate 9 0)).wf = false := by decide +kernel
theorem test_wf_ports :
    (Instr.circuitSetup (.hub 0) .north 0).wf = false ∧ (Instr.flitSend (.hub 0) .south 0).wf = false
      ∧ (Instr.replayTimeout (.mesh (.router 0) .loc) false).wf = false := by decide +kernel
theorem test_wf_lists :
    (Instr.evtInFrame []).wf = false ∧ (Instr.powerEpoch 0 [1, 1]).wf = false ∧ (Instr.powerEpoch 0 [1024]).wf = false
      ∧ (Instr.thermalSample [0]).wf = false ∧ (Instr.fieldTestDone [] []).wf = false
      ∧ (Instr.fieldTestDone [1] [2]).wf = false := by decide +kernel
theorem test_wf_causes :
    (Instr.sramScrubRead 4 .clean false).wf = false ∧ (Instr.standbyWake 0 0 0).wf = false
      ∧ (Instr.coldReset (.supply 11)).wf = false := by decide +kernel

/-! ### Values that the spec gives -/

/-- The check value of R317 over the nine ASCII bytes "123456789". -/
theorem test_crc32c : crc32c [0x31, 0x32, 0x33, 0x34, 0x35, 0x36, 0x37, 0x38, 0x39] = 0xE3069283 := by decide +kernel
/-- Vector 2 of Table 5-3. -/
theorem test_hash_vector2 : hash32 0x2A 1002 0 293 700 3 = 0x795ED16D := by decide +kernel

/-! ### Small states -/

/-- A package that serves, with 256 MiB of DDR5 data. -/
def base : State := wr { State.reset with chip := { phase := .running, perst := false } } R.ddrDataEnd 0x10000000

/-- What a command leaves: the next state. -/
def after1 (c : Instr) (s : State) : State :=
  match exec c s with
  | .next t => t
  | _ => s

/-- The command ends in exactly that next state. -/
def gives (c : Instr) (s t : State) : Bool :=
  match exec c s with
  | .next u => u = t
  | _ => false

/-- The eight words of an entry with opcode `op`, tag 0x77 and parameters `l`. -/
def entryOf (op : Nat) (l : List W64) : List W64 :=
  w64 (op + 0x77 * 2 ^ 16 + l.length * 2 ^ 40) :: (l ++ List.replicate (7 - l.length) 0)

/-- `s` with that entry waiting in mailbox 0. -/
def offering (op : Nat) (l : List W64) (s : State) : State :=
  stN (wr (setB s (R.mbStatus 0) 0) (R.mbCmdPi 0) 1) (ringEntry 0 false 0) (bytesOf (entryOf op l))

/-- The command of that entry. -/
def cmdOf (op : Nat) (l : List W64) : Cmd := Cmd.ofWords (.ring 0) (entryOf op l)

/-- `s` with job `j + 1` of breath `j` in state `st`, on the cores of the rectangle `rect`; its breath is in state `b`. -/
def withJob (j st b : Nat) (rect : W64) (s : State) : State :=
  let s := wr s (R.jobState j) (w64 (st + (j + 1) * 256))
  wr (setBrthState s j b) (R.brthRect j) rect

/-- `s` with those flits waiting at core `n`'s local port. -/
def taken (n : Nat) (l : List Flit) (s : State) : State := upCore s n fun c => { c with rx := l }
/-- `s` with those flits accepted on the link into input port `p` of `node`. -/
def crossing (node p : Nat) (l : List Flit) (s : State) : State :=
  match inLink node p with
  | some k => setLink s k { link s k with rx := l }
  | none => s
/-- The flits offered at the local port of `node` that have not entered. -/
def offered (s : State) (node : Nat) : List Flit := (s.mesh.offers.filter fun o => o.node = node).map (·.f)
/-- The flits that wait in the local input buffer of `node`, by VC. -/
def entered (s : State) (node vc : Nat) : List Flit := (buf s node 4 vc).map (·.f)

/-- Status of the first completion in mailbox 0, and word `k` of its results. -/
def status (t : State) : Nat := fld (w64 (ldU t (ringEntry 0 true 0) 8)) 32 8
def result (t : State) (k : Nat) : Nat := ldU t (ringEntry 0 true 0 + 16 + 8 * k) 8


/-! ### The whole machine, device time and timers -/

theorem witness_front : (let s := { base with pending := [.nop (.ring 0), .evtOutFrame] }
    s.pending = .nop (.ring 0) :: [.evtOutFrame] ∧ (after1 (.nop (.ring 0)) { s with pending := [.evtOutFrame] }).pending = [.evtOutFrame]) := by
  decide +kernel
theorem witness_stopped_clock : (let s := { base with chip := { base.chip with refclk := false } }
    s.chip.refclk = false ∧ actsUnclocked (.nop (.ring 0)) = false
      ∧ gives (.nop (.ring 0)) (offering 2 [] s) (offering 2 [] s) = true) := by decide +kernel
theorem witness_device_time : movesTime (.nop (.ring 0)) = false
    ∧ gives (.nop (.ring 0)) base (after1 (.nop (.ring 0)) base) = true := by decide +kernel
theorem witness_fuses : (let s := { base with boot := { base.boot with fuses := 1, svn := 2 } }
    s.boot.fuses.getLsbD 0 = true ∧ (after1 .rollbackFuseBlow s).boot.fuses = 3#64) := by decide +kernel
/-- R289: one cycle is 0.625 ns. -/
theorem witness_clock : base.pending = [] ∧ clocked base = true ∧ base.tim.slew = 0
    ∧ (match step base with | .next t => decide (t.time = 0xA0000000) | _ => false) = true := by decide +kernel
/-- R290 on a time with both halves set. -/
theorem test_time_now_reads : (let s := { base with time := 0x100000002 * 2 ^ 32 }
    let t := after1 .timeNowLowRead s
    live s = true ∧ t.outs.read = [2, 0, 0, 0] ∧ rd t R.timeHiLatch = 1) := by decide +kernel

/-- A timer that runs in mode FREE, its count at `v`. -/
def ticking (v : W64) : State := wr (wr base (R.tmrConfig 2) 0x7FC0000001) (R.tmrCount 2) v

/-- R302: the count of a running timer reads as at its last stop. -/
theorem witness_count_read : (let s := ticking 7
    let t := after1 (.tmrCountRead 2) s
    live s = true ∧ isHighHalf s 2 = false ∧ tmrRunning s 2 = true ∧ t.outs.read = leBytes 8 0
      ∧ rdB t (R.tmrStatus 2) 2 = true) := by decide +kernel
/-- R300: a compare equal to the count, and one 2^31 behind, are behind; one ahead is not. -/
theorem witness_compare : (let s := ticking 0x80000001
    live s = true ∧ isHighHalf s 2 = false ∧ isCascade s 2 = false
      ∧ rdB (after1 (.tmrCompareWrite 2 .whole 0x80000001) s) (R.tmrStatus 2) 3 = true
      ∧ rdB (after1 (.tmrCompareWrite 2 .whole 1) s) (R.tmrStatus 2) 3 = true
      ∧ rdB (after1 (.tmrCompareWrite 2 .whole 0x80000002) s) (R.tmrStatus 2) 3 = false
      ∧ rd (after1 (.tmrCompareWrite 2 .whole 0x80000002) s) (R.tmrCompare 2) = 0x80000002) := by decide +kernel
/-- R303: freezing latches the count. -/
theorem witness_freeze : (let s := ticking 9
    let t := after1 (.tmrFreezeWrite 2 true) s
    live s = true ∧ isHighHalf s 2 = false ∧ tmrRunning s 2 = true ∧ rdB t (R.tmrStatus 2) 1 = true
      ∧ Sparse.get (fun _ => 0) t.tim.latch 2 = 9
      ∧ rdB (after1 (.tmrFreezeWrite 2 false) t) (R.tmrStatus 2) 1 = false) := by decide +kernel
/-- R299: a match sets `MATCH`, and the wrap of all ones sets `OVF`. -/
theorem witness_ticks : (let s := wr (ticking 0xFFFFFFFF) (R.tmrCompare 2) 0
    let u := wr (ticking 4) (R.tmrCompare 2) 5
    live s = true ∧ counts s 2 = true ∧ tickMatches s 2 = true ∧ tickWraps s 2 = true
      ∧ rdB (after1 (.timerOverflow 2) s) (R.tmrStatus 2) 5 = true ∧ tmrCount (after1 (.timerOverflow 2) s) 2 = 0
      ∧ counts u 2 = true ∧ tickMatches u 2 = true ∧ tickWraps u 2 = false
      ∧ rdB (after1 (.timerMatch 2) u) (R.tmrStatus 2) 4 = true ∧ tmrCount (after1 (.timerMatch 2) u) 2 = 5) := by
  decide +kernel
/-- R307: a trigger pulse starts a timer whose trigger operation is start; R297: a gate opens. -/
theorem witness_trigger_and_gate :
    (let s := { base with tim := { base.tim with trigPulses := [(2, 1)] } };
      live s = true ∧ Sparse.get (fun _ => 0) s.tim.trigPulses 2 = 0 + 1
        ∧ Sparse.get (fun _ => 0) (after1 (.timerTrigger 2 false) s).tim.trigPulses 2 = 0)
    ∧ (let s := wr base (R.tmrConfig 2) (w64 (0x7FC0000001 + 1 * 2 ^ 20));
      live s = true ∧ isHighHalf s 2 = false ∧ 1 ≤ rdF s (R.tmrConfig 2) 20 3 ∧ rdF s (R.tmrConfig 2) 20 3 ≤ 3
        ∧ rdB (after1 (.timerGateChange 2 true) s) (R.tmrStatus 2) 9 = true) := by decide +kernel
/-- R294: 1.25 ns are taken off. -/
theorem witness_pps : (let s := { wr base R.timeCapConfig 1 with time := 1000 * 2 ^ 32 }
    let t := after1 (.ppsCapture true) s
    live s = true ∧ rdB s R.timeCapConfig 0 = true ∧ rd t R.ppsCapture = 998 ∧ rd t R.ppsCount = 1
      ∧ rdB t R.timePulseOvr 0 = true ∧ gives (.ppsCapture true) base base = true) := by decide +kernel
/-- R296: a pulse of the width programmed. -/
theorem witness_time_out : (let s := { wr (wr base R.toutConfig 1) R.toutPeriod 100 with
      tim := { base.tim with toutNext := some 0 } }
    let t := after1 .timeOutPulse s
    live s = true ∧ rdB s R.toutConfig 0 = true ∧ rdB s R.pwrState 3 = false ∧ s.tim.toutNext = some 0 ∧ 0 ≤ nowNs s
      ∧ t.outs.pulses = [(0, 10)] ∧ t.tim.toutNext = some 100) := by decide +kernel

/-! ### Mbozor commands -/


/-- R354: the completion of NOP, its index and `CPL_PENDING`; the ring has space, and one more fills it. -/
theorem witness_completions : (let t := after1 (.nop (.ring 0)) (offering 2 [] base)
    let full := wr base (R.mbCplPi 1) 255
    status t = 0 ∧ cmdCi t 0 = 1 ∧ cplPi t 0 = 1 ∧ rdB t (R.mbStatus 0) 2 = true
      ∧ cplFull base 1 = false ∧ (cplWords 2 0x77 0 false 0 0 []).length = 8
      ∧ cplFull full 1 = false ∧ cplFull (putCompletion full (.ring 1) (cplWords 2 0 0 false 0 0 [])) 1 = true) := by
  decide +kernel
/-- R374: the same entry again is answered from the record, with `DUPLICATE`. -/
theorem witness_repeat : (let t := after1 (.nop (.ring 0)) (offering 2 [] base)
    let s := stN (wr t (R.mbCmdPi 0) 2) (ringEntry 0 false 1) (bytesOf (entryOf 2 []))
    let c := cmdOf 2 []
    cmdAt s (.ring 0) = some c ∧ c.opcode = 2 ∧ startable s (.ring 0) = true ∧ lockHeld s false [] = false
      ∧ c.noDup = false ∧ (keptOf s c).isSome = true
      ∧ fld (w64 (ldU (after1 (.nop (.ring 0)) s) (ringEntry 0 true 1) 8)) 40 1 = 1
      ∧ (after1 (.nop (.ring 0)) s).mbox.kept = s.mbox.kept) := by decide +kernel

/-- The commands that only read can start (R373, R380). -/
theorem witness_reads : live base = true ∧ ∀ x ∈ ([(0x0001, [], []), (0x0002, [], []), (0x0003, [], []),
      (0x0108, [low 7], [w64 1]), (0x0302, [low 7], [w64 1]), (0x0802, [low 19], [w64 0]), (0x0A02, [low 9], [w64 3]),
      (0x0E02, [], [])] : List (Nat × List Nat × List W64)),
    starts (offering x.1 x.2.2 base) (.ring 0) x.1 x.2.1 [] (cmdOf x.1 x.2.2) := by
  unfold starts; decide +kernel
/-- JOB_QUERY answers state, breath and counts; an unknown job is NOT_FOUND; OWN_QUERY answers the flags (R350). -/
theorem test_reads :
    (let t := after1 (.jobQuery (.ring 0)) (offering 0x0108 [4] (withJob 3 6 0 0x100010001 base));
      status t = 0 ∧ result t 0 = 6 + 3 * 256)
    ∧ status (after1 (.jobQuery (.ring 0)) (offering 0x0108 [4] base)) = 0x13
    ∧ result (after1 (.ownQuery (.ring 0)) (offering 0x0802 [w64 (1047552 + 464)] base)) 0 = 0xAAAAAAAAAAAAAAAA
    ∧ result (after1 (.deviceStatus (.ring 0)) (offering 0x0003 [] { base with time := 5 * 2 ^ 32 })) 1 = 5 := by
  decide +kernel

/-- A certificate of five bytes, and one journal entry. -/
def reporting : State :=
  let s := { base with flash := [(0x10000, some 0x30), (0x10001, some 3), (0x10002, some 1), (0x10003, some 2), (0x10004, some 3)] };
  journalOwn s 0x0B ⟨1, 7, 2, 3⟩
theorem witness_cert : (let p : List W64 := [0x2000, 256]; let s := offering 0x0C02 p reporting; let c := cmdOf 0x0C02 p
    let l : List Byte := [0x30, 3, 1, 2, 3]; let t := after1 (.certRead (.ring 0)) s
    starts s (.ring 0) 0x0C02 [low 63, low 31] [] c ∧ l = flashN s 0x10000 (min (derLength s) 65536)
      ∧ inDdr s (c.c 1).toNat (cdiv l.length 256) ∧ cdiv l.length 256 * 256 ≤ c.f 2 0 32
      ∧ status t = 0 ∧ result t 0 = 5 ∧ ldN t 0x2000 6 = [0x30, 3, 1, 2, 3, 0]) := by
  unfold starts inDdr; decide +kernel
theorem witness_telemetry : (let p : List W64 := [0, 0x2000, 512]; let s := offering 0x0901 p base; let c := cmdOf 0x0901 p
    let l := leBytes 8 (nowNs s) ++ leBytes 8 (c.f 1 0 4 + (telemetry (takeFront s (.ring 0)) (c.f 1 0 4)).1 * 2 ^ 16)
        ++ (telemetry (takeFront s (.ring 0)) (c.f 1 0 4)).2
    starts s (.ring 0) 0x0901 [low 3, low 63, low 31] [] c ∧ c.f 1 0 4 ≤ 4
      ∧ inDdr s (c.c 2).toNat (cdiv l.length 256) ∧ cdiv l.length 256 * 256 ≤ c.f 3 0 32) := by
  unfold starts inDdr; decide +kernel
theorem witness_journal_read : (let p : List W64 := [0, 4096, 0x2000]; let s := offering 0x0D01 p reporting; let c := cmdOf 0x0D01 p
    let r := (0, 1); let t := after1 (.journalRead (.ring 0)) s
    starts s (.ring 0) 0x0D01 [low 31, low 12, low 63] [] c ∧ 1 ≤ c.f 2 0 13 ∧ c.f 2 0 13 ≤ 4096
      ∧ r = journalSpan s (c.f 1 0 32) (c.f 2 0 13) ∧ inDdr s (c.c 3).toNat (cdiv (r.2 * 32) 256)
      ∧ status t = 0 ∧ result t 0 = 2 ^ 32 ∧ ldU t 0x2008 4 = 0x0003FF03) := by
  unfold starts inDdr; decide +kernel

/-- R430: a limit within the range is taken and the old one answered; one outside it is refused with the alarm. -/
theorem witness_power_limit : (let s := offering 0x0004 [60] base; let u := offering 0x0004 [30] base
    let t := after1 (.powerLimit (.ring 0)) s; let v := after1 (.powerLimit (.ring 0)) u
    starts s (.ring 0) 0x0004 [low 6] [] (cmdOf 0x0004 [60]) ∧ limitOk s 60 = true
      ∧ status t = 0 ∧ result t 0 = rdF base R.pwrLimit 0 7 ∧ rdF t R.pwrLimit 0 7 = 60
      ∧ starts u (.ring 0) 0x0004 [low 6] [] (cmdOf 0x0004 [30]) ∧ limitOk u 30 = false
      ∧ status v = 0x11 ∧ rdB v R.pwrAlarm 3 = true) := by
  unfold starts; decide +kernel
/-- R387: the three kinds of adjustment. -/
theorem witness_time_adjust : (let f (k v : Nat) := offering 0x0701 [w64 k, w64 v] base
    let g (k v : Nat) := after1 (.timeAdjust (.ring 0)) (f k v)
    (∀ x ∈ [(0, 0xA0000001), (1, 0xFFFFFFFF), (2, 0xFFFFFFFFFFFFFFFF)],
      starts (f x.1 x.2) (.ring 0) 0x0701 [low 1, low 63] [.time] (cmdOf 0x0701 [w64 x.1, w64 x.2]) ∧ status (g x.1 x.2) = 0)
      ∧ rd (g 0 0xA0000001) R.timeIncr = 0xA0000001 ∧ (g 1 0xFFFFFFFF).tim.slew = -4294967296
      ∧ (g 2 0xFFFFFFFFFFFFFFFF).time = 2 ^ 96 - 2 ^ 32) := by
  unfold starts; decide +kernel
theorem witness_own_set : (let p : List W64 := [8, 3, 1]; let s := offering 0x0801 p base; let c := cmdOf 0x0801 p
    let t := after1 (.ownSet (.ring 0)) s
    starts s (.ring 0) 0x0801 [low 19, low 20, low 1] [.ownership] c ∧ granuleFree (c.f 1 0 20) = true ∧ c.f 2 0 21 ≠ 0
      ∧ rangeFixed (c.f 1 0 20) (c.f 2 0 21) = false
      ∧ status t = 0 ∧ flagOf t 8 = 1 ∧ flagOf t 10 = 1 ∧ flagOf t 11 = flagOf s 11) := by
  unfold starts; decide +kernel
/-- The settings of a job (Table 14-4). -/
theorem witness_job_settings : (let b := withJob 3 6 0 0x100010001 base
    let run (op : Nat) (p : List W64) (m : List Nat) := let s := offering op p b
      breathOf s ((cmdOf op p).f 1 0 8) = some 3 ∧ starts s (.ring 0) op m (c1Job (cmdOf op p)) (cmdOf op p)
    run 0x0109 [4, 0x000A0003, 24] [low 7, low 31, low 15] ∧ run 0x0202 [4, 9] [low 7, low 7] ∧ run 0x0203 [4] [low 7]
      ∧ run 0x010A [0x104] [low 8] ∧ jobState b 3 = 6 ∧ l0Breath b = none
      ∧ limitHolds (offering 0x010A [0x104] b) (rdF b R.pwrLimit 0 7) (some 3) (coresOf b 3).length = true
      ∧ (jobOf (after1 (.jobPolicy (.ring 0)) (offering 0x0109 [4, 0x000A0003, 24] b)) 3).deferHours = 24
      ∧ rd (after1 (.breathLagLimit (.ring 0)) (offering 0x0202 [4, 9] b)) (R.brthLagLimit 3) = 9
      ∧ rd (after1 (.breathClear (.ring 0)) (offering 0x0203 [4] (wr b (R.brthFrameMiss 3) 5))) (R.brthFrameMiss 3) = 0
      ∧ brthL0 (after1 (.jobSetL0 (.ring 0)) (offering 0x010A [0x104] b)) 3 = true) := by
  unfold starts; decide +kernel
theorem witness_core_mark : (let s := offering 0x0A03 [0x405] base; let c := cmdOf 0x0A03 [0x405]
    assigned s 5 = false ∧ c.f 1 0 10 = 5 ∧ starts s (.ring 0) 0x0A03 [low 10] [coreLock s 5] c
      ∧ (Machine.core (after1 (.coreMark (.ring 0)) s) 5).bad = true) := by
  unfold starts; decide +kernel
/-- A core's counters, a router's, and the memory's. -/
theorem witness_counters : (let f (k : Nat) := offering 0x0902 [w64 (k + 5 * 16 + 5 * 2 ^ 14)] (wr (cw (cw base 5 R.intakeEvents 1) 5 R.deferOcc 0x302) 0x100A20 1)
    let g (k : Nat) := after1 (.countersClear (.ring 0)) (f k)
    (∀ k ∈ List.range 7, let c := cmdOf 0x0902 [w64 (k + 5 * 16 + 5 * 2 ^ 14)]
      starts (f k) (.ring 0) 0x0902 [low 23] [] c ∧ c.f 1 0 4 ≤ 6 ∧ c.f 1 4 10 ≤ c.f 1 14 10 ∧ status (g k) = 0)
      ∧ cr (g 0) 5 R.intakeEvents = 0 ∧ cr (g 6) 5 R.intakeEvents = 1 ∧ cr (g 0) 5 R.deferOcc = 0x302
      ∧ cr (g 6) 5 R.deferOcc = 0x202 ∧ rd (g 1) 0x100A20 = 0) := by
  unfold starts; decide +kernel

/-- R66: a running job is asked to suspend; a suspended one resumes; others are told their state. -/
theorem witness_suspend : (let b (st : Nat) := withJob 3 st 2 0x100010001 base
    let s := offering 0x0104 [4] (b 3); let u := offering 0x0105 [4] (b 4); let w := offering 0x0104 [4] (b 6)
    let t := after1 (.jobSuspend (.ring 0)) s
    starts s (.ring 0) 0x0104 [low 7] (c1Job (cmdOf 0x0104 [4])) (cmdOf 0x0104 [4]) ∧ jobState s 3 = 3
      ∧ suspendPending t 3 = true ∧ t.mbox.runs.length = 1
      ∧ starts u (.ring 0) 0x0105 [low 7] (c1Job (cmdOf 0x0105 [4])) (cmdOf 0x0105 [4]) ∧ jobState u 3 = 4
      ∧ ((brth u 3).asked.erase 1).isEmpty = true ∧ status (after1 (.jobResume (.ring 0)) u) = 0
      ∧ jobState (after1 (.jobResume (.ring 0)) u) 3 = 3
      ∧ status (after1 (.jobSuspend (.ring 0)) w) = 0x12) := by
  unfold starts; decide +kernel
/-- R400, R401: stop from SUSPENDED and from RUNNING, reset, and unload. -/
theorem witness_stop : (let b (st : Nat) := withJob 3 st 2 0x100010001 base
    let f (op st : Nat) := offering op [4] (b st)
    let u := after1 (.jobStop (.ring 0)) (f 0x0103 4); let v := after1 (.jobStop (.ring 0)) (f 0x0103 3)
    let x := after1 (.jobReset (.ring 0)) (f 0x0106 6); let y := after1 (.jobUnload (.ring 0)) (f 0x0107 6)
    (∀ o ∈ [(0x0103, 3), (0x0103, 4), (0x0106, 6), (0x0107, 6)],
      starts (f o.1 o.2) (.ring 0) o.1 [low 7] [] (cmdOf o.1 [4]) ∧ lockHeld (f o.1 o.2) false (c1Job (cmdOf o.1 [4])) = false)
      ∧ jobState (cancelJob (holdJob (takeFront (f 0x0103 4) (.ring 0)) 3 2) 3 false) 3 = 4
      ∧ jobState u 3 = 6 ∧ status u = 0 ∧ jobState v 3 = 3 ∧ v.mbox.runs.length = 1
      ∧ jobState x 3 = 5 ∧ x.mesh.drains.length = 1 ∧ jobState y 3 = 0 ∧ status y = 0) := by
  unfold starts; decide +kernel
/-- R383: a stopped breath takes a configuration; one whose row is outside the rectangle is refused at word 2. -/
theorem witness_breath_config : (let b := withJob 3 6 0 0x000000100010000 base
    let p (w : W64) : List W64 := [4, w, 1000000, 10000000 + 0 * 2 ^ 32, 4]
    let s := offering 0x0201 (p 5) b; let u := offering 0x0201 (p 0x1F000000) b
    let t := after1 (.breathConfig (.ring 0)) s; let v := after1 (.breathConfig (.ring 0)) u
    breathOf s 4 = some 3 ∧ starts s (.ring 0) 0x0201 [low 7, 0x1F007F07, low 31, low 63, low 7] (c1Job (cmdOf 0x0201 (p 5))) (cmdOf 0x0201 (p 5))
      ∧ brthState s 3 = 0 ∧ breathBad (p 5) (rectY0 s 3) (rectY1 s 3) = none ∧ ovbFits (takeFront s (.ring 0)) 3 = true
      ∧ status t = 0 ∧ brthMode t 3 = 1 ∧ rd t (R.brthPeriod 3) = 1000000 ∧ crB t 0 R.coreConfig 3 = true
      ∧ status v = 0x11 ∧ fld (w64 (ldU v (ringEntry 0 true 0 + 8) 8)) 0 32 = 2) := by
  unfold starts; decide +kernel

/-- The bytes of a container that are not 0: a header, and one empty section of table rows for the core at (0, 0) with the
digest of no data; its checkpoint slots lie at 0x1000000 (Tables 15-1 and 15-2). -/
def tinyCells : List (Nat × Byte) :=
  [(0, 80), (1, 82), (2, 74), (3, 79), (4, 1), (6, 4), (12, 1), (16, 7), (27, 1), (34, 4), (41, 2), (49, 1), (52,
    1), (256, 4), (262, 7), (265, 2), (288, 227), (289, 176), (290, 196), (291, 66), (292, 152), (293, 252), (294,
    28), (295, 20), (296, 154), (297, 251), (298, 244), (299, 200), (300, 153), (301, 111), (302, 185), (303, 36),
    (304, 39), (305, 174), (306, 65), (307, 228), (308, 100), (309, 155), (310, 147), (311, 76), (312, 164), (313,
    149), (314, 153), (315, 27), (316, 120), (317, 82), (318, 184), (319, 85)]

/-- That container, of 512 bytes. -/
def tinyImage : List Byte := (List.range 512).map fun k => Sparse.get (fun _ => 0) tinyCells k

/-- It lies in DDR5 data at 0x200000, with its tags. -/
def holding : State := { base with
  mem := tinyCells.map (fun c => (0x200000 + c.1, c.2)), tags := [(8192, 153122389548093021), (8193, 153123488481938449)] }

/-- A JOB_LOAD of it as job 5 waits in mailbox 0. -/
def loadable : State := offering 0x0101 [0x200000, 512, 5, 0] holding
def loadCmd : Cmd := cmdOf 0x0101 [0x200000, 512, 5, 0]
/-- That load goes on, for job 5 of breath 0 on the core at (0, 0). -/
def loading : State :=
  let s := withJob 0 1 0 0x100000000 (wr holding (R.jobState 0) 0x501);
  let s := wr s (R.jobState 0) 0x501;
  { s with mbox := { s.mbox with nextRun := 1, runs := [⟨0, .ring 0, loadCmd.words, loadCmd.digest, true, [.job 5], [0]⟩] } }
/-- It is loaded, and a JOB_START of it waits in mailbox 0. -/
def startCmd : Cmd := cmdOf 0x0102 [5]
def startable1 : State :=
  let s := wr (withJob 0 2 0 0x100000000 holding) (R.jobState 0) 0x502;
  offering 0x0102 [5] (setJob s 0 { jobOf s 0 with
    imageAddr := 0x200000, imageBytes := 512, ckptBase := 0x1000000, slotBytes := 0x40000 })

/-- The bytes that a read of a parameter's blocks gives, if it is good, and what it leaves. -/
def sourceOf (n : Nat) (s : State) (a : Nat) : Option (List Byte) :=
  match (readSource none n s a).1 with
  | .data l => some l
  | _ => none

/-- R396, R400: the image is accepted, and its job is LOADING on breath 0. -/
theorem witness_load_command : starts loadable (.ring 0) 0x0101 [adr, low 31, low 8, low 31] [.job (loadId loadCmd)] loadCmd := by
  unfold starts; decide +kernel
theorem witness_load_parameters : loadCmd.f 2 0 32 ≠ 0 ∧ loadCmd.f 2 0 32 % 256 = 0 ∧ isWorker loadable = false
    ∧ bgCount loadable < 4 ∧ (loadCmd.c 1).toNat % 256 = 0
    ∧ firstUnmapped (takeFront loadable (.ring 0)) (loadCmd.c 1).toNat (cdiv (loadCmd.f 2 0 32) 256) = none := by decide +kernel
theorem witness_load_checks : (let u := takeFront loadable (.ring 0)
    ((sourceOf (cdiv (loadCmd.f 2 0 32) 256) u (loadCmd.c 1).toNat).bind fun l => parseImage u (l.take (loadCmd.f 2 0 32))).map (fun i =>
      (rejected u i (loadId loadCmd) ((freeBreath u).getD 0), loadRoom u (loadId loadCmd), i.rect))
        = some (none, some 0, w64 (2 ^ 32))) := by decide +kernel
/-- R394, R400: the load ends, and the job is LOADED; its completion names job and breath. -/
theorem witness_load_done : (let s := loading; let t := after1 (.jobLoadDone 5) s
    breathOf s 5 = some 0 ∧ (∀ n ∈ coresOf s 0, (Machine.core s n).testing = false)
      ∧ (s.mbox.runs.find? fun r => r.opcode = 0x0101 && r.locks.contains (.job 5)).map (fun r =>
          (canComplete s r.src, decide (sourceOf (r.f 2 0 32 / 256) s (r.words.getD 1 0).toNat = some tinyImage))) = some (true, true)
      ∧ (parseImage s tinyImage).isSome = true
      ∧ status t = 0 ∧ result t 0 = 5 ∧ jobState t 0 = 2 ∧ coresOf t 0 = [0]
      ∧ (let u := after1 (.jobLoadDone 5) (upCore s 0 fun c => { c with bad := true }); status u = 0x16 ∧ jobState u 0 = 0)) := by
  decide +kernel
/-- R401: a start afresh; its completion names the step after none. -/
theorem witness_start : (let s := startable1; let c := startCmd; let u := takeFront s (.ring 0)
    let t := after1 (.jobStart (.ring 0)) s
    starts s (.ring 0) 0x0102 [low 8] (c1Job c) c ∧ breathOf s (c.f 1 0 8) = some 0 ∧ jobState s 0 = 2
      ∧ (checkedImage u 0 [1, 2, 3, 4, 5, 6] []).1.isSome = true ∧ bitAt (c.c 1) 8 = false
      ∧ (usableSlot 0 2 (checkedImage u 0 [1, 2, 3, 4, 5, 6] []).2).1 = none
      ∧ status t = 0 ∧ result t 0 = 0
      ∧ jobState t 0 = 3 ∧ brthState t 0 = 2 ∧ brthMode s 0 = 0) := by
  unfold starts; decide +kernel

/-! ### Background and waiting commands -/

/-- `s` with one block of host memory delivered: device address 0x800000000000 + `a` shows PCIe address `a`. -/
def fromHost (a : Nat) (data : List Byte) (s : State) : State :=
  { wr (wr s (R.outCtrl 0) (w64 (2 ^ 63 + 0x100000))) (R.outBase 0) 0 with hostRd := ⟨a, data, false⟩ :: s.hostRd }

/-- A running command of mailbox 0 that carries out opcode `op` with parameters `l`. -/
def runFor (op : Nat) (l : List W64) (locks : List Lock) (aux : List Nat) : Run :=
  ⟨0, .ring 0, (cmdOf op l).words, (cmdOf op l).digest, true, locks, aux⟩
def withRun (r : Run) (s : State) : State :=
  { setB s (R.mbStatus 0) 0 with mbox := { s.mbox with runs := [r], nextRun := 1 } }

/-- Job 4 of breath 3 in state `st` on the core at (1, 1), with a valid checkpoint of one block of content in slot 0. -/
def slotted (st b : Nat) : State :=
  let s := withJob 3 st b 0x101010101 { base with
    mem := [82, 80, 67, 75, 4, 0, 1, 0, 1, 0, 0, 0, 0, 0, 0, 0, 7, 0, 0, 0, 1, 0, 0, 0, 9, 158, 243, 236].zipIdx.filterMap (fun x =>
        if x.1 = 0 then none else some (0x1000000 + x.2, BitVec.ofNat 8 x.1))
      ++ [(16777272, 107), (16777273, 17), (16777274, 10), (16777275, 150)],
    tags := [(65536, 20592404434)] };
  setJob s 3 { jobOf s 3 with ckptBase := 0x1000000, slotBytes := 0x40000, measure := List.replicate 32 0 }

/-- Background commands begin (R369). -/
theorem witness_background :
    (let p : List W64 := [0x2000, 512, 0]; let s := offering 0x0803 p base; let c := cmdOf 0x0803 p;
      starts s (.ring 0) 0x0803 [low 63, low 31, low 8] [] c ∧ bgCount s < 4 ∧ c.f 2 0 32 % 256 = 0 ∧ (c.c 1).toNat % 256 = 0
        ∧ firstUnmapped (takeFront s (.ring 0)) (c.c 1).toNat (cdiv (c.f 2 0 32) 256) = none
        ∧ (after1 (.memFill (.ring 0)) s).mbox.runs.length = 1)
    ∧ (let s := offering 0x0C05 [] base;
      starts s (.ring 0) 0x0C05 [] [.firmware] (cmdOf 0x0C05 []) ∧ (after1 (.fwUpdateCommit (.ring 0)) s).mbox.runs.length = 1)
    ∧ (let s := offering 0x0E01 [] (wr base R.peerTree 1); let u := offering 0x0E01 [] (wr base R.peerTree 0);
      starts s (.ring 0) 0x0E01 [] [] (cmdOf 0x0E01 []) ∧ peerRole s = 1
        ∧ (after1 (.hierDiscover (.ring 0)) s).mbox.runs.length = 1 ∧ status (after1 (.hierDiscover (.ring 0)) u) = 0x1C) := by
  unfold starts; decide +kernel
theorem witness_export : (let p : List W64 := [4, 0x2000, 512]; let s := offering 0x0303 p (slotted 6 0); let c := cmdOf 0x0303 p
    starts s (.ring 0) 0x0303 [low 8, low 63, low 31] [] c ∧ breathOf s (c.f 1 0 8) = some 3
      ∧ slotValid s 3 (c.f 1 8 1) = true ∧ (slotCount s 3 (c.f 1 8 1) + 1) * 256 ≤ c.f 3 0 32 ∧ (c.c 2).toNat % 256 = 0
      ∧ firstUnmapped (takeFront s (.ring 0)) (c.c 2).toNat (cdiv ((slotCount s 3 (c.f 1 8 1) + 1) * 256) 256) = none
      ∧ (after1 (.checkpointExport (.ring 0)) s).mbox.runs.length = 1) := by
  unfold starts; decide +kernel
theorem witness_import : (let p : List W64 := [4, 0x2000, 256]; let s := offering 0x0304 p (slotted 6 0); let c := cmdOf 0x0304 p
    starts s (.ring 0) 0x0304 [low 7, low 63, low 31] (c1Job c) c ∧ breathOf s (c.f 1 0 8) = some 3 ∧ jobState s 3 = 6
      ∧ c.f 3 0 32 ≠ 0 ∧ c.f 3 0 32 % 256 = 0 ∧ c.f 3 0 32 ≤ (jobOf s 3).slotBytes ∧ (c.c 2).toNat % 256 = 0
      ∧ firstUnmapped (takeFront s (.ring 0)) (c.c 2).toNat (cdiv (c.f 3 0 32) 256) = none
      ∧ (after1 (.checkpointImport (.ring 0)) s).mbox.runs.length = 1) := by
  unfold starts; decide +kernel
theorem witness_attest : (let p : List W64 := [1, 2, 3, 4, 0x2000, 0x100000]; let s := offering 0x0C01 p base; let c := cmdOf 0x0C01 p
    let l := report (takeFront s (.ring 0)) (bytesOf [c.c 1, c.c 2, c.c 3, c.c 4])
    starts s (.ring 0) 0x0C01 [low 63, low 63, low 63, low 63, low 63, low 31] [] c
      ∧ cdiv (l.length + signBytes) 256 * 256 ≤ c.f 6 0 32 ∧ (c.c 5).toNat % 256 = 0
      ∧ firstUnmapped (takeFront s (.ring 0)) (c.c 5).toNat (cdiv (l.length + signBytes) 256) = none) := by
  unfold starts; decide +kernel

/-- Commands that wait for a job, or for a drain, begin. -/
theorem witness_waiting :
    (let s := offering 0x0301 [4] (slotted 3 2); let t := after1 (.checkpoint (.ring 0)) s;
      starts s (.ring 0) 0x0301 [low 7] (c1Job (cmdOf 0x0301 [4])) (cmdOf 0x0301 [4]) ∧ jobState s 3 = 3 ∧ ckptBusy s 3 = false
        ∧ (brth t 3).asked = [3] ∧ suspendPending t 3 = true)
    ∧ (let s := setJob (offering 0x0301 [4] (slotted 3 2)) 3 { jobOf (slotted 3 2) 3 with testing := true }
      starts s (.ring 0) 0x0301 [low 7] (c1Job (cmdOf 0x0301 [4])) (cmdOf 0x0301 [4]) ∧ ckptBusy s 3 = true
        ∧ status (after1 (.checkpoint (.ring 0)) s) = 0x14)
    ∧ (let s := offering 0x0A01 [9] (slotted 3 2); let c := cmdOf 0x0A01 [9];
      starts s (.ring 0) 0x0A01 [0xFFFFF01FF] (testLocks s c) c ∧ bitAt (c.c 1) 0 = true ∧ breathOf s (c.f 1 1 8) = some 3
        ∧ (jobOf (after1 (.fieldTest (.ring 0)) s) 3).testWanted = true)
    ∧ (let w : W64 := w64 (5 * 2 ^ 16 + 6 * 2 ^ 26); let s := offering 0x0A01 [w] base; let c := cmdOf 0x0A01 [w];
      starts s (.ring 0) 0x0A01 [0xFFFFF01FF] (testLocks s c) c ∧ testRange c = [5, 6]
        ∧ (∀ n ∈ testRange c, idleCore s n = true ∧ (Machine.core s n).testing = false)
        ∧ (Machine.core (after1 (.fieldTest (.ring 0)) s) 6).testing = true) := by
  unfold starts; decide +kernel
theorem witness_weights_read : (let p : List W64 := [4, 9, 0x2000, 32768]; let s := offering 0x0401 p (slotted 3 2); let c := cmdOf 0x0401 p
    let t := after1 (.weightsRead (.ring 0)) s
    starts s (.ring 0) 0x0401 [low 8, low 31, low 63, low 31] [] c ∧ breathOf s (c.f 1 0 8) = some 3 ∧ jobState s 3 = 3
      ∧ coresOf s 3 = [33] ∧ (Machine.core s 33).snapshot = none ∧ passed s 3 33 (BitVec.ofNat 32 (c.f 2 0 32)) = false
      ∧ ((coresOf s 3).map fun m => snapBlocks s m (bitAt (c.c 1) 8)).sum * 256 ≤ c.f 4 0 32 ∧ (c.c 3).toNat % 256 = 0
      ∧ firstUnmapped (takeFront s (.ring 0)) (c.c 3).toNat (cdiv (((coresOf s 3).map fun m => snapBlocks s m (bitAt (c.c 1) 8)).sum * 256) 256) = none
      ∧ (Machine.core t 33).snapshot = some (0, 9)) := by
  unfold starts; decide +kernel
/-- A change list of one entry, the breath's rectangle word. -/
theorem witness_table_change :
    (let p : List W64 := [0x800000000000, 1]
     let d : List Byte := leBytes 8 (0x003000000000 + R.brthRect 3) ++ leBytes 8 0x101010101 ++ List.replicate 240 0
     let s := offering 0x010B p (fromHost 0 d (slotted 3 2)); let c := cmdOf 0x010B p; let u := takeFront s (.ring 0)
     let t := after1 (.tableChange (.ring 0)) s
    starts s (.ring 0) 0x010B [adr, low 12] (changeLocks s c) c ∧ c.f 2 0 13 = 1 ∧ bgCount s < 4 ∧ (c.c 1).toNat % 256 = 0
      ∧ firstUnmapped u (c.c 1).toNat (cdiv (16 * c.f 2 0 13) 256) = none
      ∧ (sourceOf (cdiv (16 * c.f 2 0 13) 256) u (c.c 1).toNat).map (fun l =>
          (badChange u (changeList 1 (l.take 16)), changeUsers u (changeList 1 (l.take 16)))) = some (none, [3])
      ∧ t.mbox.runs.length = 1 ∧ t.mesh.drains.length = 1) := by
  unfold starts; decide +kernel
/-- An entry relayed to package 1, over port 0. -/
theorem witness_relay : (let p : List W64 := [1, 0x800000000000, 0x3000]
    let b := fromHost 0 (List.replicate 256 1) (wr base R.peerTree 0x11)
    let s := offering 0x0E03 p { b with mbox := { b.mbox with present := 3 } }; let c := cmdOf 0x0E03 p
    let u := takeFront s (.ring 0); let t := after1 (.hierRelay (.ring 0)) s
    starts s (.ring 0) 0x0E03 [low 3, low 63, low 63] [] c ∧ peerRole s = 1 ∧ c.f 1 0 4 ≠ 0 ∧ s.mbox.present.getLsbD (c.f 1 0 4) = true
      ∧ peerPort s (c.f 1 0 4) = some 0 ∧ stateOf s (.peer (Fin.ofNat 4 0)) ≠ 3
      ∧ firstUnmapped u (c.c 2).toNat (cdiv 64 256) = none ∧ firstUnmapped u (c.c 3).toNat (cdiv 64 256) = none
      ∧ (sourceOf (cdiv 64 256) u (c.c 2).toNat).isSome = true ∧ t.mbox.relayTo.map (fun x => (x.1, x.2.1)) = [(0, 1)]) := by
  unfold starts; decide +kernel

/-- The ends of running commands. -/
theorem witness_ends :
    (let r := runFor 0x0803 [0x2000, 256, 0] [] []; let s := withRun r (stN base 0x2000 [1, 2]); let t := after1 (.memFillDone 0) s;
      runOf s 0 = some r ∧ r.opcode = 0x0803 ∧ canComplete s r.src = true ∧ inDdr s (r.words.getD 1 0).toNat (r.f 2 0 32 / 256)
        ∧ ldB t 0x2000 = 0 ∧ status t = 0 ∧ t.mbox.runs = [])
    ∧ (let r := runFor 0x0E01 [] [] []; let s := withRun r base; let t := after1 (.hierDiscoverDone 0 0x7) s;
      runOf s 0 = some r ∧ r.opcode = 0x0E01 ∧ canComplete s r.src = true ∧ t.mbox.present = 7 ∧ result t 0 = 7
        ∧ rdF t R.peerTree 4 4 = 3)
    ∧ (let r := runFor 0x0E03 [1, 0x800000000000, 0x3000] [] []; let s := withRun r base; let e : List W64 := [5 * 2 ^ 32, 1, 2, 3, 4, 5, 6, 7]
      let t := after1 (.hierRelayAnswer 0 e) s; let v := after1 (.hierRelayTimeout 0) s;
      runOf s 0 = some r ∧ r.opcode = 0x0E03 ∧ canComplete s r.src = true ∧ e.length = 8 ∧ inDdr s (r.words.getD 3 0).toNat 1
        ∧ result t 0 = 5 ∧ ldU t 0x3038 8 = 7 ∧ status v = 0x1F) := by
  unfold inDdr; decide +kernel
theorem witness_export_end : (let r := runFor 0x0303 [4, 0x2000, 512] [] [3, 0]; let s := withRun r (slotted 6 0)
    let t := after1 (.checkpointExportDone 0) s
    runOf s 0 = some r ∧ r.opcode = 0x0303 ∧ canComplete s r.src = true ∧ slotValid s 3 0 = true
      ∧ (slotCount s 3 0 + 1) * 256 ≤ r.f 3 0 32
      ∧ (sourceOf (slotCount s 3 0 + 1) s (slotBlock s 3 0 0)).map List.length = some (256 * (slotCount s 3 0 + 1))
      ∧ inDdr s (r.words.getD 2 0).toNat (slotCount s 3 0 + 1)
      ∧ status t = 0 ∧ result t 0 = 512 ∧ ldN t 0x2000 4 = [82, 80, 67, 75]) := by
  unfold inDdr; decide +kernel
theorem witness_import_end : (let r := runFor 0x0304 [4, 0x2000, 256] [] [3]; let s := withRun r (slotted 6 0)
    runOf s 0 = some r ∧ r.opcode = 0x0304 ∧ canComplete s r.src = true
      ∧ (sourceOf (r.f 3 0 32 / 256) s (r.words.getD 2 0).toNat).isSome = true ∧ targetSlot s 3 = 1
      ∧ status (after1 (.checkpointImportDone 0) s) = 0x19) := by
  decide +kernel
/-- The slot that does not run holds no firmware with the name and length of Table 16-21: its verification fails. -/
theorem witness_firmware_end : (let r := runFor 0x0C05 [] [.firmware] []
    let s := withRun r { base with flash := (List.range 4).map fun k => (fwBase 1 + k, some 0) }; let t := after1 (.fwUpdateCommitDone 0) s
    runOf s 0 = some r ∧ r.opcode = 0x0C05 ∧ canComplete s r.src = true ∧ inactive s = 1 ∧ verifySlot s 1 = .authFail
      ∧ status t = 0x1D ∧ t.boot.expect = none) := by
  decide +kernel
/-- A signature takes its fixed place. -/
theorem signed_length (l : List Byte) : (signed l).length = l.length + signBytes := by
  simp only [signed, List.length_append, List.length_take, List.length_replicate]; omega
theorem witness_signed_end : (let r := runFor 0x0C01 [1, 2, 3, 4, 0x2000, 0x100000] [] [1, 2, 3]; let s := withRun r base
    runOf s 0 = some r ∧ r.opcode = 0x0C01 ∧ canComplete s r.src = true
      ∧ inDdr s (r.words.getD 5 0).toNat (cdiv (signed (r.aux.map fun b => BitVec.ofNat 8 b)).length 256)) := by
  unfold inDdr; simp only [signed_length]; decide +kernel

/-! ### Queues of the host -/

/-- Core 0 with its four tables apart, and queue 1 an OPEN ring of 4 KiB at offset 0x10000 of its own memory. -/
def queued : State :=
  let s := cw base 0 R.qConfig (w64 (0x1000 + 0x2000 * 2 ^ 16 + 0x3000 * 2 ^ 32 + 0x4000 * 2 ^ 48));
  setQw (setQw (setQw s 0 1 0 (w64 (1 + 7 * 16 + 12 * 2 ^ 12))) 0 1 1 0x002000010000) 0 1 3 (w64 (0x5000 * 2 ^ 32))
/-- The same with a combining queue of two lanes. -/
def combining : State := setQw (setQw queued 0 1 0 (w64 (1 + 2 * 4 + 7 * 16))) 0 1 1 (w64 (1 + 0x6000 * 2 ^ 32))

theorem witness_queue_apart : entryApart queued 0 1 ∧ entryApart combining 0 1 ∧ qState queued 0 1 = 1 ∧ qKind combining 0 1 = 2
    ∧ qState (openQ queued 0 1) 0 1 = 1 ∧ qEpoch (openQ queued 0 1) 0 1 = 8 ∧ (drainQ queued 0 1).1 = 0
    ∧ qState (drainQ queued 0 1).2 0 1 = 0 ∧ (drainQ base 0 1).1 = 3 := by
  unfold entryApart apart; decide +kernel
theorem witness_queue_commands :
    (∀ k ∈ [0, 1, 2], let w := w64 (1 + k * 2 ^ 16); let s := offering 0x0501 [w] queued; let c := cmdOf 0x0501 [w]
      starts s (.ring 0) 0x0501 [low 19] [.queue (c.f 1 0 16)] c ∧ portWaits s (c.f 1 6 10) = false ∧ c.f 1 16 4 = k ∧ c.f 1 0 6 = 1
        ∧ (drainQ (wakeIsland (takeFront s (.ring 0)) 0) 0 1).1 = 0
        ∧ result (after1 (.queueOp (.ring 0)) s) 0 = if k = 0 then 8 else 7)
    ∧ (let s := offering 0x0502 [1] queued; let c := cmdOf 0x0502 [1];
      starts s (.ring 0) 0x0502 [low 15] [] c ∧ portWaits s (c.f 1 6 10) = false ∧ island s (c.f 1 6 10) < 2
        ∧ result (after1 (.queueQuery (.ring 0)) s) 0 = 1 + 7 * 16 + 12 * 2 ^ 12)
    ∧ (∀ w ∈ [0, 0x40000, 0x15, 2], let p : List W64 := [w64 w, 0x1234 + 2 ^ 40]; let s := offering 0x0503 p queued; let c := cmdOf 0x0503 p
      starts s (.ring 0) 0x0503 [low 18, low 46] (bindLock s c) c
        ∧ portWaits s (if c.f 1 0 2 = 0 then c.f 1 2 10 else 1024) = false ∧ status (after1 (.queueBind (.ring 0)) s) = 0)
    ∧ (let w := w64 (5 * 2 ^ 10); let s := offering 0x0504 [w] queued; let c := cmdOf 0x0504 [w];
      starts s (.ring 0) 0x0504 [low 12] [coreLock s (c.f 1 0 10)] c ∧ portWaits s (c.f 1 0 10) = false ∧ c.f 1 10 3 = 5
        ∧ status (after1 (.engineReset (.ring 0)) s) = 0) := by
  unfold starts; decide +kernel

theorem witness_core_commands :
    (∀ op ∈ [0x0B01, 0x0B02, 0x0B03], let s := offering op [33] (slotted 3 2); let c := cmdOf op [33]
      starts s (.ring 0) op [low 9] [coreLock s 33] c ∧ c.f 1 0 10 = 33)
    ∧ (Machine.core (after1 (.coreHalt (.ring 0) false) (offering 0x0B01 [33] (slotted 3 2))) 33).halted = true
    ∧ status (after1 (.coreResume (.ring 0) false) (offering 0x0B02 [33] (slotted 3 2))) = 0
    ∧ (let u := upCore (slotted 3 2) 33 fun c => { c with haltReq := some 0 }
      let v := after1 (.coreHalt (.ring 0) true) (offering 0x0B01 [33] u);
      haltMerges (offering 0x0B01 [33] u) 33 = true ∧ crB v 33 R.corePulseOvr 0 = true ∧ (Machine.core v 33).halted = false)
    ∧ (let u := upCore (slotted 3 2) 33 fun c => { c with halted := true, hostWaits := [.write 8 [7] true false, .reg R.routeBase .whole 0x200] }
      let v := after1 (.coreResume (.ring 0) false) (offering 0x0B02 [33] u);
      ldB v (coreBase 33 + 8) = 7 ∧ cr v 33 R.routeBase = 0x200 ∧ (Machine.core v 33).hostWaits = [])
    ∧ (let u := cwB (cwF (slotted 3 2) 33 R.coreConfig 16 6 3) 33 R.coreConfig 0 true; let s := offering 0x0B03 [33] u;
      assigned s 33 = true ∧ coreBreath s 33 = 3 ∧ jobState s 3 = 3
        ∧ (after1 (.coreReset (.ring 0)) s).faults = [⟨3, 0x0B, 0xFFFFFFFF⟩]) := by
  unfold starts; decide +kernel
/-- A Bell channel's image of one row, from host memory; a stream that starts; a Mouthpiece channel that is stopped. -/
theorem witness_converters :
    (let p : List W64 := [0x15, 0x800000000000]; let s := offering 0x0601 p (fromHost 0 (List.replicate 8 0 ++ [1] ++ List.replicate 247 0) base)
     let c := cmdOf 0x0601 p; let u := takeFront s (.ring 0);
      starts s (.ring 0) 0x0601 [low 9, adr] (c1Conv s c) c ∧ convNamed c = true ∧ convKind c = 1 ∧ convState s 1 5 = 0
        ∧ firstUnmapped u (c.c 2).toNat 1 = none
        ∧ (sourceOf 1 u (c.c 2).toNat).map (fun l => (l.length, (l.drop (8 * convWords 1)).all (· = 0),
            convGood 1 (wordsOf (convWords 1) l), convFits u 1 (wordsOf (convWords 1) l))) = some (256, true, true, true)
        ∧ status (after1 (.convConfig (.ring 0)) s) = 0)
    ∧ (let p : List W64 := [0x15]; let s := offering 0x0602 p (wr (slotted 3 2) (R.bellConfig 5) (w64 (4 * 2 ^ 16 + 3 * 2 ^ 24))); let c := cmdOf 0x0602 p;
      starts s (.ring 0) 0x0602 [low 9] (c1Conv s c) c ∧ convState s 1 5 = 0 ∧ breathOf s (convJob s 1 5) = some 3
        ∧ convBreath s 1 5 = 3 ∧ convState (after1 (.convStart (.ring 0)) s) 1 5 = 1)
    ∧ (let p : List W64 := [0x14]; let s := offering 0x0603 p (wr base (R.mpStatus 5) 1); let c := cmdOf 0x0603 p;
      starts s (.ring 0) 0x0603 [low 9] (c1Conv s c) c ∧ convState s 0 5 = 1 ∧ convState (after1 (.convStop (.ring 0)) s) 0 5 = 0) := by
  unfold starts; decide +kernel

theorem witness_weights_write : (let p : List W64 := [4 + 33 * 256, 0x800000000000, 0x10100]
    let s := offering 0x0402 p (fromHost 0 (List.replicate 256 9) (slotted 4 3)); let c := cmdOf 0x0402 p; let u := takeFront s (.ring 0)
    let t := after1 (.weightsWrite (.ring 0)) s
    starts s (.ring 0) 0x0402 [low 18, low 63, low 31] (c1Job c) c ∧ portWaits s (c.f 1 8 10) = false ∧ breathOf s (c.f 1 0 8) = some 3
      ∧ jobState s 3 = 4 ∧ c.f 1 8 10 ∈ coresOf s 3 ∧ island s (c.f 1 8 10) < 2
      ∧ weightsRange s (c.f 1 8 10) (bitAt (c.c 1) 18) (c.f 3 0 15) (c.f 3 16 16 * 256) = true
      ∧ firstUnmapped u (c.c 2).toNat (c.f 3 16 16) = none ∧ (sourceOf (c.f 3 16 16) u (c.c 2).toNat).map List.length = some 256
      ∧ status t = 0 ∧ ldB t (coreBase 33 + 0x38100) = 9 ∧ ldB t (coreBase 33 + 0x38200) = 0) := by
  unfold starts; decide +kernel
theorem witness_firmware :
    (let s := offering 0x0C03 [512] base; starts s (.ring 0) 0x0C03 [low 31] [.firmware] (cmdOf 0x0C03 [512]) ∧ serves s = true
      ∧ status (after1 (.fwUpdateBegin (.ring 0)) s) = 0)
    ∧ (let p : List W64 := [0x800000000000, 256, 256]
      let s := offering 0x0C04 p { fromHost 0 (List.replicate 256 9) base with boot := { base.boot with expect := some 512 } }
      let c := cmdOf 0x0C04 p; let u := takeFront s (.ring 0); let t := after1 (.fwUpdateWrite (.ring 0)) s;
      starts s (.ring 0) 0x0C04 [low 63, low 31, low 31] [.firmware] c ∧ c.f 2 0 32 + c.f 3 0 32 ≤ 512
        ∧ firstUnmapped u (c.c 1).toNat (cdiv (c.f 3 0 32) 256) = none
        ∧ (sourceOf (cdiv (c.f 3 0 32) 256) u (c.c 1).toNat).map List.length = some 256
        ∧ status t = 0 ∧ flashB t (fwBase 1 + 511) = 9) := by
  unfold starts; decide +kernel
theorem witness_power_state :
    (∀ k ∈ [0, 1, 2, 3], starts (offering 0x0005 [w64 k] base) (.ring 0) 0x0005 [low 1] [] (cmdOf 0x0005 [w64 k]))
    ∧ pwrStateCode base = 1 ∧ (∀ e, e < 8 → dmaState base e ≠ 1) ∧ padHold base = false
    ∧ (after1 (.powerState (.ring 0)) (offering 0x0005 [2] base)).chip.standbyAsked = true
    ∧ status (after1 (.powerState (.ring 0)) (offering 0x0005 [0] base)) = 0x12
    ∧ (let s := offering 0x0006 [0x1000] base; starts s (.ring 0) 0x0006 [low 14] [] (cmdOf 0x0006 [0x1000])
      ∧ (retrainLink (cmdOf 0x0006 [0x1000])).isSome = true ∧ status (after1 (.linkRetrain (.ring 0) false) s) = 0x1B)
    ∧ (let s := offering 0x0006 [0x7FFF] base; starts s (.ring 0) 0x0006 [low 14] [] (cmdOf 0x0006 [0x7FFF])
      ∧ (retrainLink (cmdOf 0x0006 [0x7FFF])).isSome = false ∧ status (after1 (.linkRetrain (.ring 0) true) s) = 0x11) := by
  unfold starts; decide +kernel
theorem witness_unserved : (let s := offering 0x0FFF [] base; let c := cmdOf 0x0FFF []; let t := after1 (.entryError 0 true) s
    serves s = true ∧ starts s (.ring 0) c.opcode (List.replicate 7 (low 63)) [] c ∧ servedOp s c.opcode = false
      ∧ status (after1 (.badOpcode (.ring 0)) s) = 0x10
      ∧ rd t R.hubSramUe = 1 ∧ rd t R.errLogAddr = w64 (ringEntry 0 false 0)) := by
  unfold starts; decide +kernel

/-! ### Jobs, checkpoints, tests and drains -/

/-- That job with its core assigned, in step 5: START(5) and COMMIT(4) taken. -/
def cored (st b : Nat) : State := cw (assignCore (slotted st b) 3 33) 33 R.coreStep (w64 (5 + 4 * 2 ^ 32))
/-- Breath 3's own state changed. -/
def breathed (b : Breath) (s : State) : State := { s with breaths := Sparse.set (fun _ => {}) s.breaths 3 b }

/-- R66: a job that was to suspend, to stop, or to be checkpointed. -/
theorem witness_suspension :
    (∀ a ∈ [1, 2, 3], let s := breathed { asked := [a] } (setB (slotted 3 2) (R.brthStatus 3) 7)
      let t := after1 (.suspendReached 3) s
      live s = true ∧ boundaryReached s 3 = true ∧ (contentBlocks s 3 + 1) * 256 ≤ (jobOf s 3).slotBytes
        ∧ jobState t 3 = (if a = 2 then 6 else 4) ∧ (jobOf t 3).ckpt.isSome = decide (a = 3)
        ∧ offered t 1024 = [] ∧ entered t 1024 0 = [bcastOf t 3 2 0xFFFFFFFF]) := by decide +kernel

/-- A checkpoint of that job goes on, to slot 1. -/
def saving (got : Nat) : State :=
  let s := cored 4 3;
  setJob s 3 { jobOf s 3 with ckpt := some ⟨1, 4, Sparse.set (fun _ => 0) [] 33 got⟩ }
theorem witness_checkpoint_block : (let s := saving 0; let data : List Byte := List.replicate 256 0
    (jobOf s 3).ckpt = some ⟨1, 4, []⟩ ∧ coreBreath s 33 = 3 ∧ 33 ∈ coresOf s 3 ∧ assigned s 33 = true ∧ 0 < coreContent s 3 33
      ∧ data = coreBlock s 3 33 0
      ∧ bitAt (mkTag zeroCrc 4 0 false false false false) 56 = false ∧ crc32c data = fld (mkTag zeroCrc 4 0 false false false false) 0 32
      ∧ fld (mkTag zeroCrc 4 0 false false false false) 40 16 = 0
      ∧ (jobOf (after1 (.checkpointBlock 1 33 0 data (mkTag zeroCrc 4 0 false false false false)) s) 3).ckpt = some ⟨1, 4, [(33, 1)]⟩
      ∧ (jobOf (after1 (.checkpointBlock 1 33 0 data 0) s) 3).ckpt = none) := by decide +kernel
theorem witness_checkpoint_commit : (let s := saving 515
    breathOf s 4 = some 3 ∧ (jobOf s 3).ckpt = some ⟨1, 4, [(33, 515)]⟩ ∧ ckptComplete s 3 ⟨1, 4, [(33, 515)]⟩ = true
      ∧ (jobOf s 3).measure.length = 32 ∧ (jobOf s 3).pkg < 16 ∧ nextGen s 3 = 2 ∧ contentBlocks s 3 < 2 ^ 32
      ∧ inDdr s (slotBlock s 3 1 0) (contentBlocks s 3 + 1)) := by
  unfold inDdr; decide +kernel
theorem witness_snapshot : (let r := runFor 0x0401 [4, 9, 0x2000, 32768] [] [3]
    let s := withRun r (upCore (cwB (cored 3 2) 33 R.plasStatus 3 true) 33 fun c => { c with snapshot := some (0, 9) })
    (Machine.core s 33).snapshot = some (0, 9) ∧ runOf s 0 = some r ∧ crB s 33 R.plasStatus 3 = true
      ∧ (Machine.core s 33).snapDone = false ∧ coresOf s 3 = [33]) := by decide +kernel

/-- R402 to R404: a fault that restarts the job, one over its limit, and one that is terminal. -/
theorem witness_faults : (let s := { cored 3 2 with faults := [⟨3, 0x01, 5⟩, ⟨3, 0x0D, 5⟩] }
    let u := setJob s 3 { jobOf s 3 with limit := 0 }
    breathOf s 4 = some 3 ∧ (⟨3, 0x01, 5⟩ : Raised) ∈ s.faults ∧ jobState s 3 = 3 ∧ terminal 1 = false ∧ terminal 0x0D = true
      ∧ recentRestarts s 3 = 0 ∧ jobState (after1 (.jobFault 4 0x01 5) s) 3 = 5 ∧ jobState (after1 (.jobFault 4 0x0D 5) s) 3 = 7
      ∧ rdF (after1 (.jobFault 4 0x01 5) u) (R.jobState 3) 16 8 = 0x12 ∧ jobState (after1 (.jobFault 4 0x01 5) u) 3 = 7) := by
  decide +kernel
/-- R404: the restart of a job whose image is intact, and of one whose image is gone. -/
theorem witness_restart : (let b := { startable1 with mesh := { startable1.mesh with drains := [⟨[0], none, none, none, false⟩] } }
    let s := wr (wr b (R.jobState 0) 0x505) R.meshDrainStatus 3
    let u := setJob s 0 { jobOf s 0 with imageAddr := 0x800000000000 }
    breathOf s 5 = some 0 ∧ restartReady s 0 = true ∧ (∀ n ∈ coresOf s 0, (Machine.core s n).testing = false)
      ∧ (reloadJob s 0 (jobOf s 0).staticReload (jobOf s 0).resume).1.isSome = true ∧ jobState (after1 (.restartReload 5) s) 0 = 3
      ∧ restartReady u 0 = true ∧ (reloadJob u 0 (jobOf u 0).staticReload (jobOf u 0).resume).1.isNone = true
      ∧ jobState (after1 (.restartReload 5) u) 0 = 7) := by decide +kernel

/-- R412 to R414: ages of more than the limit. -/
theorem witness_tests : (let old := { base with time := 10 ^ 18 * 2 ^ 32 }; let s := { cored 3 2 with time := 10 ^ 18 * 2 ^ 32 }
    let u := upCore base 7 fun c => { c with testing := true }
    testDue old 7 = true ∧ idleCore old 7 = true ∧ (Machine.core old 7).bad = false
      ∧ (Machine.core (after1 (.fieldTestDue 7) old) 7).testing = true
      ∧ breathOf s 4 = some 3 ∧ jobState s 3 = 3 ∧ testForced s 3 ≠ 0 ∧ testForced s 3 ≤ nowNs s ∧ ckptBusy s 3 = false
      ∧ (jobOf (after1 (.fieldTestForced 4) s) 3).testWanted = true
      ∧ (Machine.core u 7).testing = true ∧ inJob u 7 = false ∧ idleRun u [7] = none
      ∧ (Machine.core (after1 (.fieldTestDone [7] [7]) u) 7).bad = true ∧ island (after1 (.fieldTestDone [7] []) u) 7 = 3) := by
  decide +kernel
theorem witness_job_test : (let s := upCore (cored 8 3) 33 fun c => { c with testing := true }
    jobState s 3 = 8 ∧ coresOf s 3 = ([33] : List CoreId).map (·.val) ∧ (∀ k, k < 3 → coresOf s k ≠ coresOf s 3)
      ∧ (Machine.core s 33).testing = true ∧ jobState (after1 (.fieldTestDone [33] [33]) s) 3 = 7
      ∧ rdF (after1 (.fieldTestDone [33] [33]) s) (R.jobState 3) 16 8 = 0x0E) := by decide +kernel

/-- R222 to R225: a drain in each of its states. -/
theorem witness_drains : (let f (k b : Nat) (run : Option Nat) (at_ : Option Nat) :=
      let s := withRun (runFor 0x010B [0x2000, 0] [] []) (wr (cored 3 b) R.meshDrainStatus (w64 k));
      { s with mesh := { s.mesh with drains := [⟨[3], run, at_, none, false⟩] } }
    let late := { f 2 3 (some 0) (some 0) with time := 10 ^ 12 * 2 ^ 32 }
    let lost := { f 2 3 none (some 0) with time := 10 ^ 12 * 2 ^ 32 }
    drainState (f 0 2 (some 0) none) = 0 ∧ drainState (after1 .drainBegin (f 0 2 (some 0) none)) = 1
      ∧ drainState (f 1 3 (some 0) none) = 1 ∧ drainRests (f 1 3 (some 0) none) ⟨[3], some 0, none, none, false⟩ = true
      ∧ drainState (after1 .drainFence (f 1 3 (some 0) none)) = 2
      ∧ anyFenced (f 2 3 none (some 0)) = false ∧ hubFenced (f 2 3 none (some 0)) = false
      ∧ (runOf late 0).isSome = true
      ∧ drainLate late ⟨[3], some 0, some 0, none, false⟩ = true ∧ (after1 .drainTimeout late).mbox.runs = []
      ∧ drainLate lost ⟨[3], none, some 0, none, false⟩ = true) := by decide +kernel

/-! ### A core's step -/

/-- The core of that job with `b` on the way to it, plasticity complete up to step `p`. -/
def reached1 (kind : Nat) (t : BitVec 32) (p : Nat) : State :=
  let s := cw (cored 3 2) 33 R.plasStep (w64 p); taken 33 [bcastOf s 3 kind t] s

/-- R39, R109: START begins an update or is held; COMMIT; HOLD; a flit of another breath's job. -/
theorem witness_barrier_flits :
    (let s := reached1 0 6 4; obeys s 33 3 = true ∧ barrierHere s 33 3 0 6 = true ∧ mayUpdate s 33 6 = true
      ∧ (Machine.core s 33).startHeld = none ∧ (Machine.core (after1 (.coreStart 33 3 6 none) s) 33).doneDue = [6])
    ∧ (let s := reached1 0 6 3; barrierHere s 33 3 0 6 = true ∧ mayUpdate s 33 6 = false
      ∧ (Machine.core (after1 (.coreStart 33 3 6 none) s) 33).startHeld = some 6)
    ∧ (let s := reached1 1 5 3; barrierHere s 33 3 1 5 = true ∧ plasStep s 33 ≠ 5 - 1
      ∧ (Machine.core (after1 (.coreCommit 33 3 5 .none) s) 33).commitsHeld = [5])
    ∧ (let s := reached1 2 5 4; barrierHere s 33 3 2 5 = true ∧ crB (after1 (.coreHold 33 3 5) s) 33 R.coreStatus 3 = false)
    ∧ (∀ k ∈ [0, 1, 2], let s := cwB (reached1 k 5 4) 33 R.coreConfig 0 false; obeys s 33 3 = false ∧ barrierHere s 33 3 k 5 = true)
    ∧ (let s := upCore (reached1 0 7 4) 33 fun c => { c with startHeld := some 6 }
      stopped s 33 = false ∧ mayUpdate s 33 6 = true ∧ (Machine.core (after1 (.heldUpdateStart 33 none) s) 33).startHeld = none
        -- START(7) waits behind the held START(6).
        ∧ (Machine.core (after1 (.coreStart 33 3 7 none) s) 33).rx.length = 1) := by
  decide +kernel

/-- R135: a START whose update meets an uncorrectable word in what its first group loads is a core fault, and the job faults. -/
theorem witness_load_error : (let s := stU (cw (reached1 0 6 4) 33 R.splitInBase 0x4000) (scratch 33 32) 8 1; let u : BadLoad := ⟨0, 0, 0⟩
    let v := after1 (.coreStart 33 3 6 (some u)) s
    barrierHere s 33 3 0 6 = true ∧ (Machine.core s 33).startHeld = none ∧ mayUpdate s 33 6 = true
      ∧ bitAt (w64 (popWord s 33 u.pop.val 4)) 0 = true ∧ u.group.val < cdiv (fld (w64 (popWord s 33 u.pop.val 4)) 13 12 + 1) 16
      ∧ jobState s 3 = 3 ∧ cr v 33 R.coreFault = w64 (2 + 6 * 2 ^ 32) ∧ v.faults = [⟨3, 4, 6⟩]) := by decide +kernel

/-- R94, R48, R49: an emission, a report and a DONE leave. -/
theorem witness_sends : (let f := mkEvent 0 1 false 2 1 0 0 5 1 false 0 33
    let s := upCore (cored 3 2) 33 fun c => { c with emitQ := [⟨0, 0, [f]⟩] }
    let u := upCore (cored 3 2) 33 fun c => { c with sent := [(1, 3)], recv := [(2, 1)] }
    let w := upCore (cored 3 2) 33 fun c => { c with doneDue := [5, 6] }
    fType f ≤ 1 ∧ misaddressed f = false ∧ emitReady (tokensTo (shapeTo s 33 1000) 33 1000) 33 1000 f = true
      ∧ (∃ o ∈ routeOuts 33 4 f, o = 4 ∨ linkState s 33 o ≠ 3)
      ∧ (Machine.core (after1 (.emitFlit 33 1000 0) s) 33).emitQ = []
      ∧ entered (after1 (.emitFlit 33 1000 0) s) 33 1 = [f]
      ∧ Sparse.get (fun _ => 0) (Machine.core u 33).reportAt 1 ≤ 1000 ∧ Sparse.get (fun _ => 0) (Machine.core u 33).reportAt 6 ≤ 1000
      ∧ stopped u 33 = false ∧ tokenOk (tokensTo u 33 1000) 33 = true ∧ roomAt u 33 (mkReport u 33 0 1 3) = true ∧ linkState u 33 3 ≠ 3
      ∧ holdsBack u 33 33 (mkReport u 33 0 1 3) = false
      ∧ entered (after1 (.barrierReportSend 33 .sent 1 1000) u) 33 0 = [mkReport u 33 0 1 3]
      ∧ entered (after1 (.barrierReportSend 33 .received 2 1000) u) 33 0 = [mkReport u 33 1 2 1]
      ∧ doneMay (tokensTo w 33 1000) 33 5 = true ∧ tokenOk (tokensTo w 33 1000) 33 = true
      ∧ holdsBack w 33 33 (mkReport w 33 2 1 1) = false
      ∧ (Machine.core (after1 (.doneSend 33 1000) w) 33).doneDue = [6]) := by decide +kernel

/-- The core with matrix 0: rows 4 and 5, 16 columns of 8 bits from column 32, delay 2, at byte 0; row 5's first weights are
3 and -2. -/
def weighted (plastic : Nat) : State :=
  stN (cw (cored 3 2) 33 (R.matrixDescA 0) (w64 (4 + 1 * 2 ^ 12 + 32 * 2 ^ 24 + 2 * 2 ^ 44 + 2 ^ 46 + plastic * 2 ^ 47 + 2 * 2 ^ 56)))
    (coreBase 33 + 32) [3, 0xFE]
def eventAt (row : Nat) : Flit := mkEvent 0 1 false 1 1 0 0 row 1 false 0 7

/-- R81 to R87: an event of step 5 adds its row's weights into the slots of step 7; a row of no matrix; a core without a
job; a plastic row that waits. -/
theorem witness_intake : (let f := eventAt 5; let s := taken 33 [f] (weighted 0); let v := after1 (.eventIntake 33 f .none) s
    let u := taken 33 [f] (cwB (cored 3 2) 33 R.coreConfig 0 false); let w := taken 33 [f] (cw (weighted 1) 33 R.plasStep 0)
    live s = true ∧ nextLocal s 33 f = true ∧ (nextDeferred s 33).isSome = false ∧ fType f ≤ 1 ∧ vcOk f = true ∧ stopped s 33 = false ∧ assigned s 33 = true ∧ mustDefer s 33 f = false
      ∧ matchDesc s 33 (fRow f) = some 0 ∧ dWidth (descA s 33 0) ≠ 3
      ∧ dBase (descB s 33 0) + dRows (descA s 33 0) * dStride (descA s 33 0) ≤ 0x40000
      ∧ eventStep s 33 (fStep f) + BitVec.ofNat 32 (dDelay (descA s 33 0)) = 7 ∧ (Machine.core s 33).loadedStep ≠ 7
      ∧ slot v 33 32 7 = BitVec.ofInt 32 (3 * intakeX f 0) ∧ slot v 33 33 7 = BitVec.ofInt 32 (-2 * intakeX f 0) ∧ slot v 33 34 7 = 0
      ∧ matchDesc s 33 (fRow (eventAt 9)) = none ∧ mustDefer s 33 (eventAt 9) = false
      ∧ cr (after1 (.eventIntake 33 (eventAt 9) .none) (taken 33 [eventAt 9] s)) 33 R.intakeNomatch = 1
      ∧ assigned u 33 = false ∧ cr (after1 (.eventIntake 33 f .none) u) 33 R.intakeStray = 1
      ∧ assigned w 33 = true ∧ mustDefer w 33 f = true ∧ (Machine.core w 33).deferred.length < 64
      ∧ (Machine.core (after1 (.eventIntake 33 f .none) w) 33).deferred = [0]) := by decide +kernel

/-- R160: a deferred event is taken once its row's plasticity is complete. R97 to R99, R249: the other intakes. -/
theorem witness_other_intakes :
    (let s := upCore (stU (weighted 1) (deferAddr (weighted 1) 33 3) 8 (eventAt 5).toNat) 33 fun c => { c with deferred := [3] }
      let s := cw s 33 R.plasStep 4; let v := after1 (.deferredIntake 33 .none) s
      stopped s 33 = false ∧ nextDeferred s 33 = some 3 ∧ assigned s 33 = true ∧ (Machine.core v 33).deferred = []
        ∧ slot v 33 32 7 = 3)
    ∧ (let s0 := cw (stU (cored 3 2) (scratch 33 0x100) 8 (1 + 64 * 2 + 10 * 2 ^ 13 + 3 * 2 ^ 23 + 1 * 2 ^ 33)) 33 R.splitInBase 0x100
       let f := mkReduce 2 2 1 1 0x40B 1 0xFFFFFFFE; let c := mkReduce 2 2 1 1 0x7F0 1 2; let x := mkReduce 2 2 1 1 0x500 1 2
       let u := mkReduce 2 2 1 1 0x50 1 2; let c1 := mkReduce 2 2 1 1 0x7F1 1 2; let c0 := mkReduce 2 2 1 1 0x7F0 1 1
       let s (g : Flit) := taken 33 [g] s0;
      fType f = 2 ∧ nextLocal (s f) 33 f = true ∧ 0x400 ≤ fRid f ∧ fRid f < 0x7F0 ∧ splitSetOf s0 33 (fRid f - 0x400) = some 0
        ∧ eventStep s0 33 (fRStep f) = 5 ∧ (Machine.core s0 33).loadedStep ≠ 5
        ∧ slot (after1 (.splitValue 33 f .none) (s f)) 33 65 5 = 0xFFFFFFFE
        ∧ fType x = 2 ∧ splitSetOf s0 33 (fRid x - 0x400) = none ∧ cr (after1 (.splitValue 33 x .none) (s x)) 33 R.splitStray = 1
        ∧ fType c = 2 ∧ 0x7F0 ≤ fRid c ∧ bitAt (splitIn s0 33 0) 0 = true ∧ fld (splitIn s0 33 0) 33 8 < 0 + fValue c
        ∧ cr (after1 (.splitCount 33 c) (s c)) 33 R.coreFault = w64 (1 + 5 * 2 ^ 32)
        ∧ bitAt (splitIn s0 33 1) 0 = false ∧ cr (after1 (.splitCount 33 c1) (s c1)) 33 R.splitStray = 1
        ∧ splitCount (after1 (.splitCount 33 c0) (s c0)) 33 0 1 = 1
        ∧ fType u = 2 ∧ 0x40 ≤ fRid u ∧ fRid u < 0x400 ∧ cr (after1 (.combineContribution 33 u) (s u)) 33 R.splitStray = 1
        -- A count behind a value of its line waits (R100).
        ∧ nextLocal (taken 33 [f, c] s0) 33 c = false)
    ∧ (let f := mkReduce 2 2 0 0 2 1 0xFFFFFFFF; let s := taken 0 [f] combining; let a := combBank s 0 1 1 + 4
       let u := upCore s 0 fun c => { c with combHeld := [(1, 1)] }
      fType f = 2 ∧ nextLocal s 0 f = true ∧ fRid f < 0x40 ∧ combOf s 0 (fRid f) = some 1 ∧ (a + 4 ≤ qAddr s 0 1 + 8 ∨ qAddr s 0 1 + 16 ≤ a)
        ∧ (Machine.core s 0).combHeld.contains (1, fRStep f % 2) = false ∧ bitAt (qw s 0 1 1) 6 = false
        ∧ ldU (after1 (.combineContribution 0 f) (stU s a 4 2)) a 4 = 1
        ∧ (Machine.core u 0).combHeld.contains (1, fRStep f % 2) = true
        ∧ crF (after1 (.combineContribution 0 f) u) 0 R.qFault 0 16 = 1 + 256) := by decide +kernel

/-- R176, R157, R156, R165: a pass, a held COMMIT, the modulator, and the end of a step's plasticity. -/
theorem witness_plasticity :
    (let s := upCore (cw (cored 3 2) 33 R.ovbStatus 0) 33 fun c => { c with dirty := [7], loadedStep := 5 };
      (Machine.core s 33).dirty ≠ [] ∧ updateStalled s 33 = false ∧ (Machine.core (after1 (.rollbackPass 33 .none) s) 33).dirty = []
        ∧ cr (after1 (.rollbackPass 33 .none) s) 33 R.ovbPasses = 1)
    ∧ (let s := upCore (cw (cored 3 2) 33 R.plasStep 3) 33 fun c => { c with commitsHeld := [4] };
      (Machine.core s 33).commitsHeld = [4] ∧ plasStep s 33 = 4 - 1 ∧ plasActive s 33 = false ∧ crB s 33 R.plasStatus 3 = false
        ∧ (∀ k, k < 4 → (plasEntry s 33 k).valid = false) ∧ plasStep (after1 (.plasticityHeldStart 33 .none) s) 33 = 4)
    ∧ (let s := cw (cw (cored 3 2) 33 R.plasStatus (w64 (5 + 4 * 2 ^ 32))) 33 R.plasMod (w64 (4 * 2 ^ 32));
      modArrived s 33 = true ∧ plasFinished (after1 (.modWaitEnd 33 9 .none) s) 33 = true)
    ∧ (let s := upCore (cw (cored 3 2) 33 R.plasStatus (w64 (1 + 4 * 2 ^ 32))) 33 fun c => { c with plasNext := 4, snapshot := some (0, 4) };
      plasFinished s 33 = true ∧ (Machine.core s 33).snapshot = some (0, plasRun s 33)
        ∧ plasStep (after1 (.plasticityComplete 33 0) s) 33 = 4 ∧ crB (after1 (.plasticityComplete 33 0) s) 33 R.plasStatus 3 = true) := by
  decide +kernel

/-! ### The Breath controller -/

/-- R38, R56, R59 to R63. -/
theorem witness_breath :
    (let s := { breathed { nominal := true, started := 4, closed := 4 } (wr (slotted 3 2) (R.brthPeriod 3) 1000000) with time := 77 * 2 ^ 32 }
     let v := after1 (.stepStart 3) s;
      live s = true ∧ mayStart s 3 = true ∧ (brth s 3).started + 1 = 5 ∧ participants s 3 = [] ∧ s.conv.epIn = []
        ∧ brthState v 3 ≠ 4 ∧ (entered v (1024 + 0) 0) = [bcastOf s 3 0 5] ∧ brthMode s 3 = 0 ∧ rd v (R.brthNextNominal 3) = 1000077)
    ∧ (let s := wr { slotted 3 2 with tim := { base.tim with startPulses := [(3, 2)] } } (R.brthConfig 3) 2
       let u := breathed { grants := [1, 2, 3, 4] } s; let x := setBrthState s 3 3;
      startPulses s 3 = 2 ∧ brthState s 3 = 2 ∧ brthMode s 3 = 2 ∧ (brth s 3).grants.length + 1 ≤ lagLimit s 3
        ∧ startPulses (after1 (.timerStartAction 3 true) s) 3 = 0 ∧ (brth (after1 (.timerStartAction 3 false) s) 3).grants = [0]
        ∧ lagLimit u 3 < (brth u 3).grants.length + 1 ∧ haltHold u 3 = false ∧ (brth u 3).haltLag = false ∧ jobState u 3 = 3
        ∧ (after1 (.timerStartAction 3 false) u).faults = [⟨3, 1, 0⟩]
        ∧ brthState x 3 ≠ 2 ∧ (after1 (.timerStartAction 3 false) x).breaths = x.breaths)
    ∧ (let s := { breathed { nominal := true, started := 4 } (wr (slotted 3 2) (R.brthPeriod 3) 100) with time := 10 ^ 6 * 2 ^ 32 };
      overrun s 3 = true ∧ jobState s 3 = 3 ∧ (after1 (.stepOverrun 3) s).faults = [⟨3, 1, 5⟩])
    ∧ (let s := { wr (wr (slotted 3 1) (R.brthConfig 3) 1) R.timeCapConfig 4 with time := 1000 * 2 ^ 32 };
      rdB s R.timeCapConfig 2 = true ∧ brthMode s 3 = 1 ∧ brthState s 3 = 1 ∧ (brth s 3).anchored = false
        ∧ brthState (after1 (.frameSyncCapture true) s) 3 = 2 ∧ rd (after1 (.frameSyncCapture true) s) R.fsCapture = 998
        ∧ rdB base R.timeCapConfig 2 = false)
    ∧ (let s := { breathed { anchored := true } (wr (slotted 3 2) (R.brthConfig 3) 1) with time := 10 ^ 9 * 2 ^ 32 };
      missDue s 3 = true ∧ (brth (after1 (.frameMiss 3) s) 3).assumed = true)
    ∧ (let s := { wr (slotted 3 1) (R.brthConfig 3) 1 with time := 2 ^ 32 }; armDue s 3 = true ∧ brthState (after1 (.frameArmMissing 3) s) 3 = 1) := by
  decide +kernel

/-- A flit of the barrier to breath 3's endpoint. -/
def reportTo (kind tag value : Nat) : Flit := mkReduce 3 0 63 1 (0x600 + 4 * 3 + kind) tag value
/-- Breath 3 in step 5 with those sums. -/
def summed (sent recv : BitVec 32) (done : Nat) : State :=
  breathed { started := 5, closed := 4, acc := [(1, { sent := sent, recv := recv, done := done, started := true })] } (slotted 3 2)

/-- R51, R53: the last report closes the step; more received than sent is a fault; else the step stays open. -/
theorem witness_reports : (let at_ (f : Flit) (s : State) := crossing 1025 1 [f] s; let s := at_ (reportTo 2 1 1) (summed 3 3 0); let v := after1 (.hubPortFlit 1 (reportTo 2 1 1) 3) s
    let x := after1 (.hubPortFlit 1 (reportTo 1 1 1) 3) (at_ (reportTo 1 1 1) (summed 3 3 1))
    let y := after1 (.hubPortFlit 1 (reportTo 0 1 2) 3) (at_ (reportTo 0 1 2) s)
    let e := mkEvent 0 1 false 63 1 0 0 5 1 false 0 7; let a := w64 (mkHead 0xB 0 false 63 1); let b := w64 (mkHead 7 3 false 63 1)
    nextRx s 1025 1 = some (reportTo 2 1 1) ∧ vcOk (reportTo 2 1 1) = true ∧ fType (reportTo 2 1 1) = 3 ∧ fRid (reportTo 2 1 1) = 0x600 + 4 * 3 + 2 ∧ brthState s 3 = 2
      ∧ brthHier s 3 = false ∧ (brth s 3).closed + 1 = 5 ∧ rectCores s 3 = 1 ∧ (∀ c, c < 256 → bellRunning s c = false)
      ∧ jobState s 3 = 3 ∧ (brth v 3).closed = 5 ∧ entered v 1024 0 = [bcastOf s 3 1 5]
      ∧ x.faults = [⟨3, 2, 5⟩] ∧ (brth y 3).closed = 4 ∧ (accOf (brth y 3) 5).sent = 5
      ∧ vcOk e = true ∧ rowChannel s 1 e = none ∧ srcBreath s (fSrc e) = none ∧ fMark e = false
      ∧ rd (after1 (.hubPortFlit 1 e 0) (at_ e s)) R.hubRowmapMiss = 1
      ∧ vcOk a = true ∧ fType a = 0xB ∧ (after1 (.hubPortFlit 1 a 0) (at_ a s)).mesh.hubRx = [a]
      ∧ vcOk b = true ∧ fType b = 7 ∧ (after1 (.hubPortFlit 1 b 0) (at_ b s)).mesh.hubRx = []) := by decide +kernel

/-- R205, R264 to R266. -/
theorem witness_deadlock :
    (let s := { slotted 3 2 with mesh := { base.mesh with moved := [33] } }
     let u := cw (wr (slotted 3 2) (R.dlQuiet 3) 7) 33 (R.waitState 5) 0x20;
      live s = true ∧ coresOf s 3 = [33] ∧ haltHold s 3 = false ∧ brthState s 3 ≠ 3
        ∧ rdF (after1 .deadlockSample s) (R.dlQuiet 3) 0 32 = 0 ∧ coreWaits u 33 = true
        ∧ rdF (after1 .deadlockSample u) (R.dlQuiet 3) 0 32 = 8)
    ∧ (let s := wr (slotted 3 2) (R.dlQuiet 3) 0xFFFFFFFF;
      brthState s 3 = 2 ∧ quietWindow s 3 ≤ rdF s (R.dlQuiet 3) 0 32 ∧ rdB s (R.dlQuiet 3) 32 = false ∧ jobState s 3 = 3
        ∧ (after1 (.deadlock 3) s).faults = [⟨3, 6, 0xFFFFFFFF⟩])
    ∧ (let s := { cw (upCore base 5 fun c => { c with waitFrom := [(2, 1)] }) 5 (R.waitState 2) (w64 (0x20 + 9 * 2 ^ 40)) with time := 2000 * 2 ^ 32 };
      tickDue s = true ∧ (s.cores.map (·.1)).Nodup ∧ waiting s 5 2 = true ∧ crF s 5 (R.waitState 2) 40 24 > 0
        ∧ Sparse.get (fun _ => 0) (Machine.core s 5).waitFrom 2 % 2 = 1 ∧ frozen s 5 = false ∧ (Machine.core s 5).halted = false) := by decide +kernel

/-! ### Queues and synchronisation objects -/

/-- R233, R256: the operations on an OPEN ring with one record, on a combining queue with a held bank, and sends. -/
theorem witness_queue_ring : (let s := stN (setResv (setReady queued 0 1 32) 0 1 32) 0x002000010000 [1]
    takesOp s 0 true ∧ takesOp s 0 false ∧ entryApart s 0 1 ∧ qState s 0 1 = 1 ∧ qKind s 0 1 = 0
      ∧ qEpoch (after1 (.queueOpen 0 1 true) s) 0 1 = 8 ∧ qState (after1 (.queueClose 0 1 true) s) 0 1 = 0
      ∧ qState (after1 (.queueDrain 0 1 true) s) 0 1 = 2 ∧ qState s 0 2 ≠ 1 ∧ crF (after1 (.queueDrain 0 2 true) s) 0 R.qopResult 0 4 = 3
      ∧ qHead queued 0 1 = qReady queued 0 1 ∧ crF (after1 (.queueConsume 0 1 true) queued) 0 R.qopResult 0 4 = 3
      ∧ qHead s 0 1 ≠ qReady s 0 1 ∧ ringSize s 0 1 ≤ 2 ^ 24 ∧ (0 + recBytes s 0 1 0) % (2 * ringSize s 0 1) = qReady s 0 1
      ∧ qHead (after1 (.queueConsume 0 1 true) s) 0 1 = 32
      ∧ pollHolds s 0 1 0xFF 9 = false ∧ pollHolds s 0 1 0 0 = true ∧ cr (after1 (.queuePoll 0 1 0xFF 9) s) 0 (R.waitState 0) = w64 (1 + 32 + 128)
      ∧ fld (9 : W64) 0 4 = 9 ∧ crF (after1 (.qopReserved 0 9 false) s) 0 R.qopResult 0 4 = 5) := by
  unfold takesOp entryApart apart; decide +kernel
theorem witness_queue_bank : (let c := upCore combining 0 fun c => { c with combHeld := [(1, 1)] }
    qKind c 0 1 = 2 ∧ (Machine.core c 0).combHeld.find? (fun h => h.1 = 1) = some (1, 1) ∧ entryApart c 0 1 ∧ qState c 0 1 = 1
      ∧ apart (statAddr c 0 1) 4 (combBank c 0 1 1) (4 * combLanes c 0 1)
      ∧ (Machine.core (after1 (.queueConsume 0 1 false) c) 0).combHeld = []) := by
  unfold entryApart apart; decide +kernel
theorem witness_queue_send : (let b := setBinding queued 0 1 (w64 (66 + 7 * 2 ^ 16 + 9 * 2 ^ 24 + 2 ^ 40))
    let full := upCore b 0 fun c => { c with sends := List.replicate 8 ⟨0, 0, 0, 0, [], none⟩ }; let x := after1 (.queueSend 0 1 0 true) b
    bitAt (binding queued 0 1) 40 = false ∧ crF (after1 (.queueSend 0 1 0 true) queued) 0 R.qopResult 0 4 = 3
      ∧ bitAt (binding b 0 1) 40 = true ∧ crF (after1 (.queueSend 0 1 0 true) full) 0 R.qopResult 0 4 = 4
      ∧ noGrant b 66 = false ∧ clearWay b 0 (mkQreq 66 1 9 0) ∧ offered x 0 = [mkQreq 66 1 9 0]) := by
  unfold clearWay; decide +kernel

/-- R259 to R264: a semaphore of limit 5 with value 2, and waits on it. -/
theorem witness_sync : (let s := after1 (.syncInit 0 3 (w64 (2 * 2 ^ 16 + 5 * 2 ^ 32)) 0) queued
    let w := after1 (.syncWait 0 3 (w64 (9 + 3 * 2 ^ 32)) 0) s; let x := { w with time := 10 ^ 9 * 2 ^ 32 }
    let e := cw (upCore w 0 fun c => { c with waitFrom := [(0, 1)] }) 0 (R.waitState 0) (w64 (3 + 32 + 3 * 2 ^ 16))
    let p := after1 (.queuePoll 0 1 0xFF 1) { queued with mem := queued.mem }; let y := stU p (statAddr p 0 1) 4 1
    mayObject queued 0 0 = true ∧ obj s 0 3 = w64 (8 + 2 * 2 ^ 16 + 5 * 2 ^ 32) ∧ bitAt (obj queued 0 3) 3 = false
      ∧ crF (after1 (.syncSignal 0 3 1 0) queued) 0 R.qopResult 0 4 = 3 ∧ mayObject s 0 0 = true ∧ noWaiter s 0 3
      ∧ waitHolds (obj s 0 3) 2 = true ∧ fld (obj (after1 (.syncWait 0 3 (w64 (2 * 2 ^ 32)) 0) s) 0 3) 16 16 = 0
      ∧ waitHolds (obj s 0 3) 3 = false ∧ bitAt (obj s 0 3) 2 = false ∧ cr w 0 (R.waitState 0) = w64 (3 + 32 + 3 * 2 ^ 16 + 9 * 2 ^ 40)
      ∧ waiting y 0 0 = true ∧ crB y 0 (R.waitState 0) 7 = true ∧ stopped y 0 = false ∧ pollHolds y 0 1 0xFF 1 = true
      ∧ cr (after1 (.pollSatisfied 0 0) y) 0 (R.waitState 0) = 0
      ∧ waitExpired e 0 0 = true ∧ cr (after1 (.waitTimeout 0 0) e) 0 R.syncTimeouts = 1
      ∧ crB x 0 (R.waitState 0) 6 = false ∧ Sparse.get (fun _ => 0) (Machine.core x 0).waitFrom 0 / 2 + rdF x R.lendThreshold 0 32 ≤ nowNs x
      ∧ crB (after1 (.enginePark 0 0) x) 0 (R.waitState 0) 6 = true) := by
  unfold noWaiter; decide +kernel
/-- R259: an object of a full bit 2 (a shut one) answers at once. -/
theorem witness_sync_closed : (let s := setObj queued 0 3 (w64 12)
    bitAt (obj s 0 3) 3 = true ∧ bitAt (obj s 0 3) 2 = true ∧ crF (after1 (.syncWait 0 3 0 0) s) 0 R.qopResult 0 4 = 2) := by
  decide +kernel

/-- R238, R239, R244: requests to a ring, and why they fail. -/
theorem witness_request_granted : (let f := mkQreq 1 1 9 5; let s := taken 0 [f] queued; let v := after1 (.qreq 0 f) s
    fType f = 0xA ∧ ff f 43 2 = 3 ∧ nextLocal s 0 f = true ∧ ff f 37 6 = 1 ∧ ff f 1 11 = 5 ∧ ff f 30 7 + 1 = 1 ∧ ff f 14 16 = 9
      ∧ qState s 0 1 = 1 ∧ qKind s 0 1 = 0 ∧ freshRequest s 0 1 5 9 ∧ entryApart s 0 1 ∧ grantable s 0 ⟨1, 5, 1, 9⟩ = true
      ∧ clearWay s 0 (mkStatus 5 0 0x10 (qArg 1 9)) ∧ (offered v 0).map fCode = [0x10]
      ∧ (Machine.core v 0).resv = [⟨1, 5, 1, 9, 0⟩]) := by
  unfold freshRequest entryApart clearWay apart; decide +kernel
theorem witness_requests : (let f := mkQreq 1 1 9 5; let g := mkQreq 2 1 9 5; let big := mkQreq 1 80 9 5; let s := queued
    let d := setSnd s 0 1 0 5 9; let busy := upCore s 0 fun c => { c with grantWait := [⟨1, 4, 1, 1⟩] }
    let full := upCore s 0 fun c => { c with grantWait := List.replicate 32 ⟨1, 4, 1, 1⟩ }
    let code (v : State) := (offered v 0).map fCode; let x (f : Flit) (s : State) := after1 (.qreq 0 f) (taken 0 [f] s)
    qState s 0 2 ≠ 1 ∧ code (x g s) = [0x12]
      ∧ qState combining 0 1 = 1 ∧ code (x f combining) = [0x18]
      ∧ sndOf d 0 1 5 = some 0 ∧ (9 + 65536 - fld (snd d 0 1 0) 16 16) % 65536 = 0 ∧ code (x f d) = [0x17]
      ∧ sndOf d 0 1 6 = none ∧ sndFree d 0 1 = none ∧ code (x (mkQreq 1 1 9 6) d) = [0x16]
      ∧ ringSize s 0 1 / 2 < 32 * (ff big 30 7 + 1) ∧ code (x big s) = [0x14]
      ∧ (Machine.core (x f busy) 0).grantWait.length = 2 ∧ code (x f full) = [0x11]
      ∧ (Machine.core busy 0).grantWait.find? (fun y => y.q = 1) = some ⟨1, 4, 1, 1⟩ ∧ grantable busy 0 ⟨1, 4, 1, 1⟩ = true
      ∧ (Machine.core (after1 (.waitingGrant 0 1) busy) 0).resv.length = 1) := by decide +kernel

/-- A message of one unit with SEQ 9, being sent from core 0 to queue 2 of core 1. -/
def message1 : List Byte := [0, 0, 9, 0] ++ List.replicate 28 7
def sending (busy : Option Nat) : State :=
  upCore (setBinding queued 0 1 (w64 (66 + 7 * 2 ^ 16 + 9 * 2 ^ 24 + 2 ^ 40))) 0 fun c => { c with sends := [⟨1, 66, 9, 7, message1, busy⟩] }
/-- R237, R245: the answers to a core's message. -/
theorem witness_answers : (let a (code : Nat) := mkStatus 0 1 code (qArg 2 9); let s := sending none; let x : Send := ⟨1, 66, 9, 7, message1, none⟩
    let s_ (k : Nat) := taken 0 [a k] s
    (∀ k ∈ [0x10, 0x11, 0x12, 0x17], isStatus (a k) = true ∧ nextLocal (s_ k) 0 (a k) = true ∧ fCode (a k) = k ∧ sendOf s 0 (a k) = some x)
      ∧ bitAt (binding s 0 x.bind) 41 = false ∧ (∀ y ∈ (Machine.core s 0).sends, y.seq ≠ 65536)
      ∧ s.mesh.offers = [] ∧ localFlits s 0 3 = []
      ∧ ((messageFlits x.dest x.epoch 0 0 (stampHeader x.msg x.seq 0 x.dest)).all fun g =>
          creditQueue g = 3 && !fencedFrom s (some 0) g && (routeOuts 0 4 g).any fun o => o = 4 || linkState s 0 o ≠ 3) = true
      ∧ (localFlits (after1 (.grant (.core 0) (a 0x10)) (s_ 0x10)) 0 3).length = 9
      ∧ fld (binding (after1 (.duplicate (.core 0) (a 0x17)) (s_ 0x17)) 0 1) 24 16 = 10
      ∧ (Machine.core (after1 (.nackReceived (.core 0) (a 0x11)) (s_ 0x11)) 0).sends.map (·.busy) = [some (crF s 0 R.qRetryUs 0 8 * 1000)]
      ∧ isNack 0x12 = true ∧ (Machine.core (after1 (.nackReceived (.core 0) (a 0x12)) (s_ 0x12)) 0).sends = [] ∧ qState s 0 63 ≠ 1
      ∧ (Machine.core (sending (some 0)) 0).sends = [{ x with busy := some 0 }]
      ∧ (Machine.core (after1 (.nackBusyRetry (.core 0)) (sending (some 0))) 0).sends = [x]) := by decide +kernel
/-- R245: the answers to a Bell channel's message. -/
theorem witness_bell_answers : (let x : Send := ⟨0, 66, 9, 7, message1, none⟩
    let a (code : Nat) := mkStatus 0x505 1 code (qArg 2 9)
    let s := { base with mesh := { base.mesh with hubSends := [(0x505, [x])], hubRx := [a 0x10, a 0x12, a 0x17] } }
    (∀ k ∈ [0x10, 0x12, 0x17], a k ∈ s.mesh.hubRx ∧ isStatus (a k) = true ∧ answered (hubSends s (srcOf (.bell 5))) (a k) = some x)
      ∧ rdF (after1 (.grant (.bell 5) (a 0x10)) s) (R.bellBind 5) 24 16 = 10
      ∧ hubSends (after1 (.duplicate (.bell 5) (a 0x17)) s) 0x505 = []
      ∧ rdF (after1 (.nackReceived (.bell 5) (a 0x12)) s) (R.bellStatus 5) 8 8 = 0x12
      ∧ rd (after1 (.nackReceived (.bell 5) (a 0x12)) s) (R.bellNacks 5) = 1) := by decide +kernel
/-- R243, R244: a granted message arrives at its ring; one of another epoch is refused. -/
theorem witness_message : (let s := upCore queued 0 fun c => { c with resv := [⟨1, 5, 1, 9, 0⟩] }
    let h (e : Nat) := (messageFlits 1 e 5 0 message1).headD 0; let b := (messageFlits 1 7 5 0 message1).drop 1; let a := ringAddr s 0 1
    let s7 := taken 0 (h 7 :: b) s; let s8 := taken 0 (h 8 :: b) s
    messageHere s7 0 (h 7) b = true ∧ hKind (h 7) = 0 ∧ hQidx (h 7) = 1 ∧ bodyBytes b = message1 ∧ qKind s 0 1 = 0 ∧ qState s 0 1 = 1
      ∧ (Machine.core s 0).resv.find? (fun r => r.q = 1 && r.src = fSrc (h 7)) = some ⟨1, 5, 1, 9, 0⟩
      ∧ hEpoch (h 7) = qEpoch s 0 1 ∧ fld (w64 (leNat (message1.take 8))) 16 16 = 9 ∧ bitAt (qw s 0 1 0) 17 = false
      ∧ coreBase 0 ≤ a ∧ a + 32 ≤ coreBase 0 + 0x78000 ∧ apart (statAddr s 0 1) 4 a 32 ∧ apart (qAddr s 0 1) 32 a 32
      ∧ ldB (after1 (.queueMessage 0 (h 7) b) s7) a = 1 ∧ ldB (after1 (.queueMessage 0 (h 7) b) s7) (a + 4) = 7
      ∧ hEpoch (h 8) ≠ qEpoch s 0 1 ∧ clearWay s8 0 (mkStatus 5 0 0x13 (qArg 1 9))
      ∧ (offered (after1 (.queueMessage 0 (h 8) b) s8) 0).map fCode = [0x13]) := by
  unfold clearWay apart; decide +kernel
/-- R246, R247: a message for an operand queue waits, and is delivered to its population. -/
theorem witness_operand : (let s := cw (setQw (setQw queued 0 1 0 (w64 (1 + 4 + 7 * 16))) 0 1 1 (w64 (5 * 2 ^ 32))) 0 R.neConfig 0x6000
    let h (e src : Nat) := (messageFlits 1 e src 0 message1).headD 0; let b (src : Nat) := (messageFlits 1 7 src 0 message1).drop 1
    let x (e src : Nat) (s : State) := after1 (.operandMessage 0 (h e src) (b src)) (taken 0 (h e src :: b src) s)
    let w := upCore s 0 fun c => { c with opWait := [⟨1, message1⟩] }; let code (v : State) := (offered v 0).map fCode
    messageHere (taken 0 (h 7 5 :: b 5) s) 0 (h 7 5) (b 5) = true ∧ hKind (h 7 5) = 0 ∧ hQidx (h 7 5) = 1 ∧ qKind s 0 1 = 1
      ∧ qState s 0 1 = 1 ∧ fSrc (h 7 5) = fld (qw s 0 1 1) 32 11 ∧ hEpoch (h 7 5) = qEpoch s 0 1
      ∧ (Machine.core (x 7 5 s) 0).opWait = [⟨1, message1⟩]
      ∧ code (x 7 6 s) = [0x15] ∧ code (x 8 5 s) = [0x13] ∧ code (x 7 5 (setQState s 0 1 0)) = [0x12]
      -- While a message waits, no other is taken (R246).
      ∧ messageHere (taken 0 (h 7 5 :: b 5) w) 0 (h 7 5) (b 5) = false
      ∧ portFree w 0 1 false = true ∧ entryApart w 0 1 ∧ bitAt (qw w 0 1 0) 17 = false ∧ fld (qw w 0 1 1) 0 2 = 0
      ∧ bitAt (w64 (leNat (message1.take 8))) 2 = false
      ∧ (Machine.core (after1 (.operandDelivery 0 1 40 false) w) 0).opWait = []
      ∧ crF (after1 (.operandDelivery 0 1 40 false) w) 0 R.qHeldCycles 0 32 = 40) := by
  unfold entryApart apart; decide +kernel

/-- R253, R254: binds. -/
theorem witness_bulk_bind : (let msg := leBytes 8 (0x100 + 3 * 2 ^ 32) ++ leBytes 4 4 ++ List.replicate 20 0; let b : Bind := ⟨5, 3, 0x100, 4, none, 0, false⟩
    let h := (messageFlits 1 7 5 1 msg).headD 0; let bodies := (messageFlits 1 7 5 1 msg).drop 1; let s := taken 0 (h :: bodies) queued
    let full := upCore s 0 fun c => { c with binds := (List.range 8).map fun k => ⟨9, k, 0, 1, none, 0, false⟩ }
    messageHere s 0 h bodies = true ∧ hKind h = 1 ∧ mkBind (fSrc h) (bodyBytes bodies) = b
      ∧ (Machine.core (after1 (.bulkBind 0 h bodies) s) 0).binds = [b]
      ∧ (offered (after1 (.bulkBind 0 h bodies) full) 0).map fCode = [0x11]) := by decide +kernel

/-- Core 0 with circuit 3 of SRC 5 on label 2, and the 44 flits of a block of zeros with that tag at its local port. -/
def blockAt (tag : W64) (s : State) : State :=
  upCore s 0 fun c => { c with labels := [(2, 5 * 8 + 3 + 1)], rx := bulkFlits 2 (List.replicate 256 0) tag }
/-- R29, R209, R254: blocks of a bulk stream; a word that a racing port A write takes is lost. -/
theorem witness_bulk_block : (let b : Bind := ⟨5, 3, 0x38000, 4, none, 0, false⟩; let data : List Byte := List.replicate 256 0
    let good := mkTag zeroCrc 0 0 false true false false; let bound (s : State) := upCore s 0 fun c => { c with binds := [b] }
    let s := bound (blockAt good queued); let bad := bound (blockAt 0 queued)
    let busy := cw (upCore s 0 fun c => { c with plasUnits := [(0x38000, 16)] }) 0 R.plasStatus 1; let v := after1 (.bulkBlock 0 5 3 data good true) busy
    blockHere (blockAt 0 queued) 0 5 3 data 0 = true ∧ ((Machine.core queued 0).binds.find? fun x => x.src = 5 && x.circuit = 3) = none
      ∧ cr (after1 (.bulkBlock 0 5 3 data 0 false) (blockAt 0 queued)) 0 R.bulkUnbound = 44
      ∧ blockHere s 0 5 3 data good = true ∧ ((Machine.core s 0).binds.find? fun x => x.src = 5 && x.circuit = 3) = some b
      ∧ b.done + 1 < b.blocks ∧ bitAt good 56 = false ∧ crc32c data = fld good 0 32 ∧ fld good 40 16 = 0 ∧ assigned s 0 = false
      ∧ cr (after1 (.bulkBlock 0 5 3 data good false) s) 0 R.bulkBlocks = 1
      ∧ crc32c data ≠ fld (0 : W64) 0 32 ∧ cr (after1 (.bulkBlock 0 5 3 data 0 false) bad) 0 R.bulkTagErr = 1
      ∧ plasWrites busy 0 0x38008 = true ∧ plasWrites busy 0 0x38010 = false ∧ crF v 0 R.plasWriteLost 0 32 = 2) := by decide +kernel
/-- R206, R207: a circuit is set up from the west to the east of router 33, and torn down. -/
theorem witness_circuits : (let f := w64 (mkHead 7 3 false 5 1 + 2 * 2 ^ 41 + 1 * 2 ^ 35 + 7 * 2); let d := w64 (mkHead 8 3 false 5 1 + 1 * 2 ^ 35 + 7 * 2)
    let s := crossing 33 3 [f] base; let v := after1 (.circuitSetup (.router 33) .west f) s; let down := setLinkState s 33 1 3
    let x := crossing 33 3 [d] v
    fType f = 7 ∧ circuitHere s 33 3 3 f = true ∧ setupRefusal s 33 3 1 f = none ∧ (routeOuts 33 3 f).headD 4 = 1 ∧ bitAt (circ s 33 0) 0 = false
      ∧ circ v 33 0 = w64 (1 + 3 * 2 + 1 * 2 ^ 4 + 1 * 2 ^ 8 + 2 * 2 ^ 16 + 7 * 2 ^ 32)
      ∧ circuitHere down 33 3 3 f = true ∧ (setupRefusal down 33 3 1 f).isSome = true
      ∧ circ (after1 (.circuitSetup (.router 33) .west f) down) 33 0 = 0
      ∧ fType d = 8 ∧ buf x 33 3 4 = [] ∧ circuitHere x 33 3 4 d = true ∧ circMatch x 33 3 (fLabel d) = some 0
      ∧ fld (circ x 33 0) 8 3 ≠ 4 ∧ circ (after1 (.circuitTeardown (.router 33) .west d) x) 33 0 = 0) := by decide +kernel
/-- R239, R255: circuit replies and accesses at a core. -/
theorem witness_accesses : (let s := upCore queued 0 fun c => { c with circOut := [(2, 0x7000000000000000)] }
    let r (code : Nat) := mkStatus 0 1 code (2 * 2 ^ 21); let rd1 := w64 (mkHead 0xA 0 false 0 0 + 0 * 2 ^ 43 + 7 * 2 ^ 39 + 0x400 * 2 ^ 22)
    let wa := w64 (mkHead 0xA 0 false 0 0 + 1 * 2 ^ 43 + 7 * 2 ^ 39 + 0x400 * 2 ^ 22 + 2 ^ 21); let wd := w64 (mkHead 0xA 0 false 0 0 + 2 * 2 ^ 43 + 7 * 2 ^ 39 + 0xABCD * 2 ^ 7)
    let u := taken 0 [wd] (after1 (.ctrlWriteA 0 wa) (taken 0 [wa] queued)); let x := mkStatus 0x500 1 0x30 0; let s_ (k : Nat) := taken 0 [r k] s
    (∀ k ∈ [0x30, 0x31, 0x20], isStatus (r k) = true ∧ nextLocal (s_ k) 0 (r k) = true ∧ fCode (r k) = k ∧ ff (r k) 33 3 = 2)
      ∧ Sparse.get (fun _ => 0) (Machine.core s 0).circOut 2 ≠ 0
      ∧ Sparse.get (fun _ => 0) (Machine.core (after1 (.circuitReply 0 (r 0x30)) (s_ 0x30)) 0).circOut 2 = 0x7000000000000001
      ∧ Sparse.get (fun _ => 0) (Machine.core (after1 (.circuitReply 0 (r 0x31)) (s_ 0x31)) 0).circOut 2 = 0
      ∧ isCtrl rd1 0 = true ∧ nextLocal (taken 0 [rd1] queued) 0 rd1 = true ∧ offered (after1 (.ctrlRead 0 rd1) (taken 0 [rd1] queued)) 0 ≠ []
      ∧ isCtrl wa 1 = true ∧ isCtrl wd 2 = true ∧ stopped u 0 = false ∧ nextLocal u 0 wd = true
      ∧ Sparse.get (fun _ => 0) (Machine.core u 0).writeA 7 = wa.toNat + 1
      ∧ ldU (after1 (.ctrlWriteD 0 wd false) u) (coreBase 0 + 0x2004) 4 = 0xABCD
      ∧ fType x = 0xB ∧ (after1 (.ctrlResp (.bell 0) x) { base with mesh := { base.mesh with hubRx := [x] } }).mesh.hubRx = []) := by
  decide +kernel
/-- R29, R163, R255: a write that loses its cycle to the Plasticity Engine is counted and answered ACCESS_WRITE_LOST; R254: a
core takes BULK_DONE. -/
theorem witness_lost_write : (let wa := w64 (mkHead 0xA 0 false 0 0 + 1 * 2 ^ 43 + 7 * 2 ^ 39 + 0x7000 * 2 ^ 22); let wd := w64 (mkHead 0xA 0 false 0 0 + 2 * 2 ^ 43 + 7 * 2 ^ 39 + 0xABCD * 2 ^ 7)
    let s := taken 0 [wd] (after1 (.ctrlWriteA 0 wa) (taken 0 [wa] (cw (upCore queued 0 fun c => { c with plasUnits := [(0x38000, 16)] }) 0 R.plasStatus 1)))
    let v := after1 (.ctrlWriteD 0 wd true) s; let b := mkStatus 0 1 0x20 0
    isCtrl wd 2 = true ∧ nextLocal s 0 wd = true ∧ stopped s 0 = false ∧ Sparse.get (fun _ => 0) (Machine.core s 0).writeA 7 = wa.toNat + 1
      ∧ 8 * ff wa 22 17 = 0x38000 ∧ plasWrites s 0 0x38000 = true ∧ ldU v (coreBase 0 + 0x38000) 4 = 0
      ∧ crF v 0 R.plasWriteLost 0 32 = 1 ∧ (offered v 0).map fCode = [1]
      ∧ isStatus b = true ∧ fCode b = 0x20 ∧ (Machine.core (after1 (.ctrlResp (.core 0) b) (taken 0 [b] queued)) 0).rx = []) := by
  decide +kernel

/-! ### Mesh and links -/

/-- R45, R191 to R203: flits that arrive at router 33 from the west. -/
theorem witness_arrivals : (let e := mkEvent 0 1 false 5 1 0 0 9 1 false 0 32; let m := mkReduce 3 0 63 1 0x60C 1 4; let b := w64 (mkHead 0xC 3 false 5 1)
    let holding1 (f : Flit) (k : Nat) := crossing 33 3 [f] { base with mesh := { base.mesh with bufs := [((33 * 5 + 3) * 5 + fVc f, List.replicate k ⟨f, [1], 0, 8⟩)] } }
    let full := holding1 e (rdF base (R.rtrConfig 33) 0 6); let v := after1 (.routerFlitArrival 33 .west m 0) (holding1 m 1)
    let s := crossing 33 3 [e] base; let u := crossing 33 3 [b] base
    (Port.west ≠ .loc) ∧ fType b = 0xC ∧ nextRx u 33 3 = some b ∧ rd (after1 (.routerFlitArrival 33 .west b 0) u) (R.rtrBadType 33) = 1
      ∧ fType m ≤ 6 ∧ nextRx (holding1 m 1) 33 3 = some m ∧ (buf (holding1 m 1) 33 3 0).getLast? = some ⟨m, [1], 0, 8⟩ ∧ mergeable m m = true
      ∧ (buf v 33 3 0).map (fun h => fValue h.f) = [8]
      ∧ fType e ≤ 1 ∧ fMark e = false ∧ nextRx s 33 3 = some e ∧ buf s 33 3 1 = [] ∧ 0 < rdF s (R.rtrConfig 33) 0 6
      ∧ (routeOuts 33 3 e).filter (fun o => o = 4 || linkState s 33 o ≠ 3) = [1]
      ∧ buf (after1 (.routerFlitArrival 33 .west e 0) s) 33 3 1 = [⟨e, [1], 0, 8⟩]
      ∧ nextRx full 33 3 = some e ∧ buf full 33 3 1 ≠ [] ∧ fVc e = 1 ∧ rdF full (R.rtrConfig 33) 0 6 ≤ (buf full 33 3 1).length
      ∧ (∃ o ∈ routeOuts 33 3 e, o ≠ 4 ∧ linkState full 33 o ≠ 3) ∧ 4 ∉ routeOuts 33 3 e
      ∧ rd (after1 (.routerFlitArrival 33 .west e 0) full) (R.rtrMarks 33) = 1) := by decide +kernel
/-- R198: a waiting VC0 flit of core 33 enters for a token, and waits without one; R207: a BULK flit enters once its circuit is
accepted. -/
theorem witness_local_arrivals : (let f := mkStatus 5 33 0x10 0; let o : Offer := ⟨33, 33, f⟩; let b := (bulkFlits 2 (List.replicate 256 0) 0).headD 0
    let s := { base with mesh := { base.mesh with offers := [o] } }; let g := tokensTo s 33 100; let v := after1 (.routerFlitArrival 33 .loc f 100) s
    let u := upCore (setCirc base 33 0 (w64 (1 + 4 * 2 + 2 * 2 ^ 4 + 1 * 2 ^ 8 + 5 * 2 ^ 12))) 33 fun c => { c with circOut := [(2, 0x7000000000000001)] }
    fType f ≠ 9 ∧ nextVc0 s 33 f = some o ∧ (tokenOk g 33 && roomAt g 33 f && vc0Turn g 33 100 (vc0Class f)) = true
      ∧ v.mesh.offers = [] ∧ rdF v (R.rtrShaper 33) 8 3 + 1 = rdF g (R.rtrShaper 33) 8 3
      ∧ (tokenOk (tokensTo s 33 7) 33 && roomAt (tokensTo s 33 7) 33 f && vc0Turn (tokensTo s 33 7) 33 7 (vc0Class f)) = false
      ∧ (after1 (.routerFlitArrival 33 .loc f 7) s).mesh.offers = [o]
      ∧ fType b = 9 ∧ bulkMay base 33 b = false ∧ bulkMay u 33 b = true ∧ circMatch u 33 4 (fLabel b) = some 0
      ∧ linkState u 33 1 ≠ 3 ∧ (buf (after1 (.routerFlitArrival 33 .loc b 0) u) 33 4 4).map (·.label) = [2]) := by decide +kernel
/-- R197: the flit that waits at router 33's local input for the east leaves; one for the core is delivered, and echoed if it
is marked (R204). -/
theorem witness_flit_moves : (let e := mkEvent 0 1 false 5 1 0 0 9 1 false 0 33; let m := mkReduce 3 0 5 1 0x60C 1 4
    let at_ (f : Flit) (o : Nat) := { base with mesh := { base.mesh with bufs := [((33 * 5 + 4) * 5 + fVc f, [⟨f, [o], 0, 8⟩])] } }
    let v := after1 (.flitSend (.router 33) .east 0) (at_ e 1); let g := gainTokens (at_ e 1) 33 1 0; let x := setBit e 57
    let w := after1 (.flitSend (.router 33) .loc 0) (at_ x 4); let d := gainTokens (at_ x 4) 33 4 0
    slotFree (link (peerShape (at_ e 1) 33 0) (linkKey 33 1)) 0 = true ∧ (at_ e 1).conv.epOut = []
      ∧ pickVc0 (gainTokens (at_ m 1) 33 1 0) 33 1 = some ⟨4, 0, ⟨m, [1], 0, 8⟩, 0⟩ ∧ pickVc0 g 33 1 = none ∧ pickCircuit g 33 1 = none
      ∧ pickRest g 33 1 = some ⟨4, 1, ⟨e, [1], 0, 8⟩, 1⟩ ∧ g.mesh.offers = []
      ∧ buf v 33 4 1 = [] ∧ (link v (linkKey 33 1)).next = 1 ∧ Sparse.get (fun _ => 0) (Machine.core v 33).sent 1 = 1
      ∧ pick (gainTokens base 33 1 0) 33 1 = none ∧ gives (.flitSend (.router 33) .east 0) base base = true
      ∧ pickVc0 d 33 4 = none ∧ pickCircuit d 33 4 = none ∧ (pickRest d 33 4).isSome = true ∧ vcOk x = true
      ∧ (Machine.core w 33).rx = [x] ∧ rd w (R.echoSent 33) = 1) := by decide +kernel
/-- R205: an echo halves, and a second is ignored; the Event Port's flits go as its shaper lets them (R286). -/
theorem witness_echoes : (let q := mkEcho 33 0x630; let s := taken 33 [q] base; let x := after1 (.echoReceived (.core 33) q 1000) s
    let y := taken 33 [q] x; let f := mkEvent 0 1 false 1 1 0 0 3 1 false 0 0x620
    let ep := { slotted 3 2 with conv := { base.conv with epOut := [⟨3, 0, 1, f⟩] } }
    shapedSrc (.core 33) = some 33 ∧ fType q = 6 ∧ echoWaits s 33 q = true ∧ (shaper s 33).halved = none ∧ shapeRate x 33 = 32
      ∧ (Machine.core x 33).rx = [] ∧ echoWaits y 33 q = true ∧ (shaper y 33).halved = some 1000 ∧ 1001 - 1000 < rdF y R.meshShape 16 16
      ∧ rd (after1 (.echoReceived (.core 33) q 1001) y) (R.echoIgnored 33) = 1
      ∧ participantReady (shapeTo ep 0x620 0) 256 1 0x620 f = false ∧ (after1 (.flitSend (.hub 1) .east 0) ep).conv.epOut.length = 1
      ∧ participantReady (shapeTo ep 0x620 100) 256 1 0x620 f = true ∧ (after1 (.flitSend (.hub 1) .east 100) ep).conv.epOut = []) := by
  decide +kernel
/-- R211 to R220: words of a link, its timeouts and its training. -/
theorem witness_links : (let l : LinkId := .mesh (.router 33) .east; let e := mkEvent 0 1 false 5 1 0 0 9 1 false 0 33
    let s := setLink base (linkKey 33 1) { replay := [(0, e)], next := 1 }; let worn := setLink base (linkKey 33 1) { disc := 2, fails := 2, window := 1000 }
    let nak : BitVec 31 := BitVec.ofNat 31 (2 ^ 21); let t := setStateOf worn l 2; let t1 := setStateOf s l 2
    let x := after1 (.laneWordReceive (.router 33) .west false .bad) base
    inLink 33 3 = some (linkKey 32 1) ∧ (link base (linkKey 32 1)).nak = false ∧ (link x (linkKey 32 1)).nak = true
      ∧ (link (after1 (.laneWordReceive (.router 33) .west false (.good 0 e false)) base) (linkKey 32 1)).rx = [e]
      ∧ linkExists l = true ∧ bitAt (nak.setWidth 64) 21 = true ∧ (link s (linkOf l)).run + 1 < 8
      ∧ (link (after1 (.controlWordReceive l nak true) s) (linkKey 33 1)).run = 1
      ∧ (link s (linkOf l)).disc + 1 < 3 ∧ (link (after1 (.controlWordReceive l 0 false) s) (linkKey 33 1)).disc = 1
      ∧ 3 ≤ (link worn (linkOf l)).disc + 1 ∧ stateOf worn l ≤ 1 ∧ stateOf (after1 (.controlWordReceive l 0 false) worn) l = 2
      ∧ (link s (linkOf l)).replay ≠ [] ∧ stateOf s l ≤ 1 ∧ (link (after1 (.replayTimeout l false) s) (linkKey 33 1)).window = 1
      ∧ retryBudget worn l < (link worn (linkOf l)).window ∧ stateOf (after1 (.retryWindowEnd l) worn) l = 1
      ∧ stateOf t l = 2 ∧ 3 ≤ (link t (linkOf l)).fails + 1 ∧ stateOf (after1 (.linkRetrainEnd l false) t) l = 3
      ∧ stateOf t1 l = 2 ∧ (link t1 (linkOf l)).fails + 1 < 3 ∧ stateOf (after1 (.linkRetrainEnd l true) t1) l = 0
      ∧ (link (after1 (.linkRetrainEnd l true) t1) (linkKey 33 1)).replay = [(0, e)]) := by
  decide +kernel
/-- R215: a NAK and a timeout of one cycle are one replay. -/
theorem witness_naks : (let l : LinkId := .mesh (.router 33) .east; let e := mkEvent 0 1 false 5 1 0 0 9 1 false 0 33
    let u := setLink base (linkKey 33 1) { replay := [(0, e)], next := 1, nakTaken := true, run := 1, window := 1 }
    (link u (linkOf l)).nakTaken = true ∧ (link u (linkOf l)).replay ≠ [] ∧ stateOf u l ≤ 1
      ∧ (link (after1 (.replayTimeout l true) u) (linkKey 33 1)).window = 1) := by decide +kernel
/-- R213: a control word of a link without a NAK; R216: links between dies lose lock; R360: the L0 path. -/
theorem witness_ligatures : (let l : LinkId := .mesh (.router 15) .east
    let s := wr (wr (slotted 3 2) (R.brthRect 3) (w64 (15 + 16 * 2 ^ 16 + 2 * 2 ^ 32))) (R.brthConfig 3) 8
    isLigature l = true ∧ stateOf base l ≤ 1 ∧ stateOf (after1 (.laneLockLoss l) base) l = 2 ∧ bitAt ((0 : BitVec 31).setWidth 64) 21 = false
      ∧ l0Breath s = some 3 ∧ onJobPath s 3 l = true ∧ rdB (after1 (.recalForced l) s) R.pwrAlarm 5 = true) := by decide +kernel
/-- R360: a peer link that retrains, and has trained; with an L0 job beyond its port the loss is a failed condition (R468). -/
theorem witness_peer_link : (let l : LinkId := .peer 0; let s := setLink base (linkOf l) { disc := 2 }
    let t := after1 (.controlWordReceive l 0 false) s; let v := after1 (.linkRetrainEnd l true) t
    linkExists l = true ∧ stateOf t l = 2 ∧ stateOf v l = 0 ∧ rd v (R.peerStatus 0) = 4 ∧ rd (after1 (.linkRetrainEnd l false) (setLink (setStateOf v l 2) (linkOf l) { fails := 2 })) (R.peerStatus 0) = 3
      ∧ (let u := setBrth (setJob (wr (slotted 3 2) (R.brthConfig 3) 24) 3 { jobOf (slotted 3 2) 3 with hier := true }) 3 { (brth (slotted 3 2) 3 : Breath) with started := 1 }
        farSide u 3 0 = true ∧ openSteps (brth u 3) = 2 ∧ condOf (brth (after1 (.controlWordReceive l 0 false) (setLink u (linkOf l) { disc := 2 })) 3) 0 = 4)) := by decide +kernel
/-- R358: a frame with a wrong check word, one out of turn, and one that is accepted. -/
theorem witness_peer_frames : (let f := mkReduce 3 0 63 1 0x704 1 4; let fr := mkFrame f 1 0
    let v := after1 (.peerFrame 0 fr) base; let x := after1 (.peerFrame 0 (fr + 1)) base
    rdF base (R.peerStatus 0) 0 2 ≤ 1 ∧ crc16 (beBytes 10 (fr.toNat / 65536)) = fr.toNat % 65536
      ∧ crc16 (beBytes 10 ((fr + 1).toNat / 65536)) ≠ (fr + 1).toNat % 65536 ∧ rd x (R.peerCrcErr 0) = 1
      ∧ fType (w64 (fr.toNat / 2 ^ 32)) = 3 ∧ fr.toNat / 65536 % 4096 = (link base (peerIn 0)).expect % 4096
      ∧ fr.toNat / 2 ^ 28 % 16 ≠ pkgId base ∧ (link v (peerIn 0)).expect = 1
      ∧ (mkFrame f 1 5).toNat / 65536 % 4096 ≠ (link base (peerIn 0)).expect % 4096) := by decide +kernel

/-! ### Converters -/

/-- Mouthpiece channel 5 of job 4, one element of level encoding, its ring at 0x20000, with a sampling under way. -/
def sampling (vec : Option Nat) (flits : List Flit) : State :=
  let s := wr (wr (wr (wr (wr (slotted 3 2) (R.mpConfig 5) (w64 (4 * 2 ^ 16 + 3 * 2 ^ 24))) (R.mpElems 5) 1) (R.mpInAddr 5) 0x20000) (R.mpStampAddr 5) 0x30000)
    (R.mpRoute 5) (w64 (1 + 1 * 2 ^ 2 + 1 * 2 ^ 8 + 1 * 2 ^ 35 + 1 * 2 ^ 41));
  { s with
    conv := { s.conv with mp := [(5, [⟨6, vec, flits, false, mpRegs s 5⟩])] }
    tags := [(0, mkTag zeroCrc 4 0 false false false false), (512, mkTag zeroCrc 4 512 false false false false)] }
theorem witness_mouthpiece : (let s := sampling (some 0) []; let f := mkEvent 0 1 false 1 1 0 0 3 1 false 0 0x405; let u := sampling none [f, f]
    let r (s : State) : MpRun := ⟨6, some 0, [], false, mpRegs s 5⟩; let y := wr s (R.mpInAddr 5) 0xF00000000000
    let x := { y with conv := { y.conv with mp := [(5, [r y])] } }
    live s = true ∧ (mpRuns s 5).find? (fun r => r.vec.isSome) = some (r s) ∧ vectorBytes (mpN s 5) = 256
      ∧ (engineRead (meetErrs s [] 0x20000 256) (mpJob s 5) 0x20000 256).1 = none
      ∧ (engineRead x (mpJob x 5) 0xF00000000000 256).1.isSome = true ∧ rdF (after1 (.mpFetchDone 5 []) x) (R.mpStatus 5) 0 2 = 2
      ∧ mpRuns u 5 = [⟨6, none, [f, f], false, mpRegs u 5⟩] ∧ mpBreath u 5 = 3 ∧ rdB u (R.peerInj 5) 0 = false
      ∧ participantReady (shapeTo u 0x405 1000) 5 1 0x405 f = true ∧ participantReady (shapeTo u 0x405 0) 5 1 0x405 f = false
      ∧ misaddressed f = false ∧ fDx f ≠ 63
      ∧ (mpRuns (after1 (.mpInject 5 1000) u) 5).map (·.flits) = [[f]] ∧ (accOf (brth (after1 (.mpInject 5 1000) u) 3) 1).sent = 1
      ∧ (mpRuns (after1 (.mpInject 5 0) u) 5).map (·.flits) = [[f, f]]) := by decide +kernel
/-- R314, R324: an uncorrectable beat of the tag of the vector's block faults its channel, and its block is poisoned. -/
theorem witness_fetch_error : (let s := sampling (some 0) []; let v := after1 (.mpFetchDone 5 [⟨0x10001000, true⟩]) s
    (engineRead (meetErrs s [⟨0x10001000, true⟩] 0x20000 256) (mpJob s 5) 0x20000 256).1.isSome = true ∧ mpRuns v 5 = []
      ∧ rdF v (R.mpStatus 5) 0 2 = 2 ∧ bitAt (tagAt v 0x20000) 56 = true) := by decide +kernel
/-- R275, R321: the state bytes with which a channel starts carry a good tag. -/
theorem test_channel_starts_tagged : (let s := wr (sampling (some 0) []) (R.mpConfig 5) (w64 (1 + 4 * 2 ^ 16 + 7 * 2 ^ 56))
    let s := convInit (wr s (R.mpStateAddr 5) 0x1000010000) 0 5
    ldB s 0x1000010000 = 7 ∧ (engineRead s 4 0x1000010000 1).1 = none) := by decide +kernel
theorem witness_vector_forms : (let s := sampling (some 0) []; let l := (engineRead s (mpJob s 5) 0x20000 256).2.1
    let v := engineWrite s (mpJob s 5) 0x30000 (leBytes 8 (clrBit (w64 (ldU s 0x30000 8)) 32).toNat)
    (mpForm v 5 6 (some ((List.range (mpN s 5)).map fun k => sx 16 (leNat ((l.drop (2 * k)).take 2))))).1 = none) := by decide +kernel

/-- Bell channel 5 of breath 3 in membrane mode with reads, and with results in its three ways. -/
def belled (cfg : Nat) (m : List MemRead) (res : List BellRes) : State :=
  let s := wr (slotted 3 2) (R.bellConfig 5) (w64 (cfg + 4 * 2 ^ 16 + 3 * 2 ^ 24));
  { s with conv := { s.conv with mread := [(5, m)], results := res } }
theorem witness_bell : (let f := w64 (mkHead 0xB 0 false 63 1 + 5 * 2 ^ 40 + 0x1234); let r : BellRes := ⟨5, 4, [1, 2], 0, false⟩
    let at_ (s : State) := { s with mesh := { s.mesh with hubRx := [f] } }
    let s := at_ (belled 5 [⟨4, [1], 2⟩] []); let u := at_ (belled 5 [⟨4, [1], 1⟩] []); let w := at_ (belled 5 [⟨4, [1], 1⟩] [r, r])
    let q := wr (belled 0 [] [r]) (R.bellBind 5) (w64 (66 + 2 ^ 40)); let b := wr (belled 8 [] [r]) (R.bellOutAddr 5) 0x40000
    fType f = 0xB ∧ bitAt f 44 = false ∧ ff f 40 4 = 5 + rdF s (R.bellActions 5) 8 3 ∧ mreadFor s 5 f = some ⟨4, [1], 2⟩ ∧ f ∈ s.mesh.hubRx
      ∧ (mreadOf (after1 (.membraneReadResponse 5 f) s) 5).map (·.left) = [1]
      ∧ (after1 (.membraneReadResponse 5 f) u).conv.results.map (·.chan) = [5]
      ∧ 2 ≤ (w.conv.results.filter fun r => r.chan = 5).length ∧ rd (after1 (.membraneReadResponse 5 f) w) (R.bellOverflow 5) = 1
      ∧ q.conv.results.find? (fun r => r.chan = 5) = some r ∧ fld (rd q (R.bellConfig 5)) 3 2 = 0
      ∧ bitAt (rd q (R.bellBind 5)) 40 = true ∧ noGrant q 66 = false ∧ (hubSends (after1 (.bellDelivery 5) q) 0x505).length = 1
      ∧ bitAt (rd (belled 0 [] [r]) (R.bellBind 5)) 40 = false
      ∧ (after1 (.bellDelivery 5) (belled 0 [] [{ r with going := true }])).conv.results = []
      ∧ fld (rd b (R.bellConfig 5)) 3 2 = 1 ∧ bitAt (rd b (R.bellConfig 5)) 5 = false ∧ bufferBytes 2 / 256 = 1
      ∧ inDdr b 0x40000 1 ∧ flagAt b 0x40000 % 2 = 0 ∧ ldU (after1 (.bellDelivery 5) b) 0x40004 4 = 2) := by
  unfold inDdr; decide +kernel

/-- R284 to R288: frames of the Event Port, with stream 0 an EVENTS stream. -/
theorem witness_event_port : (let s := wr (wr (wr base R.epConfig 11) (R.epStreamA 0) (w64 (1 + 2))) (R.epStreamB 0) 0
    let h := 2 * 2 ^ 29 + 1; let tr := 5 * 2 ^ 16; let fr (h : Nat) (pay : List Nat) := ((h :: pay) ++ [tr + frameCrc h pay 5]).map (BitVec.ofNat 32)
    let res := { belled 16 [] [⟨5, 4, [1, 2], 0, false⟩] with regs := (wr (belled 16 [] []) R.epConfig 2).regs }
    rdB base R.epConfig 0 = false ∧ rdB s R.epConfig 0 = true ∧ [7, 8].length + 2 ≠ (2 ^ 30 : Nat) % 2048 + 3
      ∧ rd (after1 (.evtInFrame (fr (2 ^ 30) [7, 8])) s) R.epFormatErr = 1
      ∧ [7, 8].length + 2 = h % 2048 + 3 ∧ rd (after1 (.evtInFrame ([w64 h, 7, 8, 0].map (·.setWidth 32))) s) R.epCrcErr = 1
      ∧ frameBad s h = false ∧ h / 2 ^ 29 ≠ 7 ∧ fifoWords s + 4 ≤ 16384 ∧ (after1 (.evtInFrame (fr h [7, 8])) s).conv.epIn = [(h, 5, [7, 8])]
      ∧ rdB s R.epConfig 3 = true ∧ rdB (after1 (.evtInFrame (fr (7 * 2 ^ 29) [1])) s) R.epStatus 1 = true
      ∧ rdB res R.epConfig 1 = true ∧ rdB res R.epStatus 1 = false ∧ rdB res R.pwrState 3 = false ∧ res.conv.flow = []
      ∧ res.conv.results.find? (fun r => rdF res (R.bellConfig r.chan) 3 2 = 2) = some ⟨5, 4, [1, 2], 0, false⟩
      ∧ (after1 .evtOutFrame res).outs.evt.map List.length = [4] ∧ (after1 .evtOutFrame res).conv.results = []
      ∧ rdB base R.epConfig 1 = false ∧ rdB (after1 .evtInClockReturn base) R.epStatus 0 = true) := by decide +kernel
/-- R288: a full FIFO drops the frame, and a FLOW frame waits to go. -/
theorem witness_flow : (let s := wr (wr (wr base R.epConfig 11) (R.epStreamA 0) (w64 (1 + 2))) (R.epStreamB 0) 0
    let u := { s with conv := { s.conv with epIn := [(0, 0, List.replicate 16382 0)], flow := [true] } }
    u.conv.flow = true :: [] ∧ 16384 < (16382 + 2) + 4 ∧ rdB u R.epConfig 1 = true ∧ rdB u R.epStatus 1 = false
      ∧ (after1 .evtOutFrame u).conv.flow = []) := by decide +kernel

/-! ### Registers and windows -/

/-- R353, R354: doorbells, freed completions, and a held one that follows. -/
theorem witness_doorbells : (let s := setB base (R.mbStatus 0) 0; let held := { wr s (R.mbCplPi 0) 256 with mbox := { s.mbox with held := [(0, List.replicate 8 7)] } }
    rdB s (R.mbStatus 0) 0 = true ∧ idxSub 2 (cmdCi s 0) ≤ 256 ∧ idxSub (cmdPi s 0) (cmdCi s 0) ≤ idxSub 2 (cmdCi s 0)
      ∧ rd (after1 (.doorbell 0 2) s) (R.mbCmdPi 0) = 2 ∧ 256 < idxSub 257 (cmdCi s 0) ∧ rdB (after1 (.doorbell 0 257) s) (R.mbStatus 0) 1 = true
      ∧ rdB base (R.mbStatus 0) 0 = false ∧ rdB (after1 (.doorbell 0 2) base) (R.mbStatus 0) 1 = true
      ∧ s.mbox.held = [] ∧ rd (after1 (.mbCplCiWrite 0 0) s) (R.mbCplCi 0) = 0
      ∧ held.mbox.held = [(0, List.replicate 8 7)] ∧ idxSub (cplPi held 0) 1 < 256 ∧ (after1 (.mbCplCiWrite 0 1) held).mbox.held = []
      ∧ cplPi (after1 (.mbCplCiWrite 0 1) held) 0 = 257) := by decide +kernel
/-- R349, R350, R424, R333: pads, transfers of ownership, engines. -/
theorem witness_register_actions : (let s := wr base R.ownXferFirst 16; let busy := setB s R.ownXferStatus 0; let go : W64 := w64 (2 ^ 32 + 2 ^ 24 + 3)
    let d := wr base (R.dmaStatus 2) 1; let fixed := wr base R.ownXferFirst 1020000
    rdB (after1 (.padRelease 1) (setB base R.pwrState 3)) R.pwrState 3 = false
      ∧ bitAt go 32 = true ∧ rdB busy R.ownXferStatus 0 = true ∧ rdB (after1 (.ownXferStart go) busy) R.ownXferStatus 3 = true
      ∧ rangeFixed 1020000 3 = true ∧ rdF fixed R.ownXferFirst 0 20 = 1020000 ∧ rdB (after1 (.ownXferStart go) fixed) R.ownXferStatus 2 = true
      ∧ rangeFixed 16 3 = false ∧ flagOf (after1 (.ownXferStart go) s) 18 = 1 ∧ bitAt (3 : W64) 32 = false
      ∧ rdB (after1 .ownXferDone busy) R.ownXferStatus 1 = true
      ∧ bitAt (0 : W64) 0 = false ∧ bitAt (1 : W64) 0 = true ∧ dmaState d 2 = 1 ∧ rdB (after1 (.dmaGo 2 1) d) (R.dmaStatus 2) 2 = true
      ∧ dmaState base 2 ≠ 1 ∧ dmaState (after1 (.dmaGo 2 1) base) 2 = 1) := by decide +kernel
/-- R9, R202, R391: plain registers, ranges that reject, and a core's register. -/
theorem witness_register_writes :
    (∀ o ∈ plainRegs, (Instr.registerWrite (.hub o) .whole 1).wf = true) ∧ rd (after1 (.registerWrite (.hub R.gpioOut) .whole 5) base) R.gpioOut = 5
      ∧ rd (after1 (.registerWrite (.hub R.meshShape) .whole 0x2010) base) R.meshShape = writeBits (hubInfo R.meshShape) (rd base R.meshShape) 0x2010 .whole
      ∧ fld (writeBits (hubInfo R.meshShape) (rd base R.meshShape) 0 .whole) 8 7 = 0
      ∧ fld (writeBits (hubInfo (R.rtrConfig 5)) (rd base (R.rtrConfig 5)) 8 .whole) 0 6 = 8
      ∧ fld (writeBits (hubInfo (R.rtrConfig 5)) (rd base (R.rtrConfig 5)) 2 .whole) 0 6 < 4
      ∧ (Machine.core (cored 3 2) 33).halted = false ∧ island (cored 3 2) 33 < 2 ∧ assigned (cored 3 2) 33 = true
      ∧ cr (after1 (.registerWrite (.core 33 R.routeBase) .whole 0x200) (cored 3 2)) 33 R.routeBase = 0x200 := by decide +kernel

/-- R26, R288: the EP register by whole and half, and a register of a halted core. -/
theorem witness_event_port_register : (let s := setB { wr base R.epConfig 8 with conv := { base.conv with flow := [1] } } R.epStatus 1; let t := after1 (.registerWrite (.hub R.epConfig) .whole 0) s
    let u := after1 (.registerWrite (.hub R.epConfig) .whole 9) s; let h := upCore base 5 fun c => { c with halted := true }
    t.conv.flow = [] ∧ rdB t R.epStatus 1 = false ∧ rd u R.epConfig = writeBits (hubInfo R.epConfig) 8 9 .whole ∧ bitAt (rd u R.epConfig) 3 = true ∧ u.conv.flow = [1]
      ∧ (Machine.core h 5).halted = true ∧ (Machine.core (after1 (.registerWrite (.core 5 R.routeBase) .whole 0x200) h) 5).hostWaits = [.reg R.routeBase .whole 0x200]) := by
  decide +kernel

/-- R325, R326, R347: copies of one block: good, poisoned, and owned by the host. -/
theorem witness_dma : (let s := wr (wr (wr (wr base (R.dmaStatus 2) 1) (R.dmaSrc 2) 0x2000) (R.dmaDst 2) 0x4000) (R.dmaLen 2) 256
    let bad := setTag s 0x2000 (mkTag zeroCrc 0 32 true false false false); let own := setFlag s 0 1; let t := after1 (.dmaDone 2 []) (stB s 0x2001 9)
    let rcv := wr (wr s (R.dmaCtrl 2) 1) (R.dmaStatus 2) (w64 (1 + 2 ^ 32))
    dmaState s 2 = 1 ∧ dmaReceives s 2 = false ∧ dmaBlocks s 2 = 1 ∧ inDdr s 0x2000 1 ∧ inDdr s 0x4000 1 ∧ flagAt s 0x2000 ≠ 1
      ∧ flagAt s 0x4000 % 2 = 0 ∧ dmaChecks s 2 = false ∧ (checkAt s 0x2000 none).1 = .good ∧ dmaState (after1 (.dmaDone 2 []) s) 2 = 2
      ∧ ldB t 0x4001 = 9 ∧ bitAt (tagAt bad 0x2000) 56 = true ∧ bitAt (tagAt (after1 (.dmaDone 2 []) bad) 0x4000) 56 = true
      ∧ rd (after1 (.dmaDone 2 []) bad) R.poisonSet = 1
      ∧ flagAt own 0x2000 = 1 ∧ dmaState (after1 (.dmaDone 2 []) own) 2 = 3
      ∧ dmaReceives rcv 2 = true ∧ dmaBlocks rcv 2 ≤ rdF rcv (R.dmaStatus 2) 32 32 ∧ dmaState (after1 (.dmaDone 2 []) rcv) 2 = 2
      ∧ rdF (wr rcv (R.dmaStatus 2) 1) (R.dmaStatus 2) 32 32 < dmaBlocks rcv 2
      ∧ rd (after1 (.dmaDone 2 [⟨0x2000, false⟩]) s) (R.ddrCe (ddrChannel 0x2000)) = 1) := by
  unfold inDdr; decide +kernel
/-- R206, R207, R245, R253: a copy to core 5: its bind and setup leave, and the core's answers. -/
theorem witness_dma_to_core : (let s := wr (wr (wr base (R.dmaSrc 2) 0x2000) (R.dmaDst 2) (w64 (coreBase 5))) (R.dmaLen 2) 256; let go := after1 (.dmaGo 2 1) s
    let told (code : Nat) (u : State) := { u with mesh := { u.mesh with hubRx := [mkStatus 0x602 5 code 0] } }
    let hear (code : Nat) := after1 (.ctrlResp (.dma 2) (mkStatus 0x602 5 code 0)) (told code go); let busy := after1 (.nackReceived (.dma 2) (mkStatus 0x602 5 0x11 0)) (told 0x11 go)
    dmaState s 2 ≠ 1 ∧ dmaCore s 2 = some 5 ∧ dmaReceives s 2 = false ∧ dmaBlocks s 2 ≠ 0 ∧ dmaState go 2 = 1 ∧ (dmaRunOf go 2).phase = 1
      ∧ gives (.dmaDone 2 []) go go = true ∧ isStatus (mkStatus 0x602 5 0x20 0) = true ∧ fSrc (mkStatus 0x602 5 0x20 0) = 5 ∧ fCode (mkStatus 0x602 5 0x34 0) = 0x34
      ∧ (dmaRunOf (hear 0x20) 2).phase = 3 ∧ dmaState (after1 (.dmaDone 2 []) (hear 0x20)) 2 = 2 ∧ (dmaRunOf busy 2).busy = some 2000
      ∧ dmaState (hear 0x31) 2 = 3 ∧ rdF (hear 0x34) (R.dmaStatus 2) 4 4 = 4 ∧ rdF (hear 0x21) (R.dmaStatus 2) 4 4 = 5) := by
  decide +kernel

/-- R315, R343, R348: accesses through window slot 0, which maps device address 0, and slot 1, which maps core 33. -/
theorem witness_window : (let s := wr (wr base (R.winSlot 0) (w64 (2 ^ 48))) (R.winSlot 1) (w64 (0x200210 * 2 ^ 16 + 2 ^ 48))
    let own := setFlag s 0 2; let bad := setTag s 0x2000 (mkTag zeroCrc 0 32 true false false false)
    windowed s 0x2004 0x2004 2 ∧ inDdr s (0x2004 / 256 * 256) 1 ∧ flagAt s 0x2004 < 2
      ∧ ldN (after1 (.hostWindowWrite 0x2004 [7, 8] true) s) 0x2004 3 = [7, 8, 0]
      ∧ 2 ≤ flagAt own 0x2004 ∧ rdB (after1 (.hostWindowWrite 0x2004 [7, 8] false) own) R.ownAlarm 0 = true
      ∧ rd (after1 (.hostWindowWrite 0x20F8 (List.replicate 16 7) false) own) R.ownViolation = 1
      ∧ windowed s 0x10000004 (coreBase 33 + 4) 2 ∧ 4 + 2 ≤ 0x78000 ∧ assigned s 33 = false ∧ island s 33 < 2
      ∧ ldB (after1 (.hostWindowWrite 0x10000004 [7, 8] false) s) (coreBase 33 + 5) = 8
      ∧ slotMaps (slotOf s 0x20000000) = false ∧ (after1 (.hostWindowRead 0x20000000 2 []) s).outs.read = [0xFF, 0xFF]
      ∧ (checkAt s 0x2004 none).1 = .good ∧ (after1 (.hostWindowRead 0x2004 2 []) s).outs.read = [0, 0]
      ∧ bitAt (tagAt bad 0x2004) 56 = true ∧ (after1 (.hostWindowRead 0x2004 2 []) bad).outs.readEp = true
      ∧ flagAt own 0x2004 = 2 ∧ (after1 (.hostWindowRead 0x2004 2 []) own).outs.read = [0xFF, 0xFF]) := by
  simp only [windowed, inDdr]; decide +kernel
/-- R26, R29, R30: writes that race with port A, and accesses to a halted core. Slot 2 maps the hub's dual-port banks. -/
theorem witness_window_races : (let s := wr (wr base (R.winSlot 1) (w64 (0x200210 * 2 ^ 16 + 2 ^ 48))) (R.winSlot 2) (w64 (0x100100 * 2 ^ 16 + 2 ^ 48)); let eight : List Byte := List.replicate 8 7
    let p := cw (upCore s 33 fun c => { c with plasUnits := [(0x38000, 16)] }) 33 R.plasStatus 1; let h := upCore s 33 fun c => { c with halted := true }
    let d := { s with mbox := { s.mbox with portA := [ringEntry 1 true 0] } }; let o := BitVec.ofNat 32 (0x20000000 + (ringEntry 1 true 0 - 0x1001000000)); let v := after1 (.hostWindowWrite 0x10038000 eight true) p; let w := after1 (.hostWindowWrite o eight true) d
    windowed s 0x10038000 (coreBase 33 + 0x38000) 8 ∧ plasWrites p 33 0x38000 = true ∧ plasWrites p 33 0x38010 = false ∧ (Machine.core p 33).halted = false ∧ assigned p 33 = false
      ∧ cr v 33 R.plasWriteLost = 1 ∧ ldB v (coreBase 33 + 0x38000) = 0
      ∧ (Machine.core (after1 (.hostWindowWrite 0x10038000 eight true) h) 33).hostWaits = [.write 0x38000 eight true true]
      ∧ (Machine.core (after1 (.hostWindowRead 0x10038000 8 []) h) 33).hostWaits = [.read 0x10038000 8]
      ∧ regionOf d (ringEntry 1 true 0) = .hubDual ∧ flagAt d (ringEntry 1 true 0) < 2 ∧ windowed d o.toNat (ringEntry 1 true 0) 8 ∧ portAWrites d (ringEntry 1 true 0) = true
      ∧ rd w R.hubWriteLost = 1 ∧ ldB w (ringEntry 1 true 0) = 0
      ∧ (let e := ringEntry 1 true 0; let b := after1 (.hostWindowRead o 8 [⟨e, true⟩]) d
        e % 8 = 0 ∧ e < 0x001001F80000 ∧ b.outs.readEp = true ∧ rd b R.hostPoisonRead = 0 ∧ rdB b R.memAlarm 2 = true
          ∧ (after1 (.hostWindowRead o 8 [⟨e, false⟩]) d).outs.readEp = false)) := by
  simp only [windowed]; decide +kernel
/-- R314: errors that a read through the window meets. -/
theorem witness_window_errors : (let s := wr base (R.winSlot 0) (w64 (2 ^ 48)); let u (bad : Bool) := meetErrs s [⟨0x2004, bad⟩] 0x2004 2
    bitAt (tagAt (u true) 0x2004) 56 = true ∧ rd (u true) (R.ddrUe (ddrChannel 0x2004)) = 1 ∧ rdF (u true) R.errLogInfo 0 8 = 0
      ∧ (u false).tags = s.tags ∧ rd (u false) (R.ddrCe (ddrChannel 0x2004)) = 1
      ∧ (after1 (.hostWindowRead 0x2004 2 [⟨0x2004, true⟩]) s).outs.readEp = true ∧ (after1 (.hostWindowRead 0x2004 2 [⟨0x2004, false⟩]) s).outs.read = [0, 0]) := by
  decide +kernel
/-- R323, R324: verified writes of zeros under a good tag, and under a poisoned one. -/
theorem witness_verified : (let s := wr base (R.winSlot 0) (w64 (2 ^ 48 + 2 ^ 49)); let z : List Byte := List.replicate 256 0
    let bad := setTag s 0x2000 (mkTag zeroCrc 0 32 true false false false)
    slotVerified (slotOf s 0x2000) = true ∧ slotAddress (slotOf s 0x2000) 0x2000 = 0x2000 ∧ inDdr s 0x2000 1 ∧ 0x2000 + 256 ≤ tagArea
      ∧ flagAt s 0x2000 < 2 ∧ bitAt (tagAt s 0x2000) 56 = false ∧ crc32c z = fld (tagAt s 0x2000) 0 32 ∧ fld (tagAt s 0x2000) 40 16 = 32
      ∧ bitAt (tagAt (after1 (.verifiedWrite 0x2000 z) s) 0x2000) 58 = true
      ∧ bitAt (tagAt bad 0x2000) 56 = true ∧ rd (after1 (.verifiedWrite 0x2000 z) bad) R.verifyFail = 1) := by
  unfold inDdr; decide +kernel
/-- R339, R378, R379: the port at 0x5A in either mode, at a dynamic address, and by a completion that waits. -/
theorem witness_management : (let s := setB base (R.mbStatus 7) 0; let x := MgmtXfer.i3c 0x5A; let t := after1 (.mgmtPortWrite x 0x1000 [9]) s
    let at_ (p : Nat) := { s with mbox := { s.mbox with mgmtPtr := p } }; let moved := after1 (.mgmtPortWrite (.setdasa 0x5A 0x21) 0 []) s; let due := setB s (R.mbStatus 7) 2
    mgmtAnswers s x = true ∧ ldB t (ringBase 7 false) = 9 ∧ leNat (leBytes 8 1) % 65536 = 1 ∧ rdB s (R.mbStatus 7) 0 = true ∧ idxSub 1 (cmdCi s 7) ≤ 256
      ∧ idxSub (cmdPi s 7) (cmdCi s 7) ≤ idxSub 1 (cmdCi s 7) ∧ rd (after1 (.mgmtPortWrite x 0 (leBytes 8 1)) s) (R.mbCmdPi 7) = 1
      ∧ (after1 (.mgmtPortRead x 2) { t with mbox := { t.mbox with mgmtPtr := 0x1000 } }).mbox.mgmtRead = [9, 0]
      ∧ (after1 (.mgmtPortRead x 2) (at_ 0x5000)).mbox.mgmtPtr = 0x5002 ∧ (after1 (.mgmtPortRead x 8) (at_ 0x20)).mbox.mgmtPtr = 0x28
      ∧ mgmtAnswers s (.smbus 0x21) = false ∧ gives (.mgmtPortWrite (.smbus 0x21) 0x1000 [9]) s s = true
      ∧ mgmtAnswers moved (.i3c 0x21) = true ∧ mgmtAnswers moved x = false
      ∧ inBand (after1 (.mgmtPortWrite x 0x1000 [9]) due) = some 0x07 ∧ alertLow (after1 (.mgmtPortWrite (.smbus 0x5A) 0x1000 [9]) due) = true
      ∧ (after1 (.hostMemoryCompletion 0x100 (List.replicate 256 3) false) base).hostRd.map (·.poisoned) = [true]) := by decide +kernel

/-! ### Power, memories and resets -/

/-- R426, R432: one epoch; readings below and above every threshold of either grade. -/
theorem witness_power : (let temps (x : Int) := x :: List.replicate 63 0
    live base = true ∧ (temps 100).length = 64 ∧ hottest (temps 100) 0 = (100, 0) ∧ hottest (temps 3000) 0 = (3000, 0)
      ∧ rdB (after1 (.vregFault 2) base) R.pwrAlarm 6 = true) := by decide +kernel
theorem witness_thresholds : (tMax + 10) * 16 ≤ 3000 ∧ ¬ (tMax + 10) * 16 ≤ 100
    ∧ (tMax - (rdF base R.thermWarnOffset 0 4 : Nat)) * 16 ≤ 1640 ∧ tMax * 16 ≤ 1680 ∧ (1680 : Int) < (tMax + 10) * 16
    ∧ (100 : Int) ≤ (tMax - (rdF base R.thermWarnOffset 0 4 : Nat)) * 16 - 32 := by
  unfold tMax; split <;> decide +kernel
/-- R428, R429: islands fall asleep and wake. -/
theorem witness_islands : (let s := withJob 3 6 0 0x101010101 base; let v := after1 (.islandNap 7) s; let x := after1 (.islandNap 33) s
    island s 7 < 2 ∧ inJob s 7 = false ∧ island v 7 = 3 ∧ island s 33 < 2 ∧ inJob s 33 = true ∧ island x 33 = 2) := by decide +kernel
theorem witness_idle_jobs (j : Nat) (h : j < 64) : jobState (withJob 3 6 0 0x101010101 base) j ≠ 3
    ∧ jobState (withJob 3 6 0 0x101010101 base) j ≠ 5 ∧ jobState (withJob 3 6 0 0x101010101 base) j ≠ 8 :=
  (by decide +kernel : ∀ k : Fin 64, jobState (withJob 3 6 0 0x101010101 base) k.val ≠ 3
    ∧ jobState (withJob 3 6 0 0x101010101 base) k.val ≠ 5 ∧ jobState (withJob 3 6 0 0x101010101 base) k.val ≠ 8) ⟨j, h⟩

/-- R330, R331, R433: patrol in its cases, and the scrub of a core's memory. -/
theorem witness_scrub : (let last := wr base R.patrolStatus (w64 (0x10000000 - 256)); let v := after1 (.patrolScrubRead .uncorrectable false) base
    let late := { base with time := 10 ^ 16 * 2 ^ 32 }; let done := { base with power := { base.power with patrolDone := true } }
    base.power.patrolDone = false ∧ rdF base R.patrolStatus 0 48 = 0 ∧ inDdr base 0 1 ∧ 0 + 256 < (rd base R.ddrDataEnd).toNat
      ∧ rdF (after1 (.patrolScrubRead .corrected false) base) R.patrolStatus 0 48 = 256 ∧ bitAt (tagAt v 0) 56 = true
      ∧ (rd last R.ddrDataEnd).toNat = rdF last R.patrolStatus 0 48 + 256 ∧ (after1 (.patrolScrubRead .clean false) last).power.patrolDone = true
      ∧ done.power.patrolDone = true ∧ nowNs done < done.power.patrolFrom + patrolPeriod done
      ∧ late.power.patrolFrom + patrolPeriod late ≤ nowNs late ∧ rdB (after1 .patrolLate late) R.memAlarm 4 = true
      ∧ (Machine.core base 5).halted = false ∧ (Machine.core base 5).testing = false ∧ island base 5 < 2 ∧ assigned base 5 = false
      ∧ rd (after1 (.sramScrubRead (coreBase 5 + 64) .corrected false) base) (R.sramCe (dieOf 5)) = 1
      ∧ rd (after1 (.sramScrubRead (coreBase 5 + 64) .uncorrectable false) base) (R.sramUe (dieOf 5)) = 1) := by
  unfold inDdr; decide +kernel

/-- R421 to R425: into P-STANDBY, and out of it by the management port's doorbell. -/
theorem witness_standby_entry : (let s := { base with chip := { base.chip with standbyAsked := true } }
    live s = true ∧ s.chip.standbyAsked = true ∧ base.chip.standbyAsked = false) := by decide +kernel
theorem witness_standby : (let u := { wr base R.wakeConfig 0xFF with chip := { base.chip with phase := .standby } }
    u.chip.phase = .standby ∧ u.chip.refclk = true ∧ wakeMask u 1 0 (nowNs u + 1000 * 5) = 1 ∧ wakeMask u 0 0 (nowNs u) = 0
      ∧ (after1 (.standbyWake 0 0 0) u).chip.phase = .standby) := by decide +kernel

/-- R436 to R438, R454 to R458: the resets. -/
theorem witness_resets : (let off := { base with chip := { base.chip with phase := .off } }; let tap := { base with chip := { base.chip with tapIr := .extest } }
    let w := after1 .warmReset { base with time := 9 * 2 ^ 32 }; let h := after1 (.hotReset true) base
    base.chip.phase ≠ .off ∧ base.chip.phase ≠ .coldHeld ∧ (after1 (.coldReset (.supply 4)) base).chip.phase = .coldHeld
      ∧ rdF (after1 (.coldReset (.supply 4)) base) R.resetCause 4 4 = 4 ∧ rdF (after1 (.coldReset .thermal) base) R.resetCause 8 8 = 1
      ∧ tapDrives tap = true ∧ rdF (after1 (.coldReset .jtag) tap) R.resetCause 8 8 = 4
      ∧ off.chip.phase = .off ∧ rd (after1 (.coldReset .powerOn) off) R.resetCause = 0x2F0
      ∧ base.chip.perst = false ∧ base.chip.refclk = true ∧ w.chip.phase = .warmHeld ∧ nowNs w = 9 ∧ w.chip.perst = true
      ∧ base.mbox.runs = [] ∧ rdF h R.resetCause 0 4 = 3 ∧ rdB h (R.mbStatus 3) 0 = true
      ∧ tapDrives base = false ∧ (after1 (.jtagInstruction .idcode) base).chip.tapDr = 0x24C10173
      ∧ tap.chip.tapIr ≠ .bypass ∧ (after1 (.jtagInstruction .bypass) tap).chip.phase = .coldHeld ∧ (after1 .vddAonLoss base).chip.phase = .off) := by
  decide +kernel

/-! ### Boot -/

/-- The slots hold no firmware with the name of Table 16-21: the release of a reset ends in recovery (R436, R445). -/
theorem witness_recovery : (let bare := { State.reset with flash := (List.range 4).map (fun k => (fwBase 0 + k, some 0)) ++ (List.range 4).map fun k => (fwBase 1 + k, some 0) }
    bare.chip.refclk = true ∧ bare.chip.phase = .coldHeld ∧ bare.power.hot = false ∧ verifySlot bare 0 ≠ .good ∧ verifySlot bare 1 ≠ .good) := by
  decide +kernel
/-- Flash whose slot 0 holds a header with the name, body length 0, `SVN` 0 and a key of 32 bytes of 7. -/
def signedSlot : State :=
  { State.reset with flash := (List.range 4).map (fun k => (fwBase 0 + k, some ([0x50, 0x46, 0x52, 0x4D].getD k 0)))
      ++ (List.range 8).map (fun k => (fwBase 0 + 8 + k, some 0)) ++ (List.range 32).map fun k => (fwBase 0 + 64 + k, some 7) }
/-- Where that key has the vendor's hash and its signatures are valid, the slot verifies. Hash and signatures are free. -/
theorem witness_boot (hk : sha256 (List.replicate 32 7) = Config.vendorKeyHash)
    (hs : ∀ a b, Config.signatureValid (List.replicate 32 7) a b = true) : verifySlot signedSlot 0 = .good := by
  have h : flashN signedSlot (fwBase 0 + 64) 32 = List.replicate 32 7 := by decide +kernel
  have h1 : flashU signedSlot (fwBase 0) 4 = 0x4D524650 := by decide +kernel
  have h2 : fwBody signedSlot 0 = 0 := by decide +kernel
  have h3 : fwSvn signedSlot 0 = 0 := by decide +kernel
  have h4 : rollback signedSlot = 0 := by decide +kernel
  simp only [verifySlot, h, hk, hs, h1, h2, h3, h4]
  simp [fwSize]
theorem witness_fuse_blow : (let s := { base with boot := { base.boot with fuses := 5, svn := 3 } }; let t := after1 .rollbackFuseBlow s
    rollback s = 2 ∧ s.boot.svn ≤ 64 ∧ t.boot.fuses = 7 ∧ rollback t = 3 ∧ base.boot.svn ≤ rollback base) := by decide +kernel
theorem witness_no_rollback : notRolledBack base ∧ (match step { base with pending := [.nop (.ring 0)] } with | .next t => decide (t.pending = []) | _ => false) = true
    ∧ notRolledBack { base with boot := { base.boot with fuses := 1, svn := 1 } } := by
  unfold notRolledBack; decide +kernel

/-! ### Neuron programs -/

/-- R118, R121: MUL of 3 by R1 = 5 under each predicate, on a lane whose F is set. -/
theorem witness_neurons : (let l : Lane := { nid := 0, r := [3, 5] ++ List.replicate 12 0, f := true }; let g : GroupCtx := ⟨[], 0, 0, 0, 0⟩
    let w (p : Nat) := 0x0D * 2 ^ 26 + p * 2 ^ 24 + 2 * 2 ^ 19 + 0 * 2 ^ 14 + 1 * 2 ^ 9
    (laneInstr g 0 l 0 (w 0)).r.getD 2 0 = 15 ∧ (laneInstr g 0 l 0 (w 1)).r.getD 2 0 = 15 ∧ laneInstr g 0 l 0 (w 2) = l
      ∧ w 2 / 2 ^ 24 % 4 = 2 ∧ w 0 / 2 ^ 26 % 64 = 0x0D) := by decide +kernel

end Sys2Proof.Tests
end

section
/-! SUPPORT. Bit fields of a word, and what the access code of a register keeps of a written value. -/
namespace Sys2Proof.Machine

theorem fld_testBit (w : W64) (lo n k : Nat) : (fld w lo n).testBit k = (decide (k < n) && bitAt w (lo + k)) := by
  rw [fld, Nat.testBit_mod_two_pow, Nat.testBit_shiftRight, BitVec.testBit_toNat, bitAt]

/-- Two fields are equal when their bits are. -/
theorem fld_congr {w v : W64} {lo n lo' : Nat} (h : ∀ k < n, bitAt w (lo + k) = bitAt v (lo' + k)) :
    fld w lo n = fld v lo' n := by
  refine Nat.eq_of_testBit_eq fun k => ?_
  rw [fld_testBit, fld_testBit]
  by_cases hk : k < n
  · rw [h k hk]
  · simp [hk]

theorem bitAt_putFld (w : W64) (lo n v k : Nat) : bitAt (putFld w lo n v) k =
    if lo ≤ k ∧ k < lo + n ∧ k < 64 then v.testBit (k - lo) else bitAt w k := by
  have hm : ((2 ^ n - 1) * 2 ^ lo).testBit k = decide (lo ≤ k ∧ k < lo + n) := by
    rw [Nat.mul_comm, Nat.testBit_two_pow_mul, Nat.testBit_two_pow_sub_one, ← Bool.decide_and]
    exact decide_eq_decide.2 (by omega)
  have hv : ((v % 2 ^ n) * 2 ^ lo).testBit k = (decide (lo ≤ k ∧ k < lo + n) && v.testBit (k - lo)) := by
    rw [Nat.mul_comm, Nat.testBit_two_pow_mul, Nat.testBit_mod_two_pow, ← Bool.and_assoc, ← Bool.decide_and]
    congr 1
    exact decide_eq_decide.2 (by omega)
  by_cases h64 : k < 64
  · simp only [bitAt, putFld, BitVec.getLsbD_or, BitVec.getLsbD_and, BitVec.getLsbD_not, BitVec.getLsbD_ofNat, hm, hv, h64]
    by_cases h : lo ≤ k ∧ k < lo + n <;> simp [h]
  · simp [bitAt, BitVec.getLsbD_of_ge _ k (Nat.le_of_not_lt h64), h64]

/-- A field reads what was put into it. -/
theorem fld_putFld_self (w : W64) {lo n : Nat} (v : Nat) (h : lo + n ≤ 64) : fld (putFld w lo n v) lo n = v % 2 ^ n := by
  refine Nat.eq_of_testBit_eq fun k => ?_
  rw [fld_testBit, bitAt_putFld, Nat.testBit_mod_two_pow]
  by_cases hk : k < n
  · rw [if_pos (by omega), Nat.add_sub_cancel_left]
  · simp [hk]

/-- A field reads on as before when another field is put. -/
theorem fld_putFld_apart (w : W64) {lo n lo' n' : Nat} (v : Nat) (h : lo' + n' ≤ lo ∨ lo + n ≤ lo') :
    fld (putFld w lo n v) lo' n' = fld w lo' n' :=
  fld_congr fun k hk => by rw [bitAt_putFld, if_neg (by omega)]

theorem fld_w64 (n k : Nat) (h : k ≤ 64) : fld (w64 n) 0 k = n % 2 ^ k := by
  rw [fld, w64, Nat.shiftRight_zero, BitVec.toNat_ofNat, Nat.mod_mod_of_dvd _ (Nat.pow_dvd_pow 2 h)]

@[simp] theorem and_widthMask_whole (v : W64) : v &&& widthMask .whole = v := by
  have h : widthMask .whole = BitVec.allOnes 64 := by decide
  rw [h, BitVec.and_allOnes]

/-- A whole write to a register without W1C bits puts the written value where the register has RW bits. -/
theorem bitAt_writeBits {i : RegInfo} (hi : i.w1c = 0) (old v : W64) (k : Nat) :
    bitAt (writeBits i old v .whole) k = if bitAt i.rw k then bitAt v k else bitAt old k := by
  have hm : i.rw &&& widthMask .whole = i.rw := and_widthMask_whole _
  have hz (a b : W64) : (0 : W64) &&& a &&& b = 0 := by simp
  simp only [writeBits, hm, hi, hz, bitAt, BitVec.getLsbD_or, BitVec.getLsbD_and, BitVec.getLsbD_not]
  by_cases hk : k < 64
  · by_cases hr : i.rw.getLsbD k = true <;> simp [hk, hr, -BitVec.getLsbD_eq_getElem]
  · simp [BitVec.getLsbD_of_ge _ k (Nat.le_of_not_lt hk)]

/-- A field of RW bits takes the written value. -/
theorem fld_writeBits {i : RegInfo} (hi : i.w1c = 0) (old v : W64) {lo n : Nat} (h : ∀ k < n, bitAt i.rw (lo + k) = true) :
    fld (writeBits i old v .whole) lo n = fld v lo n :=
  fld_congr fun k hk => by rw [bitAt_writeBits hi, if_pos (h k hk)]

end Sys2Proof.Machine
end

section
/-! SUPPORT. A register write by the host: the effect of `hubStore` at each register, and what the journal and the
messages add to it (R9, R391). -/
namespace Sys2Proof.Machine

/-! ### The rows -/

section
variable (s : State) (v : W64)
theorem exec_doorbell (m : Fin 8) : exec (.doorbell m v) s = execDoorbell m v s := rfl
theorem exec_mbCplCiWrite (m : Fin 8) : exec (.mbCplCiWrite m v) s = execMbCplCiWrite m v s := rfl
theorem exec_registerWrite (a : RegAddr) (acc : Width) :
    exec (.registerWrite a acc v) s = execRegisterWrite a acc v s := rfl
theorem exec_ownXferStart : exec (.ownXferStart v) s = execOwnXferStart v s := rfl
theorem exec_ownXferDone : exec .ownXferDone s = execOwnXferDone s := rfl
theorem exec_padRelease : exec (.padRelease v) s = execPadRelease v s := rfl
theorem exec_dmaGo (e : DmaId) : exec (.dmaGo e v) s = execDmaGo e v s := rfl
end

/-! ### What a write leaves behind -/

/-- A host write whose effect is `u` leaves `t`: `u` itself, the interrupt messages, and one journal entry if `yes`. -/
structure WriteLeaves (u t : State) (yes : Bool) : Prop where
  rd : ∀ o, o ≠ R.msixPba → rd t o = rd u o
  coreRegs : t.coreRegs = u.coreRegs
  cores : t.cores = u.cores
  mesh : t.mesh = u.mesh
  conv : t.conv = u.conv
  held : t.mbox.held = u.mbox.held
  seq : t.mbox.journalSeq = if yes then (u.mbox.journalSeq + 1) % 2 ^ 32 else u.mbox.journalSeq
  mem : yes = false → t.mem = u.mem
  ldB : ∀ x, (x < journalBase + u.mbox.journalSeq % 4096 * 32 ∨ journalBase + u.mbox.journalSeq % 4096 * 32 + 32 ≤ x) →
    ldB t x = ldB u x

/-- A command without a journal entry leaves its effect. -/
theorem writeLeaves_self (s u : State) : WriteLeaves u (settle s (keepAll s u)) false where
  rd _ h := by rw [rd_settle _ _ h, rd_keepAll]
  coreRegs := by simp
  cores := by simp
  mesh := by simp
  conv := by simp
  held := by simp
  seq := by simp
  mem _ := by simp
  ldB _ _ := by simp

theorem journal_held (s : State) (op so m st tg : Nat) (ch : Change) :
    (journal s op so m st tg ch).mbox.held = s.mbox.held := by simp [journal]

theorem journal_seq (s : State) (op so m st tg : Nat) (ch : Change) :
    (journal s op so m st tg ch).mbox.journalSeq = (s.mbox.journalSeq + 1) % 2 ^ 32 := by simp [journal]

/-- A journal entry on top of an effect. -/
theorem writeLeaves_journal {u t : State} {op so m st tg : Nat} {ch : Change}
    (h : WriteLeaves (journal u op so m st tg ch) t false) :
    WriteLeaves u t true where
  rd o ho := by rw [h.rd o ho, rd_of_regs (journal_regs ..)]
  coreRegs := by rw [h.coreRegs, journal_coreRegs]
  cores := by rw [h.cores, journal_cores]
  mesh := by rw [h.mesh, journal_mesh]
  conv := by rw [h.conv, journal_conv]
  held := by rw [h.held, journal_held]
  seq := by rw [h.seq, if_neg Bool.false_ne_true, journal_seq, if_pos rfl]
  mem hn := nomatch hn
  ldB x hx := by rw [ldB_of_mem (h.mem rfl), ldB_journal _ _ _ _ _ _ _ _ hx]

section
variable {s u t : State} {yes : Bool} (h : WriteLeaves u t yes)
include h

theorem WriteLeaves.hubRegsKept {regs : List Nat} (hu : ∀ o, o ∉ regs → Machine.rd u o = Machine.rd s o) :
    hubRegsKept s t regs := fun o ho hp => by rw [h.rd o hp, hu o ho]

theorem WriteLeaves.noted (hq : u.mbox.journalSeq = s.mbox.journalSeq) : noted s t yes := by
  rw [Machine.noted, h.seq, hq]

theorem WriteLeaves.bytesKept {a n : Nat} (hq : u.mbox.journalSeq = s.mbox.journalSeq)
    (hu : ∀ x, x < a ∨ a + n ≤ x → Machine.ldB u x = Machine.ldB s x) : bytesKept s t a n := fun x hx hj => by
  rw [h.ldB x (by rwa [hq]), hu x hx]

theorem WriteLeaves.rdB {o : Nat} (i : Nat) (ho : o ≠ R.msixPba) : rdB t o i = rdB u o i := by
  rw [Machine.rdB, h.rd o ho]; rfl

theorem WriteLeaves.rdF {o : Nat} (lo n : Nat) (ho : o ≠ R.msixPba) : rdF t o lo n = rdF u o lo n := by
  rw [Machine.rdF, h.rd o ho]; rfl

end

/-- A journalled host write of a hub register leaves the effect of `hubStore` and its entry (R391). -/
theorem writeLeaves_hubRegWrite (s : State) (o : Nat) {acc : Width} (v : W64) (mgmt : Bool) (ha : acc ≠ .other) :
    WriteLeaves (hubStore s o acc v) (settle s (keepAll s (hubRegWrite s o acc v mgmt)))
      (journalled s (hubStore s o acc v) o (v &&& widthMask acc)) := by
  unfold hubRegWrite
  dsimp only
  cases hj : journalled s (hubStore s o acc v) o (v &&& widthMask acc)
  · rw [if_neg (by simp)]
    exact writeLeaves_self ..
  · rw [if_pos ⟨ha, rfl⟩]
    exact writeLeaves_journal (writeLeaves_self ..)

/-- A host write of a hub register by the row of any register. -/
theorem registerWrite_leaves {s : State} (hl : live s = true) {o : Nat} {acc : Width} (v : W64) (ha : acc ≠ .other)
    (ho : o % 8 = 0 ∧ o < 0x1000000) : ∃ t, exec (.registerWrite (.hub o) acc v) s = .next t ∧
      WriteLeaves (hubStore s o acc v) t (journalled s (hubStore s o acc v) o (v &&& widthMask acc)) := by
  refine ⟨_, (exec_registerWrite ..).trans (act_live _ hl), ?_⟩
  dsimp only
  rw [if_pos ho]
  exact writeLeaves_hubRegWrite s o v false ha

/-- A host write that changes nothing and is not journalled leaves the state as it was. -/
theorem hubRegWrite_self {s : State} {o : Nat} {acc : Width} {v : W64} (mgmt : Bool) (hs : hubStore s o acc v = s)
    (hj : journalled s s o (v &&& widthMask acc) = false) : hubRegWrite s o acc v mgmt = s := by
  unfold hubRegWrite
  simp [hs, hj]

theorem keepAll_self (s : State) : keepAll s s = s := keepAll_mailOnly (MailOnly.refl s)

theorem act_self {s : State} (hl : live s = true) {eff : State → State} (he : eff s = s) : act s eff = .next s := by
  rw [act_live _ hl, he, keepAll_self, settle_self]

/-! ### The journal's condition (R391) -/

/-- Offset of a `DMA_GO` register (Table 12-9). -/
def isDmaGo (o : Nat) : Prop := 0x81000 ≤ o ∧ o < 0x81400 ∧ o % 0x80 = 0x20

theorem woTaken_none {o : Nat} (s : State) (v : W64) (hp : o ≠ R.padRelease) (hx : o ≠ R.ownXferCtrl) (hd : ¬ isDmaGo o) :
    woTaken s o v = false := by
  unfold isDmaGo at hd
  simp only [woTaken, hp, hx, decide_false, Bool.false_and, Bool.false_or]
  rw [Bool.eq_false_iff]
  simp only [ne_eq, Bool.and_eq_true, decide_eq_true_eq]
  rintro ⟨⟨⟨⟨h1, h2⟩, h3⟩, _⟩, _⟩
  exact hd ⟨h1, h2, h3⟩

/-- A write of a mailbox's index registers is not journalled. -/
theorem journalled_mailbox (s t : State) {o : Nat} (v : W64) (h : inMailbox o) : journalled s t o v = false := by
  obtain ⟨h1, h2⟩ := h
  simp [journalled, h1, h2]

/-- Where the register reads as before, only a write-only bit makes an entry. -/
theorem journalled_same {s t : State} {o : Nat} (v : W64) (h : rd t o = rd s o) (hb : o < 0x100000) (hm : ¬ inMailbox o) :
    journalled s t o v = woTaken s o v := by
  unfold inMailbox at hm
  simp [journalled, h, hb]
  omega

theorem journalled_above (s t : State) {o : Nat} (v : W64) (h : 0x100000 ≤ o) : journalled s t o v = false := by
  simp [journalled, Nat.not_lt.2 h]

/-- A write-only bit that takes effect makes an entry. -/
theorem journalled_woTaken {s t : State} {o : Nat} {v : W64} (h : woTaken s o v = true) (hb : o < 0x100000)
    (hm : ¬ inMailbox o) : journalled s t o v = true := by
  unfold inMailbox at hm
  simp [journalled, h, hb]
  omega

/-! ### `hubStore` at each register -/

section
variable (s : State) (v : W64)

theorem hubStore_mbCmdPi (m : Fin 8) : hubStore s (R.mbCmdPi m.val) .whole v = doorbell s m.val (fld v 0 16) := by
  have hm := m.isLt
  have ho : R.mbCmdPi m.val = 0x1000 + 0x100 * m.val := rfl
  unfold hubStore
  rw [if_neg (by decide), if_pos (by omega), if_neg (by decide), and_widthMask_whole,
    show (R.mbCmdPi m.val - 0x1000) / 0x100 = m.val by omega]

theorem hubStore_mbCplCi (m : Fin 8) : hubStore s (R.mbCplCi m.val) .whole v = freeCompletions s m.val (fld v 0 16) := by
  have hm := m.isLt
  have ho : R.mbCplCi m.val = 0x1018 + 0x100 * m.val := rfl
  unfold hubStore
  rw [if_neg (by decide), if_neg (by omega), if_pos (by omega), if_neg (by decide), and_widthMask_whole,
    show (R.mbCplCi m.val - 0x1000) / 0x100 = m.val by omega]

theorem hubStore_ownXferCtrl : hubStore s R.ownXferCtrl .whole v =
    ownXferWrite s (writeBits (hubInfo R.ownXferCtrl) (rd s R.ownXferCtrl) v .whole) v := by
  unfold hubStore
  rw [if_neg (by decide), if_neg (by decide), if_neg (by decide), if_pos rfl, and_widthMask_whole]

theorem hubStore_padRelease : hubStore s R.padRelease .whole v = padRelease s v := by
  unfold hubStore
  iterate 10 rw [if_neg (by decide)]
  rw [if_pos rfl, and_widthMask_whole]

theorem hubStore_dmaGo (e : DmaId) :
    hubStore s (R.dmaGo e.val) .whole v = if bitAt v 0 then dmaStart s e.val else s := by
  have he := e.isLt
  have ho : R.dmaGo e.val = 0x81020 + 0x80 * e.val := rfl
  have hr : ∀ r, r < 0x81000 → R.dmaGo e.val ≠ r := by omega
  unfold hubStore
  rw [if_neg (by decide), if_neg (by omega), if_neg (by omega), if_neg (hr _ (by decide)),
    if_neg (by unfold R.toutStart R.toutWidth; omega)]
  iterate 6 rw [if_neg (hr _ (by decide))]
  rw [if_neg (by omega), if_neg (by omega), if_pos (by omega), and_widthMask_whole,
    show (R.dmaGo e.val - 0x81000) / 0x80 = e.val by omega]

theorem hubStore_epConfig {acc : Width} (ha : acc ≠ .other) : hubStore s R.epConfig acc v =
    epWrite s (writeBits (hubInfo R.epConfig) (rd s R.epConfig) (v &&& widthMask acc) acc) := by
  unfold hubStore
  rw [if_neg ha]
  iterate 4 rw [if_neg (by decide)]
  rw [if_pos rfl]

theorem hubStore_meshShape {w : W64} (hw : w = writeBits (hubInfo R.meshShape) (rd s R.meshShape) v .whole) :
    hubStore s R.meshShape .whole v =
      if 1 ≤ fld w 8 7 ∧ fld w 8 7 ≤ 64 ∧ fld w 0 8 ≤ 64 then wr s R.meshShape w else s := by
  unfold hubStore
  iterate 8 rw [if_neg (by decide)]
  rw [if_pos rfl, and_widthMask_whole, ← hw]

theorem hubStore_rtrConfig (n : CoreId) {w : W64}
    (hw : w = writeBits (hubInfo (R.rtrConfig n.val)) (rd s (R.rtrConfig n.val)) v .whole) :
    hubStore s (R.rtrConfig n.val) .whole v = if 4 ≤ fld w 0 6 ∧ fld w 0 6 ≤ 32 then wr s (R.rtrConfig n.val) w else s := by
  have hn := n.isLt
  have ho : R.rtrConfig n.val = 0x100000 + 0x200 * n.val := rfl
  have hr : ∀ r, r < 0x100000 → R.rtrConfig n.val ≠ r := by omega
  unfold hubStore
  rw [if_neg (by decide), if_neg (by omega), if_neg (by omega), if_neg (hr _ (by decide)),
    if_neg (by unfold R.toutStart R.toutWidth; omega)]
  iterate 6 rw [if_neg (hr _ (by decide))]
  rw [if_neg (by omega), if_neg (by omega), if_neg (by omega), if_neg (by omega), if_pos (by omega), and_widthMask_whole,
    ← hw]

end

/-- No write of hub register `o` has an effect of its own. -/
def storesOnly (o : Nat) : Prop :=
  ¬ inMailbox o ∧ ¬ (R.toutStart ≤ o ∧ o ≤ R.toutWidth) ∧ ¬ (0x10000 ≤ o ∧ o < 0x10400) ∧ ¬ (0x54000 ≤ o ∧ o < 0x58000)
    ∧ ¬ (0x81000 ≤ o ∧ o < 0x81400) ∧ ¬ (0x5400 ≤ o ∧ o < 0x5E00) ∧ ¬ (0x100000 ≤ o ∧ o < 0x180000)
    ∧ ∀ r ∈ [R.ownXferCtrl, R.epConfig, R.toutConfig, R.pwrLimit, R.meshShape, R.pwrL0Freq, R.padRelease, R.hubDrain], o ≠ r

theorem plainRegs_storesOnly : ∀ o ∈ plainRegs, storesOnly o := by
  unfold storesOnly inMailbox plainRegs
  decide

/-- Such a register takes the bits of its access code. -/
theorem hubStore_storesOnly (s : State) {o : Nat} {acc : Width} (v : W64) (ho : storesOnly o) (ha : acc ≠ .other) :
    hubStore s o acc v = wr s o (writeBits (hubInfo o) (rd s o) (v &&& widthMask acc) acc) := by
  obtain ⟨hmail, htout, hmsix, htmr, hdma, hinj, hrtr, hone⟩ := ho
  simp only [List.forall_mem_cons, List.not_mem_nil, false_imp_iff, implies_true, and_true] at hone
  obtain ⟨hown, hep, htc, hlim, hshape, hl0, hpad, hdrain⟩ := hone
  unfold inMailbox at hmail
  unfold hubStore
  simp only [if_neg ha, if_neg hown, if_neg htout, if_neg hep, if_neg htc, if_neg hlim, if_neg hshape, if_neg hl0,
    if_neg hpad, if_neg htmr, if_neg hinj, if_neg hdrain]
  rw [if_neg fun h => hmail ⟨h.1, h.2.1⟩, if_neg fun h => hmail ⟨h.1, h.2.1⟩, if_neg fun h => hmsix ⟨h.1, h.2.1⟩,
    if_neg fun h => hdma ⟨h.1, h.2.1⟩, if_neg fun h => hrtr ⟨h.1, h.2.1⟩, if_neg fun h => hrtr ⟨h.1, h.2.1⟩,
    if_neg fun h => hrtr ⟨h.1, h.2.1⟩]

end Sys2Proof.Machine
end

section
/-! SUPPORT. Flits that a hub endpoint sends towards a core wait at its hub port or in the port's buffer, and their sending
changes nothing else but `HUB_DRAIN` (R196, R198, R222, R253). -/
namespace Sys2Proof.Machine

/-! ### What the local port of a hub port changes -/

/-- `t` differs from `s` in the mesh and `HUB_DRAIN` alone, and in no DMA engine's run. -/
structure HubPortOnly (s t : State) : Prop where
  only : ∃ r m, t = { s with regs := r, mesh := m }
  rd : ∀ o, o ≠ R.hubDrain → rd t o = rd s o
  dmas : t.mesh.dmas = s.mesh.dmas

theorem HubPortOnly.refl (s : State) : HubPortOnly s s := ⟨⟨_, _, rfl⟩, fun _ _ => rfl, rfl⟩

theorem HubPortOnly.trans {s t u : State} (h : HubPortOnly s t) (k : HubPortOnly t u) : HubPortOnly s u where
  only := by
    obtain ⟨_, _, rfl⟩ := h.only
    obtain ⟨r, m, rfl⟩ := k.only
    exact ⟨r, m, rfl⟩
  rd o ho := (k.rd o ho).trans (h.rd o ho)
  dmas := k.dmas.trans h.dmas

theorem HubPortOnly.coreRegs {s t : State} (h : HubPortOnly s t) : t.coreRegs = s.coreRegs := by
  obtain ⟨_, _, rfl⟩ := h.only; rfl

theorem HubPortOnly.mem {s t : State} (h : HubPortOnly s t) : t.mem = s.mem := by
  obtain ⟨_, _, rfl⟩ := h.only; rfl

theorem HubPortOnly.mbox {s t : State} (h : HubPortOnly s t) : t.mbox = s.mbox := by
  obtain ⟨_, _, rfl⟩ := h.only; rfl

/-- A hub port's link is as it was. -/
theorem HubPortOnly.linkState {s t : State} (h : HubPortOnly s t) (p : Nat) :
    linkState t (1024 + p) 1 = linkState s (1024 + p) 1 := by
  have hp : R.hubportStatus p ≠ R.hubDrain := by unfold R.hubportStatus R.hubDrain; omega
  simp only [Machine.linkState, ge_iff_le, Nat.le_add_right, if_true, Nat.add_sub_cancel_left, rdF, h.rd _ hp]

section
variable (s : State) (p : Nat)

theorem noteDrain_hub (h : Held) :
    noteDrain s (1024 + p) 4 h = if fencedAt s (1024 + p) 4 h then setB s R.hubDrain 0 else s := by
  simp [noteDrain]

theorem noteDrain_mesh (h : Held) : (noteDrain s (1024 + p) 4 h).mesh = s.mesh := by
  rw [noteDrain_hub]
  split <;> rfl

theorem noteDrain_only (h : Held) : HubPortOnly s (noteDrain s (1024 + p) 4 h) := by
  rw [noteDrain_hub]
  split
  · exact ⟨⟨_, _, rfl⟩, fun o ho => by rw [setB_eq, rd_wr_ne ho], rfl⟩
  · exact HubPortOnly.refl s

theorem setBuf_only (node port q : Nat) (l : List Held) : HubPortOnly s (setBuf s node port q l) :=
  ⟨⟨_, _, rfl⟩, fun _ _ => rfl, rfl⟩

theorem buf_setBuf (node port q q' : Nat) (l : List Held) :
    buf (setBuf s node port q l) node port q' = if q' = q then l else buf s node port q' := by
  have h : bufKey node port q' = bufKey node port q ↔ q' = q := by unfold bufKey; omega
  simp only [buf, setBuf, Sparse.get_set, h]

theorem buf_of_mesh {s t : State} (h : t.mesh = s.mesh) (node port q : Nat) : buf t node port q = buf s node port q := by
  rw [buf, h]; rfl

theorem pushHeld_only (q : Nat) (h : Held) : HubPortOnly s (pushHeld s (1024 + p) 4 q h) :=
  (setBuf_only ..).trans (noteDrain_only ..)

theorem buf_pushHeld (q q' : Nat) (h : Held) : buf (pushHeld s (1024 + p) 4 q h) (1024 + p) 4 q' =
    if q' = q then buf s (1024 + p) 4 q ++ [h] else buf s (1024 + p) 4 q' := by
  rw [pushHeld, buf_of_mesh (noteDrain_mesh ..), buf_setBuf]

theorem offers_pushHeld (q : Nat) (h : Held) : (pushHeld s (1024 + p) 4 q h).mesh.offers = s.mesh.offers := by
  rw [pushHeld, noteDrain_mesh]; rfl

/-- No link feeds the local port of a hub port. -/
theorem freeSlot_hub (q : Nat) : freeSlot s (1024 + p) 4 q = s := by
  simp [freeSlot, inLink, neighbour]

theorem liveOuts_hub : ∀ outs : List Nat, (liveOuts (1024 + p) outs s).2 = s
  | [] => rfl
  | o :: r => by
    rw [liveOuts]
    split
    · simp [countDrop, liveOuts_hub r]
    · exact liveOuts_hub r

theorem takePlace_hub (q : Nat) (h : Held) (outs : List Nat) : takePlace s (1024 + p) 4 q h outs =
    if (liveOuts (1024 + p) outs s).1.isEmpty then s
    else pushHeld s (1024 + p) 4 q { h with outs := (liveOuts (1024 + p) outs s).1 } := by
  rw [takePlace, liveOuts_hub, freeSlot_hub]

end

/-- What a flit that enters the local port of a hub port can do, once: nothing, take a place at a buffer's tail, or merge
with the last flit there. -/
inductive Enters (s t : State) (node : Nat) (f : Flit) : Prop where
  | dropped (h : t = s)
  | placed (q : Nat) (x : Held) (h : t = pushHeld s node 4 q x)
  | merged (q : Nat) (x y : Held) (hl : (buf s node 4 q).getLast? = some x) (hm : mergeable x.f f = true)
      (h : t = setBuf s node 4 q ((buf s node 4 q).dropLast ++ [y]))

theorem takePlace_enters (s : State) (p q : Nat) (h : Held) (outs : List Nat) (f : Flit) :
    Enters s (takePlace s (1024 + p) 4 q h outs) (1024 + p) f := by
  rw [takePlace_hub]
  split
  · exact .dropped rfl
  · exact .placed _ _ rfl

theorem enter_enters (s : State) (p : Nat) (f : Flit) (cyc : Nat) :
    Enters s (enter s (1024 + p) 4 f cyc) (1024 + p) f := by
  have hb : 1024 + p ≥ 1024 := Nat.le_add_right ..
  have hn : ¬ 1024 + p < 1024 := by omega
  unfold enter
  simp only [if_pos hb, freeSlot_hub, decide_eq_false hn, Bool.and_false, Bool.false_and, Bool.false_eq_true, if_false]
  split
  · exact .dropped rfl
  split
  · split
    · exact takePlace_enters ..
    · exact .dropped rfl
  split
  · split
    · exact .placed _ _ rfl
    · exact .dropped rfl
  split
  · exact .placed _ _ rfl
  split
  · rename_i x hx
    split
    · rename_i hm
      exact .merged _ x _ hx hm rfl
    · exact takePlace_enters ..
  · exact takePlace_enters ..

theorem Enters.only {s t : State} {p : Nat} {f : Flit} (h : Enters s t (1024 + p) f) : HubPortOnly s t := by
  obtain rfl | ⟨q, x, rfl⟩ | ⟨q, x, y, _, _, rfl⟩ := h
  · exact HubPortOnly.refl _
  · exact pushHeld_only ..
  · exact setBuf_only ..

theorem Enters.offers {s t : State} {p : Nat} {f : Flit} (h : Enters s t (1024 + p) f) :
    t.mesh.offers = s.mesh.offers := by
  obtain rfl | ⟨q, x, rfl⟩ | ⟨q, x, y, _, _, rfl⟩ := h
  · rfl
  · exact offers_pushHeld ..
  · rfl

/-! ### Flits of messages and circuit setups -/

/-- A message flit or a circuit's setup, on VC3, for one core (R207, R237). -/
structure ToCore (f : Flit) : Prop where
  type : fType f = 4 ∨ fType f = 5 ∨ fType f = 7
  vc : fVc f = 3
  mc : fMc f = false
  dx : fDx f < 32

theorem ToCore.creditQueue {f : Flit} (h : ToCore f) : creditQueue f = 3 := by
  rw [Machine.creditQueue, h.vc]
  rcases h.type with e | e | e <;> simp [e]

theorem ToCore.unmerged {f g : Flit} (h : ToCore f) : mergeable f g = false := by
  rcases h.type with e | e | e <;> simp [mergeable, e]

theorem ToCore.addressed {f : Flit} (h : ToCore f) : misaddressed f = false := by
  have := h.dx
  simp [misaddressed, h.mc]
  omega

/-- The flit lies in the VC3 buffer of a hub port's local port. -/
def Buffered (s : State) (p : Nat) (f : Flit) : Prop := ∃ h ∈ buf s (1024 + p) 4 3, h.f = f

/-- What enters behind it leaves a buffered flit in place. -/
theorem Enters.keeps {s t : State} {p : Nat} {f g : Flit} (h : Enters s t (1024 + p) g) (hf : ToCore f)
    (hb : Buffered s p f) : Buffered t p f := by
  obtain ⟨x, hx, rfl⟩ := hb
  obtain rfl | ⟨q, y, rfl⟩ | ⟨q, y, z, hl, hm, rfl⟩ := h
  · exact ⟨x, hx, rfl⟩
  · refine ⟨x, ?_, rfl⟩
    rw [buf_pushHeld]
    split
    · rename_i h3
      exact List.mem_append_left _ (h3 ▸ hx)
    · exact hx
  · refine ⟨x, ?_, rfl⟩
    rw [buf_setBuf]
    split
    · rename_i h3
      subst h3
      have hne : x ≠ y := by
        rintro rfl
        rw [hf.unmerged] at hm
        exact Bool.false_ne_true hm
      have hd := List.dropLast_append_getLast? _ hl
      rw [← hd] at hx
      rcases List.mem_append.1 hx with hx | hx
      · exact List.mem_append_left _ hx
      · exact absurd (List.mem_singleton.1 hx) hne
    · exact hx

theorem ToCore.unmergedInto {f : Flit} (h : ToCore f) (g : Flit) : mergeable g f = false := by
  have hn : fType f ≠ 2 ∧ fType f ≠ 3 := by rcases h.type with e | e | e <;> simp [e]
  rw [Bool.eq_false_iff]
  intro hm
  simp only [mergeable, Bool.and_eq_true, Bool.or_eq_true, decide_eq_true_eq] at hm
  obtain ⟨⟨⟨⟨⟨⟨⟨ht, he⟩, -⟩, -⟩, -⟩, -⟩, -⟩, -⟩ := hm
  rw [he] at ht
  exact ht.elim hn.1 hn.2

/-- A message flit or a setup that enters is buffered, while the port's link is up. -/
theorem enter_buffered {s : State} {p : Nat} {f : Flit} (cyc : Nat) (hf : ToCore f) (hl : linkState s (1024 + p) 1 ≠ 3) :
    Buffered (enter s (1024 + p) 4 f cyc) p f := by
  have hpush (x : Held) (hx : x.f = f) : Buffered (pushHeld s (1024 + p) 4 3 x) p f :=
    ⟨x, by rw [buf_pushHeld, if_pos rfl]; simp, hx⟩
  have htake (x : Held) (hx : x.f = f) : Buffered (takePlace s (1024 + p) 4 3 x (routeOuts (1024 + p) 4 f)) p f := by
    have hr : routeOuts (1024 + p) 4 f = [1] := by simp [routeOuts]
    rw [hr, takePlace_hub, if_neg (by simp [liveOuts, hl])]
    exact hpush _ hx
  have hvc := hf.vc
  unfold enter
  rcases hf.type with e | e | e
  case inr.inr => simpa [e] using hpush _ rfl
  all_goals
    simp only [e, hvc]
    simp only [Nat.reduceLeDiff, false_and, if_false, Nat.reduceEqDiff, decide_false, Bool.false_and, Bool.false_eq_true]
    split
    · rw [if_neg (by simp [hf.unmergedInto])]
      exact htake _ rfl
    · exact htake _ rfl

/-! ### Offers -/

/-- A flit that source `src` has sent at hub port `p` waits there or lies in the port's buffer. -/
def Waits (s : State) (p src : Nat) (f : Flit) : Prop := (⟨1024 + p, src, f⟩ : Offer) ∈ s.mesh.offers ∨ Buffered s p f

/-- The state in which an offer has left the list, before its flit enters. -/
theorem enterOffer_eq (s : State) (o : Offer) (cyc : Nat) {p : Nat} (hn : o.node = 1024 + p) :
    ∃ u, enterOffer s o cyc = enter u (1024 + p) 4 o.f cyc ∧ HubPortOnly s u ∧ u.mesh.offers = s.mesh.offers.erase o
      ∧ u.mesh.bufs = s.mesh.bufs := by
  unfold enterOffer
  rw [hn]
  refine ⟨_, rfl, ?_, ?_, ?_⟩ <;> split
  · exact ⟨⟨_, _, rfl⟩, fun _ _ => rfl, rfl⟩
  · exact ⟨⟨_, _, rfl⟩, fun _ _ => rfl, rfl⟩
  all_goals rfl

theorem enterOffer_only (s : State) (o : Offer) (cyc : Nat) {p : Nat} (hn : o.node = 1024 + p) :
    HubPortOnly s (enterOffer s o cyc) := by
  obtain ⟨u, he, hu, -, -⟩ := enterOffer_eq s o cyc hn
  rw [he]
  exact hu.trans (enter_enters ..).only

theorem enterOffer_waits {s : State} {o : Offer} (cyc : Nat) {p src : Nat} {f : Flit} (hn : o.node = 1024 + p)
    (hf : ToCore f) (hl : linkState s (1024 + p) 1 ≠ 3) (hw : Waits s p src f) : Waits (enterOffer s o cyc) p src f := by
  obtain ⟨u, he, hu, ho, hb⟩ := enterOffer_eq s o cyc hn
  have hlu : linkState u (1024 + p) 1 ≠ 3 := by rwa [hu.linkState]
  have hE := enter_enters u p o.f cyc
  rw [he]
  rcases hw with hw | ⟨x, hx, rfl⟩
  · by_cases h : o = ⟨1024 + p, src, f⟩
    · subst h
      exact .inr (enter_buffered cyc hf hlu)
    · left
      rw [hE.offers, ho]
      exact (List.mem_erase_of_ne (Ne.symm h)).2 hw
  · refine .inr (hE.keeps hf ⟨x, ?_, rfl⟩)
    rwa [buf, hb]

theorem nextOffer_node (s : State) (node : Nat) :
    ∀ (l a : List Offer) (o : Offer), nextOffer s node l a = some o → o.node = node
  | [], _, _, h => nomatch h
  | x :: r, a, o, h => by
    rw [nextOffer] at h
    split at h
    · rename_i hc
      simp only [Bool.and_eq_true, decide_eq_true_eq] at hc
      obtain ⟨⟨⟨⟨⟨hx, -⟩, -⟩, -⟩, -⟩, -⟩ := hc
      cases h
      exact hx
    · exact nextOffer_node s node r _ o h

theorem pump_only (p : Nat) : ∀ (k : Nat) (s : State), HubPortOnly s (pump (1024 + p) k s)
  | 0, s => HubPortOnly.refl s
  | k + 1, s => by
    rw [pump]
    split
    · rename_i o ho
      exact (enterOffer_only s o 0 (nextOffer_node _ _ _ _ _ ho)).trans (pump_only p k _)
    · exact HubPortOnly.refl s

theorem pump_waits {p src : Nat} {f : Flit} (hf : ToCore f) : ∀ (k : Nat) (s : State), linkState s (1024 + p) 1 ≠ 3 →
    Waits s p src f → Waits (pump (1024 + p) k s) p src f
  | 0, _, _, hw => hw
  | k + 1, s, hl, hw => by
    rw [pump]
    split
    · rename_i o ho
      have hn := nextOffer_node _ _ _ _ _ ho
      exact pump_waits hf k _ (by rwa [(enterOffer_only s o 0 hn).linkState]) (enterOffer_waits 0 hn hf hl hw)
    · exact hw

/-- The state in which a new offer stands behind the others. -/
def offered (s : State) (o : Offer) : State := { s with mesh := { s.mesh with offers := s.mesh.offers ++ [o] } }

theorem offered_only (s : State) (o : Offer) : HubPortOnly s (offered s o) := ⟨⟨_, _, rfl⟩, fun _ _ => rfl, rfl⟩

theorem hubSend_eq {f : Flit} (s : State) (src n : Nat) (hf : ToCore f) : hubSend s src n f =
    pump (1024 + n / 32) (s.mesh.offers.length + 1) (offered s ⟨1024 + n / 32, src, f⟩) := by
  have := hf.dx
  rw [hubSend, hubInject, if_neg (by simp [hf.addressed]; omega)]
  rfl

theorem hubSend_only {f : Flit} (s : State) (src n : Nat) (hf : ToCore f) : HubPortOnly s (hubSend s src n f) := by
  rw [hubSend_eq s src n hf]
  exact (offered_only ..).trans (pump_only ..)

/-- After one more sending, its flit waits and so does every one that did. -/
theorem hubSend_waits {s : State} {src n : Nat} {f g : Flit} (hf : ToCore f) (hg : ToCore g)
    (hl : linkState s (1024 + n / 32) 1 ≠ 3) (hw : f = g ∨ Waits s (n / 32) src f) :
    Waits (hubSend s src n g) (n / 32) src f := by
  rw [hubSend_eq s src n hg]
  refine pump_waits hf _ _ (by rwa [(offered_only ..).linkState]) ?_
  rcases hw with rfl | hw | hb
  · exact .inl (by simp [offered])
  · exact .inl (List.mem_append_left _ hw)
  · exact .inr hb

theorem dmaSend_only (e n : Nat) : ∀ (l : List Flit) (s : State), (∀ f ∈ l, ToCore f) → HubPortOnly s (dmaSend e n l s)
  | [], s, _ => HubPortOnly.refl s
  | f :: r, s, h => (hubSend_only s _ n (h f (by simp))).trans (dmaSend_only e n r _ fun g hg => h g (by simp [hg]))

/-- Every flit of a DMA engine's sending waits, and what waited still does. -/
theorem dmaSend_waits {e n : Nat} {f : Flit} (hf : ToCore f) : ∀ (l : List Flit) (s : State), (∀ g ∈ l, ToCore g) →
    linkState s (1024 + n / 32) 1 ≠ 3 → (f ∈ l ∨ Waits s (n / 32) (0x600 + e) f) →
    Waits (dmaSend e n l s) (n / 32) (0x600 + e) f
  | [], _, _, _, hw => hw.resolve_left (by simp)
  | g :: r, s, h, hl, hw => by
    have hg := h g (by simp)
    refine dmaSend_waits hf r _ (fun x hx => h x (by simp [hx])) (by rwa [(hubSend_only s _ n hg).linkState]) ?_
    rcases hw with hw | hw
    · rcases List.mem_cons.1 hw with rfl | hw
      · exact .inr (hubSend_waits hf hg hl (.inl rfl))
      · exact .inl hw
    · exact .inr (hubSend_waits hf hg hl (.inr hw))

/-! ### The flits of a copy to a core -/

theorem fld_eq_div (w : W64) (lo n : Nat) : fld w lo n = w.toNat / 2 ^ lo % 2 ^ n := by rw [fld, Nat.shiftRight_eq_div_pow]

/-- A flit whose head names a column and VC3, with its other fields below bit 45. -/
theorem toCore_mkHead {type dx dy low : Nat} (ht : type = 4 ∨ type = 5 ∨ type = 7) (hd : dx < 32) (hlow : low < 2 ^ 45) :
    ToCore (w64 (mkHead type 3 false dx dy + low)) := by
  have hN : (w64 (mkHead type 3 false dx dy + low)).toNat =
      type * 2 ^ 60 + 3 * 2 ^ 58 + dx * 2 ^ 50 + dy % 32 * 2 ^ 45 + low := by
    rw [w64, BitVec.toNat_ofNat, mkHead, show b2n false = 0 from rfl]
    omega
  have hbit : fMc (w64 (mkHead type 3 false dx dy + low)) = false := by
    rw [fMc, bitAt, ← BitVec.testBit_toNat, hN, Nat.testBit_eq_decide_div_mod_eq, decide_eq_false_iff_not]
    omega
  constructor
  · rw [fType, ff, fld_eq_div, hN]; omega
  · rw [fVc, ff, fld_eq_div, hN]; omega
  · exact hbit
  · rw [fDx, ff, fld_eq_div, hN]; omega

theorem leNat_lt : ∀ l : List Byte, leNat l < 256 ^ l.length
  | [] => by simp [leNat]
  | b :: r => by
    have h := leNat_lt r
    have hb := b.isLt
    simp only [leNat, List.length_cons, Nat.pow_succ]
    omega

theorem messageFlits_toCore (dest epoch src kind : Nat) (msg : List Byte) (hk : kind < 4) (hd : dest / 64 % 32 < 32) :
    ∀ f ∈ messageFlits dest epoch src kind msg, ToCore f := by
  intro f hf
  simp only [messageFlits, List.mem_cons, List.mem_map] at hf
  rcases hf with rfl | ⟨k, -, rfl⟩
  · simp only [Nat.add_assoc]
    exact toCore_mkHead (.inl rfl) hd (by omega)
  · have h4 : leNat ((msg.drop (4 * k)).take 4) < 256 ^ 4 :=
      (leNat_lt _).trans_le (Nat.pow_le_pow_right (by decide) (by simp))
    rw [Nat.add_assoc]
    exact toCore_mkHead (.inr (.inl rfl)) hd (by omega)

theorem dmaBind_toCore (s : State) (e n : Nat) : ∀ f ∈ dmaBind s e n, ToCore f :=
  messageFlits_toCore _ _ _ _ _ (by decide) (Nat.mod_lt _ (by decide))

theorem dmaSetup_toCore (s : State) {e : Nat} (n : Nat) (he : e < 8) : ToCore (dmaSetup s e n 7) := by
  have hc : dmaCircuit s e < 2 ^ 3 := fld_lt _ _ _
  have hr : rdF s (R.dmaCtrl e) 13 4 < 2 ^ 4 := fld_lt _ _ _
  unfold dmaSetup
  simp only [Nat.add_assoc]
  exact toCore_mkHead (.inr (.inr rfl)) (Nat.mod_lt _ (by decide)) (by omega)

end Sys2Proof.Machine
end

section
/-! SUPPORT. The effects of the registers that act when written: doorbells and freed completions (R353, R354), ownership
changes (R349, R350), released pads (R424), the Event Port (R288), and a core's registers (R26, R104). -/
namespace Sys2Proof.Machine

/-! ### Doorbells and completions (R353, R354) -/

/-- A doorbell that is taken moves the producer index, and changes beside it the mailbox records alone. -/
theorem doorbell_taken {s : State} {m n : Nat} (h : rdB s (R.mbStatus m) 0 = true ∧ idxSub n (cmdCi s m) ≤ 256
    ∧ idxSub (cmdPi s m) (cmdCi s m) ≤ idxSub n (cmdCi s m)) :
    ∃ b, doorbell s m n = wr { s with mbox := b } (R.mbCmdPi m) (w64 n) := by
  unfold doorbell
  dsimp only
  rw [if_pos h]
  split
  · exact ⟨_, rfl⟩
  · exact ⟨_, rfl⟩

theorem doorbell_error {s : State} {m n : Nat} (h : ¬ (rdB s (R.mbStatus m) 0 = true ∧ idxSub n (cmdCi s m) ≤ 256
    ∧ idxSub (cmdPi s m) (cmdCi s m) ≤ idxSub n (cmdCi s m))) : doorbell s m n = setB s (R.mbStatus m) 1 := by
  unfold doorbell
  dsimp only
  rw [if_neg h]

theorem flushHeld_none {s : State} {m : Nat} (h : ∀ e ∈ s.mbox.held, e.1 ≠ m) : ∀ k, flushHeld m k s = s
  | 0 => rfl
  | k + 1 => by
    have hf : (s.mbox.held.find? fun e => decide (e.1 = m)) = none := by simpa using h
    rw [flushHeld]
    simp only [hf]

/-- Once the host has written `MB_CPL_CI`, the ring is full by the written index. -/
theorem cplFull_freed (s : State) (m : Nat) (v : W64) :
    cplFull (wr s (R.mbCplCi m) (w64 (fld v 0 16))) m = decide (256 ≤ idxSub (cplPi s m) (fld v 0 16)) := by
  have hne : R.mbCplPi m ≠ R.mbCplCi m := by unfold R.mbCplPi R.mbCplCi; omega
  have hci : cplCi (wr s (R.mbCplCi m) (w64 (fld v 0 16))) m = fld v 0 16 := by
    rw [cplCi, rdF, rd_wr_self, fld_w64 _ _ (by decide), Nat.mod_eq_of_lt (fld_lt ..)]
  have hpi : cplPi (wr s (R.mbCplCi m) (w64 (fld v 0 16))) m = cplPi s m := by
    rw [cplPi, rdF, rd_wr_ne hne]; rfl
  rw [cplFull, hci, hpi]

/-- The host's write of `MB_CPL_CI` where no completion of the mailbox is held. -/
theorem freeCompletions_none {s : State} {m : Nat} (h : ∀ e ∈ s.mbox.held, e.1 ≠ m) (v : W64) :
    freeCompletions s m (fld v 0 16) = if 256 ≤ idxSub (cplPi s m) (fld v 0 16) then wr s (R.mbCplCi m) (w64 (fld v 0 16))
      else clrB (wr s (R.mbCplCi m) (w64 (fld v 0 16))) (R.mbStatus m) 3 := by
  unfold freeCompletions
  simp only [cplFull_freed, decide_eq_true_eq]
  rw [flushHeld_none (s := clrB (wr s _ _) _ _) h]

/-- The state with no completion held. -/
def noneHeld (s : State) : State := { s with mbox := { s.mbox with held := [] } }

/-- One completion is held, and its ring has space: it is written. -/
theorem flushHeld_one {s : State} {m : Nat} {ws : List W64} (h : s.mbox.held = [(m, ws)]) (hf : cplFull s m = false) :
    flushHeld m 1 s = writeCompletion (noneHeld s) m ws := by
  simp [flushHeld, noneHeld, h, hf]

/-- The same write where space is free and one completion is held: it follows. -/
theorem freeCompletions_held {s : State} {m : Nat} {ws : List W64} (h : s.mbox.held = [(m, ws)]) {v : W64}
    (hn : idxSub (cplPi s m) (fld v 0 16) < 256) : ∃ u : State, freeCompletions s m (fld v 0 16) = writeCompletion u m ws
      ∧ u.mbox.held = [] ∧ cplPi u m = cplPi s m := by
  have hfull := cplFull_freed s m v
  rw [decide_eq_false (by omega)] at hfull
  have hclr (o : Nat) (ho : o ≠ R.mbStatus m) (u : State) : rdF (clrB u (R.mbStatus m) 3) o 0 16 = rdF u o 0 16 := by
    rw [rdF, clrB_eq, rd_wr_ne ho]; rfl
  have hpi := hclr (R.mbCplPi m) (by unfold R.mbCplPi R.mbStatus; omega)
  have hci := hclr (R.mbCplCi m) (by unfold R.mbCplCi R.mbStatus; omega)
  have hfull' : cplFull (clrB (wr s (R.mbCplCi m) (w64 (fld v 0 16))) (R.mbStatus m) 3) m = false := by
    rw [← hfull]
    unfold cplFull cplPi cplCi
    rw [hpi, hci]
  refine ⟨noneHeld (clrB (wr s (R.mbCplCi m) (w64 (fld v 0 16))) (R.mbStatus m) 3), ?_, rfl, ?_⟩
  · unfold freeCompletions
    simp only [hfull, Bool.false_eq_true, if_false, wr_mbox, h, List.length_singleton]
    exact flushHeld_one h hfull'
  · refine (hpi _).trans ?_
    rw [rdF, rd_wr_ne (by unfold R.mbCplPi R.mbCplCi; omega)]
    rfl

/-! ### What a completion's writing leaves -/

section
variable (s : State) (m : Fin 8) (w : List W64)

/-- Apart from the sign of a full ring, a completion's writing is its entry, its index and `CPL_PENDING`. -/
theorem writeCompletion_cases : ∃ u : State, u.mem = (stN s (ringEntry m.val true (cplPi s m.val)) (bytesOf w)).mem
    ∧ u.mbox.held = s.mbox.held ∧ rd u (R.mbCplPi m.val) = w64 ((cplPi s m.val + 1) % 65536)
    ∧ rdB u (R.mbStatus m.val) 2 = true
    ∧ (writeCompletion s m.val w = u ∨ writeCompletion s m.val w = setB u (R.mbStatus m.val) 3
      ∨ writeCompletion s m.val w = bellsFail (setB u (R.mbStatus m.val) 3)) := by
  have hne : R.mbCplPi m.val ≠ R.mbStatus m.val := by unfold R.mbCplPi R.mbStatus; omega
  have hpi : cplPi (notePortA (stN s (ringEntry m.val true (cplPi s m.val)) (bytesOf w))
      (ringEntry m.val true (cplPi s m.val)) w.length) m.val = cplPi s m.val := cplPi_of_regs (by simp [notePortA]) _
  unfold writeCompletion
  extract_lets a t u v
  refine ⟨v, by simp [v, u, t, notePortA, a], by simp [v, u, t, notePortA], ?_, ?_, ?_⟩
  · simp only [v, u]
    rw [setB_eq, rd_wr_ne hne, rd_wr_self, hpi]
  · simp [v, rdB, setB_eq]
  · split
    · split
      · rename_i h0
        rw [h0]
        exact .inr (.inr rfl)
      · exact .inr (.inl rfl)
    · exact .inl rfl

theorem writeCompletion_mem :
    (writeCompletion s m.val w).mem = (stN s (ringEntry m.val true (cplPi s m.val)) (bytesOf w)).mem := by
  obtain ⟨u, hm, -, -, -, h⟩ := writeCompletion_cases s m w
  rcases h with h | h | h <;> rw [h, ← hm] <;> rfl

theorem writeCompletion_held : (writeCompletion s m.val w).mbox.held = s.mbox.held := by
  obtain ⟨u, -, hm, -, -, h⟩ := writeCompletion_cases s m w
  rcases h with h | h | h <;> rw [h, ← hm] <;> rfl

theorem rd_cplPi_writeCompletion :
    rd (writeCompletion s m.val w) (R.mbCplPi m.val) = w64 ((cplPi s m.val + 1) % 65536) := by
  have hne : R.mbCplPi m.val ≠ R.mbStatus m.val := by unfold R.mbCplPi R.mbStatus; omega
  obtain ⟨u, -, -, hp, -, h⟩ := writeCompletion_cases s m w
  have hb (x : State) (o : Nat) : rd (bellsFail x) o = rd x o := rfl
  rcases h with h | h | h
  · rw [h, hp]
  · rw [h, setB_eq, rd_wr_ne hne, hp]
  · rw [h, hb, setB_eq, rd_wr_ne hne, hp]

theorem cplPending_writeCompletion : rdB (writeCompletion s m.val w) (R.mbStatus m.val) 2 = true := by
  obtain ⟨u, -, -, -, hs, h⟩ := writeCompletion_cases s m w
  have hb : rdB (setB u (R.mbStatus m.val) 3) (R.mbStatus m.val) 2 = true := by
    rw [rdB, setB_eq, rd_wr_self, bitAt_setBit]
    simpa [rdB] using hs
  rcases h with h | h | h
  · rw [h, hs]
  · rw [h, hb]
  · rw [h]; exact hb

end

/-! ### Ownership flags (R349, R350) -/

theorem setFlags_frame (v : Nat) : ∀ (n : Nat) (s : State) (g : Nat),
    setFlags s g n v = { s with mem := (setFlags s g n v).mem }
  | 0, _, _ => rfl
  | n + 1, s, g => by
    rw [setFlags, setFlags_frame v n]
    rfl

/-- A byte away from the flag of granule `g` is as before. -/
theorem ldB_setFlag_ne (s : State) (g v : Nat) {x : Nat} (h : x ≠ 0x001001E00000 + g / 4) :
    ldB (setFlag s g v) x = ldB s x := by
  unfold setFlag
  dsimp only
  rw [ldB_stB, if_neg h]

/-- Replacing one base-4 digit of a byte leaves its other digits alone: a byte has four places, so the two places make
sixteen cases of linear arithmetic. -/
theorem digit_replaced {b v r k : Nat} (hb : b < 256) (hr : r < 4) (hk : k < 4) :
    (b - b / 4 ^ r % 4 * 4 ^ r + v % 4 * 4 ^ r) % 256 / 4 ^ k % 4 = if k = r then v % 4 else b / 4 ^ k % 4 := by
  interval_cases r <;> interval_cases k <;> simp <;> omega

theorem flagOf_setFlag (s : State) (g v k : Nat) : flagOf (setFlag s g v) k = if k = g then v % 4 else flagOf s k := by
  by_cases ha : k / 4 = g / 4
  · unfold flagOf setFlag
    dsimp only
    rw [ha, ldB_stB, if_pos rfl, BitVec.toNat_ofNat,
      digit_replaced (BitVec.isLt _) (Nat.mod_lt _ (by decide)) (Nat.mod_lt _ (by decide))]
    have hkg : k % 4 = g % 4 ↔ k = g := by omega
    simp only [hkg]
  · rw [flagOf, ldB_setFlag_ne _ _ _ (by omega), if_neg (by rintro rfl; exact ha rfl)]
    rfl

theorem flagOf_setFlags (v k : Nat) : ∀ (n : Nat) (s : State) (g : Nat),
    flagOf (setFlags s g n v) k = if g ≤ k ∧ k < g + n then v % 4 else flagOf s k
  | 0, s, g => by rw [if_neg (by omega)]; rfl
  | n + 1, s, g => by
    rw [setFlags, flagOf_setFlags v k n, flagOf_setFlag]
    by_cases hk : k = g
    · rw [if_neg (by omega), if_pos hk, if_pos (by omega)]
    · have hrest : g + 1 ≤ k ∧ k < g + 1 + n ↔ g ≤ k ∧ k < g + (n + 1) := by omega
      simp only [if_neg hk, hrest]

theorem ldB_setFlags_out (v : Nat) {x : Nat} : ∀ (n : Nat) (s : State) (g : Nat),
    (∀ k, g ≤ k → k < g + n → x ≠ 0x001001E00000 + k / 4) → ldB (setFlags s g n v) x = ldB s x
  | 0, _, _, _ => rfl
  | n + 1, s, g, h => by
    rw [setFlags, ldB_setFlags_out v n _ _ fun k h1 h2 => h k (by omega) (by omega),
      ldB_setFlag_ne _ _ _ (h g (by omega) (by omega))]

/-- The control word of an ownership change holds the granules and the flag as written. -/
theorem ownXfer_fields (old v : W64) :
    fld (writeBits (hubInfo R.ownXferCtrl) old v .whole) 0 21 = fld v 0 21
      ∧ fld (writeBits (hubInfo R.ownXferCtrl) old v .whole) 24 2 = fld v 24 2 :=
  ⟨fld_writeBits (by decide) _ _ (by decide), fld_writeBits (by decide) _ _ (by decide)⟩

/-! ### Pads and the Event Port (R288, R424) -/

theorem driveTout_frame (s : State) : ∃ o, driveTout s = { s with outs := o } := by
  unfold driveTout
  split
  · exact ⟨_, rfl⟩
  · exact ⟨_, rfl⟩

/-- A write of `PAD_RELEASE` changes `PAD_HOLD` and what the balls show. -/
theorem padRelease_frame (s : State) (v : W64) :
    ∃ o, padRelease s v = { (if bitAt v 0 then clrB s R.pwrState 3 else s) with outs := o } := by
  unfold padRelease
  split
  · exact driveTout_frame _
  · exact ⟨_, rfl⟩

/-! ### Registers of a core (R26, R104, R468) -/

/-- `t` differs from `s` in hub registers and the breaths' bookkeeping alone. -/
def BreathOnly (s t : State) : Prop := ∃ r b, t = { s with regs := r, breaths := b }

theorem BreathOnly.refl (s : State) : BreathOnly s s := ⟨_, _, rfl⟩

theorem BreathOnly.wr {s t : State} (h : BreathOnly s t) (o : Nat) (v : W64) : BreathOnly s (wr t o v) := by
  obtain ⟨r, b, rfl⟩ := h
  exact ⟨_, b, rfl⟩

theorem BreathOnly.setBrth {s t : State} (h : BreathOnly s t) (j : Nat) (x : Breath) : BreathOnly s (setBrth t j x) := by
  obtain ⟨r, b, rfl⟩ := h
  exact ⟨r, _, rfl⟩

theorem BreathOnly.ite {s t u : State} {c : Prop} [Decidable c] (h : BreathOnly s t) (k : BreathOnly s u) :
    BreathOnly s (if c then t else u) := by
  split
  · exact h
  · exact k

theorem recordOut_frame {s t : State} (h : BreathOnly s t) (j : Nat) (u : BitVec 32) (c : Nat) :
    BreathOnly s (recordOut t j u c) := by
  have hcount := (h.wr (R.l0StepsOut j) (w64 (satAdd 32 (rd t (R.l0StepsOut j)).toNat 1))).wr (R.l0Cond j)
    (w64 (c + u.toNat * 2 ^ 32))
  exact .ite h (.ite (h.wr ..) (.ite ((hcount.setBrth ..).wr ..) hcount))

theorem failCond_frame (s : State) (j bit : Nat) : BreathOnly s (failCond s j bit) := by
  have hset (x : Breath) : BreathOnly s (setBrth s j x) := (BreathOnly.refl s).setBrth j x
  unfold failCond
  extract_lets b tags t
  split
  · exact .ite (recordOut_frame (hset _) ..) (hset _)
  · exact hset _

/-- What an access that the hub sends to a core can touch: the record of the L0 job's conditions. -/
theorem noteCtrlAccess_frame (s : State) (n : Nat) : BreathOnly s (noteCtrlAccess s n) := by
  unfold noteCtrlAccess
  split
  · exact .ite (failCond_frame ..) (.refl s)
  · exact .refl s

theorem directWrite_frame (s : State) (n : Nat) : ∃ r j, directWrite s n = { s with regs := r, jobs := j } := by
  unfold directWrite
  split
  · exact ⟨_, _, rfl⟩
  · exact ⟨_, _, rfl⟩

theorem coreKey_inj {n r m q : Nat} (hr : r < 0x8000) (hq : q < 0x8000) : coreKey n r = coreKey m q ↔ n = m ∧ r = q := by
  unfold coreKey; omega

/-- The effect of a plain write of a core's register before its journal entry: the bits of its access code, and R104. -/
def coreStored (s : State) (n r : Nat) (acc : Width) (v : W64) : State :=
  let t := cw s n r (writeBits (coreInfo n r) (cr s n r) v acc)
  if isCoreConfig n r then directWrite t n else t

theorem coreStored_frame (s : State) (n r : Nat) (acc : Width) (v : W64) : ∃ g j, coreStored s n r acc v =
    { cw s n r (writeBits (coreInfo n r) (cr s n r) v acc) with regs := g, jobs := j } := by
  unfold coreStored
  dsimp only
  split
  · exact directWrite_frame ..
  · exact ⟨_, _, rfl⟩

theorem coreRegWrite_leaves (s₀ s : State) {n r : Nat} (acc : Width) (v : W64) (hq : r ≠ R.qopCmd) (hm : r ≠ R.plasMod) :
    WriteLeaves (coreStored s n r acc v) (settle s₀ (keepAll s₀ (coreRegWrite s n r acc v true)))
      (assigned s n && decide ((coreInfo n r).rw ≠ 0)) := by
  have hs : coreRegStore s n r acc v 0 true = cw s n r (writeBits (coreInfo n r) (cr s n r) v acc) := by
    unfold coreRegStore
    rw [if_neg hq, if_neg hm]
  unfold coreRegWrite
  simp only [hs, hq, decide_false, Bool.or_false, Bool.true_and]
  cases hn : assigned s n && decide ((coreInfo n r).rw ≠ 0)
  · rw [if_neg (by simp)]
    exact writeLeaves_self ..
  · rw [if_pos rfl]
    exact writeLeaves_journal (writeLeaves_self ..)

end Sys2Proof.Machine
end

section
/-! PROOF. The registers that act when written, and the plain ones: a theorem for each register, and the obligation. -/
namespace Sys2Proof.Machine

variable {s : State}

/-! ### Mailboxes (R353, R354) -/

theorem doorbell_leaves (hl : live s = true) (m : Fin 8) (v : W64) :
    ∃ t, exec (.doorbell m v) s = .next t ∧ WriteLeaves (doorbell s m.val (fld v 0 16)) t false := by
  refine ⟨_, (exec_doorbell ..).trans (actServed_live _ (serves_of_live hl)), ?_⟩
  have h := writeLeaves_hubRegWrite s (R.mbCmdPi m.val) v false (acc := .whole) (by decide)
  have hm := m.isLt
  rwa [hubStore_mbCmdPi, journalled_mailbox _ _ _ (by unfold inMailbox R.mbCmdPi; omega)] at h

theorem mbCplCiWrite_leaves (hl : live s = true) (m : Fin 8) (v : W64) :
    ∃ t, exec (.mbCplCiWrite m v) s = .next t ∧ WriteLeaves (freeCompletions s m.val (fld v 0 16)) t false := by
  refine ⟨_, (exec_mbCplCiWrite ..).trans (actServed_live _ (serves_of_live hl)), ?_⟩
  have h := writeLeaves_hubRegWrite s (R.mbCplCi m.val) v false (acc := .whole) (by decide)
  have hm := m.isLt
  rwa [hubStore_mbCplCi, journalled_mailbox _ _ _ (by unfold inMailbox R.mbCplCi; omega)] at h

/-- A mailbox's registers lie below the MSI-X pending bits. -/
theorem mailbox_ne_msixPba (m : Fin 8) : R.mbCmdPi m.val ≠ R.msixPba ∧ R.mbCplPi m.val ≠ R.msixPba
    ∧ R.mbCplCi m.val ≠ R.msixPba ∧ R.mbStatus m.val ≠ R.msixPba := by
  have hm := m.isLt
  unfold R.mbCmdPi R.mbCplPi R.mbCplCi R.mbStatus R.msixPba
  omega

theorem doorbell_moves (hl : live s = true) (m : Fin 8) (v : W64)
    (h : rdB s (R.mbStatus m.val) 0 = true ∧ idxSub (fld v 0 16) (cmdCi s m.val) ≤ 256
      ∧ idxSub (cmdPi s m.val) (cmdCi s m.val) ≤ idxSub (fld v 0 16) (cmdCi s m.val)) :
    ∃ t, exec (.doorbell m v) s = .next t ∧ rd t (R.mbCmdPi m.val) = w64 (fld v 0 16)
      ∧ hubRegsKept s t [R.mbCmdPi m.val] ∧ t.mem = s.mem ∧ t.coreRegs = s.coreRegs := by
  obtain ⟨t, ht, L⟩ := doorbell_leaves hl m v
  obtain ⟨b, hb⟩ := doorbell_taken h
  rw [hb] at L
  refine ⟨t, ht, ?_, L.hubRegsKept fun o ho => ?_, L.mem rfl, L.coreRegs⟩
  · rw [L.rd _ (mailbox_ne_msixPba m).1, rd_wr_self]
  · rw [rd_wr_ne (by simpa using ho)]; rfl

theorem doorbell_errs (hl : live s = true) (m : Fin 8) (v : W64)
    (h : ¬ (rdB s (R.mbStatus m.val) 0 = true ∧ idxSub (fld v 0 16) (cmdCi s m.val) ≤ 256
      ∧ idxSub (cmdPi s m.val) (cmdCi s m.val) ≤ idxSub (fld v 0 16) (cmdCi s m.val))) :
    ∃ t, exec (.doorbell m v) s = .next t ∧ rdB t (R.mbStatus m.val) 1 = true
      ∧ hubRegsKept s t [R.mbStatus m.val] ∧ t.mem = s.mem ∧ t.coreRegs = s.coreRegs := by
  obtain ⟨t, ht, L⟩ := doorbell_leaves hl m v
  rw [doorbell_error h, setB_eq] at L
  refine ⟨t, ht, ?_, L.hubRegsKept fun o ho => rd_wr_ne (by simpa using ho), L.mem rfl, L.coreRegs⟩
  rw [L.rdB 1 (mailbox_ne_msixPba m).2.2.2, rdB, rd_wr_self, bitAt_setBit]
  simp

theorem mbCplCiWrite_frees (hl : live s = true) (m : Fin 8) (v : W64) (h : ∀ e ∈ s.mbox.held, e.1 ≠ m.val) :
    ∃ t, exec (.mbCplCiWrite m v) s = .next t ∧ rd t (R.mbCplCi m.val) = w64 (fld v 0 16)
      ∧ hubRegsKept s t [R.mbCplCi m.val, R.mbStatus m.val] ∧ t.mem = s.mem ∧ t.coreRegs = s.coreRegs
      ∧ rdB t (R.mbStatus m.val) 3 = (rdB s (R.mbStatus m.val) 3 && decide (256 ≤ idxSub (cplPi s m.val) (fld v 0 16))) := by
  obtain ⟨t, ht, L⟩ := mbCplCiWrite_leaves hl m v
  obtain ⟨-, -, hci, hst⟩ := mailbox_ne_msixPba m
  have hne : R.mbCplCi m.val ≠ R.mbStatus m.val := by unfold R.mbCplCi R.mbStatus; omega
  rw [freeCompletions_none h] at L
  split at L
  case isTrue hfull =>
    refine ⟨t, ht, by rw [L.rd _ hci, rd_wr_self], L.hubRegsKept fun o ho => ?_, L.mem rfl, L.coreRegs, ?_⟩
    · rw [rd_wr_ne (by rintro rfl; simp at ho)]
    · rw [L.rdB 3 hst, rdB, rd_wr_ne hne.symm, decide_eq_true hfull, Bool.and_true]; rfl
  case isFalse hfree =>
    rw [clrB_eq] at L
    refine ⟨t, ht, by rw [L.rd _ hci, rd_wr_ne hne, rd_wr_self], L.hubRegsKept fun o ho => ?_, L.mem rfl, L.coreRegs, ?_⟩
    · rw [rd_wr_ne (by rintro rfl; simp at ho), rd_wr_ne (by rintro rfl; simp at ho)]
    · rw [L.rdB 3 hst, rdB, rd_wr_self, bitAt_clrBit, decide_eq_false hfree]
      simp

theorem mbCplCiWrite_follows (hl : live s = true) (m : Fin 8) (v : W64) (ws : List W64)
    (h : s.mbox.held = [(m.val, ws)]) (hw : ws.length = 8) (hn : idxSub (cplPi s m.val) (fld v 0 16) < 256) :
    ∃ t, exec (.mbCplCiWrite m v) s = .next t ∧ t.mbox.held = []
      ∧ cplPi t m.val = (cplPi s m.val + 1) % 65536 ∧ rdB t (R.mbStatus m.val) 2 = true
      ∧ ldN t (ringEntry m.val true (cplPi s m.val)) 64 = bytesOf ws := by
  obtain ⟨t, ht, L⟩ := mbCplCiWrite_leaves hl m v
  obtain ⟨-, hpi, -, hst⟩ := mailbox_ne_msixPba m
  obtain ⟨u, hu, hheld, hu_pi⟩ := freeCompletions_held h hn
  rw [hu] at L
  refine ⟨t, ht, ?_, ?_, ?_, ?_⟩
  · rw [L.held, writeCompletion_held, hheld]
  · rw [cplPi, L.rdF 0 16 hpi, rdF, rd_cplPi_writeCompletion, hu_pi, fld_w64 _ _ (by decide)]
    exact Nat.mod_eq_of_lt (Nat.mod_lt _ (by decide))
  · rw [L.rdB 2 hst, cplPending_writeCompletion]
  · have hlen : (bytesOf ws).length = 64 := by rw [bytesOf_length, hw]
    have hmem : t.mem = (stN u (ringEntry m.val true (cplPi s m.val)) (bytesOf ws)).mem := by
      rw [L.mem rfl, writeCompletion_mem, hu_pi]
    have hread := ldN_stN u (ringEntry m.val true (cplPi s m.val)) (bytesOf ws)
    rw [hlen] at hread
    rw [← hread]
    simp only [ldN, ldB, hmem]

/-! ### Pads (R424) -/

theorem woTaken_padRelease (s : State) (v : W64) : woTaken s R.padRelease v = (bitAt v 0 && rdB s R.pwrState 3) := by
  simp [woTaken, padHold, R.padRelease, R.ownXferCtrl]

theorem padRelease_releases (hl : live s = true) (v : W64) : ∃ t, exec (.padRelease v) s = .next t
    ∧ rdB t R.pwrState 3 = (rdB s R.pwrState 3 && !bitAt v 0) ∧ hubRegsKept s t [R.pwrState]
    ∧ noted s t (bitAt v 0 && rdB s R.pwrState 3) ∧ bytesKept s t 0 0 ∧ t.coreRegs = s.coreRegs := by
  obtain ⟨o, ho⟩ := padRelease_frame s v
  have L := writeLeaves_hubRegWrite s R.padRelease v false (acc := .whole) (by decide)
  have hrd (r : Nat) : rd (padRelease s v) r = rd (if bitAt v 0 then clrB s R.pwrState 3 else s) r := by rw [ho]; rfl
  have hkept (r : Nat) (hr : r ≠ R.pwrState) : rd (padRelease s v) r = rd s r := by
    rw [hrd]
    split
    · rw [clrB_eq, rd_wr_ne hr]
    · rfl
  have hfields : (padRelease s v).mbox = s.mbox ∧ (padRelease s v).mem = s.mem
      ∧ (padRelease s v).coreRegs = s.coreRegs := by
    rw [ho]
    dsimp only
    split <;> exact ⟨rfl, rfl, rfl⟩
  obtain ⟨hmbox, hmem, hcore⟩ := hfields
  rw [hubStore_padRelease, and_widthMask_whole, journalled_same v (hkept _ (by decide)) (by decide)
    (by unfold inMailbox; decide), woTaken_padRelease] at L
  refine ⟨_, (exec_padRelease ..).trans (act_live _ hl), ?_, L.hubRegsKept fun r hr => hkept r (by simpa using hr),
    L.noted (by rw [hmbox]), L.bytesKept (by rw [hmbox]) fun x _ => ldB_of_mem hmem x, L.coreRegs.trans hcore⟩
  rw [L.rdB 3 (by decide), rdB, hrd]
  cases hv : bitAt v 0
  · simp [rdB]
  · simp [clrB_eq]

/-! ### Changes of ownership (R349, R350) -/

theorem woTaken_ownXferCtrl (s : State) (v : W64) :
    woTaken s R.ownXferCtrl v = (bitAt v 32 && !rdB s R.ownXferStatus 0) := by
  simp [woTaken, R.padRelease, R.ownXferCtrl]

section
variable (hl : live s = true) (v : W64)
include hl

theorem ownXferStart_leaves : ∃ t, exec (.ownXferStart v) s = .next t ∧
    WriteLeaves (ownXferWrite s (writeBits (hubInfo R.ownXferCtrl) (rd s R.ownXferCtrl) v .whole) v) t
      (journalled s (ownXferWrite s (writeBits (hubInfo R.ownXferCtrl) (rd s R.ownXferCtrl) v .whole) v)
        R.ownXferCtrl v) := by
  have L := writeLeaves_hubRegWrite s R.ownXferCtrl v false (acc := .whole) (by decide)
  rw [hubStore_ownXferCtrl, and_widthMask_whole] at L
  exact ⟨_, (exec_ownXferStart ..).trans (act_live _ hl), L⟩

theorem ownXferStart_lost (hgo : bitAt v 32 = true) (hb : rdB s R.ownXferStatus 0 = true) :
    ∃ t, exec (.ownXferStart v) s = .next t ∧ rd t R.ownXferStatus = setBit (rd s R.ownXferStatus) 3
      ∧ hubRegsKept s t [R.ownXferStatus] ∧ t.mem = s.mem := by
  obtain ⟨t, ht, L⟩ := ownXferStart_leaves hl v
  rw [ownXferWrite, if_pos ⟨hgo, hb⟩, setB_eq, journalled_same v (rd_wr_ne (by decide)) (by decide)
    (by unfold inMailbox; decide), woTaken_ownXferCtrl, hgo, hb] at L
  exact ⟨t, ht, by rw [L.rd _ (by decide), rd_wr_self], L.hubRegsKept fun o ho => rd_wr_ne (by simpa using ho), L.mem rfl⟩

/-- A start that the engine takes is journalled: its `GO` is a write-only bit that takes effect. -/
theorem ownXferStart_taken (hgo : bitAt v 32 = true) (hb : rdB s R.ownXferStatus 0 = false) {u : State}
    (hu : ownXferWrite s (writeBits (hubInfo R.ownXferCtrl) (rd s R.ownXferCtrl) v .whole) v = u) :
    ∃ t, exec (.ownXferStart v) s = .next t ∧ WriteLeaves u t true := by
  obtain ⟨t, ht, L⟩ := ownXferStart_leaves hl v
  rw [journalled_woTaken (by rw [woTaken_ownXferCtrl, hgo, hb]; rfl) (by decide) (by unfold inMailbox; decide), hu] at L
  exact ⟨t, ht, L⟩

theorem ownXferStart_fixed (hgo : bitAt v 32 = true) (hb : rdB s R.ownXferStatus 0 = false)
    (hf : rangeFixed (rdF s R.ownXferFirst 0 20) (fld v 0 21) = true) :
    ∃ t, exec (.ownXferStart v) s = .next t ∧ rd t R.ownXferStatus = setBit (rd s R.ownXferStatus) 2
      ∧ hubRegsKept s t [R.ownXferCtrl, R.ownXferStatus] ∧ noted s t true ∧ bytesKept s t 0 0 := by
  obtain ⟨hcount, -⟩ := ownXfer_fields (rd s R.ownXferCtrl) v
  have hfirst (w : W64) : rdF (wr s R.ownXferCtrl w) R.ownXferFirst 0 20 = rdF s R.ownXferFirst 0 20 := by
    rw [rdF, rd_wr_ne (by decide)]; rfl
  obtain ⟨t, ht, L⟩ := ownXferStart_taken hl v hgo hb
    (u := setB (wr s R.ownXferCtrl (writeBits (hubInfo R.ownXferCtrl) (rd s R.ownXferCtrl) v .whole)) R.ownXferStatus 2)
    (by simp [ownXferWrite, hgo, hb, hcount, hfirst, hf])
  rw [setB_eq] at L
  refine ⟨t, ht, ?_, L.hubRegsKept fun o ho => ?_, L.noted rfl, L.bytesKept rfl fun _ _ => rfl⟩
  · rw [L.rd _ (by decide), rd_wr_self, rd_wr_ne (by decide)]
  · rw [rd_wr_ne (by rintro rfl; simp at ho), rd_wr_ne (by rintro rfl; simp at ho)]

theorem ownXferStart_starts (hgo : bitAt v 32 = true) (hb : rdB s R.ownXferStatus 0 = false) {g n : Nat}
    (hg : g = rdF s R.ownXferFirst 0 20) (hn : n = fld v 0 21) (hf : rangeFixed g n = false) :
    ∃ t, exec (.ownXferStart v) s = .next t ∧ rd t R.ownXferStatus = setBit (rd s R.ownXferStatus) 0
      ∧ (∀ k, k < 1048064 → flagOf t k = if g ≤ k ∧ k < g + n then fld v 24 2 else flagOf s k)
      ∧ hubRegsKept s t [R.ownXferCtrl, R.ownXferStatus] ∧ noted s t true
      ∧ bytesKept s t (0x001001E00000 + g / 4) ((g + n - 1) / 4 - g / 4 + 1) ∧ t.coreRegs = s.coreRegs := by
  obtain ⟨hcount, hflag⟩ := ownXfer_fields (rd s R.ownXferCtrl) v
  have hfirst (w : W64) : rdF (wr s R.ownXferCtrl w) R.ownXferFirst 0 20 = g := by
    rw [hg, rdF, rd_wr_ne (by decide)]; rfl
  generalize hw : writeBits (hubInfo R.ownXferCtrl) (rd s R.ownXferCtrl) v .whole = w at hcount hflag
  obtain ⟨t, ht, L⟩ := ownXferStart_taken hl v hgo hb
    (u := setB (setFlags (wr s R.ownXferCtrl w) g n (fld v 24 2)) R.ownXferStatus 0)
    (by simp [ownXferWrite, hgo, hb, hw, hcount, hflag, hfirst, ← hn, hf])
  have hframe := setFlags_frame (fld v 24 2) n (wr s R.ownXferCtrl w) g
  generalize hu : setFlags (wr s R.ownXferCtrl w) g n (fld v 24 2) = u at L hframe
  have hrd (o : Nat) : rd u o = rd (wr s R.ownXferCtrl w) o := by rw [hframe]; rfl
  have hseq : (setB u R.ownXferStatus 0).mbox.journalSeq = s.mbox.journalSeq := by rw [setB_mbox, hframe]; rfl
  rw [setB_eq] at L
  refine ⟨t, ht, ?_, fun k hk => ?_, L.hubRegsKept fun o ho => ?_, L.noted hseq, L.bytesKept hseq fun x hx => ?_, ?_⟩
  · rw [L.rd _ (by decide), rd_wr_self, hrd, rd_wr_ne (by decide)]
  · have hbyte : flagOf t k = flagOf u k := by
      unfold flagOf
      rw [L.ldB _ (by unfold journalBase; omega)]
      rfl
    have hlt : fld v 24 2 < 4 := fld_lt v 24 2
    rw [hbyte, ← hu, flagOf_setFlags, Nat.mod_eq_of_lt hlt]
    rfl
  · rw [rd_wr_ne (by rintro rfl; simp at ho), hrd, rd_wr_ne (by rintro rfl; simp at ho)]
  · show ldB u x = ldB s x
    rw [← hu]
    exact ldB_setFlags_out _ _ _ _ fun k h1 h2 => by omega
  · rw [L.coreRegs, wr_coreRegs, hframe]; rfl

theorem ownXferStart_stores (hgo : bitAt v 32 = false) : ∃ t, exec (.ownXferStart v) s = .next t
    ∧ rd t R.ownXferCtrl = writeBits (hubInfo R.ownXferCtrl) (rd s R.ownXferCtrl) v .whole
    ∧ hubRegsKept s t [R.ownXferCtrl] ∧ bytesKept s t 0 0 := by
  obtain ⟨t, ht, L⟩ := ownXferStart_leaves hl v
  generalize writeBits (hubInfo R.ownXferCtrl) (rd s R.ownXferCtrl) v .whole = w at L ⊢
  have hu : ownXferWrite s w v = wr s R.ownXferCtrl w := by simp [ownXferWrite, hgo]
  rw [hu] at L
  exact ⟨t, ht, by rw [L.rd _ (by decide), rd_wr_self], L.hubRegsKept fun o ho => rd_wr_ne (by simpa using ho),
    L.bytesKept rfl fun _ _ => rfl⟩

theorem ownXferDone_ends (hb : rdB s R.ownXferStatus 0 = true) : ∃ t, exec .ownXferDone s = .next t
    ∧ rd t R.ownXferStatus = setBit (clrBit (rd s R.ownXferStatus) 0) 1 ∧ hubRegsKept s t [R.ownXferStatus]
    ∧ t.mem = s.mem ∧ t.coreRegs = s.coreRegs := by
  have L := writeLeaves_self s (setB (clrB s R.ownXferStatus 0) R.ownXferStatus 1)
  rw [setB_eq, clrB_eq, rd_wr_self] at L
  refine ⟨_, (exec_ownXferDone s).trans ((act_live _ hl).trans ?_), ?_, L.hubRegsKept fun o ho => ?_, L.mem rfl, L.coreRegs⟩
  · rw [if_pos hb, setB_eq, clrB_eq, rd_wr_self]
  · rw [L.rd _ (by decide), rd_wr_self]
  · rw [rd_wr_ne (by simpa using ho), rd_wr_ne (by simpa using ho)]

end

/-! ### DMA engines (R253, R333, R334) -/

section
variable (e : DmaId)

theorem dmaGo_place : R.dmaGo e.val < 0x100000 ∧ ¬ inMailbox (R.dmaGo e.val) ∧ R.dmaStatus e.val ≠ R.msixPba
    ∧ R.dmaStatus e.val ≠ R.hubDrain ∧ R.dmaGo e.val ≠ R.dmaStatus e.val := by
  have he := e.isLt
  unfold inMailbox R.dmaGo R.dmaStatus R.msixPba R.hubDrain
  omega

theorem woTaken_dmaGo (s : State) (v : W64) :
    woTaken s (R.dmaGo e.val) v = (bitAt v 0 && decide (dmaState s e.val ≠ 1)) := by
  have he := e.isLt
  have ho : R.dmaGo e.val = 0x81020 + 0x80 * e.val := rfl
  have hp : R.dmaGo e.val ≠ R.padRelease := by unfold R.padRelease; omega
  have hx : R.dmaGo e.val ≠ R.ownXferCtrl := by unfold R.ownXferCtrl; omega
  have hin : 0x81000 ≤ R.dmaGo e.val ∧ R.dmaGo e.val < 0x81400 ∧ R.dmaGo e.val % 0x80 = 0x20
      ∧ (R.dmaGo e.val - 0x81000) / 0x80 = e.val := by omega
  obtain ⟨h1, h2, h3, h4⟩ := hin
  simp [woTaken, hp, hx, h1, h2, h3, h4]

/-- The status of an engine that starts. -/
def dmaStarted (s : State) (e : Nat) : State :=
  wr s (R.dmaStatus e) (putFld (putFld (putFld (rd s (R.dmaStatus e)) 0 2 1) 4 4 0) 32 32 0)

/-- The state in which a copy to a core has begun, before it sends its flits. -/
def dmaBegun (s : State) (e : Nat) : State := setDmaRun (dmaStarted s e) e { phase := 1 }

theorem rdF_dmaStarted_ne (s : State) {o : Nat} (lo n : Nat) (h : o ≠ R.dmaStatus e.val) :
    rdF (dmaStarted s e.val) o lo n = rdF s o lo n := by
  rw [rdF, dmaStarted, rd_wr_ne h]; rfl

/-- The engine's other registers, and what they say of the copy, are as before its start. -/
theorem dmaStarted_reads (s : State) (n : Nat) : dmaCore (dmaStarted s e.val) e.val = dmaCore s e.val
    ∧ dmaReceives (dmaStarted s e.val) e.val = dmaReceives s e.val ∧ dmaBlocks (dmaStarted s e.val) e.val = dmaBlocks s e.val
    ∧ dmaBind (dmaStarted s e.val) e.val n = dmaBind s e.val n
    ∧ dmaSetup (dmaStarted s e.val) e.val n 7 = dmaSetup s e.val n 7 := by
  have hdst : R.dmaDst e.val ≠ R.dmaStatus e.val := by unfold R.dmaDst R.dmaStatus; omega
  have hctl : R.dmaCtrl e.val ≠ R.dmaStatus e.val := by unfold R.dmaCtrl R.dmaStatus; omega
  have hlen : R.dmaLen e.val ≠ R.dmaStatus e.val := by unfold R.dmaLen R.dmaStatus; omega
  have hend : R.ddrDataEnd ≠ R.dmaStatus e.val := by unfold R.ddrDataEnd R.dmaStatus; omega
  have hreg (a : Nat) : regionOf (dmaStarted s e.val) a = regionOf s a := by
    unfold regionOf; rw [show rd (dmaStarted s e.val) R.ddrDataEnd = rd s R.ddrDataEnd from rd_wr_ne hend]
  have hrcv : dmaReceives (dmaStarted s e.val) e.val = dmaReceives s e.val := by
    unfold dmaReceives rdB; rw [show rd (dmaStarted s e.val) _ = rd s _ from rd_wr_ne hctl]
  refine ⟨?_, hrcv, ?_, ?_, ?_⟩
  · unfold dmaCore; rw [rdF_dmaStarted_ne e s 0 48 hdst, hreg]
  · unfold dmaBlocks; rw [rdF_dmaStarted_ne e s 0 31 hlen]
  · unfold dmaBind dmaCircuit dmaBlocks
    rw [rdF_dmaStarted_ne e s 0 48 hdst, rdF_dmaStarted_ne e s 10 3 hctl, rdF_dmaStarted_ne e s 0 31 hlen]
  · unfold dmaSetup dmaCircuit
    rw [rdF_dmaStarted_ne e s 13 4 hctl, rdF_dmaStarted_ne e s 10 3 hctl]

theorem dmaFlits_toCore (s : State) (n : Nat) : ∀ f ∈ dmaBind s e.val n ++ [dmaSetup s e.val n 7], ToCore f := by
  intro f hf
  rcases List.mem_append.1 hf with hf | hf
  · exact dmaBind_toCore _ _ _ f hf
  · rw [List.mem_singleton.1 hf]
    exact dmaSetup_toCore s n e.isLt

/-- A start of an idle engine: its status, and for a copy to a core the bind and the setup, sent. -/
theorem dmaStart_eq (h : dmaState s e.val ≠ 1) : dmaStart s e.val = match dmaCore s e.val with
    | some n => if dmaReceives s e.val ∨ dmaBlocks s e.val = 0 then dmaStarted s e.val
        else dmaSend e.val n (dmaBind s e.val n ++ [dmaSetup s e.val n 7]) (dmaBegun s e.val)
    | none => dmaStarted s e.val := by
  unfold dmaStart
  rw [if_neg h]
  show (match dmaCore (dmaStarted s e.val) e.val with | some n => _ | none => _) = _
  obtain ⟨hc, hr, hb, -, -⟩ := dmaStarted_reads e s 0
  rw [hc]
  cases dmaCore s e.val with
  | none => rfl
  | some n =>
    obtain ⟨-, -, -, hbind, hset⟩ := dmaStarted_reads e s n
    show (if dmaReceives (dmaStarted s e.val) e.val = true ∨ dmaBlocks (dmaStarted s e.val) e.val = 0 then _ else
      dmaSend e.val n (dmaBind (dmaStarted s e.val) e.val n ++ [dmaSetup (dmaStarted s e.val) e.val n 7]) _) = _
    rw [hr, hb, hbind, hset]
    rfl

/-- What an idle engine's start changes: its status and `HUB_DRAIN` among the registers, and the mesh. -/
theorem dmaStart_frame (h : dmaState s e.val ≠ 1) :
    (∀ o, o ≠ R.hubDrain → rd (dmaStart s e.val) o = rd (dmaStarted s e.val) o)
    ∧ (dmaStart s e.val).mem = s.mem ∧ (dmaStart s e.val).coreRegs = s.coreRegs ∧ (dmaStart s e.val).mbox = s.mbox := by
  rw [dmaStart_eq e h]
  split
  · rename_i n _
    split
    · exact ⟨fun _ _ => rfl, rfl, rfl, rfl⟩
    · have hp := dmaSend_only e.val n _ (dmaBegun s e.val) (dmaFlits_toCore e s n)
      exact ⟨hp.rd, hp.mem, hp.coreRegs, hp.mbox⟩
  · exact ⟨fun _ _ => rfl, rfl, rfl, rfl⟩

/-- A core of the package has one of the 1,024 numbers (R27). -/
theorem dmaCore_lt {n : Nat} (h : dmaCore s e.val = some n) : n < 1024 := by
  unfold dmaCore at h
  split at h
  · rename_i k off hreg
    cases h
    unfold regionOf at hreg
    split_ifs at hreg with hd hd' ht hg hs hu hcore hoff
    cases hreg
    omega
  · cases h

/-- A copy to a core has sent its bind and its setup. -/
theorem dmaStart_sends (h : dmaState s e.val ≠ 1) {n : Nat} (hc : dmaCore s e.val = some n)
    (hr : dmaReceives s e.val = false) (hb : dmaBlocks s e.val ≠ 0) :
    (dmaRunOf (dmaStart s e.val) e.val).phase = 1 ∧ ∀ f ∈ dmaBind s e.val n ++ [dmaSetup s e.val n 7],
      hubSent s (dmaStart s e.val) (n / 32) (0x600 + e.val) f := by
  have hflits := dmaFlits_toCore e s n
  have hp := dmaSend_only e.val n _ (dmaBegun s e.val) hflits
  have hport : R.hubportStatus (n / 32) ≠ R.dmaStatus e.val := by
    have hn := dmaCore_lt e hc
    unfold R.hubportStatus R.dmaStatus
    omega
  have heq : dmaStart s e.val = dmaSend e.val n (dmaBind s e.val n ++ [dmaSetup s e.val n 7])
      (dmaBegun s e.val) := by
    rw [dmaStart_eq e h, hc]
    exact if_neg (by simp [hr, hb])
  rw [heq]
  refine ⟨?_, fun f hf hlink => ?_⟩
  · rw [dmaRunOf, hp.dmas]
    simp [dmaBegun, setDmaRun, Sparse.get_set]
  · have hup : linkState (dmaBegun s e.val) (1024 + n / 32) 1
        = linkState s (1024 + n / 32) 1 := by
      simp only [linkState, ge_iff_le, Nat.le_add_right, if_true, Nat.add_sub_cancel_left]
      exact rdF_dmaStarted_ne e s 0 2 hport
    rw [(hflits f hf).creditQueue]
    exact dmaSend_waits (hflits f hf) _ _ hflits (by rwa [hup]) (.inl hf)

/-- A write of `DMA_GO` leaves the engine's start, journalled where it takes effect. -/
theorem dmaGo_leaves (hl : live s = true) {v : W64} (hv : bitAt v 0 = true)
    (hsame : rd (dmaStart s e.val) (R.dmaGo e.val) = rd s (R.dmaGo e.val)) :
    ∃ t, exec (.dmaGo e v) s = .next t ∧ WriteLeaves (dmaStart s e.val) t (decide (dmaState s e.val ≠ 1)) := by
  obtain ⟨hlt, hbox, -, -, -⟩ := dmaGo_place e
  have L := writeLeaves_hubRegWrite s (R.dmaGo e.val) v false (acc := .whole) (by decide)
  rw [hubStore_dmaGo, if_pos hv, and_widthMask_whole, journalled_same v hsame hlt hbox, woTaken_dmaGo, hv,
    Bool.true_and] at L
  exact ⟨_, (exec_dmaGo ..).trans (act_live _ hl), L⟩

theorem dmaGo_nothing (hl : live s = true) {v : W64} (hv : bitAt v 0 = false) : exec (.dmaGo e v) s = .next s := by
  obtain ⟨hlt, hbox, -, -, -⟩ := dmaGo_place e
  refine (exec_dmaGo ..).trans (act_self hl (hubRegWrite_self _ ?_ ?_))
  · rw [hubStore_dmaGo, hv]; rfl
  · rw [and_widthMask_whole, journalled_same v rfl hlt hbox, woTaken_dmaGo, hv, Bool.false_and]

theorem dmaGo_lost (hl : live s = true) {v : W64} (hv : bitAt v 0 = true) (hb : dmaState s e.val = 1) :
    ∃ t, exec (.dmaGo e v) s = .next t ∧ rd t (R.dmaStatus e.val) = setBit (rd s (R.dmaStatus e.val)) 2
      ∧ hubRegsKept s t [R.dmaStatus e.val] ∧ t.mem = s.mem ∧ t.coreRegs = s.coreRegs := by
  obtain ⟨-, -, hpba, -, hne⟩ := dmaGo_place e
  have hstart : dmaStart s e.val = wr s (R.dmaStatus e.val) (setBit (rd s (R.dmaStatus e.val)) 2) := by
    rw [dmaStart, if_pos hb, setB_eq]
  obtain ⟨t, ht, L⟩ := dmaGo_leaves e hl hv (by rw [hstart, rd_wr_ne hne])
  rw [hstart, decide_eq_false (by simpa using hb)] at L
  exact ⟨t, ht, by rw [L.rd _ hpba, rd_wr_self], L.hubRegsKept fun o ho => rd_wr_ne (by simpa using ho), L.mem rfl,
    L.coreRegs⟩

theorem dmaGo_starts (hl : live s = true) {v : W64} (hv : bitAt v 0 = true) (hb : dmaState s e.val ≠ 1) :
    ∃ t, exec (.dmaGo e v) s = .next t ∧ dmaState t e.val = 1
      ∧ rdF t (R.dmaStatus e.val) 4 4 = 0 ∧ rdF t (R.dmaStatus e.val) 32 32 = 0
      ∧ hubRegsKept s t [R.dmaStatus e.val, R.hubDrain] ∧ noted s t true ∧ bytesKept s t 0 0 ∧ t.coreRegs = s.coreRegs
      ∧ ∀ n, dmaCore s e.val = some n → dmaReceives s e.val = false → dmaBlocks s e.val ≠ 0 → (dmaRunOf t e.val).phase = 1
        ∧ ∀ f ∈ dmaBind s e.val n ++ [dmaSetup s e.val n 7], hubSent s t (n / 32) (0x600 + e.val) f := by
  obtain ⟨-, -, hpba, hdrain, hne⟩ := dmaGo_place e
  have hgo : R.dmaGo e.val ≠ R.hubDrain := by unfold R.dmaGo R.hubDrain; omega
  obtain ⟨hrd, hmem, hcore, hmbox⟩ := dmaStart_frame e hb
  obtain ⟨t, ht, L⟩ := dmaGo_leaves e hl hv (by rw [hrd _ hgo, dmaStarted, rd_wr_ne hne])
  rw [decide_eq_true hb] at L
  have hstatus : rd t (R.dmaStatus e.val) = putFld (putFld (putFld (rd s (R.dmaStatus e.val)) 0 2 1) 4 4 0) 32 32 0 := by
    rw [L.rd _ hpba, hrd _ hdrain, dmaStarted, rd_wr_self]
  refine ⟨t, ht, ?_, ?_, ?_, L.hubRegsKept fun o ho => ?_, L.noted (by rw [hmbox]),
    L.bytesKept (by rw [hmbox]) fun x _ => ldB_of_mem hmem x, L.coreRegs.trans hcore, fun n hc hr hn => ?_⟩
  · rw [dmaState, rdF, hstatus, fld_putFld_apart _ _ (by decide), fld_putFld_apart _ _ (by decide),
      fld_putFld_self _ _ (by decide), Nat.one_mod_eq_one.2 (by decide)]
  · rw [rdF, hstatus, fld_putFld_apart _ _ (by decide), fld_putFld_self _ _ (by decide), Nat.zero_mod]
  · rw [rdF, hstatus, fld_putFld_self _ _ (by decide), Nat.zero_mod]
  · rw [hrd _ (by rintro rfl; simp at ho), dmaStarted, rd_wr_ne (by rintro rfl; simp at ho)]
  · have hsends := dmaStart_sends e hb hc hr hn
    unfold dmaRunOf hubSent buf at hsends ⊢
    rwa [L.mesh]

end

/-! ### Registers that a write stores (R9 to R11, R202, R288) -/

theorem epConfig_write (hl : live s = true) {acc : Width} (ha : acc ≠ .other) (value w : W64)
    (hw : w = writeBits (hubInfo R.epConfig) (rd s R.epConfig) (value &&& widthMask acc) acc) :
    ∃ t, exec (.registerWrite (.hub R.epConfig) acc value) s = .next t ∧ rd t R.epConfig = w
      ∧ hubRegsKept s t [R.epConfig, R.epStatus] ∧ bytesKept s t 0 0 ∧ t.coreRegs = s.coreRegs
      ∧ (bitAt w 3 = false → t.conv.flow = [] ∧ rd t R.epStatus = clrBit (rd s R.epStatus) 1)
      ∧ (bitAt w 3 = true → t.conv = s.conv ∧ rd t R.epStatus = rd s R.epStatus) := by
  obtain ⟨t, ht, L⟩ := registerWrite_leaves hl value ha (o := R.epConfig) (by decide)
  rw [hubStore_epConfig s value ha, ← hw] at L
  cases hb : bitAt w 3
  · have hu : epWrite s w = wr { wr s R.epConfig w with conv := { s.conv with flow := [] } } R.epStatus
        (clrBit (rd s R.epStatus) 1) := by
      simp only [epWrite, hb, Bool.false_eq_true, if_false, clrB_eq]
      congr 2
      exact rd_wr_ne (by decide)
    rw [hu] at L
    refine ⟨t, ht, ?_, L.hubRegsKept fun o ho => ?_, L.bytesKept rfl fun _ _ => rfl, L.coreRegs, fun _ => ⟨?_, ?_⟩,
      fun h => nomatch h⟩
    · rw [L.rd _ (by decide), rd_wr_ne (by decide)]
      exact rd_wr_self ..
    · rw [rd_wr_ne (by rintro rfl; simp at ho)]
      exact rd_wr_ne (by rintro rfl; simp at ho)
    · rw [L.conv]; rfl
    · rw [L.rd _ (by decide), rd_wr_self]
  · have hu : epWrite s w = wr s R.epConfig w := by simp [epWrite, hb]
    rw [hu] at L
    exact ⟨t, ht, by rw [L.rd _ (by decide), rd_wr_self], L.hubRegsKept fun o ho => rd_wr_ne (by rintro rfl; simp at ho),
      L.bytesKept rfl fun _ _ => rfl, L.coreRegs, (fun h => nomatch h),
      fun _ => ⟨L.conv, by rw [L.rd _ (by decide), rd_wr_ne (by decide)]⟩⟩

/-- Where the plain registers lie, and what their writes do not touch. -/
theorem plainRegs_place : ∀ o ∈ plainRegs, (o % 8 = 0 ∧ o < 0x1000000) ∧ o ≠ R.msixPba := by
  unfold plainRegs
  decide

/-- A write of a plain register is journalled when it changes an RW field. -/
theorem journalled_storesOnly (s t : State) {o : Nat} (v : W64) (ho : storesOnly o) : journalled s t o v =
    (decide (o < 0x100000) && decide (((rd s o ^^^ rd t o) &&& (hubInfo o).rw) ≠ 0)) := by
  obtain ⟨hmail, -, -, -, hdma, -, -, hone⟩ := ho
  have hwo : woTaken s o v = false := woTaken_none s v (hone _ (by simp)) (hone _ (by simp)) fun h => hdma ⟨h.1, h.2.1⟩
  have hbox : (decide (0x1000 ≤ o) && decide (o < 0x1800)) = false := by
    rw [← Bool.decide_and, decide_eq_false_iff_not]; exact hmail
  simp only [journalled, hbox, hwo, Bool.not_false, Bool.and_true, Bool.or_false]

theorem plain_write (hl : live s = true) {o : Nat} {acc : Width} (value : W64) (ho : o ∈ plainRegs) (ha : acc ≠ .other) :
    ∃ t, exec (.registerWrite (.hub o) acc value) s = .next t
      ∧ rd t o = writeBits (hubInfo o) (rd s o) (value &&& widthMask acc) acc ∧ hubRegsKept s t [o]
      ∧ noted s t (decide (o < 0x100000) && decide (((rd s o ^^^ rd t o) &&& (hubInfo o).rw) ≠ 0))
      ∧ bytesKept s t 0 0 ∧ t.coreRegs = s.coreRegs := by
  have hs := plainRegs_storesOnly o ho
  obtain ⟨hin, hpba⟩ := plainRegs_place o ho
  obtain ⟨t, ht, L⟩ := registerWrite_leaves hl value ha hin
  rw [journalled_storesOnly _ _ _ hs, hubStore_storesOnly s value hs ha] at L
  have hrd := L.rd o hpba
  rw [rd_wr_self] at hrd L
  refine ⟨t, ht, hrd, L.hubRegsKept fun r hr => rd_wr_ne (by simpa using hr), ?_, L.bytesKept rfl fun _ _ => rfl, L.coreRegs⟩
  rw [hrd]
  exact L.noted rfl

/-- A write that its register discards leaves the state as it was. -/
theorem registerWrite_discarded (hl : live s = true) {o : Nat} {v : W64} (ho : o % 8 = 0 ∧ o < 0x1000000)
    (hs : hubStore s o .whole v = s) (hj : journalled s s o v = false) :
    exec (.registerWrite (.hub o) .whole v) s = .next s := by
  refine (exec_registerWrite ..).trans (act_self hl ?_)
  dsimp only
  rw [if_pos ho]
  exact hubRegWrite_self _ hs (by rwa [and_widthMask_whole])

section
variable (hl : live s = true) (v : W64)
include hl

theorem meshShape_write {w : W64} (hw : w = writeBits (hubInfo R.meshShape) (rd s R.meshShape) v .whole)
    (h : 1 ≤ fld w 8 7 ∧ fld w 8 7 ≤ 64 ∧ fld w 0 8 ≤ 64) :
    ∃ t, exec (.registerWrite (.hub R.meshShape) .whole v) s = .next t ∧ rd t R.meshShape = w := by
  obtain ⟨t, ht, L⟩ := registerWrite_leaves hl v (acc := .whole) (by decide) (o := R.meshShape) (by decide)
  rw [hubStore_meshShape s v hw, if_pos h] at L
  exact ⟨t, ht, by rw [L.rd _ (by decide), rd_wr_self]⟩

theorem meshShape_discards {w : W64} (hw : w = writeBits (hubInfo R.meshShape) (rd s R.meshShape) v .whole)
    (h : ¬ (1 ≤ fld w 8 7 ∧ fld w 8 7 ≤ 64 ∧ fld w 0 8 ≤ 64)) :
    exec (.registerWrite (.hub R.meshShape) .whole v) s = .next s := by
  refine registerWrite_discarded hl (by decide) (by rw [hubStore_meshShape s v hw, if_neg h]) ?_
  rw [journalled_same v rfl (by decide) (by unfold inMailbox; decide)]
  exact woTaken_none s v (by decide) (by decide) (by unfold isDmaGo; decide)

theorem rtrConfig_write (n : CoreId) {w : W64}
    (hw : w = writeBits (hubInfo (R.rtrConfig n.val)) (rd s (R.rtrConfig n.val)) v .whole)
    (h : 4 ≤ fld w 0 6 ∧ fld w 0 6 ≤ 32) : ∃ t, exec (.registerWrite (.hub (R.rtrConfig n.val)) .whole v) s = .next t
      ∧ rd t (R.rtrConfig n.val) = w ∧ hubRegsKept s t [R.rtrConfig n.val] := by
  have hn := n.isLt
  obtain ⟨t, ht, L⟩ := registerWrite_leaves hl v (acc := .whole) (by decide) (o := R.rtrConfig n.val)
    (by unfold R.rtrConfig; omega)
  rw [hubStore_rtrConfig s v n hw, if_pos h] at L
  exact ⟨t, ht, by rw [L.rd _ (by unfold R.rtrConfig R.msixPba; omega), rd_wr_self],
    L.hubRegsKept fun o ho => rd_wr_ne (by simpa using ho)⟩

theorem rtrConfig_discards (n : CoreId) {w : W64}
    (hw : w = writeBits (hubInfo (R.rtrConfig n.val)) (rd s (R.rtrConfig n.val)) v .whole)
    (h : ¬ (4 ≤ fld w 0 6 ∧ fld w 0 6 ≤ 32)) : exec (.registerWrite (.hub (R.rtrConfig n.val)) .whole v) s = .next s := by
  have hn := n.isLt
  refine registerWrite_discarded hl (by unfold R.rtrConfig; omega) (by rw [hubStore_rtrConfig s v n hw, if_neg h]) ?_
  exact journalled_above _ _ _ (by unfold R.rtrConfig; omega)

end

/-! ### Registers of a core (R26, R104, R391) -/

theorem coreRegister_write (hl : live s = true) (n : CoreId) {r : Nat} {acc : Width} (value : W64) (hr8 : r % 8 = 0)
    (hr : r < 0x8000) (ha : acc ≠ .other) (hq : r ≠ R.qopCmd) (hm : r ≠ R.plasMod) (hh : (core s n.val).halted = false)
    (hi : island s n.val < 2) : ∃ t, exec (.registerWrite (.core n r) acc value) s = .next t
      ∧ cr t n.val r = writeBits (coreInfo n.val r) (cr s n.val r) (value &&& widthMask acc) acc
      ∧ coreRegsKept s t n.val [r] ∧ noted s t (assigned s n.val && decide ((coreInfo n.val r).rw ≠ 0))
      ∧ bytesKept s t 0 0 := by
  have hwake : wakeIsland s n.val = s := by rw [wakeIsland, if_pos hi]
  obtain ⟨g, b, hnote⟩ := noteCtrlAccess_frame s n.val
  have L := coreRegWrite_leaves s (noteCtrlAccess s n.val) (n := n.val) acc (value &&& widthMask acc) hq hm
  obtain ⟨g', j, hstored⟩ := coreStored_frame (noteCtrlAccess s n.val) n.val r acc (value &&& widthMask acc)
  have hcr (m q : Nat) : cr (noteCtrlAccess s n.val) m q = cr s m q := by rw [hnote]; rfl
  have hassigned : assigned (noteCtrlAccess s n.val) n.val = assigned s n.val := by rw [assigned, crB, hcr]; rfl
  rw [hassigned] at L
  generalize hu : coreStored (noteCtrlAccess s n.val) n.val r acc (value &&& widthMask acc) = u at L hstored
  have hseq : u.mbox.journalSeq = s.mbox.journalSeq := by rw [hstored, hnote]; rfl
  have hmem : u.mem = s.mem := by rw [hstored, hnote]; rfl
  have hregs (m q : Nat) : cr u m q = cr (cw s n.val r (writeBits (coreInfo n.val r) (cr s n.val r)
      (value &&& widthMask acc) acc)) m q := by
    rw [hstored, hcr, hnote]; rfl
  refine ⟨_, (exec_registerWrite ..).trans (act_live _ hl), ?_⟩
  dsimp only
  rw [if_neg (by simp only [ne_eq, not_or]; exact ⟨by simpa using hr8, by omega, ha⟩),
    if_neg (by simp [portWaits, hh]), hwake]
  refine ⟨?_, fun m q hm' hq' h => ?_, L.noted hseq, L.bytesKept hseq fun x _ => ldB_of_mem hmem x⟩
  · rw [cr_of_coreRegs L.coreRegs, hregs, cr_cw_self]
  · rw [cr_of_coreRegs L.coreRegs, hregs, cr_cw, if_neg]
    rw [coreKey_inj hq' hr]
    rintro ⟨rfl, rfl⟩
    simp at h

theorem coreRegister_waits (hl : live s = true) (n : CoreId) {r : Nat} {acc : Width} (value : W64) (hr8 : r % 8 = 0)
    (hr : r < 0x8000) (ha : acc ≠ .other) (hh : (core s n.val).halted = true) :
    ∃ t, exec (.registerWrite (.core n r) acc value) s = .next t
      ∧ (core t n.val).hostWaits = (core s n.val).hostWaits ++ [.reg r acc (value &&& widthMask acc)]
      ∧ t.mem = s.mem ∧ t.coreRegs = s.coreRegs ∧ hubRegsKept s t [] := by
  have L := writeLeaves_self s (holdAccess s n.val (.reg r acc (value &&& widthMask acc)))
  refine ⟨_, (exec_registerWrite ..).trans (act_live _ hl), ?_⟩
  dsimp only
  rw [if_neg (by simp only [ne_eq, not_or]; exact ⟨by simpa using hr8, by omega, ha⟩), if_pos (by simp [portWaits, hh])]
  refine ⟨?_, L.mem rfl, L.coreRegs, L.hubRegsKept fun _ _ => rfl⟩
  rw [core, L.cores]
  simp [holdAccess, upCore, setCore, Sparse.get_set]

/-! ### The obligation -/

/-- Settles O49: a clause for each register that acts when written, from what `hubStore` does there and what the journal and
the messages add. -/
theorem hostRegisters : Obligations.HostRegisters := by
  intro s hl
  refine ⟨fun m value n hn => ?_, padRelease_releases hl, fun value g n hg hn => ?_, ownXferDone_ends hl,
    fun e value => ⟨dmaGo_nothing e hl, dmaGo_lost e hl, dmaGo_starts e hl⟩,
    fun acc value w ha hw => epConfig_write hl ha value w hw, fun o acc value ho ha => plain_write hl value ho ha,
    fun value w hw => ⟨fun h1 h2 h3 => meshShape_write hl value hw ⟨h1, h2, h3⟩, fun h => ?_⟩,
    fun n value w hw => ⟨fun h1 h2 => rtrConfig_write hl value n hw ⟨h1, h2⟩, fun h => ?_⟩,
    fun n r acc value h8 hr ha hq hm hh hi => coreRegister_write hl n value h8 hr ha hq hm hh hi,
    fun n r acc value h8 hr ha hh => coreRegister_waits hl n value h8 hr ha hh⟩
  · subst hn
    exact ⟨fun h1 h2 h3 => doorbell_moves hl m value ⟨h1, h2, h3⟩,
      fun h => doorbell_errs hl m value fun ⟨h1, h2, h3⟩ => by
        rcases h with h | h | h
        · rw [h1] at h; cases h
        · omega
        · omega,
      mbCplCiWrite_frees hl m value, mbCplCiWrite_follows hl m value⟩
  · refine ⟨ownXferStart_lost hl value, fun hgo hb hf => ?_, fun hgo hb => ownXferStart_starts hl value hgo hb hg hn,
      ownXferStart_stores hl value⟩
    subst hg hn
    exact ownXferStart_fixed hl value hgo hb hf
  · exact meshShape_discards hl value hw (by omega)
  · exact rtrConfig_discards hl value n hw (by omega)

end Sys2Proof.Machine
end

section
/-! SUPPORT. What a served row leaves: the fields of `after` that are the effect's own, and the frames of its registers. -/
namespace Sys2Proof.Machine

theorem act_after {s : State} (eff : State → State) (h : live s = true) : act s eff = .next (after s (eff s)) :=
  act_live eff h

theorem actServed_after {s : State} (eff : State → State) (h : live s = true) : actServed s eff = .next (after s (eff s)) :=
  actServed_live eff (serves_of_live h)

section
variable (s u : State)
@[simp] theorem after_coreRegs : (after s u).coreRegs = u.coreRegs := by simp [after]
@[simp] theorem after_mem : (after s u).mem = u.mem := by simp [after]
@[simp] theorem after_tags : (after s u).tags = u.tags := by simp [after]
@[simp] theorem after_free : (after s u).free = u.free := by simp [after]
@[simp] theorem after_hostRd : (after s u).hostRd = u.hostRd := by simp [after]
@[simp] theorem after_breaths : (after s u).breaths = u.breaths := by simp [after]
@[simp] theorem after_jobs : (after s u).jobs = u.jobs := by simp [after]
@[simp] theorem after_faults : (after s u).faults = u.faults := by simp [after]
@[simp] theorem after_cores : (after s u).cores = u.cores := by simp [after]
@[simp] theorem after_mesh : (after s u).mesh = u.mesh := by simp [after]
@[simp] theorem after_conv : (after s u).conv = u.conv := by simp [after]
@[simp] theorem after_power : (after s u).power = u.power := by simp [after]
@[simp] theorem core_after (n : Nat) : core (after s u) n = core u n := by simp [core]
@[simp] theorem brth_after (j : Nat) : brth (after s u) j = brth u j := by simp [brth]
@[simp] theorem ldB_after (a : Nat) : ldB (after s u) a = ldB u a := by simp [ldB]
@[simp] theorem cr_after (n r : Nat) : cr (after s u) n r = cr u n r := cr_of_coreRegs (by simp) n r
@[simp] theorem tagAt_after (a : Nat) : tagAt (after s u) a = tagAt u a := by simp [tagAt]

theorem rd_after {o : Nat} (h : o ≠ R.msixPba) : rd (after s u) o = rd u o := rd_settle _ _ h
end

theorem rdF_after (s u : State) {o : Nat} (lo n : Nat) (h : o ≠ R.msixPba) : rdF (after s u) o lo n = rdF u o lo n := by
  rw [rdF, rd_after _ _ h, rdF]

theorem rdB_after (s u : State) {o : Nat} (i : Nat) (h : o ≠ R.msixPba) : rdB (after s u) o i = rdB u o i := by
  rw [rdB, rd_after _ _ h, rdB]

theorem after_self (s : State) : after s s = s := by rw [after, keepAll_self, settle_self]

/-- The hub registers that an effect keeps stay as they were, but for the pending interrupts. -/
theorem hubRegsKept_after {s u : State} {regs : List Nat} (h : ∀ o, o ∉ regs → rd u o = rd s o) :
    hubRegsKept s (after s u) regs := fun o ho hp => by rw [rd_after _ _ hp, h o ho]

theorem hubRegsKept_of_regs {s u : State} (h : u.regs = s.regs) (regs : List Nat) : hubRegsKept s (after s u) regs :=
  hubRegsKept_after fun o _ => rd_of_regs h o

/-! ### Tags -/

theorem tagAt_of_tags {s t : State} (h : t.tags = s.tags) (a : Nat) : tagAt t a = tagAt s a := by simp [tagAt, h]

theorem tagAt_setTag (s : State) (a x : Nat) (w : W64) : tagAt (setTag s a w) x = if x / 256 = a / 256 then w else tagAt s x :=
  Sparse.get_set ..

@[simp] theorem tagAt_setTag_self (s : State) (a : Nat) (w : W64) : tagAt (setTag s a w) a = w := by simp [tagAt_setTag]

theorem tagAt_setTag_ne (s : State) {a x : Nat} (w : W64) (h : x / 256 ≠ a / 256) : tagAt (setTag s a w) x = tagAt s x := by
  simp [tagAt_setTag, h]

/-! ### Registers -/

theorem rd_setB_ne (s : State) {o o' : Nat} (i : Nat) (h : o' ≠ o) : rd (setB s o i) o' = rd s o' := rd_wr_ne h
theorem rd_bump_ne (s : State) {o o' : Nat} (k : Nat) (h : o' ≠ o) : rd (bump s o k) o' = rd s o' := rd_wr_ne h
theorem rd_wrF_ne (s : State) {o o' : Nat} (lo n v : Nat) (h : o' ≠ o) : rd (wrF s o lo n v) o' = rd s o' := rd_wr_ne h

@[simp] theorem rd_bump_self (s : State) (o k : Nat) : rd (bump s o k) o = w64 (satAdd 32 (rd s o).toNat k) := rd_wr_self ..
@[simp] theorem rdB_setB_self (s : State) (o i : Nat) : rdB (setB s o i) o i = (rdB s o i || decide (i < 64)) := by
  simp [rdB, setB_eq]

/-- The registers of the log of uncorrectable events (Table 12-8). -/
def errLogRegs : List Nat := [R.errLogAddr, R.errLogInfo, R.errLogTime]

theorem rd_errLog_ne (s : State) (a source : Nat) (job : Option Nat) {o : Nat} (h : o ∉ errLogRegs) :
    rd (errLog s a source job) o = rd s o := by
  simp only [errLogRegs, List.mem_cons, List.not_mem_nil, or_false, not_or] at h
  obtain ⟨h1, h2, h3⟩ := h
  exact (rd_wr_ne h3).trans ((rd_wr_ne h2).trans (rd_wr_ne h1))

section
variable (s : State) (a source : Nat) (job : Option Nat)
@[simp] theorem errLog_coreRegs : (errLog s a source job).coreRegs = s.coreRegs := by simp [errLog]
@[simp] theorem errLog_mem : (errLog s a source job).mem = s.mem := by simp [errLog]
@[simp] theorem errLog_tags : (errLog s a source job).tags = s.tags := by simp [errLog]
@[simp] theorem errLog_faults : (errLog s a source job).faults = s.faults := by simp [errLog]
end

end Sys2Proof.Machine
end

/-! ### The statement of the dies and the counter hash -/

/-- Settles O58: the die by division with remainder, the hash's words by evaluation. -/
theorem Sys2Proof.Machine.diesAndHashVectors : Obligations.DiesAndHashVectors := by
  refine ⟨fun x y hx hy => ?_, ?_, ?_, ?_, ?_, ?_, ?_⟩
  · unfold Sys2Proof.Machine.dieOf
    omega
  all_goals decide

section
/-! SUPPORT. Scrubbing: what the loss of a DDR5 beat or of a word of core memory leaves (R314, R324, R328), and the rows of
patrol and of the scrub (R330, R331, R433). -/
namespace Sys2Proof.Machine

/-! ### The rows -/

section
variable {s : State} (hl : live s = true)
include hl
theorem exec_patrolScrubRead (ecc : Ecc) (inTag : Bool) :
    exec (.patrolScrubRead ecc inTag) s = .next (after s (patrolRead s ecc inTag)) :=
  (rfl : exec _ s = execPatrolScrubRead ecc inTag s).trans (act_after _ hl)
theorem exec_sramScrubRead (a : Nat) (ecc : Ecc) (raced : Bool) :
    exec (.sramScrubRead a ecc raced) s = .next (after s (sramScrub s a ecc)) :=
  (rfl : exec _ s = execSramScrubRead a ecc raced s).trans (act_after _ hl)
theorem exec_ddrCalibration (ch : Fin 4) (zq : Bool) : exec (.ddrCalibration ch zq) s = .next s :=
  (rfl : exec _ s = execDdrCalibration ch zq s).trans (act_self hl rfl)
end

/-! ### A beat of DDR5 that is lost (R314, R324) -/

theorem beatChannel_lt (s : State) (a : Nat) (inTag : Bool) : beatChannel s a inTag < 4 :=
  Nat.xor_lt_two_pow (n := 2) (Nat.mod_lt _ (by decide)) (Nat.mod_lt _ (by decide))

/-- What the loss of a beat does to data and tag, before it is counted and logged. -/
def beatGone (s : State) (a b : Nat) (inTag : Bool) : State :=
  if inTag then tagLost s a else poisonNew (loseBeat s b) a

theorem ddrLost_eq (s : State) (a b : Nat) (inTag : Bool) (source : Nat) : ddrLost s a b inTag source =
    errLog (setB (bump (beatGone s a b inTag) (R.ddrUe (beatChannel s a inTag)) 1) R.memAlarm 0) a source none := rfl

theorem loseBeat_frame (s : State) (b : Nat) :
    loseBeat s b = { s with mem := (loseBeat s b).mem, free := s.free + 1 } := by
  unfold loseBeat freshValue
  rw [stU, stN_frame]

theorem ldB_loseBeat_ne (s : State) {b x : Nat} (h : x / 4 ≠ b / 4) : ldB (loseBeat s b) x = ldB s x :=
  ldB_stU_out _ _ _ _ _ (by omega)

/-- What the loss of the beat at `b` of the block at `a`, or of a beat of its tag, leaves. -/
structure BeatGone (s t : State) (a b : Nat) (inTag : Bool) : Prop where
  rd : ∀ o, o ≠ R.poisonSet → rd t o = rd s o
  frame : t = { s with regs := t.regs, mem := t.mem, tags := t.tags, free := t.free }
  bytes : ∀ x, (inTag = true ∨ x / 4 ≠ b / 4) → ldB t x = ldB s x
  mem : inTag = true → t.mem = s.mem
  poisoned : bitAt (tagAt t a) 56 = true
  tag : inTag = true → tagAt t a = lostTag
  tags : ∀ x, x / 256 ≠ a / 256 → tagAt t x = tagAt s x

theorem bitAt_poison (w : W64) : bitAt (setBit w 56) 56 = true := by simp

theorem setTag_only (s : State) (a : Nat) (w : W64) : setTag s a w = { s with
    regs := (setTag s a w).regs, mem := (setTag s a w).mem, tags := (setTag s a w).tags, free := (setTag s a w).free } := rfl

theorem bump_setTag_only (s : State) (a : Nat) (w : W64) (o : Nat) : bump (setTag s a w) o 1 = { s with
    regs := (bump (setTag s a w) o 1).regs, mem := (bump (setTag s a w) o 1).mem, tags := (bump (setTag s a w) o 1).tags
    free := (bump (setTag s a w) o 1).free } := rfl

theorem tagLost_gone (s : State) (a b : Nat) : BeatGone s (tagLost s a) a b true := by
  unfold tagLost
  split
  · exact ⟨fun o _ => rd_of_regs (setTag_regs ..) o, setTag_only .., fun x _ => ldB_of_mem (setTag_mem ..) x, fun _ => setTag_mem .., by rw [tagAt_setTag_self]; exact bitAt_poison _,
      fun _ => tagAt_setTag_self .., fun x hx => tagAt_setTag_ne _ _ hx⟩
  · have ht (x : Nat) : tagAt (bump (setTag s a lostTag) R.poisonSet 1) x = tagAt (setTag s a lostTag) x :=
      tagAt_of_tags (bump_tags ..) x
    exact ⟨fun o h => (rd_bump_ne _ _ h).trans (rd_of_regs (setTag_regs ..) o), bump_setTag_only ..,
      fun x _ => ldB_of_mem ((bump_mem ..).trans (setTag_mem ..)) x, fun _ => (bump_mem ..).trans (setTag_mem ..),
      by rw [ht, tagAt_setTag_self]; exact bitAt_poison _, fun _ => by rw [ht, tagAt_setTag_self],
      fun x hx => by rw [ht, tagAt_setTag_ne _ _ hx]⟩

theorem poisonNew_gone (s : State) (a b : Nat) : BeatGone s (poisonNew (loseBeat s b) a) a b false := by
  have htag (x : Nat) : tagAt (loseBeat s b) x = tagAt s x := tagAt_of_tags (by rw [loseBeat_frame]) x
  have hrd (o : Nat) : rd (loseBeat s b) o = rd s o := rd_of_regs (by rw [loseBeat_frame]) o
  have hb (x : Nat) (h : false = true ∨ x / 4 ≠ b / 4) : ldB (loseBeat s b) x = ldB s x :=
    ldB_loseBeat_ne s (h.resolve_left Bool.false_ne_true)
  unfold poisonNew
  split
  · rename_i hp
    exact ⟨fun o _ => hrd o, by rw [loseBeat_frame], hb, nofun, hp, nofun, fun x _ => htag x⟩
  · have ht (x : Nat) : tagAt (poisonBlock (loseBeat s b) a) x = tagAt (setTag (loseBeat s b) a (setBit (tagAt (loseBeat s b) a) 56)) x :=
      rfl
    exact ⟨fun o h => (rd_bump_ne _ _ h).trans (hrd o), by rw [poisonBlock, loseBeat_frame]; rfl, hb, nofun,
      by rw [ht, tagAt_setTag_self]; exact bitAt_poison _, nofun,
      fun x hx => by rw [ht, tagAt_setTag_ne _ _ hx, htag]⟩

theorem beatGone_gone (s : State) (a b : Nat) : ∀ inTag, BeatGone s (beatGone s a b inTag) a b inTag
  | true => tagLost_gone s a b
  | false => poisonNew_gone s a b

/-- The hub registers that the loss of a beat on channel `k` changes. -/
def beatRegs (k : Nat) : List Nat := [R.poisonSet, R.ddrUe k, R.memAlarm] ++ errLogRegs

section
variable (s : State) (a b : Nat) (inTag : Bool) (source : Nat)

theorem rd_ddrLost_ne {o : Nat} (h : o ∉ beatRegs (beatChannel s a inTag)) : rd (ddrLost s a b inTag source) o = rd s o := by
  simp only [beatRegs, List.cons_append, List.nil_append, List.mem_cons, not_or] at h
  obtain ⟨h1, h2, h3, h4⟩ := h
  rw [ddrLost_eq, rd_errLog_ne _ _ _ _ h4, rd_setB_ne _ _ h3, rd_bump_ne _ _ h2, (beatGone_gone s a b inTag).rd o h1]

/-- The loss is counted on the beat's channel. -/
theorem rd_ddrLost_ddrUe : rd (ddrLost s a b inTag source) (R.ddrUe (beatChannel s a inTag)) =
    w64 (satAdd 32 (rd s (R.ddrUe (beatChannel s a inTag))).toNat 1) := by
  have hk := beatChannel_lt s a inTag
  have hn : R.ddrUe (beatChannel s a inTag) ∉ errLogRegs := by
    simp [errLogRegs, R.ddrUe, R.errLogAddr, R.errLogInfo, R.errLogTime]; omega
  have ha : R.ddrUe (beatChannel s a inTag) ≠ R.memAlarm := by unfold R.ddrUe R.memAlarm; omega
  have hp : R.ddrUe (beatChannel s a inTag) ≠ R.poisonSet := by unfold R.ddrUe R.poisonSet; omega
  rw [ddrLost_eq, rd_errLog_ne _ _ _ _ hn, rd_setB_ne _ _ ha, rd_bump_self, (beatGone_gone s a b inTag).rd _ hp]

/-- The loss sets `MEM_ALARM.DDR_UE`. -/
theorem rdB_ddrLost_memAlarm : rdB (ddrLost s a b inTag source) R.memAlarm 0 = true := by
  rw [ddrLost_eq, rdB, rd_errLog_ne _ _ _ _ (by decide)]
  exact (rdB_setB_self ..).trans (by simp)

theorem ddrLost_frame : ddrLost s a b inTag source = { s with
    regs := (ddrLost s a b inTag source).regs, mem := (beatGone s a b inTag).mem, tags := (beatGone s a b inTag).tags
    free := (beatGone s a b inTag).free } := by
  have h := (beatGone_gone s a b inTag).frame
  generalize hg : beatGone s a b inTag = g at h
  rw [ddrLost_eq, hg, h]
  rfl

theorem ddrLost_coreRegs : (ddrLost s a b inTag source).coreRegs = s.coreRegs := by rw [ddrLost_frame]

end

end Sys2Proof.Machine
end

section
/-! SUPPORT. Scrubbing: patrol of DDR5 (R330, R331), and the scrub of a core's memory (R328, R433). -/
namespace Sys2Proof.Machine

/-! ### Patrol (R330) -/

/-- What patrol's read of the block at `a` finds there. -/
def patrolFound (s : State) (ecc : Ecc) (inTag : Bool) (a : Nat) : State :=
  match ecc with
  | .clean => s
  | .corrected => ddrCorrected s a inTag
  | .uncorrectable => ddrLost (freshValue s).2 a (a + (freshValue s).1.toNat % 64 * 4) inTag 1

section
variable {s : State} (ecc : Ecc) (inTag : Bool) {a : Nat}

/-- Patrol within its pass moves on by a block. -/
theorem patrolRead_within (hd : s.power.patrolDone = false) (ha : a = rdF s R.patrolStatus 0 48)
    (he : a + 256 < (rd s R.ddrDataEnd).toNat) :
    patrolRead s ecc inTag = wrF (patrolFound s ecc inTag a) R.patrolStatus 0 48 (a + 256) := by
  subst ha
  unfold patrolRead
  rw [if_neg (by simp [hd]; omega)]
  simp only [hd, Bool.false_eq_true, if_false]
  rw [if_neg (by omega)]
  cases ecc <;> rfl

/-- Patrol's pass ends with the last block of the data region. -/
theorem patrolRead_last (hd : s.power.patrolDone = false) (ha : a = rdF s R.patrolStatus 0 48)
    (he : (rd s R.ddrDataEnd).toNat = a + 256) : ∃ u : State, u.power.patrolDone = true
      ∧ (∀ o, rd u o = rd (patrolFound s ecc inTag a) o)
      ∧ patrolRead s ecc inTag = wr u R.patrolStatus (w64 ((rdF u R.patrolStatus 48 16 + 1) % 65536 * 2 ^ 48)) := by
  subst ha
  unfold patrolRead
  rw [if_neg (by simp [hd]; omega)]
  simp only [hd, Bool.false_eq_true, if_false]
  rw [if_pos (by omega)]
  exact ⟨_, rfl, by cases ecc <;> exact fun _ => rfl, rfl⟩

theorem beatRegs_apart (k : Nat) (hk : k < 4) : R.patrolStatus ∉ beatRegs k ∧ R.patrolStatus ≠ R.ddrCe k := by
  simp [beatRegs, errLogRegs, R.patrolStatus, R.ddrCe, R.ddrUe, R.poisonSet, R.memAlarm, R.errLogAddr, R.errLogInfo,
    R.errLogTime]
  omega

/-- What patrol finds leaves its own place as it was. -/
theorem rd_patrolFound_status : rd (patrolFound s ecc inTag a) R.patrolStatus = rd s R.patrolStatus := by
  cases ecc with
  | clean => rfl
  | corrected => exact rd_bump_ne _ _ (beatRegs_apart _ (beatChannel_lt ..)).2
  | uncorrectable => exact rd_ddrLost_ne _ _ _ _ _ (beatRegs_apart _ (beatChannel_lt ..)).1

theorem patrolFound_coreRegs : (patrolFound s ecc inTag a).coreRegs = s.coreRegs := by
  cases ecc with
  | clean => rfl
  | corrected => rfl
  | uncorrectable => exact ddrLost_coreRegs ..

theorem patrolFound_mem (h : ecc ≠ .uncorrectable ∨ inTag = true) : (patrolFound s ecc inTag a).mem = s.mem := by
  cases ecc with
  | clean => rfl
  | corrected => rfl
  | uncorrectable => exact (beatGone_gone ..).mem (h.resolve_left (by simp))

/-- A lost beat lies in the block that patrol reads. -/
theorem ldB_patrolFound (h4 : a % 256 = 0) {x : Nat} (hx : x < a ∨ a + 256 ≤ x) :
    ldB (patrolFound s ecc inTag a) x = ldB s x := by
  cases ecc with
  | clean => rfl
  | corrected => rfl
  | uncorrectable => exact (beatGone_gone ..).bytes x (.inr (by omega))

/-- The loss that patrol finds: the block is poisoned, the alarm is set and the channel's counter moves. -/
theorem patrolFound_uncorrectable : bitAt (tagAt (patrolFound s .uncorrectable inTag a) a) 56 = true
    ∧ rdB (patrolFound s .uncorrectable inTag a) R.memAlarm 0 = true
    ∧ rd (patrolFound s .uncorrectable inTag a) (R.ddrUe (beatChannel s a inTag)) =
      w64 (satAdd 32 (rd s (R.ddrUe (beatChannel s a inTag))).toNat 1)
    ∧ (inTag = true → tagAt (patrolFound s .uncorrectable inTag a) a = setBit 0 56)
    ∧ ∀ x, x / 256 ≠ a / 256 → tagAt (patrolFound s .uncorrectable inTag a) x = tagAt s x :=
  have h := beatGone_gone (freshValue s).2 a (a + (freshValue s).1.toNat % 64 * 4) inTag
  ⟨h.poisoned, rdB_ddrLost_memAlarm .., rd_ddrLost_ddrUe .., h.tag, h.tags⟩

end

section
variable {s : State} (hl : live s = true) (ecc : Ecc) (inTag : Bool)
include hl

/-- A read within the pass: patrol's address moves on, and what it found is counted. -/
theorem patrolScrubRead_within {a : Nat} (hd : s.power.patrolDone = false) (ha : a = rdF s R.patrolStatus 0 48)
    (hb : inDdr s a 1) (he : a + 256 < (rd s R.ddrDataEnd).toNat) :
    ∃ t, exec (.patrolScrubRead ecc inTag) s = .next t
      ∧ rdF t R.patrolStatus 0 48 = a + 256 ∧ rdF t R.patrolStatus 48 16 = rdF s R.patrolStatus 48 16
      ∧ (ecc ≠ .uncorrectable ∨ inTag = true → t.mem = s.mem) ∧ t.coreRegs = s.coreRegs
      ∧ (∀ x, (x < a ∨ a + 256 ≤ x) → ldB t x = ldB s x)
      ∧ (ecc = .clean → t.tags = s.tags ∧ hubRegsKept s t [R.patrolStatus])
      ∧ (ecc = .corrected → t.tags = s.tags ∧ hubRegsKept s t [R.patrolStatus, R.ddrCe (beatChannel s a inTag)]
        ∧ rd t (R.ddrCe (beatChannel s a inTag)) = w64 (satAdd 32 (rd s (R.ddrCe (beatChannel s a inTag))).toNat 1))
      ∧ (ecc = .uncorrectable → bitAt (tagAt t a) 56 = true ∧ rdB t R.memAlarm 0 = true
        ∧ rd t (R.ddrUe (beatChannel s a inTag)) = w64 (satAdd 32 (rd s (R.ddrUe (beatChannel s a inTag))).toNat 1)
        ∧ (inTag = true → tagAt t a = setBit 0 56) ∧ ∀ x, x / 256 ≠ a / 256 → tagAt t x = tagAt s x) := by
  obtain ⟨h256, -, hhub⟩ := hb
  have hsmall : a + 256 < 2 ^ 48 := by unfold hubSram at hhub; omega
  have hk := beatChannel_lt s a inTag
  have hpba : R.patrolStatus ≠ R.msixPba := by decide
  refine ⟨_, exec_patrolScrubRead hl ecc inTag, ?_⟩
  rw [patrolRead_within ecc inTag hd ha he]
  have hrd {o : Nat} (h1 : o ≠ R.patrolStatus) (h2 : o ≠ R.msixPba) :
      rd (after s (wrF (patrolFound s ecc inTag a) R.patrolStatus 0 48 (a + 256))) o = rd (patrolFound s ecc inTag a) o := by
    rw [rd_after _ _ h2, rd_wrF_ne _ _ _ _ h1]
  have htag (x : Nat) : tagAt (after s (wrF (patrolFound s ecc inTag a) R.patrolStatus 0 48 (a + 256))) x =
      tagAt (patrolFound s ecc inTag a) x := (tagAt_after ..).trans (tagAt_of_tags (wrF_tags ..) x)
  refine ⟨?_, ?_, fun h => ?_, ?_, fun x hx => ?_, ?_, ?_, ?_⟩
  · rw [rdF_after _ _ _ _ hpba, rdF, wrF_eq, rd_wr_self, fld_putFld_self _ _ (by decide), Nat.mod_eq_of_lt hsmall]
  · rw [rdF_after _ _ _ _ hpba, rdF, wrF_eq, rd_wr_self, fld_putFld_apart _ _ (by decide), rd_patrolFound_status, rdF]
  · rw [after_mem, wrF_mem, patrolFound_mem ecc inTag h]
  · rw [after_coreRegs, wrF_coreRegs, patrolFound_coreRegs]
  · rw [ldB_after, ldB_of_mem (wrF_mem ..), ldB_patrolFound ecc inTag h256 hx]
  · rintro rfl
    exact ⟨by simp [patrolFound], fun o ho hp => hrd (by simpa using ho) hp⟩
  · rintro rfl
    refine ⟨by simp [patrolFound, ddrCorrected], fun o ho hp => ?_, ?_⟩
    · simp only [List.mem_cons, List.not_mem_nil, or_false, not_or] at ho
      exact (hrd ho.1 hp).trans (rd_bump_ne _ _ ho.2)
    · rw [hrd (by unfold R.ddrCe R.patrolStatus; omega) (by unfold R.ddrCe R.msixPba; omega)]
      exact rd_bump_self ..
  · rintro rfl
    obtain ⟨hp, halarm, hue, htag1, htag2⟩ := patrolFound_uncorrectable (s := s) inTag (a := a)
    refine ⟨by rw [htag, hp], ?_, ?_, fun h => by rw [htag, htag1 h], fun x hx => by rw [htag, htag2 x hx]⟩
    · rw [rdB, hrd (by decide) (by decide)]
      exact halarm
    · rw [hrd (by unfold R.ddrUe R.patrolStatus; omega) (by unfold R.ddrUe R.msixPba; omega), hue]

/-- The read of the last block ends the pass. -/
theorem patrolScrubRead_last {a : Nat} (hd : s.power.patrolDone = false) (ha : a = rdF s R.patrolStatus 0 48)
    (he : (rd s R.ddrDataEnd).toNat = a + 256) : ∃ t, exec (.patrolScrubRead ecc inTag) s = .next t
      ∧ t.power.patrolDone = true ∧ rdF t R.patrolStatus 0 48 = 0
      ∧ rdF t R.patrolStatus 48 16 = (rdF s R.patrolStatus 48 16 + 1) % 65536 := by
  obtain ⟨u, hu, hrd, heq⟩ := patrolRead_last ecc inTag hd ha he
  have hpba : R.patrolStatus ≠ R.msixPba := by decide
  refine ⟨_, exec_patrolScrubRead hl ecc inTag, ?_⟩
  rw [heq, rdF_after _ _ _ _ hpba, rdF_after _ _ _ _ hpba]
  simp only [rdF, rd_wr_self, hrd, rd_patrolFound_status, fld_eq_div, w64, BitVec.toNat_ofNat]
  exact ⟨by rw [after_power, wr_power, hu], by omega, by omega⟩

/-- Between the end of a pass and the end of its period patrol reads nothing. -/
theorem patrolScrubRead_rests (hd : s.power.patrolDone = true) (hn : nowNs s < s.power.patrolFrom + patrolPeriod s) :
    exec (.patrolScrubRead ecc inTag) s = .next s := by
  have h : patrolRead s ecc inTag = s := if_pos (.inr ⟨hd, by omega⟩)
  rw [exec_patrolScrubRead hl, h, after_self]

omit hl in
theorem rd_withPower (s : State) (p : Power) (o : Nat) : rd { s with power := p } o = rd s o := rfl

/-- A period that ends before its pass sets the alarm, and the next one begins. -/
theorem patrolLate_sets (hd : s.power.patrolDone = false) (hz : rd s R.ddrDataEnd ≠ 0)
    (hn : s.power.patrolFrom + patrolPeriod s ≤ nowNs s) : ∃ t, exec .patrolLate s = .next t
      ∧ rdB t R.memAlarm 4 = true ∧ t.power.patrolFrom = s.power.patrolFrom + patrolPeriod s
      ∧ hubRegsKept s t [R.memAlarm] ∧ t.mem = s.mem := by
  refine ⟨_, (rfl : exec _ s = execPatrolLate s).trans (act_after _ hl), ?_⟩
  dsimp only
  rw [if_pos ⟨by simp [hd], hz, hn⟩]
  refine ⟨?_, by simp, hubRegsKept_after fun o ho => ?_, by simp⟩
  · rw [rdB_after _ _ _ (by decide), rdB_setB_self]
    simp
  · rw [rd_setB_ne _ _ (by simpa using ho), rd_withPower]

theorem patrolLate_early (hn : nowNs s < s.power.patrolFrom + patrolPeriod s) : exec .patrolLate s = .next s :=
  (rfl : exec _ s = execPatrolLate s).trans (act_self hl (if_neg fun h => by omega))

end

/-! ### The scrub of a core's memory (R328, R331) -/

theorem regionOf_core (s : State) {n off : Nat} (hn : n < 1024) (ho : off < 0x80000) :
    regionOf s (coreBase n + off) = .coreMem n off := by
  have hc : coreBase n = 0x002000000000 + n * 0x100000 := rfl
  have hoff : (coreBase n + off - 0x002000000000) % 0x100000 = off := by omega
  unfold regionOf
  iterate 5 rw [if_neg (by omega)]
  rw [if_pos (by omega), hoff, if_pos ho, show (coreBase n + off - 0x002000000000) / 0x100000 = n by omega]

theorem wakeIsland_awake {s : State} {n : Nat} (h : island s n < 2) : wakeIsland s n = s := if_pos h

/-- What the scrub of the word at `off` of core `n` leaves, by what its code reports. -/
def sramFound (s : State) (n off : Nat) : Ecc → State
  | .clean => s
  | .corrected => bump s (R.sramCe (dieOf n)) 1
  | .uncorrectable => coreWordLost s n off 3 (startStepOf s n)

/-- The scrub of a word of a core that runs meets what its code reports. -/
theorem sramScrub_core {s : State} {n off : Nat} (hn : n < 1024) (h8 : off % 8 = 0) (ho : off < 0x78000)
    (hh : (core s n).halted = false) (ht : (core s n).testing = false) (hi : island s n < 2) (ecc : Ecc) :
    sramScrub s (coreBase n + off) ecc = sramFound s n off ecc := by
  unfold sramScrub
  rw [if_neg (by unfold coreBase; omega), regionOf_core s hn (by omega)]
  simp only [hh, ht, Bool.false_eq_true, or_false, ge_iff_le, Nat.not_le.2 ho, if_false, wakeIsland_awake hi]
  cases ecc <;> rfl

theorem dieOf_lt {n : Nat} (h : n < 1024) : dieOf n < 4 := by unfold dieOf; omega

theorem loseWord_frame (s : State) (a : Nat) : loseWord s a = { s with mem := (loseWord s a).mem, free := s.free + 1 } := by
  unfold loseWord freshValue
  rw [stU, stN_frame]

theorem ldB_loseWord_out (s : State) {a x : Nat} (h : x < a ∨ a + 8 ≤ x) : ldB (loseWord s a) x = ldB s x :=
  ldB_stU_out _ _ _ _ _ h

section
variable {s : State} (n : Nat) (a source : Nat)

theorem noteCoreLoss_coreRegs : (noteCoreLoss s n a source).coreRegs = s.coreRegs := by simp [noteCoreLoss]
theorem noteCoreLoss_mem : (noteCoreLoss s n a source).mem = s.mem := by simp [noteCoreLoss]
theorem noteCoreLoss_faults : (noteCoreLoss s n a source).faults = s.faults := by simp [noteCoreLoss]

/-- The loss is counted on the core's die. -/
theorem rd_noteCoreLoss_sramUe (hn : n < 1024) :
    rd (noteCoreLoss s n a source) (R.sramUe (dieOf n)) = w64 (satAdd 32 (rd s (R.sramUe (dieOf n))).toNat 1) := by
  have hd := dieOf_lt hn
  have h1 : R.sramUe (dieOf n) ∉ errLogRegs := by
    simp [errLogRegs, R.sramUe, R.errLogAddr, R.errLogInfo, R.errLogTime]; omega
  unfold noteCoreLoss
  rw [rd_errLog_ne _ _ _ _ h1, rd_setB_ne _ _ (by unfold R.sramUe R.memAlarm; omega), rd_bump_self]

/-- The loss sets `MEM_ALARM.SRAM_UE`. -/
theorem rdB_noteCoreLoss_memAlarm : rdB (noteCoreLoss s n a source) R.memAlarm 1 = true := by
  unfold noteCoreLoss
  rw [rdB, rd_errLog_ne _ _ _ _ (by decide)]
  exact (rdB_setB_self ..).trans (by simp)
end

/-- A lost word of a core that no job owns is counted and open, and faults nothing. -/
theorem coreWordLost_unassigned {s : State} {n : Nat} (h : assigned s n = false) (off source : Nat) (t : BitVec 32) :
    coreWordLost s n off source t =
      loseWord (noteCoreLoss s n (coreBase n + off) source) (coreBase n + off) := by
  have ha : assigned (loseWord (noteCoreLoss s n (coreBase n + off) source) (coreBase n + off)) n = false := by
    rw [assigned, crB, cr_of_coreRegs (s := s) (by rw [loseWord_frame, noteCoreLoss_coreRegs])]
    exact h
  unfold coreWordLost
  exact if_pos (by simp [ha])

section
variable {s : State} (hl : live s = true) (n : CoreId) {off : Nat} (raced : Bool) (h8 : off % 8 = 0) (ho : off < 0x78000)
  (hh : (core s n.val).halted = false) (ht : (core s n.val).testing = false) (hi : island s n.val < 2)
include hl h8 ho hh ht hi

theorem sramScrubRead_clean : exec (.sramScrubRead (coreBase n.val + off) .clean raced) s = .next s := by
  rw [exec_sramScrubRead hl, sramScrub_core n.isLt h8 ho hh ht hi, sramFound, after_self]

/-- A corrected word is counted on its die. -/
theorem sramScrubRead_corrected : ∃ t, exec (.sramScrubRead (coreBase n.val + off) .corrected raced) s = .next t
    ∧ rd t (R.sramCe (dieOf n.val)) = w64 (satAdd 32 (rd s (R.sramCe (dieOf n.val))).toNat 1)
    ∧ hubRegsKept s t [R.sramCe (dieOf n.val)] ∧ t.mem = s.mem ∧ t.coreRegs = s.coreRegs := by
  have hd := dieOf_lt n.isLt
  refine ⟨_, exec_sramScrubRead hl _ _ _, ?_⟩
  rw [sramScrub_core n.isLt h8 ho hh ht hi, sramFound]
  refine ⟨?_, hubRegsKept_after fun o ho => rd_bump_ne _ _ (by simpa using ho), by simp, by simp⟩
  rw [rd_after _ _ (by unfold R.sramCe R.msixPba; omega), rd_bump_self]

/-- An uncorrectable word of a core that no job owns is counted and lost. -/
theorem sramScrubRead_lost (ha : assigned s n.val = false) :
    ∃ t, exec (.sramScrubRead (coreBase n.val + off) .uncorrectable raced) s = .next t
      ∧ rd t (R.sramUe (dieOf n.val)) = w64 (satAdd 32 (rd s (R.sramUe (dieOf n.val))).toNat 1)
      ∧ rdB t R.memAlarm 1 = true ∧ (∀ a, (a < coreBase n.val + off ∨ coreBase n.val + off + 8 ≤ a) → ldB t a = ldB s a)
      ∧ t.coreRegs = s.coreRegs ∧ t.faults = s.faults := by
  have hd := dieOf_lt n.isLt
  refine ⟨_, exec_sramScrubRead hl _ _ _, ?_⟩
  rw [sramScrub_core n.isLt h8 ho hh ht hi, sramFound]
  rw [coreWordLost_unassigned ha]
  have hrd (o : Nat) : rd (loseWord (noteCoreLoss s n.val (coreBase n.val + off) 3) (coreBase n.val + off)) o =
      rd (noteCoreLoss s n.val (coreBase n.val + off) 3) o := rd_of_regs (by rw [loseWord_frame]) o
  refine ⟨?_, ?_, fun a hx => ?_, ?_, ?_⟩
  · rw [rd_after _ _ (by unfold R.sramUe R.msixPba; omega), hrd, rd_noteCoreLoss_sramUe _ _ _ n.isLt]
  · rw [rdB_after _ _ _ (by decide), rdB, hrd]
    exact rdB_noteCoreLoss_memAlarm ..
  · rw [ldB_after, ldB_loseWord_out _ hx, ldB_of_mem (noteCoreLoss_mem ..)]
  · rw [after_coreRegs, loseWord_frame, noteCoreLoss_coreRegs]
  · rw [after_faults, loseWord_frame, noteCoreLoss_faults]

end

/-! ### The obligation -/

/-- Settles O53: patrol's reads by what they find, the period's end, the scrub of a core's words, and the pause of a
channel. -/
theorem scrubbing : Obligations.Scrubbing := by
  intro s hl
  refine ⟨fun ecc inTag a hd ha hb => ⟨patrolScrubRead_within hl ecc inTag hd ha hb, patrolScrubRead_last hl ecc inTag hd ha⟩,
    fun ecc inTag hd hn => patrolScrubRead_rests hl ecc inTag hd hn, patrolLate_sets hl, patrolLate_early hl,
    fun n off raced h8 ho hh ht hi => ⟨sramScrubRead_clean hl n raced h8 ho hh ht hi,
      sramScrubRead_corrected hl n raced h8 ho hh ht hi, sramScrubRead_lost hl n raced h8 ho hh ht hi⟩,
    exec_ddrCalibration hl⟩

end Sys2Proof.Machine
end

section
/-! SUPPORT. A read of a halted core's region past its memory and registers, which no address of the core answers
(R26, R27, R33). -/
namespace Sys2Proof.Machine

/-- A serving package with core 0 halted, and slot 0 of the window at 0x80000 of the core's 1 MiB. -/
def pastHaltedCore : State :=
  { chip := { phase := .running }, regs := [(R.winSlot 0, w64 (0x200008 * 2 ^ 16 + 2 ^ 48))]
    cores := [(0, { halted := true })] }

/-- The window reaches the region past the core's registers. -/
theorem pastHaltedCore_windowed : windowed pastHaltedCore 0 (coreBase 0 + 0x80000) 1 := by
  unfold windowed
  decide

/-- The address is unmapped, so the read is answered at once: no access waits at the core. -/
theorem pastHaltedCore_answers : (core (hostRead pastHaltedCore 0 1 []) 0).hostWaits = [] := by decide

/-- Refutes O51: the clause of a read that waits for a halted core covers the whole MiB of the core, but past 0x80000 the
region is unmapped, and a read there is answered without waiting. -/
theorem not_hostWindow : ¬ Obligations.HostWindow := by
  intro h
  have hl : live pastHaltedCore = true := rfl
  obtain ⟨-, -, hread, -⟩ := h pastHaltedCore hl
  obtain ⟨t, he, -, -, hw⟩ := hread 0 1 _ [] pastHaltedCore_windowed 0 0x80000 rfl (by decide) rfl
  have ht : exec (.hostWindowRead 0 1 []) pastHaltedCore = .next (after pastHaltedCore (hostRead pastHaltedCore 0 1 [])) :=
    (rfl : exec _ _ = execHostWindowRead 0 1 [] pastHaltedCore).trans (actServed_after _ hl)
  cases ht.symm.trans he
  rw [core_after] at hw
  have hempty := pastHaltedCore_answers.symm.trans hw
  simp at hempty

end Sys2Proof.Machine
end

section
/-! SUPPORT. A flit that goes from a core's local input to its local output makes room, and what waits at the local port
enters in the same row (R191, R196, R197). -/
namespace Sys2Proof.Machine

/-- A SPLIT_VALUE flit on VC0, which is not its TYPE's (Table 8-2). -/
def strayVcFlit : Flit := w64 (mkHead 2 0 false 0 0)
/-- A flit of an unknown TYPE on VC3. -/
def unknownFlit : Flit := w64 (mkHead 0xC 3 false 0 0)

/-- The head of core 0's local input: it goes to the local output. -/
def strayHead : Held := ⟨strayVcFlit, [4], 0, 8⟩

/-- A serving package where core 0's local input holds `strayHead`, and a flit of unknown TYPE waits at its local port. -/
def twoBadFlits : State :=
  { chip := { phase := .running }
    mesh := { bufs := [(bufKey 0 4 0, [strayHead])], offers := [⟨0, 0, unknownFlit⟩] } }

theorem twoBadFlits_pick : pickVc0 (gainTokens (peerShape twoBadFlits 0 0) 0 4 0) 0 4 = some ⟨4, 0, strayHead, 0⟩ := by decide

/-- Both flits are counted: the one that leaves, and the one that enters in its place. -/
theorem twoBadFlits_counts : rd (sendSlot twoBadFlits 0 4 0) (R.rtrBadType 0) = 2 := by decide

theorem exec_flitSend_router {s : State} (hl : live s = true) (n : CoreId) (out : Port) (cyc : Nat) :
    exec (.flitSend (.router n) out cyc) s = .next (after s (sendSlot s n.val (portIx out) cyc)) := by
  have hn : flitSend s n.val (portIx out) cyc = sendSlot s n.val (portIx out) cyc := by
    rw [flitSend, if_neg (by omega)]
  rw [← hn]
  exact (rfl : exec _ s = execFlitSend (.router n) out cyc s).trans (act_after _ hl)

/-- Refutes O46: a flit discarded for its VC at the local output is said to count once in `RTR_BAD_TYPE`. Where it came from
the local input, a flit of unknown TYPE that waits there enters in the same row, and the counter goes up by two. -/
theorem not_meshFlitsMove : ¬ Obligations.MeshFlitsMove := by
  intro h
  have hl : live twoBadFlits = true := rfl
  obtain ⟨-, -, -, hsend, -⟩ := h twoBadFlits hl
  obtain ⟨v, he, -, -, -, hbad, -⟩ := hsend (.router 0) .loc 0 0 4 ⟨4, 0, strayHead, 0⟩ _ _ rfl rfl (.inl (by decide)) rfl
    (by decide) rfl (.inl twoBadFlits_pick)
  cases (exec_flitSend_router hl 0 .loc 0).symm.trans he
  obtain ⟨-, hcount⟩ := hbad rfl (by decide)
  rw [rd_after _ _ (by decide)] at hcount
  have hone := twoBadFlits_counts.symm.trans hcount
  exact absurd hone (by decide)

end Sys2Proof.Machine
end

section
/-! SUPPORT. The completion of a command that ends as it begins: the record it keeps, and the state it leaves. -/
namespace Sys2Proof.Machine

/-- What a command from `src` that ends in `v` leaves, its completion written and the interrupts settled. -/
def ended (s : State) (src : Src) (c : Cmd) (v : State) (p : List W64) (ch : Option Change) : State :=
  after s (complete v src c.opcode c.tag c.digest 0 0 p ch)

section
variable {s : State} {src : Src} {op : Nat} {masks : List Nat} {locks : Cmd → List Lock} {c : Cmd}

theorem act_ends {body : Cmd → State → Ans} {v : State} {p : List W64} {ch : Option Change} (hl : live s = true)
    (h : starts s src op masks (locks c) c) (hb : body c (takeFront s src) = .ends v 0 0 p ch) :
    act s (serve op masks locks body src) = .next (ended s src c v p ch) := by
  rw [act_after _ hl, serve_starts h, hb, runCmd_ends h, ended]

theorem act_reads {body : Cmd → State → Ans} {p : List W64} (hl : live s = true)
    (h : starts s src op masks (locks c) c) (hb : body c (takeFront s src) = .reads (takeFront s src) p) :
    ∃ t, act s (serve op masks locks body src) = .next t ∧ readsOnly s t src c p :=
  ⟨_, (act_after _ hl).trans (by rw [serve_starts h, hb]), readsOnly_of h p⟩

end

section
variable (s : State) (src : Src) (c : Cmd) (v : State) (p : List W64) (ch : Option Change)

@[simp] theorem ended_coreRegs : (ended s src c v p ch).coreRegs = v.coreRegs := by simp [ended]
@[simp] theorem ended_tags : (ended s src c v p ch).tags = v.tags := by simp [ended]
@[simp] theorem ended_breaths : (ended s src c v p ch).breaths = v.breaths := by simp [ended]
@[simp] theorem ended_jobs : (ended s src c v p ch).jobs = v.jobs := by simp [ended]
@[simp] theorem ended_faults : (ended s src c v p ch).faults = v.faults := by simp [ended]
@[simp] theorem ended_cores : (ended s src c v p ch).cores = v.cores := by simp [ended]
@[simp] theorem ended_mesh : (ended s src c v p ch).mesh = v.mesh := by simp [ended]
@[simp] theorem ended_conv : (ended s src c v p ch).conv = v.conv := by simp [ended]
@[simp] theorem core_ended (n : Nat) : core (ended s src c v p ch) n = core v n := by simp [core]
@[simp] theorem cr_ended (n r : Nat) : cr (ended s src c v p ch) n r = cr v n r := cr_of_coreRegs (by simp) n r

variable {s src c v p ch}

theorem rd_ended {o : Nat} (h : o ∉ boxRegs src) (hp : o ≠ R.msixPba) : rd (ended s src c v p ch) o = rd v o := by
  rw [ended, rd_after _ _ hp, rd_complete_ne _ _ _ _ _ _ _ _ _ _ h]

theorem ldB_ended {a : Nat} (h : ¬ boxByte v src ch.isSome a) : ldB (ended s src c v p ch) a = ldB v a := by
  rw [ended, ldB_after, ldB_complete _ _ _ _ _ _ _ _ _ _ h]

theorem boxByte_mono {j : Bool} {a : Nat} (h : boxByte v src j a) : boxByte v src true a := h.imp id fun h => ⟨rfl, h.2⟩

variable (s src c v p ch) in
theorem ended_leaves : leaves (ended s src c v p ch) v src true :=
  ⟨fun _ h hp => rd_ended h hp, fun _ h => ldB_ended fun k => h (boxByte_mono k), by simp, by simp, by simp, by simp,
    by simp, by simp, by simp⟩

variable (s src c v p ch) in
theorem ended_answeredOk : answeredOk (ended s src c v p ch) src c p :=
  ⟨_, (congrArg (fun m : Mbox => (Sparse.get (fun _ => []) m.kept (srcRecord src)).head?) (after_mbox s _)).trans
    (lastKept_complete v src c.opcode c.tag c.digest 0 0 p ch)⟩

theorem ended_completed (hq : v.mbox.journalSeq = s.mbox.journalSeq) :
    completed s (ended s src c v p ch) src c 0 0 p ch.isSome :=
  completed_of hq (after_mbox _ _)

end

/-! ### What a completion's bytes are apart from -/

/-- A hub register below 0x1000 or from 0x2000 on is none of a completion's. -/
theorem notMem_boxRegs (src : Src) {o : Nat} (h : ¬ inMailbox o) : o ∉ boxRegs src := by
  intro ho
  unfold boxRegs at ho
  unfold inMailbox at h
  cases src with
  | relay e => cases ho
  | ring m =>
    have hm := m.isLt
    simp only [List.mem_append, List.mem_cons, List.not_mem_nil, or_false] at ho
    unfold R.mbCmdCi R.mbCplPi R.mbStatus R.mbStartMax at ho
    split at ho <;> simp at ho <;> omega

/-- A completion's bytes lie in the hub's SRAM, below every core. -/
theorem boxByte_lt {s : State} {src : Src} {j : Bool} {a : Nat} (h : boxByte s src j a) : a < coreBase 0 := by
  unfold boxByte at h
  unfold coreBase
  cases src with
  | relay e =>
    obtain h | ⟨-, -, h⟩ := h
    · cases h
    · unfold journalBase at h; omega
  | ring m =>
    have hm := m.isLt
    obtain ⟨-, -, h⟩ | ⟨-, -, h⟩ := h
    · unfold ringEntry ringBase at h; simp at h; omega
    · unfold journalBase at h; omega

theorem ldB_ended_core {s : State} {src : Src} {c : Cmd} {v : State} {p : List W64} {ch : Option Change} {a : Nat}
    (h : coreBase 0 ≤ a) : ldB (ended s src c v p ch) a = ldB v a := ldB_ended fun k => by have := boxByte_lt k; omega

end Sys2Proof.Machine
end

section
/-! SUPPORT. Debug halts (R24, R402): what the halt and the resume of a core leave, and what the core's status then reads. -/
namespace Sys2Proof.Machine

/-! ### The breaths' bookkeeping, above the mailboxes' registers -/

/-- `t` differs from `s` in the breaths' bookkeeping and in the hub registers from 0x40000 on alone. -/
def BreathNotes (s t : State) : Prop := BreathOnly s t ∧ ∀ o, o < 0x40000 → rd t o = rd s o

namespace BreathNotes

theorem refl (s : State) : BreathNotes s s := ⟨.refl s, fun _ _ => rfl⟩

theorem trans {s t u : State} (h : BreathNotes s t) (k : BreathNotes t u) : BreathNotes s u := by
  obtain ⟨⟨_, _, rfl⟩, hr⟩ := h
  obtain ⟨⟨r, b, rfl⟩, kr⟩ := k
  exact ⟨⟨r, b, rfl⟩, fun o ho => (kr o ho).trans (hr o ho)⟩

theorem wr {s t : State} (h : BreathNotes s t) {o : Nat} (v : W64) (ho : 0x40000 ≤ o) : BreathNotes s (wr t o v) :=
  ⟨h.1.wr o v, fun x hx => (rd_wr_ne (by omega)).trans (h.2 x hx)⟩

theorem setBrth {s t : State} (h : BreathNotes s t) (j : Nat) (x : Breath) : BreathNotes s (setBrth t j x) :=
  ⟨h.1.setBrth j x, h.2⟩

theorem ite {s t u : State} {c : Prop} [Decidable c] (h : BreathNotes s t) (k : BreathNotes s u) :
    BreathNotes s (if c then t else u) := by
  split
  · exact h
  · exact k

section
variable {s t : State} (h : BreathNotes s t)
include h
theorem cores : t.cores = s.cores := by obtain ⟨⟨_, _, rfl⟩, -⟩ := h; rfl
theorem coreRegs : t.coreRegs = s.coreRegs := by obtain ⟨⟨_, _, rfl⟩, -⟩ := h; rfl
theorem mem : t.mem = s.mem := by obtain ⟨⟨_, _, rfl⟩, -⟩ := h; rfl
theorem mesh : t.mesh = s.mesh := by obtain ⟨⟨_, _, rfl⟩, -⟩ := h; rfl
theorem mbox : t.mbox = s.mbox := by obtain ⟨⟨_, _, rfl⟩, -⟩ := h; rfl
theorem faults : t.faults = s.faults := by obtain ⟨⟨_, _, rfl⟩, -⟩ := h; rfl
end

end BreathNotes

/-- The registers in which the breath of block `j` notes a condition of the L0 job. -/
def condRegs (j : Nat) : List Nat := [R.l0Cond j, R.l0StepsOut j, R.jobEvent j]

theorem rd_ite {s t u : State} {c : Prop} [Decidable c] {o : Nat} (h : rd t o = rd s o) (k : rd u o = rd s o) :
    rd (if c then t else u) o = rd s o := by
  split
  · exact h
  · exact k

theorem rd_setBrth (s : State) (j : Nat) (b : Breath) (o : Nat) : rd (setBrth s j b) o = rd s o := rfl

theorem rd_recordOut_ne (s : State) (j : Nat) (u : BitVec 32) (c : Nat) {o : Nat} (h : o ∉ condRegs j) :
    rd (recordOut s j u c) o = rd s o := by
  simp only [condRegs, List.mem_cons, List.not_mem_nil, or_false, not_or] at h
  obtain ⟨hcond, hout, hev⟩ := h
  have hcount : rd (wr (bump s (R.l0StepsOut j) 1) (R.l0Cond j) (w64 (c + u.toNat * 2 ^ 32))) o = rd s o :=
    (rd_wr_ne hcond).trans (rd_bump_ne _ _ hout)
  unfold recordOut
  extract_lets old t due
  refine rd_ite rfl (rd_ite (rd_wr_ne hcond) (rd_ite ?_ hcount))
  exact (rd_setB_ne _ _ hev).trans ((rd_setBrth ..).trans hcount)

theorem rd_failCond_ne (s : State) (j bit : Nat) {o : Nat} (h : o ∉ condRegs j) : rd (failCond s j bit) o = rd s o := by
  unfold failCond
  dsimp only
  split
  · split
    · exact rd_recordOut_ne _ _ _ _ h
    · rfl
  · rfl

theorem failCond_notes (s : State) (j bit : Nat) : BreathNotes s (failCond s j bit) :=
  ⟨failCond_frame .., fun o ho => rd_failCond_ne _ _ _ (by
    simp [condRegs, R.l0Cond, R.l0StepsOut, R.jobEvent]; omega)⟩

theorem noteHalt_notes (s : State) (j : Nat) : BreathNotes s (noteHalt s j) := by
  have hst : 0x40000 ≤ R.brthStatus j := by unfold R.brthStatus; omega
  have hw (v : W64) : BreathNotes s (wr s (R.brthStatus j) v) := (BreathNotes.refl s).wr v hst
  exact .ite (.refl s) (.ite (hw _) ((hw _).setBrth ..))

theorem noteHalts_notes (s : State) : BreathNotes s (noteHalts s) := by
  unfold noteHalts
  generalize List.range 64 = l
  induction l generalizing s with
  | nil => exact .refl s
  | cons j l ih => exact (noteHalt_notes s j).trans (ih _)

theorem noteHaltCond_notes (s : State) (n : Nat) : BreathNotes s (noteHaltCond s n) := by
  unfold noteHaltCond
  split
  · exact .ite (failCond_notes ..) (.refl s)
  · exact .refl s

/-! ### A core that is halted, and one that resumes with nothing held -/

@[simp] theorem core_setCore_self (s : State) (n : Nat) (c : Core) : core (setCore s n c) n = c := by
  simp [core, setCore, Sparse.get_set]

theorem core_setCore_ne (s : State) {n m : Nat} (c : Core) (h : m ≠ n) : core (setCore s n c) m = core s m := by
  simp [core, setCore, Sparse.get_set, h]

@[simp] theorem core_upCore_self (s : State) (n : Nat) (f : Core → Core) : core (upCore s n f) n = f (core s n) :=
  core_setCore_self ..

theorem core_upCore_ne (s : State) {n m : Nat} (f : Core → Core) (h : m ≠ n) : core (upCore s n f) m = core s m :=
  core_setCore_ne _ _ h

theorem core_of_cores {s t : State} (h : t.cores = s.cores) (n : Nat) : core t n = core s n := by simp [core, h]

/-- A register write of one core leaves the registers of every other, and the core's other registers. -/
theorem cr_cw_ne (s : State) {n m r r' : Nat} (v : W64) (hr : r < 0x8000) (hr' : r' < 0x8000) (h : m ≠ n ∨ r' ≠ r) :
    cr (cw s n r v) m r' = cr s m r' := by
  rw [cr_cw, if_neg]
  unfold coreKey
  omega

/-- A core that is halted, or let go, at the time `t`. -/
def haltCore (t : Nat) (h : Bool) (k : Core) : Core := { k with halted := h, haltReq := some t }

/-- The state of a halt or a resume before the breaths take note of it. -/
def haltSet (s : State) (n : Nat) (h : Bool) : State := cwB (upCore s n (haltCore (nowNs s) h)) n R.coreStatus 2 h

theorem core_haltSet (s : State) (n : Nat) (h : Bool) (m : Nat) :
    core (haltSet s n h) m = core (upCore s n (haltCore (nowNs s) h)) m := core_of_cores rfl m

theorem core_haltSet_self (s : State) (n : Nat) (h : Bool) : core (haltSet s n h) n = haltCore (nowNs s) h (core s n) :=
  (core_haltSet ..).trans (core_upCore_self ..)

theorem setHalt_eq (s : State) (n : Nat) (h : Bool) : setHalt s n h =
    if h then noteHaltCond (noteHalts (haltSet s n h)) n else serveHeld (thaw (noteHalts (haltSet s n h)) n) n := rfl

/-- What a debug halt, or a resume with nothing held, leaves of `s`. -/
structure HaltSet (s v : State) (n : Nat) (h : Bool) : Prop where
  halted : (core v n).halted = h
  bit : crB v n R.coreStatus 2 = h
  coreRegs : ∀ m r, r < 0x8000 → (m ≠ n ∨ r ≠ R.coreStatus) → cr v m r = cr s m r
  cores : ∀ m, m ≠ n → core v m = core s m
  mem : v.mem = s.mem
  mbox : v.mbox = s.mbox
  regs : ∀ o, o < 0x40000 → rd v o = rd s o

theorem haltSet_haltSet (s : State) (n : Nat) (h : Bool) : HaltSet s (haltSet s n h) n h := by
  refine ⟨?_, ?_, fun m r hr hm => ?_, fun m hm => ?_, rfl, rfl, fun _ _ => rfl⟩
  · rw [core_haltSet_self, haltCore]
  · rw [haltSet, cwB, crB, cr_cw_self, putBit]
    split <;> simp_all
  · exact cr_cw_ne _ _ (by decide) hr hm
  · rw [core_haltSet, core_upCore_ne _ _ hm]

theorem HaltSet.notes {s v w : State} {n : Nat} {h : Bool} (k : HaltSet s v n h) (hw : BreathNotes v w) :
    HaltSet s w n h where
  halted := by rw [core_of_cores hw.cores, k.halted]
  bit := by rw [crB, cr_of_coreRegs hw.coreRegs]; exact k.bit
  coreRegs m r hr hm := by rw [cr_of_coreRegs hw.coreRegs, k.coreRegs m r hr hm]
  cores m hm := by rw [core_of_cores hw.cores, k.cores m hm]
  mem := hw.mem.trans k.mem
  mbox := hw.mbox.trans k.mbox
  regs o ho := (hw.2 o ho).trans (k.regs o ho)

/-- An update of the core that keeps its halt is none of what a halt says. -/
theorem HaltSet.upCore {s v : State} {n : Nat} {h : Bool} (k : HaltSet s v n h) {f : Core → Core}
    (hf : ∀ c, (f c).halted = c.halted) : HaltSet s (upCore v n f) n h where
  halted := by rw [core_upCore_self, hf, k.halted]
  bit := k.bit
  coreRegs := k.coreRegs
  cores m hm := by rw [core_upCore_ne _ _ hm, k.cores m hm]
  mem := k.mem
  mbox := k.mbox
  regs := k.regs

theorem setHalt_true (s : State) (n : Nat) : HaltSet s (setHalt s n true) n true := by
  rw [setHalt_eq, if_pos rfl]
  exact ((haltSet_haltSet s n true).notes (noteHalts_notes _)).notes (noteHaltCond_notes _ n)

/-- The end of a halt that holds no signal and no access lets the core go, and does nothing else. -/
theorem setHalt_false {s : State} {n : Nat} (hw : (core s n).hostWaits = []) (hs : (core s n).sigHeld = []) :
    HaltSet s (setHalt s n false) n false := by
  rw [setHalt_eq, if_neg Bool.false_ne_true]
  have hset := (haltSet_haltSet s n false).notes (noteHalts_notes _)
  have hcore : core (noteHalts (haltSet s n false)) n = haltCore (nowNs s) false (core s n) :=
    (core_of_cores (noteHalts_notes _).cores n).trans (core_haltSet_self ..)
  generalize noteHalts (haltSet s n false) = v at hset hcore
  have hthaw : HaltSet s (thaw v n) n false ∧ (core (thaw v n) n).hostWaits = [] := by
    unfold thaw
    split
    · exact ⟨hset, by rw [hcore]; exact hw⟩
    · have hnil : (core v n).sigHeld = [] := by rw [hcore]; exact hs
      rw [hnil, List.foldl_nil]
      exact ⟨hset.upCore fun _ => rfl, by rw [core_upCore_self, hcore]; exact hw⟩
  unfold serveHeld
  rw [hthaw.2]
  exact hthaw.1.upCore fun _ => rfl

end Sys2Proof.Machine
end

section
/-! SUPPORT. The commands of debug halts (Table 14-39). -/
namespace Sys2Proof.Machine

/-! ### What the status of a core reads -/

theorem ldU_congr {s t : State} {a n : Nat} (h : ∀ x, a ≤ x → ldB t x = ldB s x) : ldU t a n = ldU s a n := by
  unfold ldU ldN
  exact congrArg leNat (List.map_congr_left fun i _ => h _ (Nat.le_add_right ..))

theorem coreBase_le (n : Nat) : coreBase 0 ≤ coreBase n := by unfold coreBase; omega

theorem splitEntry_congr {s t : State} (hr : t.coreRegs = s.coreRegs) (hb : ∀ a, coreBase 0 ≤ a → ldB t a = ldB s a)
    (n r k : Nat) : splitEntry t n r k = splitEntry s n r k := by
  unfold splitEntry crF
  rw [cr_of_coreRegs hr, ldU_congr]
  intro x hx
  have := coreBase_le n
  unfold scratch at hx
  exact hb x (by omega)

/-- The status of a core is read from its registers, its scratch memory, its flits and the flits it offers. -/
theorem coreStatusRead_congr {s t : State} (hc : t.cores = s.cores) (hr : t.coreRegs = s.coreRegs)
    (hm : t.mesh = s.mesh) (hb : ∀ a, coreBase 0 ≤ a → ldB t a = ldB s a) (n : Nat) :
    coreStatusRead t n = coreStatusRead s n := by
  have hcore := core_of_cores hc n
  have hsplit := fun k => splitEntry_congr hr hb n R.splitInBase k
  have hcr := fun r => cr_of_coreRegs hr n r
  simp only [coreStatusRead, isHome, splitComplete, splitIn, splitCount, commitStep, crF, hcore, hsplit, hcr, hm]
  rfl

section
variable {s : State} {src : Src} {c : Cmd} {v : State} {p : List W64} {ch : Option Change}

theorem coreStatusRead_ended (n : Nat) : coreStatusRead (ended s src c v p ch) n = coreStatusRead v n :=
  coreStatusRead_congr (by simp) (by simp) (by simp) (fun _ h => ldB_ended_core h) n

end

theorem boxByte_of_regs {s v : State} {src : Src} {j : Bool} {a : Nat} (hq : v.mbox = s.mbox)
    (hr : ∀ o, inMailbox o → rd v o = rd s o) : boxByte v src j a ↔ boxByte s src j a := by
  refine boxByte_of (congrArg Mbox.journalSeq hq) (fun m => ?_) fun m => ?_
  all_goals
    have := m.isLt
    simp only [cplPi, cplCi, rdF]
    rw [hr _ (by simp only [inMailbox, R.mbCplPi, R.mbCplCi]; omega)]

theorem boxByte_takeFront (s : State) (src : Src) (j : Bool) (a : Nat) :
    boxByte (takeFront s src) src j a ↔ boxByte s src j a :=
  boxByte_of (takeFront_journalSeq s src) (cplPi_takeFront s src) (cplCi_takeFront s src)

/-! ### Halt and resume -/

theorem haltMerges_takeFront (s : State) (src : Src) (n : Nat) : haltMerges (takeFront s src) n = haltMerges s n := by
  simp only [haltMerges, nowNs, takeFront_time, core_of_cores (takeFront_cores s src)]
  rfl

/-- The change that the journal keeps of a halt or a resume, where there is one. -/
def haltChange (s v : State) (n : Nat) : Option Change :=
  if (core s n).halted = (core v n).halted then none
  else valueChange 2 n 1 (b2n (core s n).halted) (b2n (core v n).halted)

theorem haltBody_eq (h merged : Bool) (c : Cmd) (s v : State)
    (hv : v = if merged && haltMerges s (c.f 1 0 10) then cwB s (c.f 1 0 10) R.corePulseOvr 0 true
      else setHalt s (c.f 1 0 10) h) :
    haltBody h merged c s = .ends v 0 0 [coreStatusRead v (c.f 1 0 10)] (haltChange s v (c.f 1 0 10)) := by
  subst hv
  rfl

section
variable {s : State} {src : Src} {c : Cmd} {op : Nat} {masks : List Nat} {locks : Cmd → List Lock} (hl : live s = true)
include hl

/-- A request that merges with none before it halts the core, or lets it go. -/
theorem act_halt (h : Bool) {merged : Bool} (hm : merged = true → haltMerges s (c.f 1 0 10) = false)
    (hs : starts s src op masks (locks c) c) :
    ∃ ch, act s (serve op masks locks (haltBody h merged) src) =
      .next (ended s src c (setHalt (takeFront s src) (c.f 1 0 10) h)
        [coreStatusRead (setHalt (takeFront s src) (c.f 1 0 10) h) (c.f 1 0 10)] ch) := by
  refine ⟨_, act_ends hl hs (haltBody_eq h merged c _ _ ?_)⟩
  rw [haltMerges_takeFront, if_neg]
  cases merged with
  | false => simp
  | true => simp [hm rfl]

/-- A halted core, or one that resumes with nothing held, and what the command leaves. -/
theorem act_haltSet (h : Bool) {merged : Bool} (hm : merged = true → haltMerges s (c.f 1 0 10) = false)
    (hs : starts s src op masks (locks c) c)
    (hv : HaltSet (takeFront s src) (setHalt (takeFront s src) (c.f 1 0 10) h) (c.f 1 0 10) h) :
    ∃ t, act s (serve op masks locks (haltBody h merged) src) = .next t ∧ (core t (c.f 1 0 10)).halted = h
      ∧ crB t (c.f 1 0 10) R.coreStatus 2 = h ∧ answeredOk t src c [coreStatusRead t (c.f 1 0 10)]
      ∧ (∀ m r, m < 1024 → r < 0x8000 → (m ≠ c.f 1 0 10 ∨ r ≠ R.coreStatus) → cr t m r = cr s m r)
      ∧ (∀ m, m ≠ c.f 1 0 10 → core t m = core s m) ∧ ∀ a, ¬ boxByte s src true a → ldB t a = ldB s a := by
  obtain ⟨ch, hact⟩ := act_halt hl h hm hs
  refine ⟨_, hact, ?_, ?_, ?_, fun m r _ hr hmr => ?_, fun m hmn => ?_, fun a ha => ?_⟩
  · rw [core_ended, hv.halted]
  · rw [crB, cr_ended]
    exact hv.bit
  · rw [coreStatusRead_ended]
    exact ended_answeredOk ..
  · rw [cr_ended, hv.coreRegs m r hr hmr, cr_takeFront]
  · rw [core_ended, hv.cores m hmn, core_of_cores (takeFront_cores s src)]
  · have hbox : ¬ boxByte (setHalt (takeFront s src) (c.f 1 0 10) h) src true a := by
      rwa [boxByte_of_regs hv.mbox fun o ho => hv.regs o (by unfold inMailbox at ho; omega), boxByte_takeFront]
    rw [ldB_ended fun k => hbox (boxByte_mono k), ldB_of_mem hv.mem, ldB_takeFront]

/-- A request that merges with the one before it only sets `CORE_PULSE_OVR.HALT`. -/
theorem act_haltMerged (h : Bool) (hm : haltMerges s (c.f 1 0 10) = true) (hs : starts s src op masks (locks c) c) :
    ∃ t, act s (serve op masks locks (haltBody h true) src) = .next t ∧ crB t (c.f 1 0 10) R.corePulseOvr 0 = true
      ∧ answeredOk t src c [coreStatusRead t (c.f 1 0 10)] ∧ t.cores = s.cores
      ∧ coreRegsKept s t (c.f 1 0 10) [R.corePulseOvr] ∧ boxFrame s t src false [] (fun _ => False) := by
  generalize hn : c.f 1 0 10 = n at hm
  have hbody := haltBody_eq h true c (takeFront s src) (cwB (takeFront s src) n R.corePulseOvr 0 true)
    (by rw [hn, haltMerges_takeFront, hm]; rfl)
  have hnone : haltChange (takeFront s src) (cwB (takeFront s src) n R.corePulseOvr 0 true) n = none :=
    if_pos (congrArg Core.halted (core_of_cores rfl n).symm)
  rw [hn, hnone] at hbody
  refine ⟨_, act_ends hl hs hbody, ?_, ?_, ?_, fun m r _ hr hmr => ?_, ?_⟩
  · rw [crB, cr_ended, cwB, cr_cw_self]
    simp [putBit]
  · rw [coreStatusRead_ended]
    exact ended_answeredOk ..
  · exact (ended_cores ..).trans (takeFront_cores s src)
  · rw [cr_ended, cwB, cr_cw_ne _ _ (by decide) hr (by simpa using hmr), cr_takeFront]
  · exact boxFrame_of (v := cwB (takeFront s src) n R.corePulseOvr 0 true) (ch := none) (fun _ _ => rfl) (by simp)
      (fun a _ => ldB_takeFront s src a) (takeFront_journalSeq s src) rfl

end

end Sys2Proof.Machine
end

section
/-! SUPPORT. The reset of a core (R103, R415): what it leaves of the core, and of the job that owns it. -/
namespace Sys2Proof.Machine

/-! ### The core itself -/

theorem clearQueues_frame (s : State) (n : Nat) : clearQueues s n = { s with mem := (clearQueues s n).mem } := by
  have hstat (v : Nat) : ∀ (l : List Nat) (s : State), l.foldl (fun s q => setQState s n q v) s =
      { s with mem := (l.foldl (fun s q => setQState s n q v) s).mem } := by
    intro l
    induction l with
    | nil => exact fun _ => rfl
    | cons q l ih =>
      intro s
      rw [List.foldl_cons, ih, setQState, setQw, stU, stN_frame]
  unfold clearQueues
  split
  · dsimp only
    rw [stZ, stN_frame, stZ, stN_frame, hstat]
  · rfl

/-- What a reset keeps of a core's bookkeeping: its memory's test, its halt and the accesses that wait. -/
def resetKeeps (c : Core) : Core :=
  { testAt := c.testAt, testFailed := c.testFailed, bad := c.bad, testing := c.testing, retest := c.retest,
    halted := c.halted, haltReq := c.haltReq, hostWaits := c.hostWaits }

/-- What a reset of core `n` leaves of `s`, its registers other than `CORE_STATUS` and `CORE_CONFIG`. -/
structure CoreIsReset (s v : State) (n : Nat) : Prop where
  core : core v n = resetKeeps (core s n)
  cores : ∀ m, m ≠ n → Machine.core v m = Machine.core s m
  reset : ∀ r, r < 0x8000 → r ≠ R.coreStatus → r ≠ R.coreConfig → cr v n r = coreReset (coreKey n r)
  coreRegs : ∀ m r, m ≠ n → r < 0x8000 → cr v m r = cr s m r

theorem CoreIsReset.of_eq {s v w : State} {n : Nat} (h : CoreIsReset s v n) (hc : w.cores = v.cores)
    (hr : w.coreRegs = v.coreRegs) : CoreIsReset s w n where
  core := by rw [core_of_cores hc, h.core]
  cores m hm := by rw [core_of_cores hc, h.cores m hm]
  reset r h1 h2 h3 := by rw [cr_of_coreRegs hr, h.reset r h1 h2 h3]
  coreRegs m r h1 h2 := by rw [cr_of_coreRegs hr, h.coreRegs m r h1 h2]

/-- Writes of the core's status and configuration are none of what a reset says of its registers. -/
theorem CoreIsReset.cw {s v : State} {n : Nat} (h : CoreIsReset s v n) {r : Nat} (w : W64)
    (hr : r = R.coreStatus ∨ r = R.coreConfig) : CoreIsReset s (cw v n r w) n where
  core := h.core
  cores := h.cores
  reset r' h1 h2 h3 := by
    rw [cr_cw_ne _ _ (by obtain rfl | rfl := hr <;> decide) h1 (.inr (by obtain rfl | rfl := hr <;> assumption)),
      h.reset r' h1 h2 h3]
  coreRegs m r' h1 h2 := by
    rw [cr_cw_ne _ _ (by obtain rfl | rfl := hr <;> decide) h2 (.inl h1), h.coreRegs m r' h1 h2]

/-- The core's registers and bookkeeping in a reset, before the status is set and the memory goes. -/
def coreWiped (s : State) (n : Nat) : State :=
  setCore { s with coreRegs := Sparse.clear s.coreRegs fun k => k / 0x8000 = n } n (resetKeeps (core s n))

theorem resetCore_eq (s : State) (n : Nat) : resetCore s n false =
    setIsland (zeroMem (cwB (coreWiped (clearQueues s n) n) n R.coreStatus 2 (core (clearQueues s n) n).halted)
      (coreBase n + 0x40000) 0x20000) n 3 := by
  have hp : (fun k => decide (k / 0x8000 = n) && !(false && (coreCounter true (k % 0x8000) || coreCounter false (k % 0x8000))))
      = fun k => decide (k / 0x8000 = n) := by simp
  unfold resetCore
  dsimp only
  rw [hp]
  rfl

theorem coreWiped_reset (s : State) (n : Nat) : CoreIsReset s (coreWiped s n) n where
  core := core_setCore_self ..
  cores m hm := core_setCore_ne _ _ hm
  reset r hr _ _ := by
    have hk : coreKey n r / 0x8000 = n := by unfold coreKey; omega
    exact (Sparse.get_clear _ (fun k => decide (k / 0x8000 = n)) ..).trans (if_pos (decide_eq_true hk))
  coreRegs m r hm hr := by
    have hk : coreKey m r / 0x8000 ≠ n := by unfold coreKey; omega
    exact (Sparse.get_clear _ (fun k => decide (k / 0x8000 = n)) ..).trans (if_neg (by simp [hk]))

theorem resetCore_reset (s : State) (n : Nat) : CoreIsReset s (resetCore s n false) n := by
  have hq : (clearQueues s n).cores = s.cores ∧ (clearQueues s n).coreRegs = s.coreRegs := by
    rw [clearQueues_frame]
    exact ⟨rfl, rfl⟩
  have hw : CoreIsReset s (coreWiped (clearQueues s n) n) n :=
    have h := coreWiped_reset (clearQueues s n) n
    { core := by rw [h.core, core_of_cores hq.1]
      cores := fun m hm => by rw [h.cores m hm, core_of_cores hq.1]
      reset := h.reset
      coreRegs := fun m r h1 h2 => by rw [h.coreRegs m r h1 h2, cr_of_coreRegs hq.2] }
  rw [resetCore_eq]
  generalize coreWiped (clearQueues s n) n = v at hw
  have hs := hw.cw (putBit (cr v n R.coreStatus) 2 (core (clearQueues s n) n).halted) (.inl rfl)
  have hz : CoreIsReset s (zeroMem (cwB v n R.coreStatus 2 (core (clearQueues s n) n).halted) (coreBase n + 0x40000) 0x20000) n :=
    hs.of_eq rfl rfl
  exact hz.cw _ (.inl rfl)

theorem resetCore_frame (s : State) (n : Nat) : resetCore s n false =
    { s with mem := (resetCore s n false).mem, coreRegs := (resetCore s n false).coreRegs, cores := (resetCore s n false).cores } := by
  rw [resetCore_eq, clearQueues_frame]
  rfl

end Sys2Proof.Machine
end

section
/-! SUPPORT. The job that owns a core whose reset was commanded (R415), and the command's row (Table 14-39). -/
namespace Sys2Proof.Machine

/-! ### A fault that is raised -/

theorem failL0_notes (s : State) (j bit : Nat) : BreathNotes s (failL0 s j bit) := .ite (failCond_notes ..) (.refl s)

theorem rd_failL0_ne (s : State) (j bit : Nat) {o : Nat} (h : o ∉ condRegs j) : rd (failL0 s j bit) o = rd s o :=
  rd_ite (rd_failCond_ne _ _ _ h) rfl

/-- The state of a fault that a job of state 3, 4, 6 or 8 takes, before its breath notes the condition. -/
def faulted (s : State) (j code step : Nat) : State :=
  setBrthState { s with faults := s.faults ++ [(⟨j, code, step % 2 ^ 32⟩ : Raised)] } j 4

theorem raise_of_jobState {s : State} {j : Nat} (h : jobState s j = 3) (code step : Nat) :
    raise s j code step = failL0 (faulted s j code step) j 4 := by
  unfold raise
  rw [h]
  rfl

/-- A fault that is raised changes hub registers, the breaths' bookkeeping and the faults under way alone. -/
theorem raise_frame (s : State) (j code step : Nat) :
    ∃ r b f, raise s j code step = { s with regs := r, breaths := b, faults := f } := by
  unfold raise
  extract_lets st t
  split
  · obtain ⟨r, b, h⟩ := (failL0_notes (setBrthState t j 4) j 4).1
    rw [h]
    exact ⟨r, b, _, rfl⟩
  · exact ⟨_, _, _, rfl⟩

/-- A job that runs takes the fault, and its breath is faulted; the breath's other registers stay. -/
theorem raise_running {s : State} {j : Nat} (h : jobState s j = 3) (code step : Nat) :
    (⟨j, code, step % 2 ^ 32⟩ : Raised) ∈ (raise s j code step).faults ∧ brthState (raise s j code step) j = 4
      ∧ ∀ o, o ∉ condRegs j → o ≠ R.brthStatus j → rd (raise s j code step) o = rd s o := by
  have hst : R.brthStatus j ∉ condRegs j := by
    simp [condRegs, R.brthStatus, R.l0Cond, R.l0StepsOut, R.jobEvent]
  rw [raise_of_jobState h]
  refine ⟨?_, ?_, fun o ho hs => ?_⟩
  · rw [(failL0_notes ..).faults]
    exact List.mem_append_right _ (List.mem_singleton_self _)
  · rw [brthState, rdF, rd_failL0_ne _ _ _ hst, faulted, setBrthState, wrF, rd_wr_self]
    exact fld_putFld_self _ _ (by decide)
  · rw [rd_failL0_ne _ _ _ ho, faulted, setBrthState, rd_wrF_ne _ _ _ _ hs]
    rfl

/-! ### The counters of a job's channels -/

/-- `t` differs from `s` in the hub registers of the converters alone. -/
def ConvRegsOnly (s t : State) : Prop := t = { s with regs := t.regs } ∧ ∀ o, o < 0x60000 → rd t o = rd s o

theorem ConvRegsOnly.refl (s : State) : ConvRegsOnly s s := ⟨rfl, fun _ _ => rfl⟩

theorem ConvRegsOnly.trans {s t u : State} (h : ConvRegsOnly s t) (k : ConvRegsOnly t u) : ConvRegsOnly s u := by
  obtain ⟨ht, hr⟩ := h
  obtain ⟨hu, kr⟩ := k
  exact ⟨hu.trans (by rw [ht]), fun o ho => (kr o ho).trans (hr o ho)⟩

theorem ConvRegsOnly.foldl {α : Type} {f : State → α → State} (hf : ∀ s x, ConvRegsOnly s (f s x)) :
    ∀ (l : List α) (s : State), ConvRegsOnly s (l.foldl f s)
  | [], s => .refl s
  | x :: l, s => (hf s x).trans (foldl hf l (f s x))

theorem convCounters_ge {kind c o : Nat} (h : o ∈ convCounters kind c) : 0x60000 ≤ o := by
  unfold convCounters at h
  split at h
  · obtain ⟨k, -, rfl⟩ := List.mem_map.1 h
    unfold R.mpSamples; omega
  · split at h
    · obtain ⟨k, -, rfl⟩ := List.mem_map.1 h
      unfold R.bellSamples; omega
    · cases h

theorem wrs_zero_convRegsOnly : ∀ (l : List Nat) (s : State), (∀ o ∈ l, 0x60000 ≤ o) →
    ConvRegsOnly s (l.foldl (fun s o => wr s o 0) s)
  | [], s, _ => .refl s
  | o :: l, s, h =>
    have ho := h o (List.mem_cons_self ..)
    have hw : ConvRegsOnly s (wr s o 0) := ⟨rfl, fun _ hx => rd_wr_ne (by omega)⟩
    hw.trans (wrs_zero_convRegsOnly l _ fun x hx => h x (List.mem_cons_of_mem _ hx))

theorem clearConvCounters_only (s : State) (kind c : Nat) : ConvRegsOnly s (clearConvCounters s kind c) :=
  wrs_zero_convRegsOnly _ _ fun _ => convCounters_ge

/-! ### The owner of a core that is reset -/

/-- The registers that the clearing of breath block `j`'s counters reaches. -/
def breathCounter (j o : Nat) : Bool :=
  o = R.brthStretchCount j || (R.brthStretchHist j 0 ≤ o && o ≤ R.brthBusyMax j) || o = R.brthFrameMiss j
    || o = R.brthFrameSlip j || o = R.brthGridSkipped j || (R.jobDeterminism j ≤ o && o ≤ R.l0EnvExcess j)

theorem rd_clearBreathCounters (s : State) (j o : Nat) :
    rd (clearBreathCounters s j) o = if breathCounter j o then hubReset o else rd s o :=
  Sparse.get_clear hubReset (breathCounter j) o s.regs

theorem rd_clearBreathCounters_stretch {j : Nat} (s : State) (hj : j < 64) :
    rd (clearBreathCounters s j) (R.brthStretchCount j) = 0 := by
  have hz : ∀ i : Fin 64, hubReset (R.brthStretchCount i.val) = 0 := by decide
  rw [rd_clearBreathCounters, if_pos (by simp [breathCounter])]
  exact hz ⟨j, hj⟩

theorem rd_clearBreathCounters_jobState (s : State) (j : Nat) :
    rd (clearBreathCounters s j) (R.jobState j) = rd s (R.jobState j) := by
  rw [rd_clearBreathCounters, if_neg]
  simp only [breathCounter, Bool.or_eq_true, Bool.and_eq_true, decide_eq_true_eq]
  unfold R.jobState R.brthStretchCount R.brthStretchHist R.brthBusyMax R.brthFrameMiss R.brthFrameSlip R.brthGridSkipped
    R.jobDeterminism R.l0EnvExcess
  omega

/-- The registers of the job that owns a reset core, its counters cleared. -/
def ownerCleared (s : State) (j : Nat) : State :=
  (jobConvs s j).foldl (fun s e => clearConvCounters s e.1 e.2) (clearBreathCounters s j)

theorem ownerReset_eq (s : State) (j n : Nat) : ownerReset s j n =
    raise (assignCore (ownerCleared s j) j n) j 0x0B (brth (ownerCleared s j) j).started.toNat := rfl

theorem ownerCleared_only (s : State) (j : Nat) : ConvRegsOnly (clearBreathCounters s j) (ownerCleared s j) :=
  .foldl (fun _ _ => clearConvCounters_only ..) _ _

theorem ownerCleared_frame (s : State) (j : Nat) : ownerCleared s j = { s with regs := (ownerCleared s j).regs } :=
  (ownerCleared_only s j).1

theorem ownerReset_reset {s v : State} {n : Nat} (h : CoreIsReset s v n) (j : Nat) : CoreIsReset s (ownerReset v j n) n := by
  have hc : CoreIsReset s (ownerCleared v j) n := h.of_eq (by rw [ownerCleared_frame]) (by rw [ownerCleared_frame])
  obtain ⟨r, b, f, hr⟩ := raise_frame (assignCore (ownerCleared v j) j n) j 0x0B (brth (ownerCleared v j) j).started.toNat
  have ha : CoreIsReset s (assignCore (ownerCleared v j) j n) n := hc.cw _ (.inr rfl)
  rw [ownerReset_eq]
  exact ha.of_eq (by rw [hr]) (by rw [hr])

/-- The job that runs on a reset core faults at its current step, with its breath's counters cleared. -/
theorem ownerReset_running {s : State} {j : Nat} (hj : j < 64) (h : jobState s j = 3) (n : Nat) :
    (⟨j, 0x0B, (brth s j).started.toNat⟩ : Raised) ∈ (ownerReset s j n).faults ∧ brthState (ownerReset s j n) j = 4
      ∧ rd (ownerReset s j n) (R.brthStretchCount j) = 0 := by
  have hbr : brth (ownerCleared s j) j = brth s j := by rw [ownerCleared_frame]; rfl
  have hjs : jobState (assignCore (ownerCleared s j) j n) j = 3 := by
    rw [← h]
    refine congrArg (fld · 0 8) (((ownerCleared_only s j).2 _ ?_).trans (rd_clearBreathCounters_jobState s j))
    unfold R.jobState
    omega
  have hr := raise_running hjs 0x0B (brth s j).started.toNat
  rw [Nat.mod_eq_of_lt (brth s j).started.isLt] at hr
  obtain ⟨hf, hb, hreg⟩ := hr
  rw [ownerReset_eq, hbr]
  refine ⟨hf, hb, ?_⟩
  rw [hreg _ (by simp [condRegs, R.brthStretchCount, R.l0Cond, R.l0StepsOut, R.jobEvent])
    (by simp [R.brthStretchCount, R.brthStatus])]
  refine ((ownerCleared_only s j).2 _ ?_).trans (rd_clearBreathCounters_stretch s hj)
  unfold R.brthStretchCount
  omega

/-! ### The command -/

/-- The state that the reset of a core leaves, before its journal entries. -/
def coreResetLeft (s : State) (n : Nat) : State :=
  if assigned s n then ownerReset (resetCore (noteEpochs s n) n false) (coreBreath s n) n else resetCore s n false

theorem coreResetBody_eq (c : Cmd) (s : State) : coreResetBody c s =
    .ends (journalReset (coreResetLeft s (c.f 1 0 10)) 5) 0 0 [] (c.digestChange 2 (c.f 1 0 10)) := by
  unfold coreResetBody coreResetLeft
  dsimp only
  split <;> rfl

theorem noteEpochs_reset (s : State) (n : Nat) : CoreIsReset s (resetCore (noteEpochs s n) n false) n :=
  have h := resetCore_reset (noteEpochs s n) n
  { core := h.core, cores := h.cores, reset := h.reset, coreRegs := h.coreRegs }

theorem coreResetLeft_reset (s : State) (n : Nat) : CoreIsReset s (coreResetLeft s n) n := by
  unfold coreResetLeft
  split
  · exact ownerReset_reset (noteEpochs_reset s n) _
  · exact resetCore_reset s n

theorem coreResetLeft_running {s : State} {n : Nat} (ha : assigned s n = true) (h : jobState s (coreBreath s n) = 3) :
    (⟨coreBreath s n, 0x0B, (brth s (coreBreath s n)).started.toNat⟩ : Raised) ∈ (coreResetLeft s n).faults
      ∧ brthState (coreResetLeft s n) (coreBreath s n) = 4
      ∧ rd (coreResetLeft s n) (R.brthStretchCount (coreBreath s n)) = 0 := by
  have hj : coreBreath s n < 64 := fld_lt _ 16 6
  have hb (j : Nat) : brth (resetCore (noteEpochs s n) n false) j = brth s j := by rw [resetCore_frame]; rfl
  have hs : jobState (resetCore (noteEpochs s n) n false) (coreBreath s n) = 3 := by rw [resetCore_frame]; exact h
  rw [coreResetLeft, if_pos ha, ← hb]
  exact ownerReset_running hj hs n

theorem journalReset_frame (s : State) (code : Nat) : MailOnly s (journalReset s code) := journal_frame s _ _ _ _ _ _

@[simp] theorem journalReset_regs (s : State) (code : Nat) : (journalReset s code).regs = s.regs := journal_regs s _ _ _ _ _ _

section
variable {s : State} {src : Src} {c : Cmd} {op : Nat} {masks : List Nat} {locks : Cmd → List Lock} (hl : live s = true)
include hl

theorem act_coreReset {n : Nat} (hn : n = c.f 1 0 10) (hs : starts s src op masks (locks c) c) :
    ∃ t, act s (serve op masks locks coreResetBody src) = .next t ∧ answeredOk t src c []
      ∧ (core t n).rx = [] ∧ (core t n).emitQ = [] ∧ (core t n).bad = (core s n).bad
      ∧ (core t n).halted = (core s n).halted ∧ cr t n R.plasStep = coreReset (coreKey n R.plasStep)
      ∧ (∀ m r, m ≠ n → m < 1024 → r < 0x8000 → cr t m r = cr s m r)
      ∧ (assigned s n = true → jobState s (coreBreath s n) = 3 →
          (⟨coreBreath s n, 0x0B, (brth s (coreBreath s n)).started.toNat⟩ : Raised) ∈ t.faults
            ∧ brthState t (coreBreath s n) = 4 ∧ rd t (R.brthStretchCount (coreBreath s n)) = 0) := by
  have hbody := coreResetBody_eq c (takeFront s src)
  rw [← hn] at hbody
  have hreset := coreResetLeft_reset (takeFront s src) n
  have hrun := @coreResetLeft_running (takeFront s src) n
  generalize coreResetLeft (takeFront s src) n = v at hbody hreset hrun
  have hv : CoreIsReset (takeFront s src) (journalReset v 5) n := by
    obtain ⟨m, r, b, hm⟩ := journalReset_frame v 5
    exact hreset.of_eq (by rw [hm]) (by rw [hm])
  have hfaults : (journalReset v 5).faults = v.faults := by
    obtain ⟨m, r, b, hm⟩ := journalReset_frame v 5
    rw [hm]
  have hcore := hv.core
  rw [core_of_cores (takeFront_cores s src), ← core_ended s src c _ [] (c.digestChange 2 n)] at hcore
  have hbreath : coreBreath (takeFront s src) n = coreBreath s n := congrArg (fld · 16 6) (cr_takeFront s src n _)
  have hassigned : assigned (takeFront s src) n = assigned s n := congrArg (bitAt · 0) (cr_takeFront s src n _)
  refine ⟨_, act_ends hl hs hbody, ended_answeredOk .., ?_, ?_, ?_, ?_, ?_, fun m r hm _ hr => ?_, fun ha hj => ?_⟩
  · rw [hcore]; rfl
  · rw [hcore]; rfl
  · rw [hcore]; rfl
  · rw [hcore]; rfl
  · rw [cr_ended, hv.reset _ (by decide) (by decide) (by decide)]
  · rw [cr_ended, hv.coreRegs m r hm hr, cr_takeFront]
  · have hlt : coreBreath s n < 64 := fld_lt _ 16 6
    generalize hb : coreBreath s n = j at hj hlt hbreath
    have hreg {o : Nat} (ho : 0x40000 ≤ o) : rd (ended s src c (journalReset v 5) [] (c.digestChange 2 n)) o = rd v o :=
      (rd_ended (notMem_boxRegs src (by unfold inMailbox; omega)) (by unfold R.msixPba; omega)).trans
        (rd_of_regs (journalReset_regs ..) o)
    rw [hbreath, hassigned] at hrun
    obtain ⟨hf, hst, hc⟩ := hrun ha (by
      rw [jobState, rdF, rd_takeFront s src (by unfold inMailbox R.jobState; omega)]
      exact hj)
    refine ⟨?_, ?_, ?_⟩
    · rw [ended_faults, hfaults]
      rwa [show brth (takeFront s src) j = brth s j by rw [brth, takeFront_breaths, brth]] at hf
    · rw [brthState, rdF, hreg (by unfold R.brthStatus; omega)]
      exact hst
    · rw [hreg (by unfold R.brthStretchCount; omega), hc]

end

end Sys2Proof.Machine
end

section
/-! SUPPORT. Converter channels: the register image that CONV_CONFIG writes, and the states of CONV_START and CONV_STOP. -/
namespace Sys2Proof.Machine

/-! ### The state of a channel -/

/-- The register that holds a channel's state. -/
def convStateReg (kind c : Nat) : Nat := if kind = 0 then R.mpStatus c else if kind = 1 then R.bellStatus c else R.epStreamA c

theorem convStateReg_ge (kind c : Nat) : 0x50000 ≤ convStateReg kind c := by
  unfold convStateReg
  split
  · unfold R.mpStatus; omega
  · split
    · unfold R.bellStatus; omega
    · unfold R.epStreamA; omega

theorem convState_congr {s t : State} {kind c : Nat} (h : rd t (convStateReg kind c) = rd s (convStateReg kind c)) :
    convState t kind c = convState s kind c := by
  unfold convState rdF streamValid rdB
  unfold convStateReg at h
  split at h
  · rw [if_pos ‹_›, if_pos ‹_›, h]
  · split at h
    · rw [if_neg ‹_›, if_pos ‹_›, if_neg ‹_›, if_pos ‹_›, h]
    · rw [if_neg ‹_›, if_neg ‹_›, if_neg ‹_›, if_neg ‹_›, h]

theorem setConvState_frame (s : State) (kind c v : Nat) :
    setConvState s kind c v = { s with regs := (setConvState s kind c v).regs } := by
  unfold setConvState
  split
  · rfl
  · split <;> rfl

/-- A channel's state reads as it was set: 0 or 1. -/
theorem convState_setConvState (s : State) (kind c : Nat) {v : Nat} (hv : v ≤ 1) :
    convState (setConvState s kind c v) kind c = v := by
  unfold convState setConvState
  split
  · rw [rdF, wrF, rd_wr_self, fld_putFld_self _ _ (by decide)]
    omega
  · split
    · rw [rdF, wrF, rd_wr_self, fld_putFld_self _ _ (by decide)]
      omega
    · rw [streamValid, rdB, rd_wr_self, putBit]
      obtain rfl | rfl : v = 0 ∨ v = 1 := by omega
      all_goals simp [b2n]

/-- `t` has the hub registers and the mailboxes of `s`. -/
def HubKept (s t : State) : Prop := t.regs = s.regs ∧ t.mbox = s.mbox

theorem setBellRef_hubKept (s : State) (c : Nat) (r : BitVec 32) : HubKept s (setBellRef s c r) := ⟨rfl, rfl⟩
theorem cw_hubKept (s : State) (n r : Nat) (w : W64) : HubKept s (cw s n r w) := ⟨rfl, rfl⟩
theorem upCore_hubKept (s : State) (n : Nat) (f : Core → Core) : HubKept s (upCore s n f) := ⟨rfl, rfl⟩

theorem HubKept.trans {s t u : State} (h : HubKept s t) (k : HubKept t u) : HubKept s u :=
  ⟨k.1.trans h.1, k.2.trans h.2⟩

theorem HubKept.ite {s t u : State} {c : Prop} [Decidable c] (h : HubKept s t) (k : HubKept s u) :
    HubKept s (if c then t else u) := by
  split
  · exact h
  · exact k

/-- The end of a CONV_START writes registers of a core, its bookkeeping and the Bells' references alone. -/
theorem convRun_hubKept (s : State) (kind c : Nat) (r : BitVec 32) :
    HubKept (setConvState s kind c 1) (convRun s kind c r) := by
  have hb := setBellRef_hubKept (setConvState s kind c 1) c r
  exact .ite ⟨rfl, rfl⟩ (.ite ((hb.trans (cw_hubKept ..)).trans (upCore_hubKept ..)) hb)

theorem convHalt_hubKept (s : State) (kind c : Nat) : HubKept (setConvState s kind c 0) (convHalt s kind c) :=
  .ite (cw_hubKept ..) ⟨rfl, rfl⟩

theorem setConvState_mbox (s : State) (kind c v : Nat) : (setConvState s kind c v).mbox = s.mbox := by
  rw [setConvState_frame]

/-! ### What a channel's initial state writes -/

theorem stBlock_mbox (s : State) (a : Nat) (d : List Byte) (job : Nat) (x p v : Bool) :
    (stBlock s a d job x p v).mbox = s.mbox := by rw [stBlock, setTag_mbox, stN_mbox]

theorem stTagged_mbox (job : Nat) (x : Bool) : ∀ (k : Nat) (s : State) (a : Nat) (l : List Byte),
    (stTagged job x k s a l).mbox = s.mbox
  | 0, _, _, _ => rfl
  | k + 1, s, a, l => by
    unfold stTagged
    split
    · rfl
    · exact (stTagged_mbox job x k _ _ _).trans (stBlock_mbox ..)

theorem engineWrite_mbox (s : State) (job a : Nat) (l : List Byte) : (engineWrite s job a l).mbox = s.mbox := by
  unfold engineWrite
  split
  · exact stTagged_mbox ..
  · exact stN_mbox ..

theorem convInit_mbox (s : State) (kind c : Nat) : (convInit s kind c).mbox = s.mbox := by
  unfold convInit
  split
  · dsimp only
    split
    · exact engineWrite_mbox ..
    · rfl
  · split
    · split
      · rfl
      · exact engineWrite_mbox ..
    · rfl

/-! ### The register image of CONV_CONFIG -/

theorem rd_wrs_ne : ∀ (l : List (Nat × W64)) (s : State) {o : Nat}, (∀ e ∈ l, o ≠ e.1) →
    rd (l.foldl (fun s e => wr s e.1 e.2) s) o = rd s o
  | [], _, _, _ => rfl
  | e :: l, s, _, h => (rd_wrs_ne l (wr s e.1 e.2) fun x hx => h x (List.mem_cons_of_mem _ hx)).trans
    (rd_wr_ne (h e (List.mem_cons_self ..)))

theorem wrs_frame : ∀ (l : List (Nat × W64)) (s : State), l.foldl (fun s e => wr s e.1 e.2) s =
    { s with regs := (l.foldl (fun s e => wr s e.1 e.2) s).regs }
  | [], _ => rfl
  | e :: l, s => (wrs_frame l (wr s e.1 e.2)).trans rfl

theorem rd_zeroed_ne {l : List Nat} {o : Nat} (h : o ∉ l) (s : State) :
    rd (l.foldl (fun s o => wr s o 0) s) o = rd s o := by
  induction l generalizing s with
  | nil => rfl
  | cons x l ih =>
    rw [List.mem_cons, not_or] at h
    rw [List.foldl_cons, ih h.2, rd_wr_ne h.1]

theorem rd_zeroed_mem {l : List Nat} {o : Nat} (h : o ∈ l) (s : State) :
    rd (l.foldl (fun s o => wr s o 0) s) o = 0 := by
  induction l generalizing s with
  | nil => cases h
  | cons x l ih =>
    rw [List.foldl_cons]
    by_cases hl : o ∈ l
    · exact ih hl _
    · obtain rfl : o = x := (List.mem_cons.1 h).resolve_right hl
      rw [rd_zeroed_ne hl, rd_wr_self]

/-- The words that CONV_CONFIG writes to a channel's registers: a stream's are written as stopped. -/
def convImage (kind : Nat) (l : List W64) : List W64 := if kind = 2 then clrBit (l.getD 0 0) 0 :: l.drop 1 else l

theorem convWrite_eq (s : State) (kind c : Nat) (l : List W64) : convWrite s kind c l =
    clearConvCounters (((convRegs kind c).zip (convImage kind l)).foldl (fun s e => wr s e.1 e.2) s) kind c := rfl

theorem convWrite_mbox (s : State) (kind c : Nat) (l : List W64) : (convWrite s kind c l).mbox = s.mbox := by
  rw [convWrite_eq, (clearConvCounters_only ..).1, wrs_frame]

theorem rd_convWrite_counter (s : State) {kind c : Nat} (l : List W64) {o : Nat} (h : o ∈ convCounters kind c) :
    rd (convWrite s kind c l) o = 0 := by
  rw [convWrite_eq, clearConvCounters]
  exact rd_zeroed_mem h _

theorem convStateReg_notMem_counters (kind c : Nat) : convStateReg kind c ∉ convCounters kind c := by
  unfold convStateReg convCounters
  split
  · simp only [List.mem_map, not_exists, not_and, R.mpSamples, R.mpStatus]
    omega
  · split
    · simp only [List.mem_map, not_exists, not_and, R.bellSamples, R.bellStatus]
      omega
    · exact List.not_mem_nil

theorem convStateReg_notMem_regs {kind : Nat} (c : Nat) (h : kind ≤ 1) : convStateReg kind c ∉ convRegs kind c := by
  obtain rfl | rfl : kind = 0 ∨ kind = 1 := by omega
  · simp [convStateReg, convRegs, R.mpStatus, R.mpConfig]
    omega
  · simp [convStateReg, convRegs, R.bellStatus, R.bellConfig]
    omega

/-- A stopped channel is stopped with its new registers. -/
theorem convState_convWrite {s : State} {kind : Nat} (hk : kind ≤ 2) (c : Nat) (l : List W64) (h : convState s kind c = 0) :
    convState (convWrite s kind c l) kind c = 0 := by
  have hz (t : State) : rd (clearConvCounters t kind c) (convStateReg kind c) = rd t (convStateReg kind c) :=
    rd_zeroed_ne (convStateReg_notMem_counters kind c) t
  rw [convWrite_eq, convState_congr (hz _)]
  obtain hk | rfl : kind ≤ 1 ∨ kind = 2 := by omega
  · rw [convState_congr (rd_wrs_ne _ _ fun e he => ?_), h]
    rintro heq
    exact convStateReg_notMem_regs c hk (heq ▸ (List.of_mem_zip he).1)
  · rw [convState, if_neg (by decide), if_neg (by decide), streamValid, rdB, convImage, if_pos rfl, convRegs,
      if_neg (by decide), if_neg (by decide), List.zip_cons_cons, List.foldl_cons, rd_wrs_ne, rd_wr_self]
    · simp [b2n]
    · intro e he heq
      have hb := (List.of_mem_zip he).1
      rw [List.mem_singleton] at hb
      have := heq.trans hb
      unfold R.epStreamA R.epStreamB at this
      omega

/-! ### The source that CONV_CONFIG takes -/

/-- A block checked for no job in particular is good where the check leaves the state alone. -/
theorem checkBlock_good {s : State} {d : List Byte} {tg : W64} {q : Nat} {r : Option Nat}
    (h : (checkBlock s d tg q none r).1 = .good) : (checkBlock s d tg q none r).2 = s := by
  unfold checkBlock at h ⊢
  split at h
  · cases h
  · split at h
    · split at h <;> cases h
    · rw [if_neg ‹_›, if_neg ‹_›]

theorem freeBytes_frame : ∀ (n : Nat) (s : State), (freeBytes n s).2 = { s with free := (freeBytes n s).2.free }
  | 0, _ => rfl
  | n + 1, s => freeBytes_frame n (freshValue s).2

theorem hostFetch_kept (s : State) (p : Nat) : HubKept s (hostFetch s p).2.2 := by
  unfold hostFetch
  split
  · exact ⟨rfl, rfl⟩
  · rw [freeBytes_frame]
    exact ⟨rfl, rfl⟩

/-- A good block that the read of a source brings leaves the registers and the mailboxes alone. -/
theorem readBlock_good {s v : State} {a : Nat} {d : List Byte} (h : readBlock s a none false = (.good d, v)) :
    HubKept s v := by
  have hcheck : (match (checkAt s a none).1 with
      | .good => Access.good (ldN s (a / 256 * 256) 256) | .poisoned => .poisoned (ldN s (a / 256 * 256) 256),
      (checkAt s a none).2) = (Access.good d, v) → HubKept s v := by
    intro hc
    cases hg : (checkAt s a none).1 with
    | good =>
      obtain rfl : (checkAt s a none).2 = v := (Prod.mk.inj hc).2
      rw [show (checkAt s a none).2 = s from checkBlock_good hg]
      exact ⟨rfl, rfl⟩
    | poisoned => rw [hg] at hc; cases (Prod.mk.inj hc).1
  unfold readBlock at h
  split at h
  · exact hcheck h
  · exact hcheck h
  · split at h
    · rename_i p _
      dsimp only at h
      obtain rfl : (hostFetch s p).2.2 = v := (Prod.mk.inj h).2
      exact hostFetch_kept s p
    · cases h
  · cases h

theorem readSource_data {n : Nat} {s v : State} {a : Nat} {l : List Byte} (h : readSource none n s a = (.data l, v)) :
    HubKept s v := by
  induction n generalizing s a l v with
  | zero => cases h; exact ⟨rfl, rfl⟩
  | succ n ih =>
    unfold readSource at h
    split at h
    · cases h
    · split at h
      · rename_i hb
        split at h
        · rename_i hr
          cases h
          exact (readBlock_good hb).trans (ih hr)
        · rename_i r hr
          exact absurd h (hr l v)
      · cases h
      · cases h

end Sys2Proof.Machine
end

section
/-! SUPPORT. The commands of converter channels (Table 14-38). -/
namespace Sys2Proof.Machine

/-! ### What the commands read, before and after their record is taken -/

section
variable (s : State) (src : Src) (kind c : Nat)

theorem rdF_takeFront {o : Nat} (lo n : Nat) (h : 0x40000 ≤ o) : rdF (takeFront s src) o lo n = rdF s o lo n := by
  rw [rdF, rdF, rd_takeFront s src (by unfold inMailbox; omega)]

theorem convState_takeFront : convState (takeFront s src) kind c = convState s kind c :=
  convState_congr (rd_takeFront s src (by have := convStateReg_ge kind c; unfold inMailbox; omega))

theorem convJob_takeFront : convJob (takeFront s src) kind c = convJob s kind c := by
  unfold convJob
  rw [rdF_takeFront, rdF_takeFront, rdF_takeFront]
  · unfold R.epStreamA; omega
  · unfold R.bellConfig; omega
  · unfold R.mpConfig; omega

theorem convBreath_takeFront : convBreath (takeFront s src) kind c = convBreath s kind c := by
  unfold convBreath mpBreath bellBreath streamBreath
  rw [rdF_takeFront, rdF_takeFront, rdF_takeFront]
  · unfold R.epStreamA; omega
  · unfold R.bellConfig; omega
  · unfold R.mpConfig; omega

theorem breathOf_takeFront (id : Nat) : breathOf (takeFront s src) id = breathOf s id := by
  have hj (j : Nat) : jobState (takeFront s src) j = jobState s j ∧ jobId (takeFront s src) j = jobId s j :=
    have ho : 0x40000 ≤ R.jobState j := by unfold R.jobState; omega
    ⟨rdF_takeFront s src 0 8 ho, rdF_takeFront s src 8 8 ho⟩
  simp only [breathOf, hj]

end

theorem convState_of_leaves {t v : State} {src : Src} {j : Bool} {kind c : Nat} (h : leaves t v src j) :
    convState t kind c = convState v kind c := by
  have := convStateReg_ge kind c
  exact convState_congr (h.1 _ (notMem_boxRegs src (by unfold inMailbox; omega)) (by unfold R.msixPba; omega))

theorem convKind_le {c : Cmd} (h : convNamed c = true) : convKind c ≤ 2 := by
  have hlt : convKind c < 2 ^ 2 := fld_lt _ 0 2
  have hne : convKind c ≠ 3 := by
    intro h3
    rw [convNamed, h3] at h
    cases h
  omega

section
variable {s : State} {src : Src} {c : Cmd} {op : Nat} {masks : List Nat} {locks : Cmd → List Lock} {kind ch : Nat}
  (hl : live s = true) (hk : kind = convKind c) (hc : ch = convChan c) (hn : convNamed c = true)
  (hs : starts s src op masks (locks c) c)
include hl hk hc hn hs

/-- A whole, checked image is written, the channel stays stopped, and its counters start at 0. -/
theorem act_convConfig {l : List Byte} {v : State} {w : List W64} (h0 : convState s kind ch = 0)
    (ha : (c.c 2).toNat % 256 = 0) (hm : firstUnmapped (takeFront s src) (c.c 2).toNat 1 = none)
    (hr : readSource none 1 (takeFront s src) (c.c 2).toNat = (.data l, v)) (hlen : l.length = 256)
    (hw : w = wordsOf (convWords kind) l) (hz : ∀ b ∈ l.drop (8 * convWords kind), b = 0) (hg : convGood kind w = true)
    (hf : convFits v kind w = true) :
    ∃ t, act s (serve op masks locks convConfigBody src) = .next t ∧ completed s t src c 0 0 [] true
      ∧ leaves t (convWrite v kind ch w) src true ∧ convState t kind ch = 0 ∧ ∀ o ∈ convCounters kind ch, rd t o = 0 := by
  have hkind : kind ≤ 2 := hk ▸ convKind_le hn
  obtain ⟨hregs, hmbox⟩ := readSource_data hr
  have h0' := (convState_takeFront s src kind ch).trans h0
  have hv : convState v kind ch = 0 := (convState_congr (rd_of_regs hregs _)).trans h0'
  have hbody : convConfigBody c (takeFront s src) =
      .ends (convWrite v kind ch w) 0 0 [] (c.digestChange 5 (convTarget c)) := by
    have hblocks : cdiv 256 256 = 1 := rfl
    have hzero : ¬ (l.drop (8 * convWords kind)).any (· ≠ 0) = true := by
      rw [List.any_eq_true]
      rintro ⟨b, hb, hne⟩
      simp [hz b hb] at hne
    unfold convConfigBody withSource checkRange
    rw [← hk, ← hc, if_neg (not_not.2 hn), if_neg (not_not.2 h0'), if_neg (not_not.2 ha), hblocks, hm, hr]
    dsimp only
    rw [List.take_of_length_le hlen.le, ← hw, if_neg (by simp only [hg, hf, not_true, or_false]; exact hzero)]
  have hleaves := ended_leaves s src c (convWrite v kind ch w) [] (c.digestChange 5 (convTarget c))
  refine ⟨_, act_ends hl hs hbody, ended_completed ?_, hleaves, ?_, fun o ho => ?_⟩
  · rw [convWrite_mbox, hmbox, takeFront_journalSeq]
  · rw [convState_of_leaves hleaves, convState_convWrite hkind ch w hv]
  · have hge := convCounters_ge ho
    rw [rd_ended (notMem_boxRegs src (by unfold inMailbox; omega)) (by unfold R.msixPba; omega),
      rd_convWrite_counter _ _ ho]

/-- A stopped channel runs from its initial state, in its job's breath. -/
theorem act_convStart {j : Nat} (h0 : convState s kind ch = 0) (hj : breathOf s (convJob s kind ch) = some j)
    (hb : convBreath s kind ch = j) :
    ∃ t, act s (serve op masks locks convStartBody src) = .next t ∧ completed s t src c 0 0 [] true
      ∧ leaves t (convRun (convInit (takeFront s src) kind ch) kind ch (startRef (takeFront s src) kind ch j)) src true
      ∧ convState t kind ch = 1 := by
  have hbody : convStartBody c (takeFront s src) =
      .ends (convRun (convInit (takeFront s src) kind ch) kind ch (startRef (takeFront s src) kind ch j)) 0 0 []
        (valueChange 5 (convTarget c) 1 0 1) := by
    unfold convStartBody
    rw [← hk, ← hc, if_neg (not_not.2 hn), if_neg (by rw [convState_takeFront]; exact not_not.2 h0), convJob_takeFront,
      breathOf_takeFront, hj]
    dsimp only
    rw [if_neg (by rw [convBreath_takeFront]; exact not_not.2 hb)]
  obtain ⟨hregs, hmbox⟩ := convRun_hubKept (convInit (takeFront s src) kind ch) kind ch (startRef (takeFront s src) kind ch j)
  generalize convRun _ kind ch (startRef (takeFront s src) kind ch j) = v at hbody hregs hmbox
  have hleaves := ended_leaves s src c v [] (valueChange 5 (convTarget c) 1 0 1)
  refine ⟨_, act_ends hl hs hbody, ended_completed ?_, hleaves, ?_⟩
  · rw [hmbox, setConvState_mbox, convInit_mbox, takeFront_journalSeq]
  · rw [convState_of_leaves hleaves, convState_congr (rd_of_regs hregs _), convState_setConvState _ _ _ (le_refl 1)]

/-- A channel that is stopped already stays as it is, and any other stops. -/
theorem act_convStop : ∃ t, act s (serve op masks locks convStopBody src) = .next t ∧ convState t kind ch = 0
    ∧ (if convState s kind ch = 0 then readsOnly s t src c []
      else completed s t src c 0 0 [] true ∧ leaves t (convHalt (takeFront s src) kind ch) src true) := by
  have hge := convStateReg_ge kind ch
  by_cases h0 : convState s kind ch = 0
  · have hbody : convStopBody c (takeFront s src) = .reads (takeFront s src) [] := by
      unfold convStopBody
      rw [← hk, ← hc, if_neg (not_not.2 hn), if_pos ((convState_takeFront ..).trans h0)]
    obtain ⟨t, ht, hr⟩ := act_reads hl hs hbody
    obtain ⟨-, hbox, -⟩ := id hr
    refine ⟨t, ht, ?_, by rwa [if_pos h0]⟩
    rw [← h0]
    exact convState_congr (hbox.1 _ List.not_mem_nil (notMem_boxRegs src (by unfold inMailbox; omega))
      (by unfold R.msixPba; omega))
  · have hbody : convStopBody c (takeFront s src) = .ends (convHalt (takeFront s src) kind ch) 0 0 []
        (valueChange 5 (convTarget c) 1 (convState (takeFront s src) kind ch) 0) := by
      unfold convStopBody
      rw [← hk, ← hc, if_neg (not_not.2 hn), if_neg (by rwa [convState_takeFront])]
    obtain ⟨hregs, hmbox⟩ := convHalt_hubKept (takeFront s src) kind ch
    generalize convHalt (takeFront s src) kind ch = v at hbody hregs hmbox
    have hleaves := ended_leaves s src c v []
      (valueChange 5 (convTarget c) 1 (convState (takeFront s src) kind ch) 0)
    refine ⟨_, act_ends hl hs hbody, ?_, ?_⟩
    · rw [convState_of_leaves hleaves, convState_congr (rd_of_regs hregs _), convState_setConvState _ _ _ (Nat.zero_le 1)]
    · rw [if_neg h0]
      exact ⟨ended_completed (by rw [hmbox, setConvState_mbox, takeFront_journalSeq]), hleaves⟩

end

end Sys2Proof.Machine
end

/-! ### The statement of the core and converter commands -/

/-- Settles O24: each command of Tables 14-38 and 14-39 ends as it begins; its effect's frame, a halt's, a reset's or a
channel's, gives what the state keeps, and the completion lies apart from it. -/
theorem Sys2Proof.Machine.coreAndConverterCommands : Obligations.CoreAndConverterCommands := by
  unfold Obligations.CoreAndConverterCommands
  open Sys2Proof.Machine in
  refine ⟨fun src s c n hl hn => ?_, fun src s u c kind ch hl hu hk hc hname => ?_⟩
  · subst hn
    refine ⟨fun merged hm hs => ?_, fun merged hm hs => ?_, fun merged hm hs hw hg => ?_, fun hm hs => ?_, fun hm hs => ?_,
      fun hs => ?_⟩
    · exact act_haltSet (locks := fun c => [coreLock s (c.f 1 0 10)]) hl true hm hs (setHalt_true ..)
    · obtain ⟨_, ht⟩ := act_halt (locks := fun c => [coreLock s (c.f 1 0 10)]) hl false hm hs
      exact ⟨_, ht, ended_leaves ..⟩
    · rw [← core_of_cores (takeFront_cores s src)] at hw hg
      exact act_haltSet (locks := fun c => [coreLock s (c.f 1 0 10)]) hl false hm hs (setHalt_false hw hg)
    · exact act_haltMerged (locks := fun c => [coreLock s (c.f 1 0 10)]) hl true hm hs
    · exact act_haltMerged (locks := fun c => [coreLock s (c.f 1 0 10)]) hl false hm hs
    · exact act_coreReset (locks := fun c => [coreLock s (c.f 1 0 10)]) hl rfl hs
  · subst hu
    refine ⟨fun l v w hs h0 ha hm hr hlen hw hz hg hf => ?_, fun j hs h0 hj hb => ?_, fun hs => ?_⟩
    · exact act_convConfig hl hk hc hname hs h0 ha hm hr hlen hw hz hg hf
    · exact act_convStart hl hk hc hname hs h0 hj hb
    · exact act_convStop hl hk hc hname hs

section
/-! SUPPORT. Broadcasts that the hub sends (R53): a flit that merges with none waits at its hub port or lies in the port's
buffer, and peer frames leave the hub's endpoints alone. -/
namespace Sys2Proof.Machine

/-! ### A flit that merges with none -/

/-- A multicast report: TYPE 3 on VC0, which no other flit merges with (R193). -/
structure Bcast (f : Flit) : Prop where
  type : fType f = 3
  vc : fVc f = 0
  mc : fMc f = true

theorem Bcast.unmerged {f : Flit} (h : Bcast f) (g : Flit) : mergeable f g = false := by simp [mergeable, h.mc]
theorem Bcast.unmergedInto {f : Flit} (h : Bcast f) (g : Flit) : mergeable g f = false := by simp [mergeable, h.mc]

/-- The flit lies in the VC0 buffer of a hub port's local port. -/
def BcastHeld (s : State) (p : Nat) (f : Flit) : Prop := ∃ h ∈ buf s (1024 + p) 4 0, h.f = f

/-- What enters behind it leaves a buffered broadcast in place. -/
theorem Enters.keepsBcast {s t : State} {p : Nat} {f g : Flit} (h : Enters s t (1024 + p) g) (hf : Bcast f)
    (hb : BcastHeld s p f) : BcastHeld t p f := by
  obtain ⟨x, hx, rfl⟩ := hb
  cases h with
  | dropped h => exact ⟨x, h ▸ hx, rfl⟩
  | placed q y h =>
    refine ⟨x, ?_, rfl⟩
    rw [h, buf_pushHeld]
    split
    · rename_i h0
      exact List.mem_append_left _ (h0 ▸ hx)
    · exact hx
  | merged q y z hl hm h =>
    refine ⟨x, ?_, rfl⟩
    rw [h, buf_setBuf]
    split
    · rename_i h0
      subst h0
      rw [← List.dropLast_append_getLast? _ hl, List.mem_append, List.mem_singleton] at hx
      refine List.mem_append_left _ (hx.resolve_right ?_)
      rintro rfl
      rw [hf.unmerged] at hm
      cases hm
    · exact hx

/-- A broadcast that enters is buffered, while the port's link is up. -/
theorem enter_bcastHeld {s : State} {p : Nat} {f : Flit} (cyc : Nat) (hf : Bcast f) (hl : linkState s (1024 + p) 1 ≠ 3) :
    BcastHeld (enter s (1024 + p) 4 f cyc) p f := by
  have htake (x : Held) (hx : x.f = f) : BcastHeld (takePlace s (1024 + p) 4 0 x (routeOuts (1024 + p) 4 f)) p f := by
    have hr : routeOuts (1024 + p) 4 f = [1] := by simp [routeOuts]
    rw [hr, takePlace_hub, if_neg (by simp [liveOuts, hl])]
    exact ⟨{ x with outs := (liveOuts (1024 + p) [1] s).1 },
      by rw [buf_pushHeld, if_pos rfl]; exact List.mem_append_right _ (List.mem_singleton_self _), hx⟩
  unfold enter
  simp only [hf.type, hf.vc]
  simp only [Nat.reduceLeDiff, false_and, if_false, Nat.reduceEqDiff, decide_false, Bool.false_and, Bool.false_eq_true]
  split
  · rw [if_neg (by simp [hf.unmergedInto])]
    exact htake _ rfl
  · exact htake _ rfl

/-- A broadcast that source `src` has sent at hub port `p` waits there or lies in the port's buffer. -/
def BcastWaits (s : State) (p src : Nat) (f : Flit) : Prop :=
  (⟨1024 + p, src, f⟩ : Offer) ∈ s.mesh.offers ∨ BcastHeld s p f

theorem enterOffer_bcastWaits {s : State} {o : Offer} (cyc : Nat) {p src : Nat} {f : Flit} (hn : o.node = 1024 + p)
    (hf : Bcast f) (hl : linkState s (1024 + p) 1 ≠ 3) (hw : BcastWaits s p src f) :
    BcastWaits (enterOffer s o cyc) p src f := by
  obtain ⟨u, he, hu, ho, hb⟩ := enterOffer_eq s o cyc hn
  have hE := enter_enters u p o.f cyc
  rw [he]
  rcases hw with hw | ⟨x, hx, rfl⟩
  · by_cases h : o = ⟨1024 + p, src, f⟩
    · subst h
      exact .inr (enter_bcastHeld cyc hf (by rwa [hu.linkState]))
    · left
      rw [hE.offers, ho]
      exact (List.mem_erase_of_ne (Ne.symm h)).2 hw
  · refine .inr (hE.keepsBcast hf ⟨x, ?_, rfl⟩)
    rwa [buf, hb]

theorem pump_bcastWaits {p src : Nat} {f : Flit} (hf : Bcast f) : ∀ (k : Nat) (s : State),
    linkState s (1024 + p) 1 ≠ 3 → BcastWaits s p src f → BcastWaits (pump (1024 + p) k s) p src f
  | 0, _, _, hw => hw
  | k + 1, s, hl, hw => by
    rw [pump]
    split
    · rename_i o ho
      have hn := nextOffer_node _ _ _ _ _ ho
      exact pump_bcastWaits hf k _ (by rwa [(enterOffer_only s o 0 hn).linkState]) (enterOffer_bcastWaits 0 hn hf hl hw)
    · exact hw

/-! ### The broadcast of a rectangle -/

theorem rect_lt (s : State) (j : Nat) : rectX0 s j < 32 ∧ rectY0 s j < 32 ∧ rectX1 s j < 32 ∧ rectY1 s j < 32 :=
  ⟨fld_lt _ _ 5, fld_lt _ _ 5, fld_lt _ _ 5, fld_lt _ _ 5⟩

/-- The fields of a broadcast, given as digits. -/
structure BcastDigits (f : Flit) (k dx dy ex ey l v : Nat) : Prop where
  toNat : f.toNat = 3 * 2 ^ 60 + k * 2 ^ 57 + 2 ^ 56 + dx * 2 ^ 50 + dy * 2 ^ 45 + ex * 2 ^ 40 + ey * 2 ^ 35 + l * 2 ^ 32 + v
  k_lt : k < 2
  dx_lt : dx < 64
  dy_lt : dy < 32
  ex_lt : ex < 32
  ey_lt : ey < 32
  l_lt : l < 8
  v_lt : v < 2 ^ 32

theorem BcastDigits.bcast {f : Flit} {k dx dy ex ey l v : Nat} (h : BcastDigits f k dx dy ex ey l v) : Bcast f := by
  obtain ⟨hN, hk, hdx, hdy, hex, hey, hl, hv⟩ := h
  refine ⟨?_, ?_, ?_⟩
  · rw [fType, ff, fld_eq_div, hN]; omega
  · rw [fVc, ff, fld_eq_div, hN]; omega
  · rw [fMc, bitAt, ← BitVec.testBit_toNat, hN, Nat.testBit_eq_decide_div_mod_eq, decide_eq_true_eq]; omega

theorem BcastDigits.dest {f : Flit} {k dx dy ex ey l v : Nat} (h : BcastDigits f k dx dy ex ey l v) :
    fDx f = dx ∧ fDy f = dy ∧ fEx f = ex ∧ fEy f = ey := by
  obtain ⟨hN, hk, hdx, hdy, hex, hey, hl, hv⟩ := h
  refine ⟨?_, ?_, ?_, ?_⟩
  · rw [fDx, ff, fld_eq_div, hN]; omega
  · rw [fDy, ff, fld_eq_div, hN]; omega
  · rw [fEx, ff, fld_eq_div, hN]; omega
  · rw [fEy, ff, fld_eq_div, hN]; omega

theorem mkBcast_digits (kind x0 y0 x1 y1 : Nat) (t : BitVec 32) : BcastDigits (mkBcast kind x0 y0 x1 y1 t)
    (kind / 2 % 2) (x0 % 64) (y0 % 32) ((x1 - x0) % 32) ((y1 - y0) % 32) (kind % 2 * 4 + t.toNat % 4) t.toNat := by
  have := t.isLt
  refine ⟨?_, by omega, by omega, by omega, by omega, by omega, by omega, this⟩
  rw [mkBcast, w64, BitVec.toNat_ofNat, mkHead, show b2n true = 1 from rfl]
  omega

theorem bcast_bcastOf (s : State) (j kind : Nat) (t : BitVec 32) : Bcast (bcastOf s j kind t) := (mkBcast_digits ..).bcast

/-- A rectangle's broadcast names cores of the mesh. -/
theorem bcastOf_addressed (s : State) (j kind : Nat) (t : BitVec 32) :
    misaddressed (bcastOf s j kind t) = false ∧ fDx (bcastOf s j kind t) ≠ 63 := by
  obtain ⟨hx0, hy0, hx1, hy1⟩ := rect_lt s j
  obtain ⟨h1, h2, h3, h4⟩ := (mkBcast_digits kind (rectX0 s j) (rectY0 s j) (rectX1 s j) (rectY1 s j) t).dest
  unfold bcastOf
  rw [misaddressed, h1, h2, h3, h4, Nat.mod_eq_of_lt (by omega : rectX0 s j < 64), Nat.mod_eq_of_lt hy0]
  refine ⟨?_, by omega⟩
  simp only [Bool.or_eq_false_iff, Bool.and_eq_false_imp, decide_eq_false_iff_not, decide_eq_true_eq]
  refine ⟨by omega, fun _ => ⟨⟨by omega, ?_⟩, ?_⟩⟩
  · omega
  · omega

theorem sendBcast_eq (s : State) (j kind : Nat) (t : BitVec 32) : sendBcast s j kind t =
    pump (1024 + rdF s (R.brthConfig j) 24 5) (s.mesh.offers.length + 1)
      (offered s ⟨1024 + rdF s (R.brthConfig j) 24 5, 0x610, bcastOf s j kind t⟩) := by
  obtain ⟨ha, hx⟩ := bcastOf_addressed s j kind t
  rw [sendBcast, hubInject, if_neg (by simp [ha, hx])]
  rfl

theorem sendBcast_only (s : State) (j kind : Nat) (t : BitVec 32) : HubPortOnly s (sendBcast s j kind t) := by
  rw [sendBcast_eq]
  exact (offered_only ..).trans (pump_only ..)

theorem sendBcast_waits (s : State) (j kind : Nat) (t : BitVec 32)
    (hl : linkState s (1024 + rdF s (R.brthConfig j) 24 5) 1 ≠ 3) :
    BcastWaits (sendBcast s j kind t) (rdF s (R.brthConfig j) 24 5) 0x610 (bcastOf s j kind t) := by
  rw [sendBcast_eq]
  exact pump_bcastWaits (bcast_bcastOf ..) _ _ (by rwa [(offered_only ..).linkState])
    (.inl (List.mem_append_right _ (List.mem_singleton_self _)))

/-! ### Peer frames (R356) -/

/-- `t` differs from `s` in the registers of the peer ports, in their links and queues, and in what the balls show. -/
structure PeerOnly (s t : State) : Prop where
  only : ∃ r l q o, t = { s with regs := r, mesh := { s.mesh with links := l, peerQ := q }, outs := o }
  rd : ∀ o, 0x6000 ≤ o → rd t o = rd s o

theorem PeerOnly.refl (s : State) : PeerOnly s s := ⟨⟨_, _, _, _, rfl⟩, fun _ _ => rfl⟩

theorem PeerOnly.trans {s t u : State} (h : PeerOnly s t) (k : PeerOnly t u) : PeerOnly s u where
  only := by
    obtain ⟨_, _, _, _, rfl⟩ := h.only
    obtain ⟨r, l, q, o, rfl⟩ := k.only
    exact ⟨r, l, q, o, rfl⟩
  rd o ho := (k.rd o ho).trans (h.rd o ho)

theorem PeerOnly.ite {s t u : State} {c : Prop} [Decidable c] (h : PeerOnly s t) (k : PeerOnly s u) :
    PeerOnly s (if c then t else u) := by
  split
  · exact h
  · exact k

theorem bump_peerOnly (s : State) {o : Nat} (k : Nat) (h : o < 0x6000) : PeerOnly s (bump s o k) :=
  ⟨⟨_, _, _, _, rfl⟩, fun _ ho => rd_bump_ne _ _ (by omega)⟩

theorem setPeerQueue_peerOnly (s : State) (p : Nat) (l : List (Nat × Flit)) : PeerOnly s (setPeerQueue s p l) :=
  ⟨⟨_, _, _, _, rfl⟩, fun _ _ => rfl⟩

theorem putPeer_peerOnly (s : State) {p : Nat} (pkg : Nat) (f : Flit) (hp : p < 60) : PeerOnly s (putPeer s p pkg f) := by
  have hlink (k : Nat) (l : Link) (o : Outs) : PeerOnly s { setLink s k l with outs := o } :=
    ⟨⟨_, _, _, _, rfl⟩, fun _ _ => rfl⟩
  unfold putPeer
  exact (hlink ..).trans (bump_peerOnly _ _ (by unfold R.peerFramesTx; omega))

theorem flushPeer_peerOnly {p : Nat} (hp : p < 60) : ∀ (k : Nat) (s : State), PeerOnly s (flushPeer p k s)
  | 0, s => .refl s
  | k + 1, s => by
    unfold flushPeer
    extract_lets l pick
    cases pick with
    | none => exact .refl s
    | some x => exact ((setPeerQueue_peerOnly ..).trans (putPeer_peerOnly _ _ _ hp)).trans (flushPeer_peerOnly hp k _)

theorem peerPort_lt {s : State} {pkg p : Nat} (h : peerPort s pkg = some p) : p < 60 := by
  have hu : ∀ q, portInUse s q = true → q < 60 := by
    intro q hq
    by_contra hge
    rw [portInUse, rdB, bitAt, BitVec.getLsbD_of_ge _ _ (by omega)] at hq
    cases hq
  unfold peerPort at h
  dsimp only at h
  generalize (if peerRole s = 0 ∨ pkg = pkgId s then none
    else if peerRole s = 1 then some ((if pkg ≤ 4 then pkg else parentOf pkg) - 1)
    else if peerRole s = 2 ∧ pkg > 4 ∧ parentOf pkg = pkgId s then some (pkg - 4 - 3 * (pkgId s - 1))
    else some 0) = o at h
  cases o with
  | none => cases h
  | some q =>
    obtain ⟨hq, rfl⟩ : portInUse s q = true ∧ q = p := by simpa using h
    exact hu q hq

theorem peerSend_peerOnly (s : State) (pkg : Nat) (f : Flit) : PeerOnly s (peerSend s pkg f) := by
  unfold peerSend
  extract_lets t
  split
  · exact bump_peerOnly _ _ (by decide)
  · rename_i p hp
    have hlt := peerPort_lt hp
    exact .ite (bump_peerOnly _ _ (by decide)) (.ite (bump_peerOnly _ _ (by unfold R.peerDownDrops; omega))
      ((setPeerQueue_peerOnly ..).trans (flushPeer_peerOnly hlt _ _)))

theorem sendDown_peerOnly (s : State) (j kind : Nat) (t : BitVec 32) : PeerOnly s (sendDown s j kind t) := by
  unfold sendDown
  generalize childPorts s j = l
  induction l generalizing s with
  | nil => exact .refl s
  | cons p l ih => exact (peerSend_peerOnly ..).trans (ih _)

end Sys2Proof.Machine
end

section
/-! SUPPORT. The test that closes a breath's oldest open step (R53): its three ends, and what each leaves. -/
namespace Sys2Proof.Machine

/-! ### A breath's sums -/

@[simp] theorem brth_setBrth_self (s : State) (j : Nat) (b : Breath) : brth (setBrth s j b) j = b := by
  simp [brth, setBrth, Sparse.get_set]

theorem brth_of_breaths {s t : State} (h : t.breaths = s.breaths) (j : Nat) : brth t j = brth s j := by simp [brth, h]

/-- Two states of a breath have the same sums, and the same steps started and closed. -/
def SameSums (b c : Breath) : Prop := c.acc = b.acc ∧ c.closed = b.closed ∧ c.started = b.started

theorem SameSums.refl (b : Breath) : SameSums b b := ⟨rfl, rfl, rfl⟩
theorem SameSums.trans {b c d : Breath} (h : SameSums b c) (k : SameSums c d) : SameSums b d :=
  ⟨k.1.trans h.1, k.2.1.trans h.2.1, k.2.2.trans h.2.2⟩

theorem SameSums.accOf {b c : Breath} (h : SameSums b c) (g : Nat) : accOf c g = accOf b g := by
  rw [Machine.accOf, h.1, ← Machine.accOf]

@[simp] theorem accOf_setAcc_self (b : Breath) (g : Nat) (a : Acc) : accOf (setAcc b g a) g = a := by
  simp [accOf, setAcc, Sparse.get_set]

theorem accOf_setAcc_ne (b : Breath) {g k : Nat} (a : Acc) (h : k % 4 ≠ g % 4) : accOf (setAcc b g a) k = accOf b k := by
  simp [accOf, setAcc, Sparse.get_set, h]

/-! ### What leaves the steps of breath `j` alone -/

/-- `t` has the memories, the faults, the waiting flits, the sums of breath `j` and its closed step of `s`. -/
structure Quiet (j : Nat) (s t : State) : Prop where
  mem : t.mem = s.mem
  coreRegs : t.coreRegs = s.coreRegs
  faults : t.faults = s.faults
  offers : t.mesh.offers = s.mesh.offers
  bufs : t.mesh.bufs = s.mesh.bufs
  sums : SameSums (brth s j) (brth t j)
  rd : ∀ o, o = R.brthClosed j ∨ 0x60000 ≤ o → rd t o = rd s o

theorem Quiet.refl (j : Nat) (s : State) : Quiet j s s := ⟨rfl, rfl, rfl, rfl, rfl, .refl _, fun _ _ => rfl⟩

theorem Quiet.trans {j : Nat} {s t u : State} (h : Quiet j s t) (k : Quiet j t u) : Quiet j s u where
  mem := k.mem.trans h.mem
  coreRegs := k.coreRegs.trans h.coreRegs
  faults := k.faults.trans h.faults
  offers := k.offers.trans h.offers
  bufs := k.bufs.trans h.bufs
  sums := h.sums.trans k.sums
  rd o ho := (k.rd o ho).trans (h.rd o ho)

theorem Quiet.ite {j : Nat} {s t u : State} {c : Prop} [Decidable c] (h : Quiet j s t) (k : Quiet j s u) :
    Quiet j s (if c then t else u) := by
  split
  · exact h
  · exact k

theorem wr_quiet (j : Nat) (s : State) {o : Nat} (v : W64) (h : o ≠ R.brthClosed j) (hlt : o < 0x60000) :
    Quiet j s (wr s o v) :=
  ⟨rfl, rfl, rfl, rfl, rfl, .refl _, fun x hx => rd_wr_ne (by rintro rfl; rcases hx with hx | hx; exact h hx; omega)⟩

theorem setBrth_quiet (j : Nat) (s : State) {b : Breath} (h : SameSums (brth s j) b) : Quiet j s (setBrth s j b) :=
  ⟨rfl, rfl, rfl, rfl, rfl, by rwa [brth_setBrth_self], fun _ _ => rfl⟩

theorem PeerOnly.quiet {s t : State} (j : Nat) (h : PeerOnly s t) : Quiet j s t := by
  have hrd : ∀ o, o = R.brthClosed j ∨ 0x60000 ≤ o → Machine.rd t o = Machine.rd s o := fun o ho => h.rd o (by
    rcases ho with rfl | ho
    · unfold R.brthClosed; omega
    · omega)
  obtain ⟨r, l, q, o, rfl⟩ := h.only
  exact ⟨rfl, rfl, rfl, rfl, rfl, .refl _, hrd⟩

theorem recordOut_quiet {j : Nat} (hj : j < 64) (s : State) (u : BitVec 32) (c : Nat) : Quiet j s (recordOut s j u c) := by
  have hcond (t : State) (v : W64) : Quiet j t (wr t (R.l0Cond j) v) :=
    wr_quiet j t v (by unfold R.l0Cond R.brthClosed; omega) (by unfold R.l0Cond; omega)
  have hout (t : State) (v : W64) : Quiet j t (wr t (R.l0StepsOut j) v) :=
    wr_quiet j t v (by unfold R.l0StepsOut R.brthClosed; omega) (by unfold R.l0StepsOut; omega)
  have hnote (t : State) : Quiet j t (setBrth t j { brth t j with condNoted := some (nowNs t) }) :=
    setBrth_quiet j t ⟨rfl, rfl, rfl⟩
  have hev (t : State) : Quiet j t (setB t (R.jobEvent j) 0) :=
    wr_quiet j t _ (by unfold R.jobEvent R.brthClosed; omega) (by unfold R.jobEvent; omega)
  have hcount := (hout s (w64 (satAdd 32 (rd s (R.l0StepsOut j)).toNat 1))).trans (hcond _ (w64 (c + u.toNat * 2 ^ 32)))
  exact .ite (.refl j s) (.ite (hcond ..) (.ite ((hcount.trans (hnote _)).trans (hev _)) hcount))

theorem foldl_sums {α : Type} {f : Breath → α → Breath} (hf : ∀ b x, SameSums b (f b x)) :
    ∀ (l : List α) (b : Breath), SameSums b (l.foldl f b)
  | [], b => .refl b
  | x :: l, b => (hf b x).trans (foldl_sums hf l (f b x))

theorem failCond_quiet {j : Nat} (hj : j < 64) (s : State) (bit : Nat) : Quiet j s (failCond s j bit) := by
  have hset (l : List Nat) : Quiet j s (setBrth s j (l.foldl (fun b g => setCond b g (condOf b g ||| 2 ^ bit)) (brth s j))) :=
    setBrth_quiet j s (foldl_sums (f := fun b g => setCond b g (condOf b g ||| 2 ^ bit)) (fun _ _ => ⟨rfl, rfl, rfl⟩) l _)
  unfold failCond
  extract_lets b tags t
  split
  · exact .ite ((hset _).trans (recordOut_quiet hj ..)) (hset _)
  · exact hset _

theorem noteL0_quiet {j : Nat} (hj : j < 64) (s : State) (t : BitVec 32) : Quiet j s (noteL0 s j t) := by
  have hset (v c : Nat) : Quiet j s (setBrth s j { setCond (brth s j) c v with closedAt := some (nowNs s) }) :=
    setBrth_quiet j s ⟨rfl, rfl, rfl⟩
  unfold noteL0
  extract_lets c
  exact .ite (.refl j s) ((hset ..).trans (recordOut_quiet hj ..))

theorem autoCheckpoint_quiet {j : Nat} (hj : j < 64) (s : State) (t : BitVec 32) : Quiet j s (autoCheckpoint s j t) := by
  have hask : Quiet j s (askSuspend s j 3) :=
    Quiet.trans (setBrth_quiet j s (b := { brth s j with asked := (brth s j).asked ++ [3] }) ⟨rfl, rfl, rfl⟩)
      (wr_quiet j _ _ (by unfold R.brthStatus R.brthClosed; omega) (by unfold R.brthStatus; omega))
  exact .ite hask (.refl j s)

/-- Bells whose channels run in other breaths do not sample. -/
theorem bellSampleAll_none {s : State} {j : Nat} (t : BitVec 32)
    (h : ∀ c, c < 256 → bellRunning s c = true → bellBreath s c ≠ j) : bellSampleAll s j t = s := by
  have hl : ∀ l : List Nat, (∀ c ∈ l, c < 256) → l.foldl (fun s c =>
      if bellRunning s c && bellBreath s c = j && (t - bellRef s c).toInt > 0 then bellSample s c t else s) s = s := by
    intro l hl
    induction l with
    | nil => rfl
    | cons c l ih =>
      have hc := h c (hl c (List.mem_cons_self ..))
      rw [List.foldl_cons, if_neg, ih fun x hx => hl x (List.mem_cons_of_mem _ hx)]
      simp only [Bool.and_eq_true, decide_eq_true_eq]
      exact fun hb => hc hb.1.1 hb.1.2
  exact hl _ fun c hc => List.mem_range.1 hc

/-! ### The closing of a step -/

/-- The state of a closing before its COMMIT goes out. -/
def stepClosed (s : State) (j : Nat) (t : BitVec 32) : State :=
  let b := brth s j
  let a := accOf b t.toNat
  let busy := min (timeDiff a.start (nowNs s)).toNat 0xFFFFFFFF
  let s := if busy > rdF s (R.brthBusyMax j) 0 32 then wr s (R.brthBusyMax j) (w64 busy) else s
  let s := setBrth s j (setAcc { b with closed := t } t.toNat {})
  noteOpen (wr s (R.brthClosed j) (w64 (t.toNat + 2 ^ 32))) j

theorem closeStep_eq (s : State) (j : Nat) (t : BitVec 32) : closeStep s j t =
    autoCheckpoint (bellSampleAll (noteL0 (sendDown (sendBcast (stepClosed s j t) j 1 t) j 4 t) j t) j t) j t := rfl

/-- What the closing of step `t` leaves, up to its COMMIT. -/
structure Closed (s v : State) (j : Nat) (t : BitVec 32) : Prop where
  mem : v.mem = s.mem
  coreRegs : v.coreRegs = s.coreRegs
  faults : v.faults = s.faults
  closed : (brth v j).closed = t
  started : (brth v j).started = (brth s j).started
  acc : accOf (brth v j) t.toNat = {}
  reg : rd v (R.brthClosed j) = w64 (t.toNat + 2 ^ 32)
  conv : ∀ o, 0x60000 ≤ o → rd v o = rd s o

theorem Closed.quiet {s v w : State} {j : Nat} {t : BitVec 32} (h : Closed s v j t) (k : Quiet j v w) : Closed s w j t where
  mem := k.mem.trans h.mem
  coreRegs := k.coreRegs.trans h.coreRegs
  faults := k.faults.trans h.faults
  closed := k.sums.2.1.trans h.closed
  started := k.sums.2.2.trans h.started
  acc := (k.sums.accOf _).trans h.acc
  reg := (k.rd _ (.inl rfl)).trans h.reg
  conv o ho := (k.rd o (.inr ho)).trans (h.conv o ho)

section
variable {s : State} {j : Nat} (t : BitVec 32)

/-- The hub registers that the closing of a step writes before its COMMIT. -/
theorem rd_stepClosed_ne {o : Nat} (h1 : o ≠ R.brthBusyMax j) (h2 : o ≠ R.brthClosed j) (h3 : o ≠ R.brthStatus j) :
    rd (stepClosed s j t) o = rd s o := by
  have hb (c : Prop) [Decidable c] (v : W64) : rd (if c then wr s (R.brthBusyMax j) v else s) o = rd s o :=
    rd_ite (rd_wr_ne h1) rfl
  unfold stepClosed noteOpen
  exact (rd_wrF_ne _ _ _ _ h3).trans ((rd_wr_ne h2).trans ((rd_setBrth ..).trans (hb ..)))

theorem stepClosed_frame (s : State) (j : Nat) (t : BitVec 32) : BreathOnly s (stepClosed s j t) := by
  have h (busy : Nat) : BreathOnly s (if busy > rdF s (R.brthBusyMax j) 0 32 then wr s (R.brthBusyMax j) (w64 busy) else s) :=
    .ite ((BreathOnly.refl s).wr ..) (.refl s)
  exact (((h _).setBrth ..).wr ..).wr ..

theorem stepClosed_reg (s : State) (j : Nat) (t : BitVec 32) :
    rd (stepClosed s j t) (R.brthClosed j) = w64 (t.toNat + 2 ^ 32) := by
  unfold stepClosed noteOpen
  extract_lets b a busy u v
  rw [rd_wrF_ne _ _ _ _ (by unfold R.brthClosed R.brthStatus; omega), rd_wr_self]

theorem stepClosed_brth (s : State) (j : Nat) (t : BitVec 32) :
    brth (stepClosed s j t) j = setAcc { brth s j with closed := t } t.toNat {} := by
  unfold stepClosed noteOpen
  extract_lets b a busy u v
  rw [brth_of_breaths (wrF_breaths ..), brth_of_breaths (wr_breaths ..)]
  exact brth_setBrth_self u j _

theorem stepClosed_closed (hj : j < 64) : Closed s (stepClosed s j t) j t := by
  have hconv (o : Nat) (ho : 0x60000 ≤ o) : rd (stepClosed s j t) o = rd s o :=
    rd_stepClosed_ne t (by unfold R.brthBusyMax; omega) (by unfold R.brthClosed; omega) (by unfold R.brthStatus; omega)
  have hbr := stepClosed_brth s j t
  have hreg := stepClosed_reg s j t
  obtain ⟨r, b, hf⟩ := stepClosed_frame s j t
  generalize stepClosed s j t = v at hbr hreg hf hconv
  exact ⟨by rw [hf], by rw [hf], by rw [hf], by rw [hbr]; rfl, by rw [hbr]; rfl, by rw [hbr, accOf_setAcc_self], hreg, hconv⟩

end

end Sys2Proof.Machine
end

section
/-! SUPPORT. The barrier reports that a hub port takes (R51, R53), and the flits that no endpoint of the hub takes. -/
namespace Sys2Proof.Machine

/-! ### A step that closes, with its COMMIT -/

theorem Closed.hub {s v w : State} {j : Nat} {t : BitVec 32} (h : Closed s v j t) (k : HubPortOnly v w) : Closed s w j t := by
  have hrd : ∀ o, o = R.brthClosed j ∨ 0x60000 ≤ o → rd w o = rd v o := fun o ho => k.rd o (by
    unfold R.hubDrain
    rcases ho with rfl | ho
    · unfold R.brthClosed; omega
    · omega)
  obtain ⟨r, m, hw⟩ := k.only
  have hb : brth w j = brth v j := by rw [hw]; rfl
  exact ⟨k.mem.trans h.mem, k.coreRegs.trans h.coreRegs, (by rw [hw] : w.faults = v.faults).trans h.faults,
    by rw [hb, h.closed], by rw [hb, h.started], by rw [hb, h.acc], (hrd _ (.inl rfl)).trans h.reg,
    fun o ho => (hrd o (.inr ho)).trans (h.conv o ho)⟩

theorem Quiet.bcastWaits {s t : State} {j p src : Nat} {f : Flit} (h : Quiet j s t) (hw : BcastWaits s p src f) :
    BcastWaits t p src f := by
  rcases hw with hw | ⟨x, hx, hf⟩
  · exact .inl (by rwa [h.offers])
  · exact .inr ⟨x, by rwa [buf, h.bufs], hf⟩

/-- The broadcast of a breath depends on its rectangle alone. -/
theorem bcastOf_congr {s t : State} {j : Nat} (h : rd t (R.brthRect j) = rd s (R.brthRect j)) (kind : Nat) (u : BitVec 32) :
    bcastOf t j kind u = bcastOf s j kind u := by
  unfold bcastOf rectX0 rectY0 rectX1 rectY1 rdF
  rw [h]

section
variable {s : State} {j : Nat} (t : BitVec 32) (hj : j < 64)
  (hbell : ∀ c, c < 256 → bellRunning s c = true → bellBreath s c ≠ j)
include hj hbell

/-- A step that closes leaves its breath's sums clear, and its COMMIT waits at the breath's hub port. -/
theorem closeStep_closed : Closed s (closeStep s j t) j t ∧ (linkState s (1024 + rdF s (R.brthConfig j) 24 5) 1 ≠ 3 →
    BcastWaits (closeStep s j t) (rdF s (R.brthConfig j) 24 5) 0x610 (bcastOf s j 1 t)) := by
  have hcfg : rd (stepClosed s j t) (R.brthConfig j) = rd s (R.brthConfig j) :=
    rd_stepClosed_ne t (by unfold R.brthConfig R.brthBusyMax; omega) (by unfold R.brthConfig R.brthClosed; omega)
      (by unfold R.brthConfig R.brthStatus; omega)
  have hrect : rd (stepClosed s j t) (R.brthRect j) = rd s (R.brthRect j) :=
    rd_stepClosed_ne t (by unfold R.brthRect R.brthBusyMax; omega) (by unfold R.brthRect R.brthClosed; omega)
      (by unfold R.brthRect R.brthStatus; omega)
  have hlink (p : Nat) : linkState (stepClosed s j t) (1024 + p) 1 = linkState s (1024 + p) 1 := by
    have := rd_stepClosed_ne (s := s) (j := j) (o := R.hubportStatus p) t
      (by unfold R.hubportStatus R.brthBusyMax; omega) (by unfold R.hubportStatus R.brthClosed; omega)
      (by unfold R.hubportStatus R.brthStatus; omega)
    simp only [linkState, ge_iff_le, Nat.le_add_right, if_true, Nat.add_sub_cancel_left, rdF, this]
  have hclosed := (stepClosed_closed t hj).hub (sendBcast_only (stepClosed s j t) j 1 t)
  have hwaits := sendBcast_waits (stepClosed s j t) j 1 t
  rw [show rdF (stepClosed s j t) (R.brthConfig j) 24 5 = rdF s (R.brthConfig j) 24 5 from congrArg (fld · 24 5) hcfg,
    hlink, bcastOf_congr hrect] at hwaits
  have hquiet : Quiet j (sendBcast (stepClosed s j t) j 1 t)
      (noteL0 (sendDown (sendBcast (stepClosed s j t) j 1 t) j 4 t) j t) :=
    ((sendDown_peerOnly ..).quiet j).trans (noteL0_quiet hj ..)
  rw [closeStep_eq]
  generalize noteL0 (sendDown (sendBcast (stepClosed s j t) j 1 t) j 4 t) j t = v at hquiet
  have hv := hclosed.quiet hquiet
  have hsample : bellSampleAll v j t = v := bellSampleAll_none t fun c hc => by
    have h1 : rd v (R.bellStatus c) = rd s (R.bellStatus c) := hv.conv _ (by unfold R.bellStatus; omega)
    have h2 : rd v (R.bellConfig c) = rd s (R.bellConfig c) := hv.conv _ (by unfold R.bellConfig; omega)
    rw [bellRunning, bellBreath, rdF, rdF, h1, h2]
    exact hbell c hc
  rw [hsample]
  have hauto := autoCheckpoint_quiet hj v t
  exact ⟨hv.quiet hauto, fun hl => hauto.bcastWaits (hquiet.bcastWaits (hwaits hl))⟩

end

/-! ### The three ends of the test -/

/-- Every participant of step `t` of breath `j` has reported, by the sums `a`. -/
def AllDone (s : State) (j : Nat) (a : Acc) : Prop := a.done = rectCores s j ∧ a.started = true ∧ a.waiting = []

section
variable {s : State} {j : Nat} {t : BitVec 32} {a : Acc} (k : Nat) (hs : brthState s j = 2) (hh : brthHier s j = false)
  (ht : t = (brth s j).closed + 1) (hst : (brth s j).started = t) (ha : a = accOf (brth s j) t.toNat)
include hs hh ht hst ha

theorem closeTest_open : closeTest (k + 1) s j =
    if a.done > rectCores s j ∨ ((a.done = rectCores s j ∧ a.started = true ∧ a.waiting = []) ∧ (a.recv - a.sent).toInt > 0)
    then raise (wr s (R.brthFault j) (w64 (2 + t.toNat * 2 ^ 32))) j 0x02 t.toNat
    else if (a.done = rectCores s j ∧ a.started = true ∧ a.waiting = []) ∧ a.recv = a.sent
    then closeTest k (closeStep s j t) j else s := by
  have hopen : ¬ (brthState s j = 0 ∨ brthState s j = 4 ∨ (brth s j).closed = (brth s j).started) := by
    rintro (h | h | h)
    · omega
    · omega
    · rw [hst, ht] at h
      have := congrArg BitVec.toNat h
      rw [BitVec.toNat_add] at this
      simp at this
      omega
  rw [closeTest]
  dsimp only
  rw [if_neg hopen, ← ht, ← ha, hh]
  rfl

theorem closeTest_faults (h : rectCores s j < a.done ∨ (AllDone s j a ∧ 0 < (a.recv - a.sent).toInt)) :
    closeTest (k + 1) s j = raise (wr s (R.brthFault j) (w64 (2 + t.toNat * 2 ^ 32))) j 0x02 t.toNat :=
  (closeTest_open k hs hh ht hst ha).trans (if_pos h)

theorem closeTest_closes (hf : AllDone s j a) (h : a.recv = a.sent) :
    closeTest (k + 1) s j = closeTest k (closeStep s j t) j := by
  rw [closeTest_open k hs hh ht hst ha, if_neg, if_pos ⟨hf, h⟩]
  rintro (hd | ⟨-, hd⟩)
  · exact absurd hd (by rw [hf.1]; exact lt_irrefl _)
  · rw [h, BitVec.sub_self] at hd
    exact absurd hd (by decide)

theorem closeTest_stays (hd : a.done ≤ rectCores s j) (h : ¬ AllDone s j a ∨ (a.recv - a.sent).toInt < 0) :
    closeTest (k + 1) s j = s := by
  rw [closeTest_open k hs hh ht hst ha, if_neg, if_neg]
  · rintro ⟨hf, he⟩
    rcases h with h | h
    · exact h hf
    · rw [he, BitVec.sub_self] at h
      exact absurd h (by decide)
  · rintro (hd' | ⟨hf, hp⟩)
    · omega
    · rcases h with h | h
      · exact h hf
      · omega

end

/-- With no step open the test ends at once. -/
theorem closeTest_none (k : Nat) {s : State} {j : Nat} (h : (brth s j).closed = (brth s j).started) : closeTest k s j = s := by
  cases k with
  | zero => rfl
  | succ k => rw [closeTest]; exact if_pos (.inr (.inr h))

/-! ### A report that is added -/

/-- The sums of a step with a report of `kind` added: 0 sent, 1 received, 2 done (Table 3-2). -/
def addReport (a : Acc) (kind v : Nat) : Acc :=
  if kind = 0 then { a with sent := a.sent + BitVec.ofNat 32 v }
  else if kind = 1 then { a with recv := a.recv + BitVec.ofNat 32 v }
  else { a with done := (a.done + v) % 2048 }

theorem accAdd_flat {s : State} {j : Nat} (h : brthHier s j = false) (kind g v : Nat) : accAdd s j kind g v =
    setBrth s j (setAcc (brth s j) g (addReport (accOf (brth s j) g) kind v)) := by
  have hb (t : State) (b : Breath) : brthHier (setBrth t j b) j = brthHier t j := rfl
  unfold accAdd
  dsimp only
  rw [hb, h]
  rfl

theorem addReport_eq (a : Acc) {kind : Nat} (h : kind < 3) (v : Nat) : addReport a kind v =
    { a with sent := a.sent + (if kind = 0 then BitVec.ofNat 32 v else 0)
             recv := a.recv + (if kind = 1 then BitVec.ofNat 32 v else 0)
             done := if kind = 2 then (a.done + v) % 2048 else a.done } := by
  obtain rfl | rfl | rfl : kind = 0 ∨ kind = 1 ∨ kind = 2 := by omega
  all_goals simp [addReport]

/-! ### The next flit of a hub port (R23, R51) -/

/-- The state in which the port's flit has been taken from its link, and its credit returned. -/
def hubTaken (s : State) (p : Nat) (f : Flit) : State := freeSlot (takeRx s (1024 + p) 1) (1024 + p) 1 (creditQueue f)

/-- The taking of a flit changes the states of links alone. -/
theorem hubTaken_frame (s : State) (p : Nat) (f : Flit) : ∃ l, hubTaken s p f = { s with mesh := { s.mesh with links := l } } := by
  have htake : ∃ l, takeRx s (1024 + p) 1 = { s with mesh := { s.mesh with links := l } } := by
    unfold takeRx
    split
    · exact ⟨_, rfl⟩
    · exact ⟨_, rfl⟩
  obtain ⟨l, h⟩ := htake
  unfold hubTaken freeSlot
  rw [h]
  split
  · exact ⟨_, rfl⟩
  · exact ⟨_, rfl⟩

section
variable {s : State} {p : Nat} {f : Flit} (ep : Nat) (hn : nextRx s (1024 + p) 1 = some f) (hv : vcOk f = true)
include hn hv

theorem hubArrive_eq : hubArrive s p f ep =
    if fType f ≤ 1 then echoFor (hubEvent (hubTaken s p f) p f) (1024 + p) f ep
    else if fType f = 3 then
      if 0x600 ≤ fRid f ∧ fRid f < 0x700 ∧ fRid f % 4 < 3
      then barrierAdd (hubTaken s p f) ((fRid f - 0x600) / 4) (fRid f % 4) (fRStep f) (fValue f) else hubTaken s p f
    else if fType f = 6 ∨ fType f = 0xB then
      { hubTaken s p f with mesh := { (hubTaken s p f).mesh with hubRx := (hubTaken s p f).mesh.hubRx ++ [f] } }
    else if fType f = 9 then hubBulk (hubTaken s p f) p f
    else hubTaken s p f := by
  unfold hubArrive
  rw [if_neg (not_not.2 hn)]
  dsimp only
  rw [if_neg (not_not.2 hv)]
  rfl

/-- A barrier report reaches the breath that its RID names. -/
theorem hubArrive_report {j k : Nat} (h3 : fType f = 3) (hj : j < 64) (hk : k < 3) (hr : fRid f = 0x600 + 4 * j + k) :
    hubArrive s p f ep = barrierAdd (hubTaken s p f) j k (fRStep f) (fValue f) := by
  rw [hubArrive_eq ep hn hv, if_neg (by omega), if_pos h3, if_pos (by omega), show (fRid f - 0x600) / 4 = j by omega,
    show fRid f % 4 = k by omega]

end

end Sys2Proof.Machine
end

section
/-! SUPPORT. Rows of a hub port's mesh link: a barrier report's three outcomes, and flits of other TYPEs. -/
namespace Sys2Proof.Machine

/-! ### The state in which a report has been added -/

/-- `u` is `s` but for the links' states and the breaths' bookkeeping. -/
def LinksAndBreaths (s u : State) : Prop := ∃ l b, u = { s with mesh := { s.mesh with links := l }, breaths := b }

section
variable {s u : State} (h : LinksAndBreaths s u)
include h
theorem LinksAndBreaths.regs : u.regs = s.regs := by obtain ⟨_, _, rfl⟩ := h; rfl
theorem LinksAndBreaths.mem : u.mem = s.mem := by obtain ⟨_, _, rfl⟩ := h; rfl
theorem LinksAndBreaths.coreRegs : u.coreRegs = s.coreRegs := by obtain ⟨_, _, rfl⟩ := h; rfl
theorem LinksAndBreaths.faults : u.faults = s.faults := by obtain ⟨_, _, rfl⟩ := h; rfl
theorem LinksAndBreaths.offers : u.mesh.offers = s.mesh.offers := by obtain ⟨_, _, rfl⟩ := h; rfl
theorem LinksAndBreaths.rd (o : Nat) : rd u o = Machine.rd s o := rd_of_regs h.regs o
theorem LinksAndBreaths.rdF (o lo n : Nat) : rdF u o lo n = Machine.rdF s o lo n := congrArg (fld · lo n) (h.rd o)
theorem LinksAndBreaths.linkState (p : Nat) : linkState u (1024 + p) 1 = Machine.linkState s (1024 + p) 1 := by
  simp only [Machine.linkState, h.rdF]
end

/-- The sums of breath `j` after a report of `kind` for the steps of tag `g`. -/
def reported (s : State) (p : Nat) (f : Flit) (j kind : Nat) : State := accAdd (hubTaken s p f) j kind (fRStep f) (fValue f)

section
variable {s : State} {p : Nat} {f : Flit} {j kind : Nat} (hh : brthHier s j = false)
include hh

theorem reported_eq : reported s p f j kind = setBrth (hubTaken s p f) j
    (setAcc (brth s j) (fRStep f) (addReport (accOf (brth s j) (fRStep f)) kind (fValue f))) := by
  obtain ⟨l, hl⟩ := hubTaken_frame s p f
  have hb : brth (hubTaken s p f) j = brth s j := brth_of_breaths (by rw [hl]) j
  have hhier : brthHier (hubTaken s p f) j = false := by
    rw [brthHier, rdB, rd_of_regs (by rw [hl] : (hubTaken s p f).regs = s.regs)]
    exact hh
  rw [reported, accAdd_flat hhier, hb]

theorem reported_frame : LinksAndBreaths s (reported s p f j kind) := by
  obtain ⟨l, hl⟩ := hubTaken_frame s p f
  rw [reported_eq hh, hl]
  exact ⟨l, _, rfl⟩

theorem reported_brth : brth (reported s p f j kind) j =
    setAcc (brth s j) (fRStep f) (addReport (accOf (brth s j) (fRStep f)) kind (fValue f)) := by
  rw [reported_eq hh, brth_setBrth_self]

/-- A report counts for the step of its tag alone. -/
theorem accOf_reported (hk : kind < 3) (t : Nat) : accOf (brth (reported s p f j kind) j) t =
    if fRStep f = t % 4 then
      { accOf (brth s j) t with
        sent := (accOf (brth s j) t).sent + (if kind = 0 then BitVec.ofNat 32 (fValue f) else 0)
        recv := (accOf (brth s j) t).recv + (if kind = 1 then BitVec.ofNat 32 (fValue f) else 0)
        done := if kind = 2 then ((accOf (brth s j) t).done + fValue f) % 2048 else (accOf (brth s j) t).done }
    else accOf (brth s j) t := by
  have hlt : fRStep f < 4 := fld_lt _ 32 2
  rw [reported_brth hh, ← addReport_eq _ hk]
  split
  · rename_i hg
    have hacc : accOf (brth s j) (fRStep f) = accOf (brth s j) t := by rw [accOf, accOf, hg, Nat.mod_mod]
    rw [hacc, accOf, setAcc, Sparse.get_set, if_pos (by omega)]
  · exact accOf_setAcc_ne _ _ (by omega)

end

/-! ### The three outcomes of a report -/

section
variable {s u : State} {j : Nat} {t : BitVec 32} {a : Acc} (hu : LinksAndBreaths s u)
  (hs : brthState s j = 2) (hh : brthHier s j = false) (ht : t = (brth u j).closed + 1) (hst : (brth u j).started = t)
  (ha : a = accOf (brth u j) t.toNat)
include hu hs hh ht hst ha

/-- The breath's oldest open step closes, and its COMMIT is sent. -/
theorem report_closes (hj : j < 64) (hbell : ∀ c, c < 256 → bellRunning s c = true → bellBreath s c ≠ j)
    (hf : AllDone s j a) (he : a.recv = a.sent) :
    Closed u (closeTest 2 u j) j t ∧ bcastSent s (after s (closeTest 2 u j)) j 1 t := by
  have hs' : brthState u j = 2 := (hu.rdF ..).trans hs
  have hh' : brthHier u j = false := by rw [brthHier, rdB, hu.rd]; exact hh
  have hf' : AllDone u j a := ⟨hf.1.trans (hu.rdF ..).symm, hf.2⟩
  have hbell' (c : Nat) (hc : c < 256) : bellRunning u c = true → bellBreath u c ≠ j := by
    rw [bellRunning, bellBreath, hu.rdF, hu.rdF]
    exact hbell c hc
  obtain ⟨hclosed, hwaits⟩ := closeStep_closed t hj hbell'
  rw [closeTest_closes 1 hs' hh' ht hst ha hf' he, closeTest_none 1 (by rw [hclosed.closed, hclosed.started, hst])]
  refine ⟨hclosed, fun hl => ?_⟩
  rw [hu.rdF, hu.linkState, bcastOf_congr (hu.rd _)] at hwaits
  rcases hwaits hl with hw | ⟨x, hx, hxf⟩
  · exact .inl (by rwa [after_mesh])
  · refine .inr ⟨x, ?_, hxf⟩
    have hq : creditQueue (bcastOf s j 1 t) = 0 := by
      have hb := bcast_bcastOf s j 1 t
      simp [creditQueue, hb.type, hb.vc]
    rwa [buf, after_mesh, hq]

/-- More received than sent, or more DONEs than participants, fault the job. -/
theorem report_faults (hj : j < 64) (h : rectCores s j < a.done ∨ (AllDone s j a ∧ 0 < (a.recv - a.sent).toInt)) :
    (closeTest 2 u j).mem = u.mem ∧ (closeTest 2 u j).coreRegs = u.coreRegs
      ∧ (jobState s j = 3 → (brth (closeTest 2 u j) j).closed = (brth u j).closed ∧ brthState (closeTest 2 u j) j = 4
        ∧ rd (closeTest 2 u j) (R.brthFault j) = w64 (2 + t.toNat * 2 ^ 32)
        ∧ (⟨j, 2, t.toNat⟩ : Raised) ∈ (closeTest 2 u j).faults) := by
  have hs' : brthState u j = 2 := (hu.rdF ..).trans hs
  have hh' : brthHier u j = false := by rw [brthHier, rdB, hu.rd]; exact hh
  have hrect : rectCores u j = rectCores s j := hu.rdF ..
  have h' : rectCores u j < a.done ∨ (AllDone u j a ∧ 0 < (a.recv - a.sent).toInt) := by rwa [AllDone, hrect]
  rw [closeTest_faults 1 hs' hh' ht hst ha h']
  obtain ⟨r, b, g, hr⟩ := raise_frame (wr u (R.brthFault j) (w64 (2 + t.toNat * 2 ^ 32))) j 2 t.toNat
  refine ⟨by rw [hr, wr_mem], by rw [hr, wr_coreRegs], fun h3 => ?_⟩
  have hjob : jobState (wr u (R.brthFault j) (w64 (2 + t.toNat * 2 ^ 32))) j = 3 := by
    rw [jobState, rdF, rd_wr_ne (by unfold R.jobState R.brthFault; omega), hu.rd]
    exact h3
  obtain ⟨hfault, hstate, hreg⟩ := raise_running hjob 2 t.toNat
  rw [Nat.mod_eq_of_lt t.isLt] at hfault
  refine ⟨?_, hstate, ?_, hfault⟩
  · rw [raise_of_jobState hjob]
    have hq (v : State) : Quiet j v (failL0 v j 4) := .ite (failCond_quiet hj v 4) (.refl j v)
    have hb (v : State) (c n : Nat) : brth (faulted v j c n) j = brth v j := brth_of_breaths (by simp [faulted, setBrthState]) j
    rw [(hq _).sums.2.1, hb, brth_of_breaths (wr_breaths ..)]
  · rw [hreg _ (by simp [condRegs, R.brthFault, R.l0Cond, R.l0StepsOut, R.jobEvent])
      (by unfold R.brthFault R.brthStatus; omega), rd_wr_self]

/-- Otherwise the step stays open. -/
theorem report_stays (hd : a.done ≤ rectCores s j) (h : ¬ AllDone s j a ∨ (a.recv - a.sent).toInt < 0) :
    closeTest 2 u j = u := by
  have hs' : brthState u j = 2 := (hu.rdF ..).trans hs
  have hh' : brthHier u j = false := by rw [brthHier, rdB, hu.rd]; exact hh
  have hrect : rectCores u j = rectCores s j := hu.rdF ..
  exact closeTest_stays 1 hs' hh' ht hst ha (by rwa [hrect]) (by rwa [AllDone, hrect])

end

/-! ### The rows -/

/-- A source's breath is read from the jobs' rectangles and the converters' registers. -/
theorem srcBreath_congr {s t : State} (h : ∀ o, o ≠ R.hubRowmapMiss → rd t o = rd s o) (src : Nat) :
    srcBreath t src = srcBreath s src := by
  have hstate (j : Nat) : rd t (R.jobState j) = rd s (R.jobState j) :=
    h _ (by unfold R.jobState R.hubRowmapMiss; omega)
  have hrect (j : Nat) : rd t (R.brthRect j) = rd s (R.brthRect j) := h _ (by unfold R.brthRect R.hubRowmapMiss; omega)
  have hconv {o : Nat} (ho : 0x60000 ≤ o) : rd t o = rd s o := h _ (by unfold R.hubRowmapMiss; omega)
  have hcores (j : Nat) : coresOf t j = coresOf s j := by
    simp only [coresOf, jobState, rectX0, rectX1, rectY0, rectY1, rdF, hstate, hrect]
    rfl
  simp only [srcBreath, jobBreath, hcores, rdF, hconv (o := R.mpElems (src - 0x400)) (by unfold R.mpElems; omega),
    hconv (o := R.mpConfig (src - 0x400)) (by unfold R.mpConfig; omega),
    hconv (o := R.bellElems (src - 0x500)) (by unfold R.bellElems; omega),
    hconv (o := R.bellConfig (src - 0x500)) (by unfold R.bellConfig; omega)]
  rfl

theorem exec_hubPortFlit {s : State} (hl : live s = true) (p : HubPort) (f : Flit) (ep : Nat) :
    exec (.hubPortFlit p f ep) s = .next (after s (hubArrive s p.val f ep)) :=
  (rfl : exec _ s = execHubPortFlit p f ep s).trans (act_after _ hl)

section
variable {s : State} (hl : live s = true) (p : HubPort) {f : Flit} (ep : Nat) (hv : vcOk f = true)
  (hn : nextRx s (1024 + p.val) 1 = some f)
include hl hv hn

theorem hubPortFlit_report {j k : Nat} {t : BitVec 32} {o a : Acc} {full : Prop} (h3 : fType f = 3) (hj : j < 64)
    (hk : k < 3) (hr : fRid f = 0x600 + 4 * j + k) (hs : brthState s j = 2) (hh : brthHier s j = false)
    (ht : t = (brth s j).closed + 1) (hst : (brth s j).started = t) (ho : o = accOf (brth s j) t.toNat)
    (ha : a = (if fRStep f = t.toNat % 4 then
        { o with sent := o.sent + (if k = 0 then BitVec.ofNat 32 (fValue f) else 0)
                 recv := o.recv + (if k = 1 then BitVec.ofNat 32 (fValue f) else 0)
                 done := if k = 2 then (o.done + fValue f) % 2048 else o.done } else o))
    (hfull : full = (a.done = rectCores s j ∧ a.started = true ∧ a.waiting = []))
    (hbell : ∀ c, c < 256 → bellRunning s c = true → bellBreath s c ≠ j) :
    ∃ v, exec (.hubPortFlit p f ep) s = .next v ∧ v.mem = s.mem ∧ v.coreRegs = s.coreRegs
      ∧ (full → a.recv = a.sent → (brth v j).closed = t ∧ rd v (R.brthClosed j) = w64 (t.toNat + 2 ^ 32)
        ∧ accOf (brth v j) t.toNat = {} ∧ bcastSent s v j 1 t ∧ v.faults = s.faults)
      ∧ ((rectCores s j < a.done ∨ (full ∧ 0 < (a.recv - a.sent).toInt)) → jobState s j = 3 →
        (brth v j).closed = (brth s j).closed ∧ brthState v j = 4
          ∧ rd v (R.brthFault j) = w64 (2 + t.toNat * 2 ^ 32) ∧ (⟨j, 2, t.toNat⟩ : Raised) ∈ v.faults)
      ∧ (a.done ≤ rectCores s j → (¬ full ∨ (a.recv - a.sent).toInt < 0) →
        accOf (brth v j) t.toNat = a ∧ (brth v j).closed = (brth s j).closed ∧ v.mesh.offers = s.mesh.offers
          ∧ v.faults = s.faults) := by
  subst hfull
  have hu : LinksAndBreaths s (reported s p.val f j k) := reported_frame hh
  have hbr := reported_brth (p := p.val) (f := f) (kind := k) hh
  have hau : a = accOf (brth (reported s p.val f j k) j) t.toNat := by rw [accOf_reported hh hk, ha, ho]
  have hcu : (brth (reported s p.val f j k) j).closed = (brth s j).closed := by rw [hbr]; rfl
  have hsu : (brth (reported s p.val f j k) j).started = t := by rw [hbr, ← hst]; rfl
  rw [← hcu] at ht
  rw [← hcu]
  have hexec := exec_hubPortFlit hl p f ep
  rw [hubArrive_report ep hn hv h3 hj hk hr] at hexec
  change exec (.hubPortFlit p f ep) s = .next (after s (closeTest 2 (reported s p.val f j k) j)) at hexec
  generalize reported s p.val f j k = u at hu hau hcu hsu ht hexec
  have hclosedReg : R.brthClosed j ≠ R.msixPba := by unfold R.brthClosed R.msixPba; omega
  have hfaultReg : R.brthFault j ≠ R.msixPba := by unfold R.brthFault R.msixPba; omega
  have hstateReg : R.brthStatus j ≠ R.msixPba := by unfold R.brthStatus R.msixPba; omega
  refine ⟨_, hexec, ?_⟩
  simp only [after_mem, after_coreRegs, brth_after, after_faults, rd_after _ _ hclosedReg, rd_after _ _ hfaultReg,
    brthState, rdF_after _ _ _ _ hstateReg, after_mesh, ← hu.mem, ← hu.coreRegs, ← hu.faults, ← hu.offers]
  by_cases hA : rectCores s j < a.done ∨ (AllDone s j a ∧ 0 < (a.recv - a.sent).toInt)
  · obtain ⟨hm, hc, hf⟩ := report_faults hu hs hh ht hsu hau hj hA
    refine ⟨hm, hc, fun hfu he => ?_, fun _ => hf, fun hd hor => ?_⟩
    · rcases hA with hA | ⟨-, hA⟩
      · exact absurd hfu.1 (by omega)
      · rw [he, BitVec.sub_self] at hA
        exact absurd hA (by decide)
    · rcases hA with hA | ⟨hA, hp⟩
      · omega
      · rcases hor with hor | hor
        · exact absurd hA hor
        · omega
  · by_cases hB : AllDone s j a ∧ a.recv = a.sent
    · obtain ⟨hclosed, hsent⟩ := report_closes hu hs hh ht hsu hau hj hbell hB.1 hB.2
      refine ⟨hclosed.mem, hclosed.coreRegs, fun _ _ => ⟨hclosed.closed, hclosed.reg, hclosed.acc, hsent, hclosed.faults⟩,
        fun hA' => absurd hA' hA, fun _ hor => ?_⟩
      rcases hor with hor | hor
      · exact absurd hB.1 hor
      · rw [hB.2, BitVec.sub_self] at hor
        exact absurd hor (by decide)
    · have hor : ¬ AllDone s j a ∨ (a.recv - a.sent).toInt < 0 := by
        by_contra hno
        rw [not_or, not_not, not_lt] at hno
        refine hB ⟨hno.1, ?_⟩
        have hle : ¬ 0 < (a.recv - a.sent).toInt := fun hp => hA (.inr ⟨hno.1, hp⟩)
        have hz : a.recv - a.sent = 0#32 := BitVec.eq_of_toInt_eq (by rw [BitVec.toInt_zero]; omega)
        exact sub_eq_zero.1 hz
      rw [report_stays hu hs hh ht hsu hau (by omega) hor]
      exact ⟨rfl, rfl, fun hfu he => absurd ⟨hfu, he⟩ hB, fun hA' => absurd hA' hA, fun _ _ => ⟨hau.symm, rfl, rfl, rfl⟩⟩

/-- An event that no Bell takes and that belongs to no breath is counted as a miss of the row map. -/
theorem hubPortFlit_miss (ht : fType f ≤ 1) (hrow : rowChannel s p.val f = none) (hsrc : srcBreath s (fSrc f) = none)
    (hm : fMark f = false) : ∃ v, exec (.hubPortFlit p f ep) s = .next v
      ∧ rd v R.hubRowmapMiss = w64 (satAdd 32 (rd s R.hubRowmapMiss).toNat 1) ∧ hubRegsKept s v [R.hubRowmapMiss]
      ∧ v.mem = s.mem ∧ v.coreRegs = s.coreRegs ∧ v.breaths = s.breaths := by
  obtain ⟨l, hu⟩ := hubTaken_frame s p.val f
  have hevent : hubEvent (hubTaken s p.val f) p.val f = bump (hubTaken s p.val f) R.hubRowmapMiss 1 := by
    have hrow' : rowChannel (hubTaken s p.val f) p.val f = none := by rw [hu]; exact hrow
    have hsrc' : srcBreath (bump (hubTaken s p.val f) R.hubRowmapMiss 1) (fSrc f) = none := by
      rw [srcBreath_congr fun o ho => (rd_bump_ne _ _ ho).trans (rd_of_regs (by rw [hu]) o)]
      exact hsrc
    unfold hubEvent
    rw [hrow']
    dsimp only
    rw [hsrc']
  have hexec := exec_hubPortFlit hl p f ep
  rw [hubArrive_eq ep hn hv, if_pos ht, hevent, echoFor, if_pos (by simp [hm])] at hexec
  have hr (o : Nat) : rd (hubTaken s p.val f) o = rd s o := rd_of_regs (by rw [hu]) o
  refine ⟨_, hexec, ?_, hubRegsKept_after fun o ho => ?_, ?_, ?_, ?_⟩
  · rw [rd_after _ _ (by decide), rd_bump_self, hr]
  · rw [rd_bump_ne _ _ (by simpa using ho), hr]
  · rw [after_mem, bump_mem, hu]
  · rw [after_coreRegs, bump_coreRegs, hu]
  · rw [after_breaths, bump_breaths, hu]

/-- A reply of a circuit or of an access waits for the hub's endpoint. -/
theorem hubPortFlit_reply (ht : fType f = 6 ∨ fType f = 0xB) : ∃ v, exec (.hubPortFlit p f ep) s = .next v
    ∧ v.mesh.hubRx = s.mesh.hubRx ++ [f] ∧ hubRegsKept s v [] ∧ v.mem = s.mem ∧ v.coreRegs = s.coreRegs
    ∧ v.breaths = s.breaths := by
  obtain ⟨l, hu⟩ := hubTaken_frame s p.val f
  have hexec := exec_hubPortFlit hl p f ep
  rw [hubArrive_eq ep hn hv, if_neg (by omega), if_neg (by omega), if_pos ht, hu] at hexec
  exact ⟨_, hexec, by rw [after_mesh], hubRegsKept_of_regs rfl _, by rw [after_mem], by rw [after_coreRegs],
    by rw [after_breaths]⟩

/-- A flit that no endpoint of the hub takes leaves its credit alone. -/
theorem hubPortFlit_untaken (ht : fType f ∉ [0, 1, 3, 6, 9, 0xB]) : ∃ v, exec (.hubPortFlit p f ep) s = .next v
    ∧ v.mesh.hubRx = s.mesh.hubRx ∧ v.mesh.bufs = s.mesh.bufs ∧ hubRegsKept s v [] ∧ v.mem = s.mem
    ∧ v.coreRegs = s.coreRegs ∧ v.breaths = s.breaths := by
  simp only [List.mem_cons, List.not_mem_nil, or_false, not_or] at ht
  obtain ⟨h0, h1, h3, h6, h9, hB⟩ := ht
  obtain ⟨l, hu⟩ := hubTaken_frame s p.val f
  have hexec := exec_hubPortFlit hl p f ep
  rw [hubArrive_eq ep hn hv, if_neg (by omega), if_neg h3, if_neg (by omega), if_neg h9, hu] at hexec
  exact ⟨_, hexec, by rw [after_mesh], by rw [after_mesh], hubRegsKept_of_regs rfl _, by rw [after_mem],
    by rw [after_coreRegs], by rw [after_breaths]⟩

end

end Sys2Proof.Machine
end

/-! ### The statement of the barrier reports -/

/-- Settles O39: the test of a breath has three ends, a fault, a closing and a stay, by the sums after the report; a
broadcast merges with no flit, so that a closing's COMMIT waits or is buffered; other flits leave their credit. -/
theorem Sys2Proof.Machine.barrierReportsCloseSteps : Obligations.BarrierReportsCloseSteps := by
  unfold Obligations.BarrierReportsCloseSteps
  open Sys2Proof.Machine in
  intro p f ep s hl hv hn
  refine ⟨fun j k t o a full h3 hj hk hr hs hh ht hst ho ha hfull hbell => ?_, fun ht hrow hsrc hm => ?_, fun ht => ?_,
    fun ht => ?_⟩
  · exact hubPortFlit_report hl p ep hv hn h3 hj hk hr hs hh ht hst ho ha hfull hbell
  · exact hubPortFlit_miss hl p ep hv hn ht hrow hsrc hm
  · exact hubPortFlit_reply hl p ep hv hn ht
  · exact hubPortFlit_untaken hl p ep hv hn ht

section
/-! SUPPORT. The mesh: what the entry of flits at a router or a hub port can change (R193 to R198). Circuits, links' states,
cores and memories are none of it. -/
namespace Sys2Proof.Machine

/-! ### What an entry changes -/

/-- The registers that an entry of flits can move: `HUB_DRAIN`, `MESH_MISADDR_HUB`, and the drains and counters of a router
from 0x018 to 0x0FF (Table 8-9). -/
def entryReg (o : Nat) : Prop :=
  o = R.hubDrain ∨ o = R.meshMisaddrHub ∨ (0x100000 ≤ o ∧ 0x18 ≤ o % 0x200 ∧ o % 0x200 < 0x100)

/-- `t` differs from `s` in such registers and in the mesh alone, and not in the hub ports' circuits. -/
structure EntryOnly (s t : State) : Prop where
  only : ∃ r m, t = { s with regs := r, mesh := m }
  hubCirc : t.mesh.hubCirc = s.mesh.hubCirc
  rd : ∀ o, ¬ entryReg o → rd t o = rd s o

namespace EntryOnly

theorem refl (s : State) : EntryOnly s s := ⟨⟨_, _, rfl⟩, rfl, fun _ _ => rfl⟩

theorem trans {s t u : State} (h : EntryOnly s t) (k : EntryOnly t u) : EntryOnly s u where
  only := by
    obtain ⟨_, _, rfl⟩ := h.only
    obtain ⟨r, m, rfl⟩ := k.only
    exact ⟨r, m, rfl⟩
  hubCirc := k.hubCirc.trans h.hubCirc
  rd o ho := (k.rd o ho).trans (h.rd o ho)

theorem ite {s t u : State} {c : Prop} [Decidable c] (h : EntryOnly s t) (k : EntryOnly s u) :
    EntryOnly s (if c then t else u) := by
  split
  · exact h
  · exact k

section
variable {s t : State} (h : EntryOnly s t)
include h
theorem mem : t.mem = s.mem := by obtain ⟨_, _, rfl⟩ := h.only; rfl
theorem coreRegs : t.coreRegs = s.coreRegs := by obtain ⟨_, _, rfl⟩ := h.only; rfl
theorem cores : t.cores = s.cores := by obtain ⟨_, _, rfl⟩ := h.only; rfl
end

end EntryOnly

theorem bump_entry (s : State) {o : Nat} (k : Nat) (h : entryReg o) : EntryOnly s (bump s o k) :=
  ⟨⟨_, _, rfl⟩, rfl, fun _ hx => rd_bump_ne _ _ (by rintro rfl; exact hx h)⟩

theorem setB_entry (s : State) {o : Nat} (i : Nat) (h : entryReg o) : EntryOnly s (setB s o i) :=
  ⟨⟨_, _, rfl⟩, rfl, fun _ hx => rd_setB_ne _ _ (by rintro rfl; exact hx h)⟩

theorem setBuf_entry (s : State) (node p q : Nat) (l : List Held) : EntryOnly s (setBuf s node p q l) :=
  ⟨⟨_, _, rfl⟩, rfl, fun _ _ => rfl⟩

theorem setLink_entry (s : State) (k : Nat) (l : Link) : EntryOnly s (setLink s k l) := ⟨⟨_, _, rfl⟩, rfl, fun _ _ => rfl⟩

theorem freeSlot_entry (s : State) (node p q : Nat) : EntryOnly s (freeSlot s node p q) := by
  unfold freeSlot
  split
  · exact setLink_entry ..
  · exact .refl s

theorem takeRx_entry (s : State) (node p : Nat) : EntryOnly s (takeRx s node p) := by
  unfold takeRx
  split
  · exact setLink_entry ..
  · exact .refl s

/-- A counter or drain of router `n` at offset `k` of its registers. -/
theorem entryReg_router (n : Nat) {k : Nat} (h1 : 0x18 ≤ k) (h2 : k < 0x100) : entryReg (0x100000 + k + 0x200 * n) :=
  .inr (.inr ⟨by omega, by omega, by omega⟩)

theorem entryReg_linkDownDrops (n : Nat) {p : Nat} (h : p < 8) : entryReg (R.linkDownDrops n p) := by
  unfold R.linkDownDrops
  exact .inr (.inr ⟨by omega, by omega, by omega⟩)

theorem noteDrain_entry (s : State) (node p : Nat) (h : Held) : EntryOnly s (noteDrain s node p h) :=
  .ite (.ite (setB_entry _ _ (.inl rfl)) (setB_entry _ _ (entryReg_router node (k := 0x18) (by decide) (by decide)))) (.refl s)

theorem pushHeld_entry (s : State) (node p q : Nat) (h : Held) : EntryOnly s (pushHeld s node p q h) :=
  (setBuf_entry ..).trans (noteDrain_entry ..)

theorem countDrop_entry (s : State) (node : Nat) {o : Nat} (h : o < 8) : EntryOnly s (countDrop s node o) :=
  .ite (.refl s) (bump_entry _ _ (entryReg_linkDownDrops node h))

theorem liveOuts_entry (node : Nat) : ∀ (l : List Nat) (s : State), (∀ o ∈ l, o < 8) → EntryOnly s (liveOuts node l s).2
  | [], s, _ => .refl s
  | o :: r, s, h => by
    have hr := fun x hx => h x (List.mem_cons_of_mem o hx)
    unfold liveOuts
    split
    · exact (countDrop_entry s node (h o (List.mem_cons_self ..))).trans (liveOuts_entry node r _ hr)
    · exact liveOuts_entry node r s hr

theorem takePlace_entry (s : State) (node p q : Nat) (h : Held) {l : List Nat} (hl : ∀ o ∈ l, o < 8) :
    EntryOnly s (takePlace s node p q h l) :=
  .ite ((liveOuts_entry node l s hl).trans (freeSlot_entry ..)) ((liveOuts_entry node l s hl).trans (pushHeld_entry ..))

/-- A router has five outputs. -/
theorem routeOuts_lt (node came : Nat) (f : Flit) : ∀ o ∈ routeOuts node came f, o < 8 := by
  intro o ho
  unfold routeOuts at ho
  dsimp only at ho
  split at ho
  · split at ho <;> simp at ho <;> omega
  · split at ho
    · split at ho
      · simp at ho; omega
      · split at ho
        · split at ho <;> simp at ho <;> omega
        · split at ho
          · split at ho <;> simp at ho <;> omega
          · simp at ho; omega
    · have hone (c : Prop) [Decidable c] (a : Nat) (ha : a < 8) : ∀ x ∈ (if c then [a] else []), x < 8 := by
        intro x hx
        split at hx <;> simp at hx
        omega
      split at ho
      · simp only [List.mem_append] at ho
        rcases ho with (ho | ho) | ho
        · exact hone _ 1 (by decide) o ho
        · exact hone _ 3 (by decide) o ho
        · split at ho
          · simp only [List.mem_append] at ho
            rcases ho with (ho | ho) | ho
            · exact hone _ 2 (by decide) o ho
            · exact hone _ 0 (by decide) o ho
            · exact hone _ 4 (by decide) o ho
          · cases ho
      · simp only [List.mem_append] at ho
        rcases ho with (ho | ho) | ho
        · split at ho
          · exact hone _ 2 (by decide) o ho
          · cases ho
        · split at ho
          · exact hone _ 0 (by decide) o ho
          · cases ho
        · exact hone _ 4 (by decide) o ho

theorem enter_entry (s : State) (node p : Nat) (f : Flit) (cyc : Nat) : EntryOnly s (enter s node p f cyc) := by
  have hb (n k : Nat) (h1 : 0x18 ≤ k) (h2 : k < 0x100) : EntryOnly s (if n ≥ 1024 then s else bump s (0x100000 + k + 0x200 * n) 1) :=
    .ite (.refl s) (bump_entry _ _ (entryReg_router n h1 h2))
  have hbt := hb node 0x30 (by decide) (by decide)
  have hst := hb node 0x38 (by decide) (by decide)
  unfold enter
  extract_lets t vc l
  refine .ite (hbt.trans (freeSlot_entry ..)) (.ite ?_ (.ite ?_ (.ite (pushHeld_entry ..) ?_)))
  · split
    · rename_i k _
      exact takePlace_entry _ _ _ _ _ (by intro o ho; rw [List.mem_singleton] at ho; subst ho; exact fld_lt _ 8 3)
    · exact hst.trans (freeSlot_entry ..)
  · split
    · exact pushHeld_entry ..
    · exact freeSlot_entry ..
  · split
    · refine .ite ?_ ?_
      · have hset := setBuf_entry s node p vc
        exact ((hset _).trans (.ite (.refl _) (bump_entry _ _ (entryReg_router node (k := 0x20) (by decide) (by decide))))).trans
          (freeSlot_entry ..)
      · have hm (c : Prop) [Decidable c] : EntryOnly s (if c then bump s (R.rtrMarks node) 1 else s) :=
          .ite (bump_entry _ _ (entryReg_router node (k := 0x28) (by decide) (by decide))) (.refl s)
        exact (hm _).trans (takePlace_entry _ _ _ _ _ (routeOuts_lt _ _ _))
    · exact takePlace_entry _ _ _ _ _ (routeOuts_lt _ _ _)

theorem noteMoved_entry (s : State) (n : Nat) : EntryOnly s (noteMoved s n) := ⟨⟨_, _, rfl⟩, rfl, fun _ _ => rfl⟩

theorem enterOffer_entry (s : State) (o : Offer) (cyc : Nat) : EntryOnly s (enterOffer s o cyc) := by
  have hs : EntryOnly s (if fVc o.f = 1 ∧ isPeerSrc o.src then shapeTake s o.src else s) :=
    .ite ⟨⟨_, _, rfl⟩, rfl, fun _ _ => rfl⟩ (.refl s)
  have he (t : State) (l : List Offer) : EntryOnly t { t with mesh := { t.mesh with offers := l } } :=
    ⟨⟨_, _, rfl⟩, rfl, fun _ _ => rfl⟩
  exact ((hs.trans (he _ _)).trans (noteMoved_entry ..)).trans (enter_entry ..)

theorem pump_entry (node : Nat) : ∀ (k : Nat) (s : State), EntryOnly s (pump node k s)
  | 0, s => .refl s
  | k + 1, s => by
    unfold pump
    split
    · exact (enterOffer_entry ..).trans (pump_entry node k _)
    · exact .refl s

theorem offered_entry (s : State) (o : Offer) : EntryOnly s (offered s o) := ⟨⟨_, _, rfl⟩, rfl, fun _ _ => rfl⟩

theorem offer_entry (s : State) (node src : Nat) (f : Flit) : EntryOnly s (offer s node src f) :=
  (offered_entry ..).trans (pump_entry ..)

theorem hubInject_entry (s : State) (p src : Nat) (f : Flit) : EntryOnly s (hubInject s p src f) :=
  .ite (bump_entry _ _ (.inr (.inl rfl))) (offer_entry ..)

end Sys2Proof.Machine
end

section
/-! SUPPORT. Circuits and links' states after an entry of flits, and the status flits that a core or a hub port answers
(Tables 8-5, 8-6). -/
namespace Sys2Proof.Machine

/-! ### Circuits -/

/-- The circuits at a node are those of `s`. -/
def CircuitsKept (s t : State) (node : Nat) : Prop := ∀ k, k < 8 → circ t node k = circ s node k

section
variable {s t : State} {node : Nat}

theorem CircuitsKept.trans {u : State} (h : CircuitsKept s t node) (k : CircuitsKept t u node) : CircuitsKept s u node :=
  fun i hi => (k i hi).trans (h i hi)

theorem circuitsKept_of (hc : t.mesh.hubCirc = s.mesh.hubCirc)
    (hr : ∀ k, k < 8 → rd t (R.rtrCircuit node k) = rd s (R.rtrCircuit node k)) : CircuitsKept s t node := by
  intro k hk
  unfold circ
  rw [hc, hr k hk]

theorem EntryOnly.circuits (h : EntryOnly s t) (node : Nat) : CircuitsKept s t node :=
  circuitsKept_of h.hubCirc fun k hk => h.rd _ (by
    unfold entryReg R.rtrCircuit R.hubDrain R.meshMisaddrHub
    omega)

variable (h : CircuitsKept s t node)
include h

theorem CircuitsKept.circMatch (p l : Nat) : circMatch t node p l = circMatch s node p l :=
  List.find?_congr fun k hk => by rw [h k (List.mem_range.1 hk)]

theorem CircuitsKept.circCount : circCount t node = circCount s node :=
  congrArg List.length (List.filter_congr fun k hk => by rw [h k (List.mem_range.1 hk)])

theorem CircuitsKept.shareSum (o : Nat) : shareSum t node o = shareSum s node o :=
  congrArg List.sum (List.map_congr_left fun k hk => by rw [h k (List.mem_range.1 hk)])

theorem CircuitsKept.firstFree :
    ((List.range 8).find? fun k => !bitAt (circ t node k) 0) = (List.range 8).find? fun k => !bitAt (circ s node k) 0 :=
  List.find?_congr fun k hk => by rw [h k (List.mem_range.1 hk)]

theorem CircuitsKept.freeLabel (o : Nat) : freeLabel t node o = freeLabel s node o :=
  congrArg (Option.getD · 0) (List.find?_congr fun l _ => by
    rw [Bool.eq_iff_iff, List.all_eq_true, List.all_eq_true]
    exact forall₂_congr fun k hk => by rw [h k (List.mem_range.1 hk)])

end

/-- The first free entry of a node's circuits, as `k` is one and those before it are taken. -/
theorem firstFree_eq {s : State} {node k : Nat} (hk : k < 8) (h : bitAt (circ s node k) 0 = false)
    (hb : ∀ i, i < k → bitAt (circ s node i) 0 = true) :
    ((List.range 8).find? fun k => !bitAt (circ s node k) 0) = some k := by
  rw [List.find?_range_eq_some]
  exact ⟨by simp [h], List.mem_range.2 hk, fun i hi => by simp [hb i hi]⟩

/-! ### Links' states -/

theorem linkState_congr {s t : State} {node : Nat} (o : Nat) (h1 : rd t (R.hubportStatus (node - 1024)) = rd s (R.hubportStatus (node - 1024)))
    (h2 : rd t (R.rtrStatus node) = rd s (R.rtrStatus node)) : linkState t node o = linkState s node o := by
  unfold linkState rdF
  rw [h1, h2]

theorem EntryOnly.linkState {s t : State} (h : EntryOnly s t) {node : Nat} (hn : node < 1056) (o : Nat) :
    linkState t node o = linkState s node o := by
  refine linkState_congr o (h.rd _ ?_) (h.rd _ ?_)
  · unfold entryReg R.hubportStatus R.hubDrain R.meshMisaddrHub; omega
  · unfold entryReg R.rtrStatus R.hubDrain R.meshMisaddrHub; omega

/-- Whether a setup is refused depends on the node's circuits and links alone. -/
theorem setupRefusal_congr {s t : State} {node : Nat} (h : CircuitsKept s t node)
    (hl : ∀ o, linkState t node o = linkState s node o) (p o : Nat) (f : Flit) :
    setupRefusal t node p o f = setupRefusal s node p o f := by
  unfold setupRefusal
  rw [h.circMatch, h.circCount, h.shareSum, hl]

/-! ### Writes of circuits -/

theorem setCirc_hub (s : State) {node : Nat} (k : Nat) (v : W64) (h : 1024 ≤ node) : setCirc s node k v =
    wrF { s with mesh := { s.mesh with hubCirc := Sparse.set (fun _ => 0) s.mesh.hubCirc ((node - 1024) * 8 + k) v } }
      (R.hubportStatus (node - 1024)) 8 4
      (circCount { s with mesh := { s.mesh with hubCirc := Sparse.set (fun _ => 0) s.mesh.hubCirc ((node - 1024) * 8 + k) v } } node) :=
  if_pos h

theorem setCirc_router (s : State) {node : Nat} (k : Nat) (v : W64) (h : ¬ 1024 ≤ node) : setCirc s node k v =
    wrF (wr s (R.rtrCircuit node k) v) (R.rtrStatus node) 8 4 (circCount (wr s (R.rtrCircuit node k) v) node) :=
  if_neg h

/-- A written circuit reads as written, and the node's others as before. -/
theorem circ_setCirc (s : State) (node k : Nat) {i : Nat} (v : W64) (hi : i < 8) :
    circ (setCirc s node k v) node i = if i = k then v else circ s node i := by
  by_cases h : 1024 ≤ node
  · rw [setCirc_hub s k v h, circ, if_pos h, wrF_mesh, Sparse.get_set, circ, if_pos h]
    simp only [Nat.add_left_cancel_iff]
  · have hne : R.rtrCircuit node i ≠ R.rtrStatus node := by unfold R.rtrCircuit R.rtrStatus; omega
    have hinj : R.rtrCircuit node i = R.rtrCircuit node k ↔ i = k := by unfold R.rtrCircuit; omega
    rw [setCirc_router s k v h, circ, if_neg h, rd_wrF_ne _ _ _ _ hne, circ, if_neg h]
    by_cases hik : i = k
    · rw [if_pos hik, hik, rd_wr_self]
    · rw [if_neg hik, rd_wr_ne (fun he => hik (hinj.1 he))]

theorem setCirc_frame (s : State) (node k : Nat) (v : W64) :
    ∃ r m, setCirc s node k v = { s with regs := r, mesh := m } ∧ m.bufs = s.mesh.bufs := by
  by_cases h : 1024 ≤ node
  · rw [setCirc_hub s k v h]
    exact ⟨_, _, rfl, rfl⟩
  · rw [setCirc_router s k v h]
    exact ⟨_, _, rfl, rfl⟩

end Sys2Proof.Machine
end

section
/-! SUPPORT. Replies on VC0: status and data flits of a core or a hub port (Tables 8-5, 8-6), and where they wait. -/
namespace Sys2Proof.Machine

/-! ### Replies -/

/-- A reply: TYPE 0xB on VC0, to one core or to column 63. -/
structure Reply (f : Flit) : Prop where
  type : fType f = 0xB
  vc : fVc f = 0
  addressed : misaddressed f = false

theorem reply_of_digits {f : Flit} {dx low : Nat} (hN : f.toNat = 0xB * 2 ^ 60 + dx * 2 ^ 50 + low)
    (hdx : dx < 32 ∨ dx = 63) (hlow : low < 2 ^ 50) : Reply f := by
  have hmc : fMc f = false := by
    rw [fMc, bitAt, ← BitVec.testBit_toNat, hN, Nat.testBit_eq_decide_div_mod_eq, decide_eq_false_iff_not]
    omega
  have hx : fDx f = dx := by rw [fDx, ff, fld_eq_div, hN]; omega
  refine ⟨by rw [fType, ff, fld_eq_div, hN]; omega, by rw [fVc, ff, fld_eq_div, hN]; omega, ?_⟩
  rw [misaddressed, hmc, hx]
  simp only [Bool.false_and, Bool.or_false, Bool.and_eq_false_imp, decide_eq_true_eq, decide_eq_false_iff_not]
  omega

theorem toNat_status {dx dy c a o : Nat} (hdx : dx < 64) (hdy : dy < 32) (hc : c < 256) (ha : a < 2 ^ 24) (ho : o < 2048) :
    (w64 (mkHead 0xB 0 false dx dy + 2 ^ 44 + c * 2 ^ 36 + a * 2 ^ 12 + o * 2)).toNat =
      0xB * 2 ^ 60 + dx * 2 ^ 50 + (dy * 2 ^ 45 + 2 ^ 44 + c * 2 ^ 36 + a * 2 ^ 12 + o * 2) := by
  rw [w64, BitVec.toNat_ofNat, mkHead, show b2n false = 0 from rfl, Nat.mod_eq_of_lt hdx, Nat.mod_eq_of_lt hdy]
  omega

theorem reply_mkStatus (dst own code arg : Nat) : Reply (mkStatus dst own code arg) := by
  have hc : code % 256 < 256 := Nat.mod_lt _ (by decide)
  have ha : arg % 2 ^ 24 < 2 ^ 24 := Nat.mod_lt _ (by decide)
  have ho : own % 2048 < 2048 := Nat.mod_lt _ (by decide)
  unfold mkStatus
  dsimp only
  split
  · exact reply_of_digits (toNat_status (by decide) (by decide) hc ha ho) (.inr rfl) (by omega)
  · have hx : dst % 32 < 32 := Nat.mod_lt _ (by decide)
    have hy : dst / 32 % 32 < 32 := Nat.mod_lt _ (by decide)
    exact reply_of_digits (toNat_status (by omega) hy hc ha ho) (.inl hx) (by omega)

theorem reply_mkData (rq tag v : Nat) : Reply (mkData rq tag v) := by
  have hN : (mkData rq tag v).toNat = 0xB * 2 ^ 60 + 63 * 2 ^ 50 + (rq % 16 * 2 ^ 40 + tag % 256 * 2 ^ 32 + v % 2 ^ 32) := by
    simp only [mkData, w64, BitVec.toNat_ofNat, mkHead, b2n, Bool.false_eq_true, if_false]
    omega
  exact reply_of_digits hN (.inr rfl) (by omega)

/-! ### What a core sends -/

theorem fVc_onRow (n : Nat) (f : Flit) : fVc (onRow n f) = fVc f := by
  unfold onRow
  split
  · exact fld_putFld_apart _ _ (.inr (by decide))
  · rfl

/-- A flit that is no setup, and names a node of the mesh, is offered at its core's router. -/
theorem coreSend_addressed (s : State) (n : Nat) {f : Flit} (ht : fType f ≠ 7) (ha : misaddressed f = false) :
    coreSend s n f = offer s n n (onRow n f) := by
  unfold coreSend noteSetup
  rw [if_neg ht, if_neg (by simp [ha])]

theorem Reply.coreSend {f : Flit} (h : Reply f) (s : State) (n : Nat) : coreSend s n f = offer s n n (onRow n f) :=
  coreSend_addressed s n (by rw [h.type]; decide) h.addressed

theorem Reply.coreSend_entry {f : Flit} (h : Reply f) (s : State) (n : Nat) : EntryOnly s (Machine.coreSend s n f) := by
  rw [h.coreSend]
  exact offer_entry ..

/-- On VC0 a core's flits wait for a token: no offer enters at once (R198). -/
theorem nextOffer_vc0 (s : State) {n : Nat} (hn : n < 1024) : ∀ (l a : List Offer),
    (∀ o ∈ l, o.node = n → fVc o.f = 0) → nextOffer s n l a = none
  | [], _, _ => rfl
  | o :: l, a, h => by
    have ho := h o (List.mem_cons_self ..)
    rw [nextOffer, if_neg, nextOffer_vc0 s hn l _ fun x hx => h x (List.mem_cons_of_mem _ hx)]
    simp only [Bool.and_eq_true, Bool.or_eq_true, decide_eq_true_eq, not_and]
    intro hc
    exact absurd (ho hc.1.1.1.1) (by have := hc.1.1.1.2; omega)

/-- A core with nothing on offer offers its reply, and nothing moves. -/
theorem Reply.coreSend_offers {f : Flit} (h : Reply f) {s : State} {n : Nat} (hn : n < 1024)
    (hno : ∀ o ∈ s.mesh.offers, o.node ≠ n) : Machine.coreSend s n f = offered s ⟨n, n, onRow n f⟩ := by
  rw [h.coreSend, offer, pump]
  have hnext : nextOffer (offered s ⟨n, n, onRow n f⟩) n (offered s ⟨n, n, onRow n f⟩).mesh.offers [] = none := by
    refine nextOffer_vc0 _ hn _ _ fun o ho hon => ?_
    rcases List.mem_append.1 ho with ho | ho
    · exact absurd hon (hno o ho)
    · rw [List.mem_singleton.1 ho, fVc_onRow, h.vc]
  exact (congrArg (fun x : Option Offer => match x with
    | some o => pump n s.mesh.offers.length (enterOffer (offered s ⟨n, n, onRow n f⟩) o 0)
    | none => offered s ⟨n, n, onRow n f⟩) hnext)

/-- The reply waits at its core, where the way was clear before. -/
theorem Reply.flitSent {f : Flit} (h : Reply f) {s u v : State} {n : Nat} (hn : n < 1024)
    (hu : u.mesh.offers = s.mesh.offers) (hv : v.mesh.offers = (Machine.coreSend u n f).mesh.offers) : flitSent s v n f := by
  rintro ⟨hno, -⟩
  rw [if_pos h.vc, hv, h.coreSend_offers hn (by rwa [hu])]
  show u.mesh.offers ++ _ = _
  rw [hu]

/-! ### The reply to a circuit's setup -/

/-- What a node's answer changes: registers of entries, the mesh and nothing of the circuits or the links' states. -/
theorem answer_entry (s : State) (node : Nat) {f : Flit} (h : Reply f) : EntryOnly s (answer s node f) := by
  unfold answer
  exact .ite (h.coreSend_entry ..) (.ite ⟨⟨_, _, rfl⟩, rfl, fun _ _ => rfl⟩ (hubInject_entry ..))

theorem circuitReply_entry (s : State) (node : Nat) (f : Flit) (code : Nat) : EntryOnly s (circuitReply s node f code) :=
  answer_entry s node (reply_mkStatus ..)

end Sys2Proof.Machine
end

section
/-! SUPPORT. Setup and teardown of circuits at a node (R206, R207). -/
namespace Sys2Proof.Machine

/-! ### What leaves a node's circuits alone -/

/-- `t` has the memories of `s`, and its circuits and links' states at `node`. -/
structure NodeKept (s t : State) (node : Nat) : Prop where
  mem : t.mem = s.mem
  coreRegs : t.coreRegs = s.coreRegs
  circuits : CircuitsKept s t node
  links : ∀ o, linkState t node o = linkState s node o

namespace NodeKept

theorem refl (s : State) (node : Nat) : NodeKept s s node := ⟨rfl, rfl, fun _ _ => rfl, fun _ => rfl⟩

theorem trans {s t u : State} {node : Nat} (h : NodeKept s t node) (k : NodeKept t u node) : NodeKept s u node :=
  ⟨k.mem.trans h.mem, k.coreRegs.trans h.coreRegs, h.circuits.trans k.circuits, fun o => (k.links o).trans (h.links o)⟩

theorem ite {s t u : State} {node : Nat} {c : Prop} [Decidable c] (h : NodeKept s t node) (k : NodeKept s u node) :
    NodeKept s (if c then t else u) node := by
  split
  · exact h
  · exact k

end NodeKept

theorem EntryOnly.nodeKept {s t : State} (h : EntryOnly s t) {node : Nat} (hn : node < 1056) : NodeKept s t node :=
  ⟨h.mem, h.coreRegs, h.circuits node, h.linkState hn⟩

theorem upCore_nodeKept (s : State) (n : Nat) (f : Core → Core) (node : Nat) : NodeKept s (upCore s n f) node :=
  ⟨rfl, rfl, fun _ _ => rfl, fun _ => rfl⟩

theorem noteSetup_nodeKept (s : State) (n : Nat) (f : Flit) (node : Nat) : NodeKept s (noteSetup s n f) node :=
  .ite (upCore_nodeKept ..) (.refl ..)

theorem circ_after (s u : State) (node k : Nat) : circ (after s u) node k = circ u node k := by
  unfold circ
  rw [after_mesh, rd_after _ _ (by unfold R.rtrCircuit R.msixPba; omega)]

section
variable {node : Nat} (hn : node < 1056) (s : State) (p : Nat) (f : Flit)
include hn

theorem circuitEnter_nodeKept (q : Nat) : NodeKept s (circuitEnter s node p q f) node :=
  .ite (.refl ..) (.ite
    ((noteSetup_nodeKept ..).trans (((noteMoved_entry ..).trans (enter_entry ..)).nodeKept hn))
    (((takeRx_entry ..).trans (enter_entry ..)).nodeKept hn))

/-- A setup that has been answered leaves its buffer, and its place is free. -/
theorem setupAnswered_nodeKept (l : List Held) (code : Nat) :
    NodeKept s (circuitReply (freeSlot (setBuf s node p 3 l) node p 3) node f code) node :=
  (((setBuf_entry ..).trans (freeSlot_entry ..)).trans (circuitReply_entry ..)).nodeKept hn

end

/-! ### Setups -/

/-- The entry of an accepted circuit: valid, input, label, output, its label there, share and source (Table 8-4). -/
def circEntry (s : State) (node p o : Nat) (f : Flit) : W64 :=
  w64 (1 + p * 2 + fLabel f * 2 ^ 4 + o * 2 ^ 8 + freeLabel s node o * 2 ^ 12 + ff f 41 4 * 2 ^ 16 + fSrc f * 2 ^ 32)

section
variable {s : State} {node p : Nat} {f : Flit} (hn : node < 1056) (h : circuitHere s node p 3 f = true)
include hn h

/-- A refused setup occupies no entry. -/
theorem circuitSetup_refused (hr : (setupRefusal s node p ((routeOuts node p f).headD 4) f).isSome = true) :
    NodeKept s (circuitSetup s node p f) node := by
  have hk := circuitEnter_nodeKept hn s p f 3
  obtain ⟨code, hc⟩ := Option.isSome_iff_exists.1 hr
  rw [← setupRefusal_congr hk.circuits hk.links] at hc
  unfold circuitSetup
  rw [if_neg (not_not.2 h)]
  dsimp only
  rw [hc]
  exact hk.trans (setupAnswered_nodeKept hn ..)

/-- An accepted setup occupies the first free entry. -/
theorem circuitSetup_accepted (hr : setupRefusal s node p ((routeOuts node p f).headD 4) f = none) :
    ∃ u, NodeKept s u node ∧ NodeKept (setCirc u node (((List.range 8).find? fun k => !bitAt (circ s node k) 0).getD 0)
      (circEntry s node p ((routeOuts node p f).headD 4) f)) (circuitSetup s node p f) node := by
  have hk := circuitEnter_nodeKept hn s p f 3
  rw [← setupRefusal_congr hk.circuits hk.links] at hr
  refine ⟨_, hk, ?_⟩
  unfold circuitSetup circEntry
  rw [if_neg (not_not.2 h), ← hk.circuits.firstFree, ← hk.circuits.freeLabel]
  dsimp only
  rw [hr]
  dsimp only
  generalize setCirc _ node _ _ = t
  have hfree (l : List Held) : NodeKept t (freeSlot (setBuf t node p 3 l) node p 3) node :=
    ((setBuf_entry ..).trans (freeSlot_entry ..)).nodeKept hn
  have hreply (u : State) : NodeKept u (circuitReply u node f 0x30) node := (circuitReply_entry ..).nodeKept hn
  refine .ite ?_ ((setBuf_entry ..).nodeKept hn)
  exact ((hfree _).trans (.ite (upCore_nodeKept ..) (.refl ..))).trans (hreply _)

end

/-! ### Teardowns -/

theorem noteDrain_mesh' (s : State) (node p : Nat) (h : Held) : (noteDrain s node p h).mesh = s.mesh := by
  unfold noteDrain
  split
  · split <;> rfl
  · rfl

theorem buf_pushHeld_self (s : State) (node p q : Nat) (h : Held) :
    buf (pushHeld s node p q h) node p q = buf s node p q ++ [h] := by
  rw [pushHeld, buf_of_mesh (noteDrain_mesh' ..), buf_setBuf, if_pos rfl]

theorem takeRx_bufs (s : State) (node p : Nat) : (takeRx s node p).mesh.bufs = s.mesh.bufs := by
  unfold takeRx
  split <;> rfl

section
variable {s : State} {node p k : Nat} {f : Flit} (hn : node < 1056) (h8 : fType f = 8)
  (hm : circMatch s node p (fLabel f) = some k)

include hn h8 hm in
/-- A teardown whose circuit is set up takes the head of an empty buffer. -/
theorem circuitEnter_teardown (hb : buf s node p 4 = []) :
    ∃ cyc lab, buf (circuitEnter s node p 4 f) node p 4 = [⟨f, [], cyc, lab⟩]
      ∧ NodeKept s (circuitEnter s node p 4 f) node ∧ (circuitEnter s node p 4 f).cores = s.cores := by
  have henter {t : State} (ht : EntryOnly s t) (hbt : t.mesh.bufs = s.mesh.bufs) :
      buf (enter t node p f 0) node p 4 = [⟨f, [], 0, fLabel f⟩] := by
    have hmt : circMatch t node p (fLabel f) = some k := by rw [(ht.circuits node).circMatch, hm]
    have he : enter t node p f 0 = pushHeld t node p 4 ⟨f, [], 0, fLabel f⟩ := by
      unfold enter
      simp only [h8, Nat.reduceLeDiff, false_and, if_false, Nat.reduceEqDiff, if_true, hmt]
    rw [he, buf_pushHeld_self, buf, hbt, ← buf, hb]
    rfl
  have hset : noteSetup s node f = s := if_neg (by rw [h8]; decide)
  have hno : (buf s node p 4).any (fun h => h.f = f && h.outs.isEmpty) = false := by rw [hb]; rfl
  unfold circuitEnter
  rw [hno, if_neg Bool.false_ne_true, hset]
  split
  · have hE := noteMoved_entry s node
    have hE' := hE.trans (enter_entry _ node p f 0)
    exact ⟨_, _, henter hE rfl, hE'.nodeKept hn, hE'.cores⟩
  · have hE := takeRx_entry s node p
    have hE' := hE.trans (enter_entry _ node p f 0)
    exact ⟨_, _, henter hE (takeRx_bufs ..), hE'.nodeKept hn, hE'.cores⟩

include hn h8 hm in
/-- A teardown frees its circuit's entry. -/
theorem circuitTeardown_frees (h : circuitHere s node p 4 f = true) (hb : buf s node p 4 = [])
    (hlast : fld (circ s node k) 8 3 = 4 → ∀ g ∈ (core s node).rx, fType g = 9 → fLabel g ≠ fld (circ s node k) 12 3) :
    ∃ u, NodeKept s u node ∧ NodeKept (setCirc u node k 0) (circuitTeardown s node p f) node := by
  obtain ⟨cyc, lab, hbuf, hk, hcores⟩ := circuitEnter_teardown hn h8 hm hb
  have hk8 : k < 8 := List.mem_range.1 (List.mem_of_find?_eq_some hm)
  refine ⟨_, hk, ?_⟩
  unfold circuitTeardown
  rw [if_neg (not_not.2 h)]
  dsimp only
  rw [hbuf]
  dsimp only
  rw [if_pos ⟨rfl, rfl⟩, hk.circuits.circMatch, hm]
  dsimp only
  rw [hk.circuits k hk8, if_neg]
  · generalize setCirc _ node k 0 = t
    have ho : fld (circ s node k) 8 3 < 8 := fld_lt _ 8 3
    have hset (l : List Held) := setBuf_entry t node p 4 l
    refine .ite ((((hset _).trans (freeSlot_entry ..)).nodeKept hn).trans (.ite (upCore_nodeKept ..) (.refl ..)))
      (.ite ?_ ((hset _).nodeKept hn))
    exact (((hset _).trans (countDrop_entry _ _ ho)).trans (freeSlot_entry ..)).nodeKept hn
  · rintro ⟨h4, -, hrx⟩
    rw [core_of_cores hcores, List.any_eq_true] at hrx
    obtain ⟨g, hg, hgl⟩ := hrx
    simp only [Bool.and_eq_true, decide_eq_true_eq] at hgl
    exact hlast h4 g hg hgl.1 hgl.2

end

/-! ### A bulk stream that ends early (R334) -/

theorem circuitsKept_hub {s t : State} {node : Nat} (hn : 1024 ≤ node) (h : t.mesh.hubCirc = s.mesh.hubCirc) :
    CircuitsKept s t node := by
  intro k _
  rw [circ, if_pos hn, h, circ, if_pos hn]

theorem sendMsix_hubCirc (s : State) (v : Nat) : (sendMsix s v).mesh = s.mesh := by
  unfold sendMsix
  split <;> rfl

theorem raiseJob_mesh (s : State) (id code : Nat) : (raiseJob s id code).mesh = s.mesh := by
  unfold raiseJob
  split
  · rename_i j _
    obtain ⟨r, b, f, h⟩ := raise_frame s j code (brth s j).started.toNat
    rw [h]
  · rfl

theorem dmaEnd_hubCirc (s : State) (e st : Nat) : (dmaEnd s e st).mesh.hubCirc = s.mesh.hubCirc := by
  have h (t : State) (r : DmaRun) : (setDmaRun t e r).mesh.hubCirc = t.mesh.hubCirc := rfl
  unfold dmaEnd
  dsimp only
  split
  · rw [sendMsix_hubCirc, h]
    rfl
  · rw [h]
    rfl

theorem dmaJobCode_mesh (s : State) (fault : Nat) : (dmaJobCode s fault).2.mesh = s.mesh := by
  unfold dmaJobCode
  split
  · rfl
  · split
    · rfl
    · split <;> rfl

theorem dmaFault_hubCirc (s : State) (e fault a : Nat) : (dmaFault s e fault a).mesh.hubCirc = s.mesh.hubCirc := by
  unfold dmaFault
  extract_lets u c t
  have ht : t.mesh = u.mesh := by
    simp only [t]
    split
    · rw [raiseJob_mesh]
      exact dmaJobCode_mesh ..
    · rfl
  rw [dmaEnd_hubCirc, ht]
  rfl

theorem streamCut_hubCirc (s : State) (src : Nat) : (streamCut s src).mesh.hubCirc = s.mesh.hubCirc := by
  unfold streamCut
  split
  · split
    · exact dmaFault_hubCirc ..
    · rfl
  · rfl

/-! ### The rows -/

theorem nodeIx_lt (node : Node) : nodeIx node < 1056 := by
  cases node with
  | router n => exact lt_trans n.isLt (by decide)
  | hub p =>
    have := p.isLt
    show 1024 + p.val < 1056
    omega

section
variable {s : State} (hl : live s = true) (node : Node) (p : Port) {f : Flit}
include hl

theorem exec_circuitSetup (h7 : fType f = 7) :
    exec (.circuitSetup node p f) s = .next (after s (circuitSetup s (nodeIx node) (portIx p) f)) :=
  (rfl : exec _ s = execCircuitSetup node p f s).trans ((act_after _ hl).trans (by rw [if_pos h7]))

theorem circuitSetup_row {o : Nat} (h7 : fType f = 7) (h : circuitHere s (nodeIx node) (portIx p) 3 f = true)
    (ho : o = (routeOuts (nodeIx node) (portIx p) f).headD 4) :
    ∃ v, exec (.circuitSetup node p f) s = .next v ∧ v.mem = s.mem ∧ v.coreRegs = s.coreRegs
      ∧ ((setupRefusal s (nodeIx node) (portIx p) o f).isSome = true →
        ∀ k, k < 8 → circ v (nodeIx node) k = circ s (nodeIx node) k)
      ∧ (∀ k, setupRefusal s (nodeIx node) (portIx p) o f = none → k < 8 → bitAt (circ s (nodeIx node) k) 0 = false →
        (∀ i, i < k → bitAt (circ s (nodeIx node) i) 0 = true) →
        circ v (nodeIx node) k = w64 (1 + portIx p * 2 + fLabel f * 2 ^ 4 + o * 2 ^ 8
            + freeLabel s (nodeIx node) o * 2 ^ 12 + ff f 41 4 * 2 ^ 16 + fSrc f * 2 ^ 32)
          ∧ ∀ i, i < 8 → i ≠ k → circ v (nodeIx node) i = circ s (nodeIx node) i) := by
  subst ho
  have hn := nodeIx_lt node
  refine ⟨_, exec_circuitSetup hl node p h7, ?_⟩
  simp only [after_mem, after_coreRegs, circ_after]
  cases hr : setupRefusal s (nodeIx node) (portIx p) ((routeOuts (nodeIx node) (portIx p) f).headD 4) f with
  | some code =>
    have hk := circuitSetup_refused hn h (by rw [hr]; rfl)
    exact ⟨hk.mem, hk.coreRegs, fun _ => hk.circuits, nofun⟩
  | none =>
    obtain ⟨u, hu, hv⟩ := circuitSetup_accepted hn h hr
    obtain ⟨r, m, hc, -⟩ := setCirc_frame u (nodeIx node)
      (((List.range 8).find? fun k => !bitAt (circ s (nodeIx node) k) 0).getD 0)
      (circEntry s (nodeIx node) (portIx p) ((routeOuts (nodeIx node) (portIx p) f).headD 4) f)
    refine ⟨hv.mem.trans ((by rw [hc] : _ = u.mem).trans hu.mem), hv.coreRegs.trans ((by rw [hc] : _ = u.coreRegs).trans hu.coreRegs),
      nofun, fun k _ hk hfree htaken => ?_⟩
    rw [firstFree_eq hk hfree htaken, Option.getD_some] at hv
    refine ⟨?_, fun i hi hne => ?_⟩
    · rw [hv.circuits k hk, circ_setCirc _ _ _ _ hk, if_pos rfl, circEntry]
    · rw [hv.circuits i hi, circ_setCirc _ _ _ _ hi, if_neg hne, hu.circuits i hi]

theorem exec_circuitTeardown (h8 : fType f = 8) : ∃ w, exec (.circuitTeardown node p f) s = .next (after s w)
    ∧ CircuitsKept (circuitTeardown s (nodeIx node) (portIx p) f) w (nodeIx node) := by
  have hact := act_after (fun s => if fType f ≠ 8 then s else
    let k := nodeIx node
    let before := circCount s k
    let t := circuitTeardown s k (portIx p) f
    if k ≥ 1024 ∧ portIx p = 1 ∧ circCount t k < before then streamCut t (fSrc f) else t) hl
  have hexec : exec (.circuitTeardown node p f) s = _ := (rfl : exec _ s = execCircuitTeardown node p f s).trans hact
  rw [if_neg (not_not.2 h8)] at hexec
  refine ⟨_, hexec, ?_⟩
  dsimp only
  split
  · rename_i hc
    exact circuitsKept_hub hc.1 (streamCut_hubCirc ..)
  · exact fun _ _ => rfl

theorem circuitTeardown_row {k : Nat} (h8 : fType f = 8) (hb : buf s (nodeIx node) (portIx p) 4 = [])
    (h : circuitHere s (nodeIx node) (portIx p) 4 f = true)
    (hm : circMatch s (nodeIx node) (portIx p) (fLabel f) = some k)
    (hlast : fld (circ s (nodeIx node) k) 8 3 = 4 → ∀ g ∈ (core s (nodeIx node)).rx, fType g = 9 →
      fLabel g ≠ fld (circ s (nodeIx node) k) 12 3) :
    ∃ v, exec (.circuitTeardown node p f) s = .next v ∧ circ v (nodeIx node) k = 0
      ∧ ∀ i, i < 8 → i ≠ k → circ v (nodeIx node) i = circ s (nodeIx node) i := by
  have hk : k < 8 := List.mem_range.1 (List.mem_of_find?_eq_some hm)
  obtain ⟨w, hexec, hw⟩ := exec_circuitTeardown hl node p h8
  obtain ⟨u, hu, hv⟩ := circuitTeardown_frees (nodeIx_lt node) h8 hm h hb hlast
  have hcirc {i : Nat} (hi : i < 8) : circ (after s w) (nodeIx node) i = if i = k then 0 else circ s (nodeIx node) i := by
    rw [circ_after, hw i hi, hv.circuits i hi, circ_setCirc _ _ _ _ hi, hu.circuits i hi]
  exact ⟨_, hexec, by rw [hcirc hk, if_pos rfl], fun i hi hne => by rw [hcirc hi, if_neg hne]⟩

end

end Sys2Proof.Machine
end

section
/-! SUPPORT. Accesses and replies that a core's Queue/DMA unit takes (R239, R253, R254). -/
namespace Sys2Proof.Machine

/-! ### A flit that is taken -/

theorem core_takeLocal_self (s : State) (n : Nat) (f : Flit) :
    core (takeLocal s n f) n = { core s n with rx := (core s n).rx.erase f } := core_upCore_self ..

theorem engineTakes_next {s : State} {n : Nat} {f : Flit} (eff : State → State) (hs : stopped s n = false)
    (hn : nextLocal s n f = true) : engineTakes s n f eff = eff (takeLocal s n f) := by
  rw [engineTakes, if_neg (by simp [hs, hn])]

/-- A flit that is no event leaves what waits for the neuron engine as it was. -/
theorem any_erase_event {l : List Flit} {f : Flit} (h : ¬ fType f ≤ 1) :
    (l.erase f).any (fun g => fType g ≤ 1) = l.any fun g => fType g ≤ 1 := by
  rw [Bool.eq_iff_iff, List.any_eq_true, List.any_eq_true]
  constructor
  · rintro ⟨g, hg, hp⟩
    exact ⟨g, List.mem_of_mem_erase hg, hp⟩
  · rintro ⟨g, hg, hp⟩
    refine ⟨g, (List.mem_erase_of_ne ?_).2 hg, hp⟩
    rintro rfl
    exact h (of_decide_eq_true hp)

section
variable (s : State) (n : Nat) (g : Flit)

theorem rollbackPending_takeLocal : rollbackPending (takeLocal s n g) n = rollbackPending s n := by
  unfold rollbackPending
  rw [core_takeLocal_self]
  rfl

theorem stalledOn_takeLocal : stalledOn (takeLocal s n g) n = stalledOn s n := by
  unfold stalledOn
  rw [core_takeLocal_self]

theorem mreadDone_takeLocal (t : BitVec 32) : mreadDone (takeLocal s n g) n t = mreadDone s n t := by
  unfold mreadDone
  rw [core_takeLocal_self]
  rfl

theorem extHeld_takeLocal (q : Nat) : extHeld (takeLocal s n g) n q = extHeld s n q := by
  unfold extHeld
  rw [rollbackPending_takeLocal, core_takeLocal_self]
  rfl

theorem qStatusRead_takeLocal : qStatusRead (takeLocal s n g) n = qStatusRead s n := by
  unfold qStatusRead
  rw [core_takeLocal_self]

theorem neStatusRead_takeLocal : neStatusRead (takeLocal s n g) n = neStatusRead s n := by
  unfold neStatusRead
  rw [stalledOn_takeLocal, core_takeLocal_self]
  rfl

theorem ovbStatusRead_takeLocal : ovbStatusRead (takeLocal s n g) n = ovbStatusRead s n := by
  unfold ovbStatusRead
  rw [rollbackPending_takeLocal, stalledOn_takeLocal, core_takeLocal_self]
  simp only [extHeld_takeLocal, mreadDone_takeLocal]
  rfl

theorem splitComplete_takeLocal (t : BitVec 32) : splitComplete (takeLocal s n g) n t = splitComplete s n t := by
  unfold splitComplete splitCount
  rw [core_takeLocal_self]
  rfl

variable {g} (h : ¬ fType g ≤ 1)
include h

theorem coreStatusRead_takeLocal : coreStatusRead (takeLocal s n g) n = coreStatusRead s n := by
  unfold coreStatusRead
  rw [core_takeLocal_self]
  simp only [splitComplete_takeLocal, any_erase_event h]
  rfl

theorem coreRegRead_takeLocal (r : Nat) : coreRegRead (takeLocal s n g) n r = coreRegRead s n r := by
  unfold coreRegRead
  rw [qStatusRead_takeLocal, coreStatusRead_takeLocal s n h, ovbStatusRead_takeLocal, neStatusRead_takeLocal]
  rfl

/-- The taking of a flit that is no event changes nothing that an access reads. -/
theorem readWord_takeLocal (f : Flit) : readWord (takeLocal s n g) n f = readWord s n f := by
  unfold readWord
  dsimp only
  rw [core_takeLocal_self, coreRegRead_takeLocal s n h]
  rfl

end

/-! ### Accesses -/

/-- A flit that is no setup and that its core sends changes no memory, and nothing that the core holds. -/
theorem coreSend_kept (s : State) (n : Nat) {f : Flit} (ht : fType f ≠ 7) :
    (coreSend s n f).mem = s.mem ∧ (coreSend s n f).cores = s.cores := by
  unfold coreSend noteSetup
  rw [if_neg ht]
  dsimp only
  split
  · exact ⟨rfl, rfl⟩
  · exact ⟨(offer_entry ..).mem, (offer_entry ..).cores⟩

section
variable {s : State} (hl : live s = true) (n : CoreId) {f : Flit} (hs : stopped s n.val = false)
  (hn : nextLocal s n.val f = true)

theorem isCtrl_type {f : Flit} {op : Nat} (h : isCtrl f op = true) : fType f = 0xA := by
  rw [isCtrl, Bool.and_eq_true, decide_eq_true_eq] at h
  exact h.1

include hl hs hn

theorem exec_ctrlRead (h : isCtrl f 0 = true) :
    exec (.ctrlRead n f) s = .next (after s (ctrlRead (takeLocal s n.val f) n.val f)) :=
  (rfl : exec _ s = execCtrlRead n f s).trans ((act_after _ hl).trans (by rw [if_pos h, engineTakes_next _ hs hn]))

/-- A READ is answered with the half word it names. -/
theorem ctrlRead_row (h : isCtrl f 0 = true) : ∃ v, exec (.ctrlRead n f) s = .next v
    ∧ v.mem = s.mem ∧ v.coreRegs = s.coreRegs
    ∧ flitSent s v n.val (mkData (ff f 39 4) (ff f 13 8)
      (if bitAt f 21 then fld (readWord s n.val f) 32 32 else fld (readWord s n.val f) 0 32)) := by
  refine ⟨_, exec_ctrlRead hl n hs hn h, ?_⟩
  have hw : readWord (takeLocal s n.val f) n.val f = readWord s n.val f :=
    readWord_takeLocal s n.val (by rw [isCtrl_type h]; decide) f
  unfold ctrlRead
  rw [hw]
  dsimp only
  generalize (if bitAt f 21 = true then fld (readWord s n.val f) 32 32 else fld (readWord s n.val f) 0 32) = x
  have hu (c : Prop) [Decidable c] (k : Core → Core) : ∃ m, (if c then upCore (takeLocal s n.val f) n.val k
      else takeLocal s n.val f) = { s with cores := m } := by
    split <;> exact ⟨_, rfl⟩
  obtain ⟨m, hm⟩ := hu (isMread (takeLocal s n.val f) n.val f && bitAt f 20)
    fun c => { c with mread := some (mreadStep (takeLocal s n.val f) n.val (ff f 13 2)) }
  rw [hm]
  have hr := reply_mkData (ff f 39 4) (ff f 13 8) x
  have he := hr.coreSend_entry { s with cores := m } n.val
  refine ⟨by rw [after_mem, he.mem], by rw [after_coreRegs, he.coreRegs], ?_⟩
  exact hr.flitSent (u := { s with cores := m }) n.isLt rfl (by rw [after_mesh])

/-- The first flit of a WRITE is kept for its request. -/
theorem ctrlWriteA_row (h : isCtrl f 1 = true) : ∃ v, exec (.ctrlWriteA n f) s = .next v
    ∧ v.mem = s.mem ∧ v.coreRegs = s.coreRegs
    ∧ Sparse.get (fun _ => 0) (core v n.val).writeA (ff f 39 4) = f.toNat + 1 := by
  refine ⟨_, (rfl : exec _ s = execCtrlWriteA n f s).trans ((act_after _ hl).trans (by
    rw [if_pos h, engineTakes_next _ hs hn])), ?_, ?_, ?_⟩
  · rw [after_mem]; rfl
  · rw [after_coreRegs]; rfl
  · rw [core_after, core_upCore_self]
    simp [Sparse.get_set]

theorem exec_ctrlResp_core (h : isStatus f = true) (hc : fCode f = 0x20) :
    exec (.ctrlResp (.core n) f) s = .next (after s (takeLocal s n.val f)) := by
  have ht : fType f = 0xB := by
    rw [isStatus, Bool.and_eq_true, decide_eq_true_eq] at h
    exact h.1
  have hact := act_after (fun s => if fType f ≠ 0xB then s else
    if isStatus f ∧ fCode f = 0x20 then engineTakes s n.val f fun s => s else s) hl
  rw [if_neg (not_not.2 ht), if_pos ⟨h, hc⟩, engineTakes_next _ hs hn] at hact
  exact (rfl : exec _ s = execCtrlResp (.core n) f s).trans hact

/-- A DONE of a WRITE is taken, and does nothing else. -/
theorem ctrlResp_core_row (h : isStatus f = true) (hc : fCode f = 0x20) : ∃ v, exec (.ctrlResp (.core n) f) s = .next v
    ∧ (core v n.val).rx = (core s n.val).rx.erase f ∧ v.mem = s.mem ∧ v.coreRegs = s.coreRegs := by
  refine ⟨_, exec_ctrlResp_core hl n hs hn h hc, ?_, ?_, ?_⟩
  · rw [core_after, core_takeLocal_self]
  · rw [after_mem]; rfl
  · rw [after_coreRegs]; rfl

theorem exec_circuitReply (h : isStatus f = true) (h1 : 0x30 ≤ fCode f) (h2 : fCode f ≤ 0x34) :
    exec (.circuitReply n f) s = .next (after s (circuitAnswer (takeLocal s n.val f) n.val f)) :=
  (rfl : exec _ s = execCircuitReply n f s).trans ((act_after _ hl).trans (by
    rw [if_pos ⟨h, h1, h2⟩, engineTakes_next _ hs hn]))

/-- The reply to a core's setup: an acceptance is noted, and a refusal ends the circuit. -/
theorem circuitReply_row {k : Nat} {g : W64} (h : isStatus f = true) (hk : k = ff f 33 3)
    (hg : g = Sparse.get (fun _ => 0) (core s n.val).circOut k) (hg0 : g ≠ 0) :
    (fCode f = 0x30 → ∃ v, exec (.circuitReply n f) s = .next v ∧ v.mem = s.mem
        ∧ Sparse.get (fun _ => 0) (core v n.val).circOut k = setBit g 0)
      ∧ (0x31 ≤ fCode f → fCode f ≤ 0x34 → ∃ v, exec (.circuitReply n f) s = .next v ∧ v.mem = s.mem
        ∧ Sparse.get (fun _ => 0) (core v n.val).circOut k = 0) := by
  subst hk hg
  have hout : Sparse.get (fun _ => 0) (core (takeLocal s n.val f) n.val).circOut (ff f 33 3) =
      Sparse.get (fun _ => 0) (core s n.val).circOut (ff f 33 3) := by rw [core_takeLocal_self]
  generalize hg : Sparse.get (fun _ => 0) (core s n.val).circOut (ff f 33 3) = g at hg0 hout
  refine ⟨fun h30 => ⟨_, exec_circuitReply hl n hs hn h (by omega) (by omega), ?_⟩,
    fun h31 h34 => ⟨_, exec_circuitReply hl n hs hn h (by omega) h34, ?_⟩⟩
  · unfold circuitAnswer
    dsimp only
    rw [hout, if_neg hg0, if_pos h30, after_mem, core_after, core_upCore_self]
    exact ⟨rfl, by simp [Sparse.get_set]⟩
  · unfold circuitAnswer
    dsimp only
    rw [hout, if_neg hg0, if_neg (by omega), after_mem, core_after]
    have ht : fType (putFld (clrBit g 0) 60 4 8) ≠ 7 := by
      rw [fType, ff, fld_putFld_self _ _ (by decide)]
      decide
    have hk := coreSend_kept (upCore (takeLocal s n.val f) n.val fun c =>
      { c with circOut := Sparse.set (fun _ => 0) c.circOut (ff f 33 3) 0 }) n.val ht
    rw [hk.1, core_of_cores hk.2, core_upCore_self]
    exact ⟨rfl, by simp [Sparse.get_set]⟩

end

/-! ### Replies at the hub -/

/-- The state in which the hub's endpoint has its reply. -/
def replyTaken (s : State) (f : Flit) : State :=
  { s with mesh := { s.mesh with
      hubRx := s.mesh.hubRx.erase f
      resp := Sparse.set (fun _ => 0) s.mesh.resp (if bitAt f 44 then ff f 32 4 else ff f 40 4) f } }

theorem takeHub_mem {s : State} {f : Flit} (hf : f ∈ s.mesh.hubRx) (eff : State → State) :
    takeHub s f eff = eff { s with mesh := { s.mesh with hubRx := s.mesh.hubRx.erase f } } :=
  if_pos (List.contains_iff_mem.2 hf)

/-- What every endpoint of the hub but a DMA engine does with a reply. -/
def hubReply (f : Flit) (s : State) : State :=
  if fType f ≠ 0xB then s else takeHub s f fun s =>
    { s with mesh := { s.mesh with resp := Sparse.set (fun _ => 0) s.mesh.resp (if bitAt f 44 then ff f 32 4 else ff f 40 4) f } }

theorem execCtrlResp_plain (s : State) (f : Flit) {who : Endpoint} (hc : ∀ m, who ≠ .core m) (hd : ∀ e, who ≠ .dma e) :
    execCtrlResp who f s = act s (hubReply f) := by
  unfold execCtrlResp hubReply
  cases who with
  | core m => exact absurd rfl (hc m)
  | dma e => exact absurd rfl (hd e)
  | mouthpiece _ | bell _ | breath | chanter _ | evtPort | peer _ | host => rfl

theorem hubReply_eq {s : State} {f : Flit} (ht : fType f = 0xB) (hf : f ∈ s.mesh.hubRx) : hubReply f s = replyTaken s f := by
  rw [hubReply, if_neg (not_not.2 ht), takeHub_mem hf]
  rfl

theorem exec_ctrlResp_hub {s : State} (hl : live s = true) {who : Endpoint} {f : Flit} (hw : ∀ m, who ≠ .core m)
    (ht : fType f = 0xB) (hf : f ∈ s.mesh.hubRx) (hd : (∃ e, who = .dma e) → isStatus f = true → fCode f < 0x20) :
    exec (.ctrlResp who f) s = .next (after s (replyTaken s f)) := by
  cases who with
  | core m => exact absurd rfl (hw m)
  | dma e =>
    have hact := act_after (fun s => if fType f ≠ 0xB then s else takeHub s f fun s =>
      let rq := if bitAt f 44 then ff f 32 4 else ff f 40 4
      let s := { s with mesh := { s.mesh with resp := Sparse.set (fun _ => 0) s.mesh.resp rq f } }
      if isStatus f ∧ fCode f ≥ 0x20 then dmaAnswer s e.val (fSrc f) (fCode f) else s) hl
    have hlow : ¬ (isStatus f = true ∧ fCode f ≥ 0x20) := fun h => by have := hd ⟨e, rfl⟩ h.1; omega
    rw [if_neg (not_not.2 ht), takeHub_mem hf] at hact
    dsimp only at hact
    rw [if_neg hlow] at hact
    exact (rfl : exec _ s = execCtrlResp (.dma e) f s).trans hact
  | mouthpiece _ | bell _ | breath | chanter _ | evtPort | peer _ | host =>
    have hexec (w : Endpoint) : exec (.ctrlResp w f) s = execCtrlResp w f s := rfl
    rw [hexec, execCtrlResp_plain s f (by nofun) (by nofun), act_after _ hl, hubReply_eq ht hf]

theorem ctrlResp_hub_row {s : State} (hl : live s = true) {who : Endpoint} {f : Flit} (hw : ∀ m, who ≠ .core m)
    (ht : fType f = 0xB) (hf : f ∈ s.mesh.hubRx) (hd : (∃ e, who = .dma e) → isStatus f = true → fCode f < 0x20) :
    ∃ v, exec (.ctrlResp who f) s = .next v ∧ v.mesh.hubRx = s.mesh.hubRx.erase f
      ∧ Sparse.get (fun _ => 0) v.mesh.resp (if bitAt f 44 then ff f 32 4 else ff f 40 4) = f
      ∧ v.mem = s.mem ∧ v.coreRegs = s.coreRegs := by
  refine ⟨_, exec_ctrlResp_hub hl hw ht hf hd, ?_, ?_, ?_, ?_⟩
  · rw [after_mesh]; rfl
  · rw [after_mesh]
    simp [replyTaken, Sparse.get_set]
  · rw [after_mem]; rfl
  · rw [after_coreRegs]; rfl

end Sys2Proof.Machine
end

section
/-! SUPPORT. Binds of bulk streams and the blocks that they bring to a core (R239, R255). -/
namespace Sys2Proof.Machine

/-! ### Bytes of a word -/

theorem leBytes_leNat : ∀ l : List Byte, leBytes l.length (leNat l) = l
  | [] => rfl
  | b :: l => by
    have hb := b.isLt
    rw [List.length_cons, leNat, leBytes, show (b.toNat + 256 * leNat l) / 256 = leNat l by omega, leBytes_leNat l]
    congr 1
    apply BitVec.eq_of_toNat_eq
    rw [BitVec.toNat_ofNat]
    omega

theorem leNat_leBytes : ∀ n v : Nat, leNat (leBytes n v) = v % 256 ^ n
  | 0, v => by simp [leBytes, leNat, Nat.mod_one]
  | n + 1, v => by
    rw [show 256 ^ (n + 1) = 256 * 256 ^ n from Nat.pow_succ', Nat.mod_mul, leBytes, leNat, leNat_leBytes n]
    rfl

/-- The bytes of the word that eight bytes make. -/
theorem leBytes_word {l : List Byte} (h : l.length = 8) : leBytes 8 (w64 (leNat l)).toNat = l := by
  have hlt := leNat_lt l
  rw [h] at hlt
  rw [w64, BitVec.toNat_ofNat, Nat.mod_eq_of_lt (by omega), ← h, leBytes_leNat]

/-! ### Binds -/

section
variable {s : State} (hl : live s = true) (n : CoreId) {f : Flit} {bodies : List Flit}
  (h : messageHere s n.val f bodies = true)

/-- The state in which a message's flits have left the core's input. -/
def messageTaken (s : State) (n : Nat) (head : Flit) (bodies : List Flit) : State :=
  upCore s n fun c => { c with rx := (head :: bodies).foldl (fun l f => l.erase f) c.rx }

include h in
theorem messageHere_type : fType f = 4 := by
  unfold messageHere at h
  simp only [Bool.and_eq_true, decide_eq_true_eq] at h
  exact h.1.1.1.2

include hl h

theorem exec_bulkBind (hk : hKind f = 1) : exec (.bulkBind n f bodies) s =
    .next (after s (bulkBind (messageTaken s n.val f bodies) n.val f (bodyBytes bodies))) :=
  (rfl : exec _ s = execBulkBind n f bodies s).trans ((act_after _ hl).trans (by
    rw [if_pos ⟨messageHere_type n h, hk⟩, takeMessage, if_pos h]
    rfl))

/-- A bind takes one of eight places, or is answered NACK_BUSY. -/
theorem bulkBind_row {b : Bind} {l : List Bind} (hk : hKind f = 1) (hb : b = mkBind (fSrc f) (bodyBytes bodies))
    (hlist : l = (core s n.val).binds.filter (fun x => !(x.src = b.src && x.circuit = b.circuit))) :
    ∃ v, exec (.bulkBind n f bodies) s = .next v ∧ v.mem = s.mem
      ∧ (l.length < 8 → (core v n.val).binds = l ++ [b] ∧ v.coreRegs = s.coreRegs)
      ∧ (8 ≤ l.length → (core v n.val).binds = (core s n.val).binds
        ∧ queueAnswered s v n.val (fSrc f) 0x11 (hQidx f) 0) := by
  refine ⟨_, exec_bulkBind hl n h hk, ?_⟩
  have hcore : core (messageTaken s n.val f bodies) n.val =
      { core s n.val with rx := (f :: bodies).foldl (fun l f => l.erase f) (core s n.val).rx } := core_upCore_self ..
  have hbinds : (core (messageTaken s n.val f bodies) n.val).binds = (core s n.val).binds := by rw [hcore]
  have hmem : (messageTaken s n.val f bodies).mem = s.mem := rfl
  have hregs : (messageTaken s n.val f bodies).coreRegs = s.coreRegs := rfl
  have hoffers : (messageTaken s n.val f bodies).mesh.offers = s.mesh.offers := rfl
  generalize messageTaken s n.val f bodies = u at hbinds hmem hregs hoffers
  simp only [after_mem, core_after, after_coreRegs]
  unfold bulkBind
  dsimp only
  rw [← hb, hbinds, ← hlist]
  by_cases h8 : l.length ≥ 8
  · rw [if_pos h8]
    have hr := reply_mkStatus (fSrc f) n.val 0x11 (qArg (hQidx f) 0)
    have hans : qAnswer u n.val (fSrc f) 0x11 (hQidx f) 0 =
        coreSend (cbump u n.val R.qNackSent 1) n.val (mkStatus (fSrc f) n.val 0x11 (qArg (hQidx f) 0)) := rfl
    have he := hr.coreSend_entry (cbump u n.val R.qNackSent 1) n.val
    refine ⟨?_, fun hlt => absurd hlt (by omega), fun _ => ⟨?_, ?_⟩⟩
    · rw [hans, he.mem, cbump_mem, hmem]
    · rw [hans, core_of_cores (he.cores.trans (cbump_cores ..)), hbinds]
    · refine hr.flitSent (u := cbump u n.val R.qNackSent 1) n.isLt ?_ (by rw [hans, after_mesh])
      rw [cbump_mesh, hoffers]
  · rw [if_neg h8]
    exact ⟨hmem, fun _ => ⟨by rw [core_upCore_self], hregs⟩, fun hge => absurd hge h8⟩

end

/-! ### Words that a block writes through port B -/

/-- `t` differs from `s` in memory and in core `n`'s count of words that port A took. -/
structure PortBKept (s t : State) (n : Nat) : Prop where
  cores : t.cores = s.cores
  coreRegs : ∀ r, r < 0x8000 → r ≠ R.plasWriteLost → cr t n r = cr s n r

theorem plasWrites_congr {s t : State} {n : Nat} (h : PortBKept s t n) (off : Nat) : plasWrites t n off = plasWrites s n off := by
  unfold plasWrites plasActive crB
  rw [core_of_cores h.cores, h.coreRegs _ (by decide) (by decide)]

/-- One word through port B of a core's memory. -/
def portBWord (n : Nat) (raced : Bool) (l : List Byte) (s : State) (off : Nat) : State :=
  if raced && plasWrites s n off then cbump s n R.plasWriteLost 1 else stN s (coreBase n + off) l

theorem portBWord_kept (n : Nat) (raced : Bool) (l : List Byte) (s : State) (off : Nat) :
    PortBKept s (portBWord n raced l s off) n := by
  unfold portBWord
  split
  · exact ⟨rfl, fun r hr hne => cr_cw_ne _ _ (by decide) hr (.inr hne)⟩
  · exact ⟨stN_cores .., fun r _ _ => cr_of_coreRegs (stN_coreRegs ..) n r⟩

theorem ldB_portBWord_out {n off a : Nat} {l : List Byte} (raced : Bool) (s : State)
    (h : a < coreBase n + off ∨ coreBase n + off + l.length ≤ a) : ldB (portBWord n raced l s off) a = ldB s a := by
  unfold portBWord
  split
  · rfl
  · exact ldB_stN_out _ _ _ _ h

theorem ldB_portBWord_in {n i : Nat} (off : Nat) {l : List Byte} (raced : Bool) (s : State) (h : i < l.length) :
    ldB (portBWord n raced l s off) (coreBase n + off + i) =
      if raced = true ∧ plasWrites s n off = true then ldB s (coreBase n + off + i) else l.getD i 0 := by
  unfold portBWord
  by_cases hr : raced = true ∧ plasWrites s n off = true
  · rw [if_pos hr, if_pos (by simp [hr])]
    rfl
  · rw [if_neg hr, if_neg (by simpa using hr)]
    exact ldB_stN_in _ _ _ _ h

theorem portBWrite_words (n : Nat) (raced : Bool) (k : Nat) (l : List Byte) (s : State) (off : Nat) (h : 8 ≤ l.length)
    (ho : off < 0x78000) : portBWrite n raced (wordsOf (k + 1) l) s off =
      portBWrite n raced (wordsOf k (l.drop 8)) (portBWord n raced (l.take 8) s off) (off + 8) := by
  have hw : leBytes 8 (w64 (leNat (l.take 8))).toNat = l.take 8 := leBytes_word (by rw [List.length_take]; omega)
  rw [wordsOf, portBWrite, if_pos ho, stU, hw]
  rfl

/-- The words of a block take their places, but for those that port A writes in the same cycle. -/
theorem portBWrite_block (n : Nat) (raced : Bool) : ∀ (k : Nat) (l : List Byte) (s : State) (off : Nat),
    l.length = 8 * k → off + 8 * k ≤ 0x78000 →
    PortBKept s (portBWrite n raced (wordsOf k l) s off) n
      ∧ (∀ i, i < 8 * k → ldB (portBWrite n raced (wordsOf k l) s off) (coreBase n + off + i) =
        if raced = true ∧ plasWrites s n (off + i / 8 * 8) = true then ldB s (coreBase n + off + i) else l.getD i 0)
      ∧ ∀ a, (a < coreBase n + off ∨ coreBase n + off + 8 * k ≤ a) →
        ldB (portBWrite n raced (wordsOf k l) s off) a = ldB s a
  | 0, _, _, _, _, _ => ⟨⟨rfl, fun _ _ _ => rfl⟩, nofun, fun _ _ => rfl⟩
  | k + 1, l, s, off, hlen, ho => by
    have htake : (l.take 8).length = 8 := by rw [List.length_take]; omega
    have hk := portBWord_kept n raced (l.take 8) s off
    obtain ⟨ihk, ihin, ihout⟩ := portBWrite_block n raced k (l.drop 8) (portBWord n raced (l.take 8) s off) (off + 8)
      (by rw [List.length_drop]; omega) (by omega)
    rw [portBWrite_words n raced k l s off (by omega) (by omega)]
    refine ⟨⟨ihk.cores.trans hk.cores, fun r hr hne => (ihk.coreRegs r hr hne).trans (hk.coreRegs r hr hne)⟩,
      fun i hi => ?_, fun a ha => ?_⟩
    · by_cases h8 : i < 8
      · rw [ihout _ (by omega), ldB_portBWord_in off raced s (by omega), show off + i / 8 * 8 = off by omega,
          List.getD_eq_getElem?_getD, List.getD_eq_getElem?_getD, List.getElem?_take_of_lt h8]
      · obtain ⟨m, rfl⟩ : ∃ m, i = 8 + m := ⟨i - 8, by omega⟩
        rw [show coreBase n + off + (8 + m) = coreBase n + (off + 8) + m by omega, ihin m (by omega), plasWrites_congr hk,
          show off + 8 + m / 8 * 8 = off + (8 + m) / 8 * 8 by omega, ldB_portBWord_out raced s (by omega)]
        rw [List.getD_eq_getElem?_getD, List.getD_eq_getElem?_getD, List.getElem?_drop]
    · rw [ihout a (by omega), ldB_portBWord_out raced s (by omega)]

end Sys2Proof.Machine
end

section
/-! SUPPORT. The row of a bulk block that is whole at its core (R239, R255). -/
namespace Sys2Proof.Machine

/-! ### The checks of a block -/

/-- A block whose tag agrees with its data, its place and its job is good. -/
theorem checkBlock_agrees {s : State} {d : List Byte} {tag : W64} {q : Nat} {job : Option Nat} (r : Option Nat)
    (hp : bitAt tag 56 = false) (hc : crc32c d = fld tag 0 32) (hq : fld tag 40 16 = q % 65536)
    (hj : ∀ j, job = some j → bitAt tag 57 = true ∨ fld tag 32 8 = j % 256) : checkBlock s d tag q job r = (.good, s) := by
  unfold checkBlock
  rw [if_neg (by simp [hp]), if_neg (by simp [hc, hq])]
  cases job with
  | none => rfl
  | some j => exact if_pos (hj j rfl)

/-- A block that is poisoned, or disagrees with its data or its place, is bad. -/
theorem checkBlock_bad {s : State} {d : List Byte} {tag : W64} {q : Nat} {job : Option Nat}
    (h : bitAt tag 56 = true ∨ crc32c d ≠ fld tag 0 32 ∨ fld tag 40 16 ≠ q % 65536) :
    ∃ r, checkBlock s d tag q job none = (.poisoned, { s with regs := r }) := by
  unfold checkBlock
  by_cases hp : bitAt tag 56 = true
  · exact ⟨s.regs, if_pos hp⟩
  · rw [if_neg hp, if_pos (h.resolve_left hp)]
    exact ⟨_, rfl⟩

theorem jobCheck_eq {s : State} {n j : Nat} (h : jobCheck s n = some j) : assigned s n = true ∧ coreJob s n = j := by
  unfold jobCheck at h
  split at h
  · exact ⟨‹_›, Option.some.inj h⟩
  · cases h

/-! ### A bind whose block has come -/

/-- The core's bind `b` moves on to `b'`. -/
def bindMoved (s : State) (n : Nat) (b b' : Bind) : State :=
  upCore s n fun c => { c with binds := c.binds.map fun x => if x = b then b' else x }

theorem bindMoved_coreRegs (s : State) (n : Nat) (b b' : Bind) (m r : Nat) : cr (bindMoved s n b b') m r = cr s m r := rfl

theorem bindMoved_mem {s : State} {n : Nat} {b b' : Bind} (h : b ∈ (core s n).binds) :
    b' ∈ (core (bindMoved s n b b') n).binds := by
  rw [bindMoved, core_upCore_self]
  exact List.mem_map.2 ⟨b, h, if_pos rfl⟩

/-- The state of a good block that is written. -/
def blockWritten (s : State) (n off : Nat) (raced : Bool) (data : List Byte) : State :=
  let s := cbump (portBWrite n raced (wordsOf 32 data) s off) n R.bulkBlocks 1
  if directOffset off then directWrite s n else s

section
variable {s : State} {n src c : Nat} {b : Bind} (data : List Byte) (tag : W64) (raced : Bool)
  (hb : ((core s n).binds.find? fun x => x.src = src && x.circuit = c) = some b) (hd : b.done + 1 < b.blocks)
include hb hd

theorem bulkBlock_good (hg : checkBlock s data tag b.done (jobCheck s n) none = (.good, s)) :
    bulkBlock s n src c data tag raced =
      bindMoved (blockWritten s n (b.offset + 256 * b.done) raced data) n b { b with done := b.done + 1 } := by
  unfold bulkBlock
  rw [hb]
  dsimp only
  rw [hg]
  simp only [if_true, decide_true, Bool.not_true, Bool.or_false]
  rw [if_neg (by omega)]
  rfl

theorem bulkBlock_bad {t : State} (hg : checkBlock s data tag b.done (jobCheck s n) none = (.poisoned, t)) :
    bulkBlock s n src c data tag raced =
      bindMoved (cbump t n R.bulkTagErr 1) n b { b with done := b.done + 1, bad := true } := by
  unfold bulkBlock
  rw [hb]
  dsimp only
  rw [hg]
  simp only [reduceCtorEq, if_false, decide_false, Bool.not_false, Bool.or_true]
  rw [if_neg (by omega)]
  rfl

end

/-- The note of a direct write touches hub registers and jobs alone. -/
theorem directNoted_frame (s : State) (n off : Nat) : ∃ r j, (if directOffset off then directWrite s n else s) =
    { s with regs := r, jobs := j } := by
  split
  · exact directWrite_frame ..
  · exact ⟨_, _, rfl⟩

/-- What the writing of a good block leaves. -/
theorem blockWritten_spec (s : State) (n off : Nat) (raced : Bool) {data : List Byte} (hlen : data.length = 256)
    (ho : off + 256 ≤ 0x78000) : (blockWritten s n off raced data).cores = s.cores
      ∧ counted s (blockWritten s n off raced data) n R.bulkBlocks 1
      ∧ (∀ k, k < 256 → ldB (blockWritten s n off raced data) (coreBase n + off + k) =
        if raced = true ∧ plasWrites s n (off + k / 8 * 8) = true then ldB s (coreBase n + off + k) else data.getD k 0)
      ∧ ∀ a, (a < coreBase n + off ∨ coreBase n + off + 256 ≤ a) → ldB (blockWritten s n off raced data) a = ldB s a := by
  obtain ⟨hk, hin, hout⟩ := portBWrite_block n raced 32 data s off hlen (by omega)
  obtain ⟨r, j, hw⟩ := directNoted_frame (cbump (portBWrite n raced (wordsOf 32 data) s off) n R.bulkBlocks 1) n off
  have hw' : blockWritten s n off raced data = _ := hw
  generalize portBWrite n raced (wordsOf 32 data) s off = t at hk hin hout hw'
  have hm : (blockWritten s n off raced data).mem = t.mem := by rw [hw', cbump_mem]
  have hc : (blockWritten s n off raced data).coreRegs = (cbump t n R.bulkBlocks 1).coreRegs := by rw [hw']
  refine ⟨by rw [hw', cbump_cores, hk.cores], ?_, fun k hk => ?_, fun a ha => ?_⟩
  · rw [counted, cr_of_coreRegs hc, cbump, cr_cw_self, hk.coreRegs _ (by decide) (by decide)]
  · rw [ldB_of_mem hm, hin k hk]
  · rw [ldB_of_mem hm, hout a ha]

/-! ### The row -/

/-- The state in which a block's flits have left the core's input. -/
def blockTaken (s : State) (n src circuit : Nat) (data : List Byte) (tag : W64) : State :=
  upCore s n fun c => { c with
    rx := (bulkFlits ((labelOf s n src circuit).getD 0) data tag).foldl (fun l f => l.erase f) c.rx }

section
variable {s : State} (hl : live s = true) (n : CoreId) (src : BitVec 12) (c : Fin 8) (data : List Byte) (tag : W64)
  (raced : Bool) (h : blockHere s n.val src.toNat c.val data tag = true)

theorem core_blockTaken (s : State) (n src circuit : Nat) (data : List Byte) (tag : W64) :
    core (blockTaken s n src circuit data tag) n = { core s n with
      rx := (bulkFlits ((labelOf s n src circuit).getD 0) data tag).foldl (fun l f => l.erase f) (core s n).rx } :=
  core_upCore_self ..

theorem plasWrites_blockTaken (s : State) (n src circuit : Nat) (data : List Byte) (tag : W64) (off : Nat) :
    plasWrites (blockTaken s n src circuit data tag) n off = plasWrites s n off := by
  unfold plasWrites
  rw [core_blockTaken]
  rfl

include hl h

theorem exec_bulkBlock : exec (.bulkBlock n src c data tag raced) s = .next (after s
    (bulkBlock (blockTaken s n.val src.toNat c.val data tag) n.val src.toNat c.val data tag raced)) :=
  (rfl : exec _ s = execBulkBlock n src c data tag raced s).trans ((act_after _ hl).trans (by
    rw [if_neg (not_not.2 h)]
    rfl))

/-- A block that no bind awaits is counted, flit by flit. -/
theorem bulkBlock_unbound (hb : ((core s n.val).binds.find? fun x => x.src = src.toNat && x.circuit = c.val) = none) :
    ∃ v, exec (.bulkBlock n src c data tag raced) s = .next v ∧ counted s v n.val R.bulkUnbound 44 ∧ v.mem = s.mem := by
  refine ⟨_, exec_bulkBlock hl n src c data tag raced h, ?_⟩
  unfold bulkBlock
  rw [core_blockTaken]
  dsimp only
  rw [hb]
  dsimp only
  refine ⟨?_, ?_⟩
  · rw [counted, cr_after, cbump, cr_cw_self]
    rfl
  · rw [after_mem, cbump_mem]
    rfl

variable {b : Bind} (hb : ((core s n.val).binds.find? fun x => x.src = src.toNat && x.circuit = c.val) = some b)
  (hd : b.done + 1 < b.blocks)
include hb hd

/-- A good block takes its place in the core's memory, but for words that a racing write of port A takes. -/
theorem bulkBlock_written (hp : bitAt tag 56 = false) (hcrc : crc32c data = fld tag 0 32)
    (hq : fld tag 40 16 = b.done % 65536)
    (hj : assigned s n.val = true → bitAt tag 57 = true ∨ fld tag 32 8 = coreJob s n.val)
    (ho : b.offset + 256 * (b.done + 1) ≤ 0x78000) :
    ∃ v, exec (.bulkBlock n src c data tag raced) s = .next v ∧ counted s v n.val R.bulkBlocks 1
      ∧ (∀ k, k < 256 → ldB v (coreBase n.val + b.offset + 256 * b.done + k)
        = if raced = true ∧ plasWrites s n.val (b.offset + 256 * b.done + k / 8 * 8) = true
          then ldB s (coreBase n.val + b.offset + 256 * b.done + k) else data.getD k 0)
      ∧ (∀ a, (a < coreBase n.val + b.offset + 256 * b.done ∨ coreBase n.val + b.offset + 256 * (b.done + 1) ≤ a) →
        ldB v a = ldB s a)
      ∧ { b with done := b.done + 1 } ∈ (core v n.val).binds := by
  have hlen : data.length = 256 := by
    unfold blockHere at h
    simp only [Bool.and_eq_true, decide_eq_true_eq] at h
    exact h.1.2
  refine ⟨_, exec_bulkBlock hl n src c data tag raced h, ?_⟩
  have hplas := plasWrites_blockTaken s n.val src.toNat c.val data tag
  have hbinds : (core (blockTaken s n.val src.toNat c.val data tag) n.val).binds = (core s n.val).binds := by
    rw [core_blockTaken]
  have hmem : (blockTaken s n.val src.toNat c.val data tag).mem = s.mem := rfl
  have hregs : (blockTaken s n.val src.toNat c.val data tag).coreRegs = s.coreRegs := rfl
  generalize blockTaken s n.val src.toNat c.val data tag = u at hplas hbinds hmem hregs
  have hg : checkBlock u data tag b.done (jobCheck u n.val) none = (.good, u) :=
    checkBlock_agrees none hp hcrc hq fun j hjc => by
      obtain ⟨ha, hjob⟩ := jobCheck_eq hjc
      have hcfg : cr u n.val R.coreConfig = cr s n.val R.coreConfig := cr_of_coreRegs hregs ..
      have hja : assigned s n.val = true := by rw [← ha, assigned, assigned, crB, crB, hcfg]
      have hjj : coreJob s n.val = j := by rw [← hjob, coreJob, coreJob, crF, crF, hcfg]
      rw [← hjj, Nat.mod_eq_of_lt (show coreJob s n.val < 256 from fld_lt _ 8 8)]
      exact hj hja
  obtain ⟨hcores, hcount, hin, hout⟩ := blockWritten_spec u n.val (b.offset + 256 * b.done) raced hlen
    (by rwa [Nat.mul_succ, ← Nat.add_assoc] at ho)
  rw [← hbinds] at hb
  have hmemb := List.mem_of_find?_eq_some hb
  rw [bulkBlock_good data tag raced hb hd hg]
  generalize blockWritten u n.val (b.offset + 256 * b.done) raced data = t at hcores hcount hin hout
  refine ⟨?_, fun k hk => ?_, fun a ha => ?_, ?_⟩
  · rw [counted, cr_after, bindMoved_coreRegs, hcount, cr_of_coreRegs hregs]
  · have := hin k hk
    rw [← Nat.add_assoc, hplas, ldB_of_mem hmem] at this
    rw [ldB_after]
    exact this
  · rw [ldB_after]
    exact (hout a (by omega)).trans (ldB_of_mem hmem a)
  · rw [core_after]
    exact bindMoved_mem (by rwa [core_of_cores hcores])

/-- A bad block is counted, and its bind ends in error. -/
theorem bulkBlock_tagErr (hbad : bitAt tag 56 = true ∨ crc32c data ≠ fld tag 0 32 ∨ fld tag 40 16 ≠ b.done % 65536) :
    ∃ v, exec (.bulkBlock n src c data tag raced) s = .next v ∧ counted s v n.val R.bulkTagErr 1 ∧ v.mem = s.mem
      ∧ { b with done := b.done + 1, bad := true } ∈ (core v n.val).binds := by
  refine ⟨_, exec_bulkBlock hl n src c data tag raced h, ?_⟩
  have hbinds : (core (blockTaken s n.val src.toNat c.val data tag) n.val).binds = (core s n.val).binds := by
    rw [core_blockTaken]
  have hmem : (blockTaken s n.val src.toNat c.val data tag).mem = s.mem := rfl
  have hregs : (blockTaken s n.val src.toNat c.val data tag).coreRegs = s.coreRegs := rfl
  generalize blockTaken s n.val src.toNat c.val data tag = u at hbinds hmem hregs
  obtain ⟨r, hg⟩ := checkBlock_bad (s := u) (job := jobCheck u n.val) hbad
  rw [← hbinds] at hb
  have hmemb := List.mem_of_find?_eq_some hb
  rw [bulkBlock_bad data tag raced hb hd hg]
  have hcount : cr { u with regs := r } n.val R.bulkTagErr = cr s n.val R.bulkTagErr := cr_of_coreRegs hregs ..
  refine ⟨?_, ?_, ?_⟩
  · rw [counted, cr_after]
    rw [bindMoved_coreRegs, cbump, cr_cw_self, hcount]
  · rw [after_mem]
    exact hmem
  · rw [core_after]
    exact bindMoved_mem (by rwa [core_of_cores (cbump_cores ..)])

end

end Sys2Proof.Machine
end

section
/-! SUPPORT. The operations of a core's Queue/DMA unit from port B keep the first flits of its WRITEs (R239, R254). -/
namespace Sys2Proof.Machine

/-- Core `n` keeps the first flits of the WRITEs that await their second. -/
def WritesKept (n : Nat) (s t : State) : Prop := (core t n).writeA = (core s n).writeA

namespace WritesKept

theorem refl (n : Nat) (s : State) : WritesKept n s s := rfl
theorem trans {n : Nat} {s t u : State} (h : WritesKept n s t) (k : WritesKept n t u) : WritesKept n s u := Eq.trans k h

theorem ite {n : Nat} {s t u : State} {c : Prop} [Decidable c] (h : WritesKept n s t) (k : WritesKept n s u) :
    WritesKept n s (if c then t else u) := by
  split
  · exact h
  · exact k

theorem foldl {α : Type} {n : Nat} {f : State → α → State} (hf : ∀ s x, WritesKept n s (f s x)) :
    ∀ (l : List α) (s : State), WritesKept n s (l.foldl f s)
  | [], s => refl n s
  | x :: l, s => (hf s x).trans (foldl hf l (f s x))

theorem of_cores {n : Nat} {s t : State} (h : t.cores = s.cores) : WritesKept n s t :=
  congrArg Core.writeA (core_of_cores h n)

end WritesKept

section
variable (n : Nat)

theorem upCore_writes (s : State) {f : Core → Core} (hf : ∀ c, (f c).writeA = c.writeA) : WritesKept n s (upCore s n f) := by
  rw [WritesKept, core_upCore_self, hf]

theorem stU_writes (s : State) (a k v : Nat) : WritesKept n s (stU s a k v) := .of_cores (stU_cores ..)
theorem stZ_writes (s : State) (a k : Nat) : WritesKept n s (stZ s a k) := .of_cores (stZ_cores ..)
theorem cbump_writes (s : State) (m r k : Nat) : WritesKept n s (cbump s m r k) := .of_cores (cbump_cores ..)
theorem cw_writes (s : State) (m r : Nat) (v : W64) : WritesKept n s (cw s m r v) := .of_cores rfl

theorem freshValue_writes (s : State) : WritesKept n s (freshValue s).2 := .of_cores rfl

/-! ### Flits that a core sends -/

theorem coreSend_writes (s : State) (f : Flit) : WritesKept n s (coreSend s n f) := by
  have hset : WritesKept n s (noteSetup s n f) := .ite (upCore_writes n s fun _ => rfl) (.refl n s)
  exact .ite (hset.trans (cw_writes ..)) (hset.trans (.of_cores (offer_entry ..).cores))

theorem coreSendAll_writes : ∀ (l : List Flit) (s : State), WritesKept n s (coreSendAll n l s)
  | [], s => .refl n s
  | f :: l, s => (coreSend_writes n s f).trans (coreSendAll_writes l _)

theorem qAnswer_writes (s : State) (src code q seq : Nat) : WritesKept n s (qAnswer s n src code q seq) := by
  have h : WritesKept n s (if code = 0x10 then cbump s n R.qGrants 1 else if code = 0x17 then cbump s n R.qDup 1
      else cbump s n R.qNackSent 1) := .ite (cbump_writes ..) (.ite (cbump_writes ..) (cbump_writes ..))
  exact h.trans (coreSend_writes ..)

/-! ### Signals -/

theorem endWait_writes (s : State) (e code v : Nat) : WritesKept n s (endWait s n e code v) := by
  have h1 (c : Prop) [Decidable c] (o : Nat) (w : W64) : WritesKept n s (if c then s else setObj s n o w) :=
    .ite (.refl n s) (stU_writes ..)
  have h2 (t : State) (w : W64) : WritesKept n t (upCore (cw t n (R.waitState e) w) n fun c =>
      { c with polls := Sparse.del c.polls e, waitFrom := Sparse.del c.waitFrom e }) :=
    (cw_writes ..).trans (upCore_writes n _ fun _ => rfl)
  exact .ite (((h1 ..).trans (h2 ..)).trans (cw_writes ..)) ((h1 ..).trans (h2 ..))

theorem serveWaiters_writes (o : Nat) : ∀ (l : List Nat) (s : State), WritesKept n s (serveWaiters n o l s)
  | [], s => .refl n s
  | e :: l, s => by
    unfold serveWaiters
    extract_lets w c
    refine .ite (.ite (.ite ?_ ?_) (serveWaiters_writes o l s)) (serveWaiters_writes o l s)
    · exact ((endWait_writes ..).trans (.foldl (fun s x => endWait_writes n s x _ _) ..)).trans (stU_writes ..)
    · exact ((stU_writes ..).trans (endWait_writes ..)).trans (serveWaiters_writes o l _)

theorem signalObj_writes (s : State) (o c e : Nat) : WritesKept n s (signalObj s n o c e).2 := by
  unfold signalObj
  extract_lets w v lim clamped v' t f u x y
  split
  · exact .refl n s
  · have ht : WritesKept n s t := stU_writes ..
    have hf : WritesKept n t f.2 := freshValue_writes ..
    have hu : WritesKept n f.2 u := (stU_writes ..).trans (stU_writes ..)
    have hx : WritesKept n u x := cbump_writes ..
    have hy : WritesKept n x y := .ite (cbump_writes ..) (.refl n x)
    exact (((((ht.trans hf).trans hu).trans hx).trans hy).trans (serveWaiters_writes ..))

theorem unitSignal_writes (s : State) (o : Nat) : WritesKept n s (unitSignal s n o) :=
  .ite (upCore_writes n s fun _ => rfl) (signalObj_writes ..)

/-! ### Sends -/

theorem sendDone_writes (s : State) (x : Send) : WritesKept n s (sendDone s n x) := by
  unfold sendDone
  extract_lets w t u
  have ht : WritesKept n s t := stU_writes ..
  have hu : WritesKept n t u := upCore_writes n t fun _ => rfl
  exact .ite ((ht.trans hu).trans (unitSignal_writes ..)) (ht.trans hu)

theorem sendMsg_writes (s : State) (x : Send) : WritesKept n s (sendMsg s n x) := by
  unfold sendMsg
  extract_lets t
  have ht : WritesKept n s t := coreSendAll_writes ..
  exact (ht.trans (cbump_writes ..)).trans (sendDone_writes ..)

theorem beginSends_writes : ∀ (k : Nat) (s : State), WritesKept n s (beginSends n k s)
  | 0, s => .refl n s
  | k + 1, s => by
    unfold beginSends
    extract_lets l
    split
    · exact .refl n s
    · rename_i x _
      have hu (y : Send) : WritesKept n s (upCore s n fun c => { c with sends := c.sends.map fun z => if z = x then y else z }) :=
        upCore_writes n s fun _ => rfl
      exact .ite (((hu _).trans (sendMsg_writes ..)).trans (beginSends_writes k _))
        (((hu _).trans (coreSend_writes ..)).trans (beginSends_writes k _))

theorem sendOp_writes (s : State) (b off : Nat) : WritesKept n s (sendOp s n b off).2 := by
  unfold sendOp
  extract_lets w a units x
  split
  · exact .refl n s
  · split
    · exact .refl n s
    · have hu : WritesKept n s (upCore s n fun c => { c with sends := c.sends ++ [x] }) := upCore_writes n s fun _ => rfl
      exact hu.trans (beginSends_writes ..)

/-! ### Queue operations -/

theorem noteQ_writes (s : State) (q inc : Nat) (x : Bool) : WritesKept n s (noteQ s n q inc x) := stU_writes ..
theorem setQw_writes (s : State) (q k : Nat) (v : W64) : WritesKept n s (setQw s n q k v) := stU_writes ..
theorem setHead_writes (s : State) (q v : Nat) : WritesKept n s (setHead s n q v) := setQw_writes ..
theorem setReady_writes (s : State) (q v : Nat) : WritesKept n s (setReady s n q v) := setQw_writes ..
theorem setResv_writes (s : State) (q v : Nat) : WritesKept n s (setResv s n q v) := setQw_writes ..
theorem setQState_writes (s : State) (q v : Nat) : WritesKept n s (setQState s n q v) := setQw_writes ..
theorem forgetQ_writes (s : State) (q : Nat) : WritesKept n s (forgetQ s n q) := upCore_writes n s fun _ => rfl

theorem voidQ_writes (s : State) (q : Nat) (r : Bool) : WritesKept n s (voidQ s n q r) := by
  unfold voidQ
  extract_lets c t u
  have ht : WritesKept n s t := upCore_writes n s fun _ => rfl
  have hu : WritesKept n t u := .foldl (fun s w => qAnswer_writes n s ..) ..
  exact .ite ((ht.trans hu).trans (.foldl (fun s w => qAnswer_writes n s ..) ..)) (ht.trans hu)

theorem drainDone_writes (s : State) (q : Nat) : WritesKept n s (drainDone s n q) := by
  unfold drainDone
  extract_lets empty
  exact .ite ((setQState_writes ..).trans (noteQ_writes ..)) (.refl n s)

theorem openQ_writes (s : State) (q : Nat) : WritesKept n s (openQ s n q) := by
  unfold openQ
  extract_lets w t u v x
  have ht : WritesKept n s t := setQw_writes ..
  have hu : WritesKept n t u := forgetQ_writes ..
  have hv : WritesKept n u v := ((setResv_writes ..).trans (setHead_writes ..)).trans (setReady_writes ..)
  have hx : WritesKept n u x := .ite (hv.trans (stZ_writes ..)) (.ite ((stZ_writes ..).trans (stZ_writes ..)) (.refl n u))
  exact (((ht.trans hu).trans hx).trans (stU_writes ..)).trans (noteQ_writes ..)

theorem closeQ_writes (s : State) (q : Nat) : WritesKept n s (closeQ s n q) := by
  unfold closeQ
  extract_lets waits t u v x
  have ht : WritesKept n s t := voidQ_writes ..
  have hu : WritesKept n t u := .foldl (fun s w => qAnswer_writes n s ..) ..
  have hv : WritesKept n u v := (setQState_writes ..).trans (forgetQ_writes ..)
  have hx : WritesKept n v x := .ite ((setHead_writes ..).trans (setReady_writes ..)) (.refl n v)
  exact (((ht.trans hu).trans hv).trans hx).trans (noteQ_writes ..)

theorem drainQ_writes (s : State) (q : Nat) : WritesKept n s (drainQ s n q).2 := by
  unfold drainQ
  split
  · exact .refl n s
  · dsimp only
    exact (((setQState_writes ..).trans (voidQ_writes ..)).trans (noteQ_writes ..)).trans (drainDone_writes ..)

theorem skipPads_writes (q : Nat) : ∀ (k : Nat) (s : State), WritesKept n s (skipPads n q k s)
  | 0, s => .refl n s
  | k + 1, s => by
    unfold skipPads
    exact .ite ((setHead_writes ..).trans (skipPads_writes q k _)) (.refl n s)

theorem consumeQ_writes (s : State) (q : Nat) : WritesKept n s (consumeQ s n q).2 := by
  unfold consumeQ
  split
  · extract_lets p t u
    have ht : WritesKept n s t := setHead_writes ..
    have hu : WritesKept n t u := skipPads_writes ..
    split
    · exact .refl n s
    · dsimp only
      exact ((ht.trans hu).trans (noteQ_writes ..)).trans (drainDone_writes ..)
  · split
    · split
      · exact .refl n s
      · rename_i h _
        have hu (t : State) : WritesKept n t (upCore t n fun c => { c with combHeld := c.combHeld.erase h }) :=
          upCore_writes n t fun _ => rfl
        dsimp only
        exact (((stZ_writes ..).trans (hu _)).trans (noteQ_writes ..)).trans (drainDone_writes ..)
    · exact .refl n s

/-- An operation that `QOP_CMD` spells, written from port B (Table 9-12). -/
theorem qop_writes (s : State) (cmd arg : W64) (e : Nat) : WritesKept n s (qop s n cmd arg e true) := by
  have hr (t : State) (code v : Nat) : WritesKept n t (qopResult t n code v) := cw_writes ..
  unfold qop
  extract_lets op q o c
  by_cases h5 : op ≥ 9 ∨ (true = true ∧ 5 ≤ op)
  · rw [if_pos h5]
    exact hr ..
  · rw [if_neg h5]
    have hlt : op < 5 := by
      rw [not_or] at h5
      by_contra hge
      exact h5.2 ⟨rfl, by omega⟩
    by_cases h0 : op = 0
    · rw [if_pos h0]
      exact (openQ_writes ..).trans (hr ..)
    by_cases h1 : op = 1
    · rw [if_neg h0, if_pos h1]
      exact (closeQ_writes ..).trans (hr ..)
    by_cases h2 : op = 2
    · rw [if_neg h0, if_neg h1, if_pos h2]
      exact (drainQ_writes ..).trans (hr ..)
    by_cases h3 : op = 3
    · rw [if_neg h0, if_neg h1, if_neg h2, if_pos h3]
      exact (consumeQ_writes ..).trans (hr ..)
    · rw [if_neg h0, if_neg h1, if_neg h2, if_neg h3, if_pos (by omega)]
      exact (sendOp_writes ..).trans (hr ..)

end

end Sys2Proof.Machine
end

section
/-! SUPPORT. The second flit of a WRITE at a core (R29, R254). -/
namespace Sys2Proof.Machine

/-! ### A register write from port B -/

theorem lateInput_writes (n : Nat) (s : State) (j : Nat) : WritesKept n s (lateInput s j) := .of_cores rfl

theorem directWrite_writes (n : Nat) (s : State) (m : Nat) : WritesKept n s (directWrite s m) := by
  obtain ⟨r, j, h⟩ := directWrite_frame s m
  exact .of_cores (by rw [h])

theorem MailOnly.writes {s t : State} (h : MailOnly s t) (n : Nat) : WritesKept n s t := by
  obtain ⟨m, r, b, rfl⟩ := h
  exact .of_cores rfl

theorem writeMod_writes (n : Nat) (s : State) (v : Nat) (u : BitVec 32) : WritesKept n s (writeMod s n v u) := by
  have h (c : Prop) [Decidable c] (j : Nat) : WritesKept n s (if c then
      (if assigned (cbump s n R.plasModLate 1) n then lateInput (cbump s n R.plasModLate 1) j
        else cbump s n R.plasModLate 1) else s) :=
    .ite (.ite ((cbump_writes ..).trans (lateInput_writes ..)) (cbump_writes ..)) (.refl n s)
  exact (h _ _).trans (cw_writes ..)

theorem coreRegStore_writes (n : Nat) (s : State) (r : Nat) (acc : Width) (v : W64) (e : Nat) :
    WritesKept n s (coreRegStore s n r acc v e true) := by
  unfold coreRegStore
  refine .ite ?_ (.ite ?_ (cw_writes ..))
  · split
    · exact qop_writes ..
    · exact qop_writes ..
    · exact .refl n s
  · dsimp only
    split
    · exact writeMod_writes ..
    · exact writeMod_writes ..
    · exact cw_writes ..

theorem coreRegWrite_writes (n : Nat) (s : State) (r : Nat) (acc : Width) (v : W64) (host : Bool) :
    WritesKept n s (coreRegWrite s n r acc v host) := by
  unfold coreRegWrite
  extract_lets old noted t u
  have ht : WritesKept n s t := coreRegStore_writes ..
  have hu : WritesKept n t u := .ite (directWrite_writes ..) (.refl n t)
  exact .ite ((ht.trans hu).trans ((journal_frame ..).writes n)) (ht.trans hu)

/-- A register write from port B sets the register's bits by its access code, and no other register of a core. -/
theorem coreRegWrite_coreRegs (s : State) {n r : Nat} (acc : Width) (v : W64) (host : Bool) (hq : r ≠ R.qopCmd)
    (hm : r ≠ R.plasMod) : (coreRegWrite s n r acc v host).coreRegs =
      (cw s n r (writeBits (coreInfo n r) (cr s n r) v acc)).coreRegs := by
  have hs : coreRegStore s n r acc v 0 true = cw s n r (writeBits (coreInfo n r) (cr s n r) v acc) := by
    unfold coreRegStore
    rw [if_neg hq, if_neg hm]
  have hd (c : Prop) [Decidable c] (t : State) : (if c then directWrite t n else t).coreRegs = t.coreRegs := by
    obtain ⟨g, j, h⟩ := directWrite_frame t n
    split
    · rw [h]
    · rfl
  unfold coreRegWrite
  rw [hs]
  extract_lets old noted t
  split
  · exact (journal_coreRegs ..).trans (hd ..)
  · exact hd ..

/-! ### The WRITE's effect and its answer -/

/-- The state in which both flits of a WRITE have been taken. -/
def writeTaken (s : State) (n : Nat) (f : Flit) : State :=
  upCore (takeLocal s n f) n fun c => { c with writeA := Sparse.del c.writeA (ff f 39 4) }

/-- Where the status of a request's WRITE goes: the DMA engines, the Event Port, and the other requesters of the hub. -/
def writeStatus (f : Flit) (g : W64) (n code : Nat) : Flit :=
  mkStatus (if ff f 39 4 = 0 then 0x630 else if ff f 39 4 < 5 then 0x618 + ff f 39 4 - 1 else 0x600 + ff f 39 4 - 5) n code
    (ff f 39 4 * 2 ^ 20 + ff g 13 8 * 2 ^ 12)

theorem core_writeTaken (s : State) (n : Nat) (f : Flit) : core (writeTaken s n f) n = { core s n with
    rx := (core s n).rx.erase f, writeA := Sparse.del (core s n).writeA (ff f 39 4) } := by
  rw [writeTaken, core_upCore_self, core_takeLocal_self]

theorem writeA_writeTaken (s : State) (n : Nat) (f : Flit) :
    Sparse.get (fun _ => 0) (core (writeTaken s n f) n).writeA (ff f 39 4) = 0 := by
  rw [core_writeTaken, Sparse.get_del, if_pos rfl]

theorem plasWrites_writeTaken (s : State) (n : Nat) (f : Flit) (off : Nat) :
    plasWrites (writeTaken s n f) n off = plasWrites s n off := by
  unfold plasWrites
  rw [core_writeTaken]
  rfl

/-- The half word that a WRITE stores in its core's memory. -/
def halfStored (s : State) (n off : Nat) (half : Bool) (data : Nat) : State :=
  let s := stU s (coreBase n + off + 4 * b2n half) 4 data
  if directOffset off then directWrite s n else s

/-- The half word that a WRITE stores in a register of its core. -/
def halfWritten (s : State) (n r : Nat) (half : Bool) (data : Nat) (host : Bool) : State :=
  coreRegWrite s n r (if half then .highHalf else .lowHalf) (if half then w64 (data * 2 ^ 32) else w64 data) host

section
variable {s : State} {n : Nat} {f : Flit} (raced : Bool) {g : Nat}
  (hg : Sparse.get (fun _ => 0) (core s n).writeA (ff f 39 4) = g + 1)
include hg

theorem writeA_takeLocal : Sparse.get (fun _ => 0) (core (takeLocal s n f) n).writeA (ff f 39 4) = g + 1 := by
  rw [core_takeLocal_self, hg]

theorem ctrlWrite_eq : ctrlWrite (takeLocal s n f) n f raced =
    if raced && plasWrites s n (8 * ff (w64 g) 22 17) then
      coreSend (cbump (writeTaken s n f) n R.plasWriteLost 1) n (writeStatus f (w64 g) n 1)
    else if 8 * ff (w64 g) 22 17 < 0x78000 then
      coreSend (halfStored (writeTaken s n f) n (8 * ff (w64 g) 22 17) (bitAt (w64 g) 21) (ff f 7 32)) n
        (writeStatus f (w64 g) n 0)
    else if 8 * ff (w64 g) 22 17 < 0x80000 then
      coreSend (halfWritten (writeTaken s n f) n (8 * ff (w64 g) 22 17 - 0x78000) (bitAt (w64 g) 21) (ff f 7 32)
        (ff f 39 4 = 0)) n (writeStatus f (w64 g) n 0)
    else coreSend (writeTaken s n f) n (writeStatus f (w64 g) n 2) := by
  have hhalf (t : State) (r data : Nat) (host : Bool) : (if bitAt (w64 g) 21 = true
      then coreRegWrite t n r .highHalf (w64 (data * 2 ^ 32)) host else coreRegWrite t n r .lowHalf (w64 data) host) =
      halfWritten t n r (bitAt (w64 g) 21) data host := by
    unfold halfWritten
    split <;> rfl
  unfold ctrlWrite
  dsimp only
  rw [writeA_takeLocal hg, if_neg (Nat.succ_ne_zero g), Nat.add_sub_cancel]
  simp only [hhalf]
  rw [← plasWrites_writeTaken s n f]
  rfl

/-- A WRITE to a word that port A takes in the same cycle is lost, counted and answered so (R29). -/
theorem ctrlWrite_lost (h : (raced && plasWrites s n (8 * ff (w64 g) 22 17)) = true) :
    ctrlWrite (takeLocal s n f) n f raced =
      coreSend (cbump (writeTaken s n f) n R.plasWriteLost 1) n (writeStatus f (w64 g) n 1) := by
  rw [ctrlWrite_eq raced hg, if_pos h]

variable (h : (raced && plasWrites s n (8 * ff (w64 g) 22 17)) = false)
include h

theorem ctrlWrite_memory (ho : 8 * ff (w64 g) 22 17 < 0x78000) : ctrlWrite (takeLocal s n f) n f raced =
    coreSend (halfStored (writeTaken s n f) n (8 * ff (w64 g) 22 17) (bitAt (w64 g) 21) (ff f 7 32)) n
      (writeStatus f (w64 g) n 0) := by
  rw [ctrlWrite_eq raced hg, if_neg (by simp [h]), if_pos ho]

theorem ctrlWrite_register (h1 : 0x78000 ≤ 8 * ff (w64 g) 22 17) (h2 : 8 * ff (w64 g) 22 17 < 0x80000) :
    ctrlWrite (takeLocal s n f) n f raced =
      coreSend (halfWritten (writeTaken s n f) n (8 * ff (w64 g) 22 17 - 0x78000) (bitAt (w64 g) 21) (ff f 7 32)
        (ff f 39 4 = 0)) n (writeStatus f (w64 g) n 0) := by
  rw [ctrlWrite_eq raced hg, if_neg (by simp [h]), if_neg (by omega), if_pos h2]

theorem ctrlWrite_nowhere (ho : 0x80000 ≤ 8 * ff (w64 g) 22 17) : ctrlWrite (takeLocal s n f) n f raced =
    coreSend (writeTaken s n f) n (writeStatus f (w64 g) n 2) := by
  rw [ctrlWrite_eq raced hg, if_neg (by simp [h]), if_neg (by omega), if_neg (by omega)]

end

/-! ### What each case leaves -/

theorem reply_writeStatus (f : Flit) (g : W64) (n code : Nat) : Reply (writeStatus f g n code) := reply_mkStatus ..

/-- The words that a plasticity pass writes lie below the registers. -/
theorem plasWrites_high (s : State) (n : Nat) {off : Nat} (h : 0x40000 ≤ off) : plasWrites s n off = false := by
  unfold plasWrites
  rw [decide_eq_false (show ¬ off < 0x40000 by omega)]
  simp only [Bool.and_false, Bool.false_and]

theorem raced_high (s : State) (n : Nat) (raced : Bool) {off : Nat} (h : 0x40000 ≤ off) :
    (raced && plasWrites s n off) = false := by
  rw [plasWrites_high s n h, Bool.and_false]

theorem halfStored_frame (s : State) (n off : Nat) (half : Bool) (data : Nat) : ∃ r j, halfStored s n off half data =
    { stU s (coreBase n + off + 4 * b2n half) 4 data with regs := r, jobs := j } := directNoted_frame ..

theorem halfStored_writes (m : Nat) (s : State) (n off : Nat) (half : Bool) (data : Nat) :
    WritesKept m s (halfStored s n off half data) := by
  obtain ⟨r, j, h⟩ := halfStored_frame s n off half data
  exact .of_cores (by rw [h, stU_cores])

theorem halfWritten_writes (s : State) (n r : Nat) (half : Bool) (data : Nat) (host : Bool) :
    WritesKept n s (halfWritten s n r half data host) := coreRegWrite_writes ..

/-- A stored half word reads as stored. -/
theorem ldU_stU_word (s : State) (a : Nat) {v : Nat} (h : v < 2 ^ 32) : ldU (stU s a 4 v) a 4 = v := by
  have hl := ldN_stN s a (leBytes 4 v)
  rw [leBytes_length] at hl
  rw [ldU, stU, hl, leNat_leBytes, Nat.mod_eq_of_lt (by simpa using h)]

theorem ldU_of_mem {s t : State} (h : t.mem = s.mem) (a k : Nat) : ldU t a k = ldU s a k :=
  congrArg leNat (List.map_congr_left fun _ _ => ldB_of_mem h _)

section
variable {s : State} (n : Nat) {f : Flit} {raced : Bool} {g off : Nat}
  (hg : Sparse.get (fun _ => 0) (core s n).writeA (ff f 39 4) = g + 1) (ho : off = 8 * ff (w64 g) 22 17)
include hg

/-- The first flit of a WRITE is given up with its second. -/
theorem ctrlWrite_writeA :
    Sparse.get (fun _ => 0) (core (ctrlWrite (takeLocal s n f) n f raced) n).writeA (ff f 39 4) = 0 := by
  have hsend {x : State} (c : Nat) (hx : WritesKept n (writeTaken s n f) x) :
      Sparse.get (fun _ => 0) (core (coreSend x n (writeStatus f (w64 g) n c)) n).writeA (ff f 39 4) = 0 := by
    rw [hx.trans (coreSend_writes n x _), writeA_writeTaken]
  rw [ctrlWrite_eq raced hg]
  split
  · exact hsend 1 (cbump_writes ..)
  · split
    · exact hsend 0 (halfStored_writes ..)
    · split
      · exact hsend 0 (halfWritten_writes ..)
      · exact hsend 2 (.refl ..)

include ho

theorem ctrlWrite_lost_spec (hn : n < 1024) (h : (raced && plasWrites s n off) = true) {v : State}
    (hv : v = ctrlWrite (takeLocal s n f) n f raced) : v.mem = s.mem ∧ counted s v n R.plasWriteLost 1
      ∧ flitSent s v n (writeStatus f (w64 g) n 1) := by
  subst ho
  rw [ctrlWrite_lost raced hg h] at hv
  have hr := reply_writeStatus f (w64 g) n 1
  have he := hr.coreSend_entry (cbump (writeTaken s n f) n R.plasWriteLost 1) n
  have hoff : (cbump (writeTaken s n f) n R.plasWriteLost 1).mesh.offers = s.mesh.offers := rfl
  have hmem : (cbump (writeTaken s n f) n R.plasWriteLost 1).mem = s.mem := rfl
  have hcr : cr (cbump (writeTaken s n f) n R.plasWriteLost 1) n R.plasWriteLost =
      w64 (satAdd 32 (cr s n R.plasWriteLost).toNat 1) := by
    rw [cbump, cr_cw_self]
    rfl
  generalize cbump (writeTaken s n f) n R.plasWriteLost 1 = u at hv he hoff hmem hcr
  refine ⟨by rw [hv, he.mem, hmem], ?_, hr.flitSent hn hoff (by rw [hv])⟩
  rw [counted, hv, cr_of_coreRegs he.coreRegs, hcr]

theorem ctrlWrite_memory_spec (h : (raced && plasWrites s n off) = false) (hlt : off < 0x78000) {a : Nat} {v : State}
    (ha : a = coreBase n + off + if bitAt (w64 g) 21 then 4 else 0) (hv : v = ctrlWrite (takeLocal s n f) n f raced) :
    ldU v a 4 = ff f 7 32 ∧ (∀ y, (y < a ∨ a + 4 ≤ y) → ldB v y = ldB s y) ∧ v.coreRegs = s.coreRegs := by
  subst ho
  rw [ctrlWrite_memory raced hg h hlt] at hv
  have ha' : coreBase n + 8 * ff (w64 g) 22 17 + 4 * b2n (bitAt (w64 g) 21) = a := by
    rw [ha, b2n]
    split <;> rfl
  obtain ⟨r, j, hw⟩ := halfStored_frame (writeTaken s n f) n (8 * ff (w64 g) 22 17) (bitAt (w64 g) 21) (ff f 7 32)
  rw [ha'] at hw
  have he := (reply_writeStatus f (w64 g) n 0).coreSend_entry
    (halfStored (writeTaken s n f) n (8 * ff (w64 g) 22 17) (bitAt (w64 g) 21) (ff f 7 32)) n
  rw [← hv] at he
  have hmem : v.mem = (stU (writeTaken s n f) a 4 (ff f 7 32)).mem := by rw [he.mem, hw]
  refine ⟨?_, fun y hy => ?_, ?_⟩
  · rw [ldU_of_mem hmem]
    exact ldU_stU_word _ _ (fld_lt f 7 32)
  · rw [ldB_of_mem hmem, ldB_stU_out _ _ _ _ _ hy]
    rfl
  · rw [he.coreRegs, hw]
    exact stU_coreRegs ..

theorem ctrlWrite_nowhere_spec (hge : 0x80000 ≤ off) {v : State} (hv : v = ctrlWrite (takeLocal s n f) n f raced) :
    v.mem = s.mem ∧ v.coreRegs = s.coreRegs := by
  subst ho
  rw [ctrlWrite_nowhere raced hg (raced_high s n raced (by omega)) hge] at hv
  have he := (reply_writeStatus f (w64 g) n 2).coreSend_entry (writeTaken s n f) n
  rw [← hv] at he
  exact ⟨he.mem, he.coreRegs⟩

theorem ctrlWrite_register_spec {r : Nat} (h1 : 0x78000 ≤ off) (h2 : off < 0x80000) (hr : r = off - 0x78000)
    (hq : r ≠ R.qopCmd) (hm : r ≠ R.plasMod) {v : State} (hv : v = ctrlWrite (takeLocal s n f) n f raced) :
    cr v n r = writeBits (coreInfo n r) (cr s n r)
        (if bitAt (w64 g) 21 then w64 (ff f 7 32 * 2 ^ 32) else w64 (ff f 7 32))
        (if bitAt (w64 g) 21 then .highHalf else .lowHalf)
      ∧ coreRegsKept s v n [r] := by
  subst ho
  rw [ctrlWrite_register raced hg (raced_high s n raced (by omega)) h1 h2, ← hr] at hv
  have he := (reply_writeStatus f (w64 g) n 0).coreSend_entry
    (halfWritten (writeTaken s n f) n r (bitAt (w64 g) 21) (ff f 7 32) (ff f 39 4 = 0)) n
  rw [← hv] at he
  have hw := he.coreRegs.trans (coreRegWrite_coreRegs (writeTaken s n f) _ _ _ hq hm)
  have hcr (m q : Nat) : cr (writeTaken s n f) m q = cr s m q := rfl
  have hrlt : r < 0x8000 := by omega
  refine ⟨?_, fun m q _ hqlt hne => ?_⟩
  · rw [cr_of_coreRegs hw, cr_cw_self, hcr]
  · rw [cr_of_coreRegs hw, cr_cw_ne _ _ hrlt hqlt (hne.imp_right (by simp)), hcr]

end

end Sys2Proof.Machine
end

section
/-! SUPPORT. The row of a WRITE's second flit (R29, R254). -/
namespace Sys2Proof.Machine

/-- Where a WRITE's status goes, as the statement counts the requesters. -/
theorem writeStatus_eq (f : Flit) (g : W64) (n code : Nat) : writeStatus f g n code =
    mkStatus (if ff f 39 4 = 0 then 0x630 else if ff f 39 4 < 5 then 0x617 + ff f 39 4 else 0x5FB + ff f 39 4) n code
      (ff f 39 4 * 2 ^ 20 + ff g 13 8 * 2 ^ 12) := by
  unfold writeStatus
  congr 1
  split
  · rfl
  · split <;> omega

theorem flitSent_after {s u : State} (t : State) {n : Nat} {f : Flit} (h : flitSent s u n f) : flitSent s (after t u) n f := by
  intro hc
  have h := h hc
  rw [after_mesh]
  simp only [localFlits, buf_of_mesh (after_mesh ..)]
  exact h

section
variable {s : State} (hl : live s = true) (n : CoreId) {f : Flit} (hs : stopped s n.val = false)
  (hc : isCtrl f 2 = true) (hn : nextLocal s n.val f = true)
include hl hs hc hn

theorem exec_ctrlWriteD (raced : Bool) :
    exec (.ctrlWriteD n f raced) s = .next (after s (ctrlWrite (takeLocal s n.val f) n.val f raced)) :=
  (rfl : exec _ s = execCtrlWriteD n f raced s).trans ((act_after _ hl).trans (by
    rw [if_pos hc, engineTakes_next _ hs hn]))

/-- A WRITE changes the half word that it names, or is lost to port A and answered so. -/
theorem ctrlWriteD_row {g off a : Nat} {raced : Bool}
    (hg : Sparse.get (fun _ => 0) (core s n.val).writeA (ff f 39 4) = g + 1) (ho : off = 8 * ff (w64 g) 22 17)
    (ha : a = coreBase n.val + off + (if bitAt (w64 g) 21 then 4 else 0)) :
    ∃ v, exec (.ctrlWriteD n f raced) s = .next v ∧ Sparse.get (fun _ => 0) (core v n.val).writeA (ff f 39 4) = 0
      ∧ (raced = true → plasWrites s n.val off = true → v.mem = s.mem ∧ counted s v n.val R.plasWriteLost 1
        ∧ flitSent s v n.val (mkStatus (if ff f 39 4 = 0 then 0x630 else if ff f 39 4 < 5 then 0x617 + ff f 39 4
            else 0x5FB + ff f 39 4) n.val 1 (ff f 39 4 * 2 ^ 20 + ff (w64 g) 13 8 * 2 ^ 12)))
      ∧ ((raced && plasWrites s n.val off) = false → off < 0x78000 → ldU v a 4 = ff f 7 32
        ∧ (∀ y, (y < a ∨ a + 4 ≤ y) → ldB v y = ldB s y) ∧ v.coreRegs = s.coreRegs)
      ∧ (0x80000 ≤ off → v.mem = s.mem ∧ v.coreRegs = s.coreRegs)
      ∧ (∀ r, 0x78000 ≤ off → off < 0x80000 → r = off - 0x78000 → r ≠ R.qopCmd → r ≠ R.plasMod →
        cr v n.val r = writeBits (coreInfo n.val r) (cr s n.val r)
          (if bitAt (w64 g) 21 then w64 (ff f 7 32 * 2 ^ 32) else w64 (ff f 7 32))
          (if bitAt (w64 g) 21 then .highHalf else .lowHalf)
        ∧ coreRegsKept s v n.val [r]) := by
  refine ⟨_, exec_ctrlWriteD hl n hs hc hn raced, ?_⟩
  generalize hu : ctrlWrite (takeLocal s n.val f) n.val f raced = u
  refine ⟨?_, fun hr hp => ?_, fun hr hlt => ?_, fun hge => ?_, fun r h1 h2 hr hq hm => ?_⟩
  · rw [core_after, ← hu, ctrlWrite_writeA _ hg]
  · obtain ⟨hmem, hcount, hsent⟩ := ctrlWrite_lost_spec n.val hg ho n.isLt (by rw [hr, hp]; rfl) hu.symm
    rw [writeStatus_eq] at hsent
    refine ⟨by rw [after_mem, hmem], by rw [counted, cr_after, hcount], ?_⟩
    exact flitSent_after s hsent
  · obtain ⟨hld, hout, hregs⟩ := ctrlWrite_memory_spec n.val hg ho hr hlt ha hu.symm
    exact ⟨by rw [ldU_of_mem (after_mem ..), hld], fun y hy => by rw [ldB_after, hout y hy], by rw [after_coreRegs, hregs]⟩
  · obtain ⟨hmem, hregs⟩ := ctrlWrite_nowhere_spec n.val hg ho hge hu.symm
    exact ⟨by rw [after_mem, hmem], by rw [after_coreRegs, hregs]⟩
  · obtain ⟨hreg, hkept⟩ := ctrlWrite_register_spec n.val hg ho h1 h2 hr hq hm hu.symm
    exact ⟨by rw [cr_after, hreg], fun m q hm hq hne => by rw [cr_after, hkept m q hm hq hne]⟩

end

end Sys2Proof.Machine
end

/-! ### The statement of the bulk binds, circuits and accesses -/

/-- Settles O45: one row per instruction. A reply on VC0 only waits for its token, so what a core answers moves no other
state; a block is written word by word, each word by itself against port A; circuits are found and freed by their entries. -/
theorem Sys2Proof.Machine.bulkCircuitsAndAccesses : Obligations.BulkCircuitsAndAccesses := by
  unfold Obligations.BulkCircuitsAndAccesses
  open Sys2Proof.Machine in
  intro n f s hl
  refine ⟨fun bodies b l h hk hb hlist => ?_, fun src c data tag raced h => ⟨fun hb => ?_, fun b hb hd => ⟨?_, ?_⟩⟩,
    fun node p o h7 h ho => ?_, fun node p k h8 hb h hm hlast => ?_, fun k g hs h hn hk hg hg0 => ?_, fun hs h hn => ?_,
    fun hs h hn => ?_, fun g off a raced hs hc hn hg ho ha => ?_, fun who hw ht hf hd => ?_, fun hs h hn hc => ?_⟩
  · exact bulkBind_row hl n h hk hb hlist
  · exact bulkBlock_unbound hl n src c data tag raced h hb
  · exact bulkBlock_written hl n src c data tag raced h hb hd
  · exact bulkBlock_tagErr hl n src c data tag raced h hb hd
  · exact circuitSetup_row hl node p h7 h ho
  · exact circuitTeardown_row hl node p h8 hb h hm hlast
  · exact circuitReply_row hl n hs hn h hk hg hg0
  · exact ctrlRead_row hl n hs hn h
  · exact ctrlWriteA_row hl n hs hn h
  · exact ctrlWriteD_row hl n hs hc hn hg ho ha
  · exact ctrlResp_hub_row hl hw ht hf hd
  · exact ctrlResp_core_row hl n hs hn h hc

section
/-! SUPPORT. A command that goes on after its start (R370), and what the suspension and the resumption of a breath leave
(R62, R66, R67). -/
namespace Sys2Proof.Machine

/-! ### A command that goes on -/

@[simp] theorem noteBell_nextRun (s : State) (ci : Nat) : (noteBell s ci).mbox.nextRun = s.mbox.nextRun := by
  unfold noteBell
  split
  · dsimp only
    split
    · split <;> rfl
    · rfl
  · rfl

@[simp] theorem takeFront_nextRun (s : State) (src : Src) : (takeFront s src).mbox.nextRun = s.mbox.nextRun := by
  unfold takeFront
  split
  · dsimp only
    split
    · exact noteBell_nextRun s _
    · rfl
  · rfl

/-- A command that goes on is put on the list of those that run, and changes the mailboxes alone beside its effect. -/
theorem runCmd_runs (c : Cmd) (v : State) (bg : Bool) (locks : List Lock) (aux : List Nat) :
    ∃ b, runCmd c (.runs v bg locks aux) = { v with mbox := b }
      ∧ b.runs = v.mbox.runs ++ [⟨v.mbox.nextRun, c.src, c.words, c.digest, bg, locks, aux⟩]
      ∧ b.nextRun = v.mbox.nextRun + 1 ∧ b.kept = v.mbox.kept := by
  unfold runCmd
  dsimp only
  split <;> exact ⟨_, rfl, rfl, rfl, rfl⟩

section
variable {s : State} {src : Src} {op : Nat} {masks : List Nat} {locks : Cmd → List Lock} {c : Cmd}
  {body : Cmd → State → Ans} (hl : live s = true) (hs : starts s src op masks (locks c) c)
include hl hs

theorem act_fails {st dt : Nat} (hb : body c (takeFront s src) = .fail (takeFront s src) st dt) :
    ∃ t, act s (serve op masks locks body src) = .next t ∧ rejects s t src c st dt :=
  ⟨_, (act_after _ hl).trans (by rw [serve_starts hs, hb]), rejects_of hs st dt⟩

/-- A command that goes on: its effect `v` on the state from which it has been taken, and its place among those that run. -/
theorem act_begins {v : State} {bg : Bool} {ls : List Lock} {aux : List Nat}
    (hb : body c (takeFront s src) = .runs v bg ls aux) (hm : v.mbox = (takeFront s src).mbox) :
    ∃ t, act s (serve op masks locks body src) = .next t ∧ begun s t src c bg ls aux ∧ t.coreRegs = v.coreRegs
      ∧ t.mem = v.mem ∧ ∀ o, o ≠ R.msixPba → rd t o = rd v o := by
  obtain ⟨b, he, hruns, hnext, hkept⟩ := runCmd_runs c v bg ls aux
  refine ⟨after s { v with mbox := b }, (act_after _ hl).trans (by rw [serve_starts hs, hb, he]), ⟨?_, ?_, ?_⟩,
    after_coreRegs .., after_mem .., fun o ho => rd_after _ _ ho⟩
  · rw [after_mbox, hruns, hm, takeFront_runs, takeFront_nextRun, cmdAt_src hs.1]
  · rw [after_mbox, hnext, hm, takeFront_nextRun]
  · rw [after_mbox, hkept, hm, takeFront_kept]

end

/-! ### Registers of a breath -/

/-- `t` differs from `s` in the breaths' bookkeeping and in the hub registers `regs` alone. -/
structure BreathRegs (regs : List Nat) (s t : State) : Prop where
  only : BreathOnly s t
  rd : ∀ o, o ∉ regs → rd t o = rd s o

namespace BreathRegs
variable {regs : List Nat} {s t u : State}

theorem refl (regs : List Nat) (s : State) : BreathRegs regs s s := ⟨.refl s, fun _ _ => rfl⟩

theorem trans (h : BreathRegs regs s t) (k : BreathRegs regs t u) : BreathRegs regs s u where
  only := by
    obtain ⟨_, _, rfl⟩ := h.only
    obtain ⟨r, b, rfl⟩ := k.only
    exact ⟨r, b, rfl⟩
  rd o ho := (k.rd o ho).trans (h.rd o ho)

theorem mono {regs' : List Nat} (h : BreathRegs regs s t) (hs : ∀ o ∈ regs, o ∈ regs') : BreathRegs regs' s t :=
  ⟨h.only, fun o ho => h.rd o fun hm => ho (hs o hm)⟩

theorem wr (h : BreathRegs regs s t) {o : Nat} (v : W64) (ho : o ∈ regs) : BreathRegs regs s (wr t o v) :=
  ⟨h.only.wr o v, fun x hx => (rd_wr_ne (by rintro rfl; exact hx ho)).trans (h.rd x hx)⟩

theorem setBrth (h : BreathRegs regs s t) (j : Nat) (b : Breath) : BreathRegs regs s (setBrth t j b) :=
  ⟨h.only.setBrth j b, h.rd⟩

theorem ite {c : Prop} [Decidable c] (h : BreathRegs regs s t) (k : BreathRegs regs s u) :
    BreathRegs regs s (if c then t else u) := by
  split
  · exact h
  · exact k

section
variable (h : BreathRegs regs s t)
include h
theorem coreRegs : t.coreRegs = s.coreRegs := by obtain ⟨_, _, rfl⟩ := h.only; rfl
theorem mem : t.mem = s.mem := by obtain ⟨_, _, rfl⟩ := h.only; rfl
theorem mbox : t.mbox = s.mbox := by obtain ⟨_, _, rfl⟩ := h.only; rfl
theorem time : t.time = s.time := by obtain ⟨_, _, rfl⟩ := h.only; rfl
theorem rdF {o : Nat} (lo n : Nat) (ho : o ∉ regs) : rdF t o lo n = Machine.rdF s o lo n := congrArg (fld · lo n) (h.rd o ho)
theorem rdB {o : Nat} (i : Nat) (ho : o ∉ regs) : rdB t o i = Machine.rdB s o i := congrArg (bitAt · i) (h.rd o ho)
end

end BreathRegs

/-! ### The states of a job and of a breath -/

theorem setJobState_regs (s : State) (j v : Nat) : BreathRegs [R.jobState j, R.jobEvent j] s (setJobState s j v) :=
  .ite (.refl _ s) (((BreathRegs.refl _ s).wr _ (by simp)).wr _ (by simp))

theorem jobState_setJobState (s : State) (j : Nat) {v : Nat} (hv : v < 256) : jobState (setJobState s j v) j = v := by
  unfold setJobState
  split
  · assumption
  · rw [jobState, rdF, rd_setB_ne _ _ (by unfold R.jobState R.jobEvent; omega), wrF, rd_wr_self,
      fld_putFld_self _ _ (by decide)]
    exact Nat.mod_eq_of_lt hv

theorem brth_setJobState (s : State) (j v i : Nat) : brth (setJobState s j v) i = brth s i := by
  rw [setJobState]
  split <;> rfl

theorem brthState_setBrthState (s : State) (j : Nat) {v : Nat} (hv : v < 8) : brthState (setBrthState s j v) j = v := by
  rw [brthState, rdF, setBrthState, wrF, rd_wr_self, fld_putFld_self _ _ (by decide)]
  exact Nat.mod_eq_of_lt hv

/-! ### A breath that resumes (R62, R67) -/

/-- The registers that a resumption sets. -/
def resumeRegs (j : Nat) : List Nat := [R.brthStatus j, R.brthNextNominal j, R.brthFrameStep j, R.brthGridSkipped j]

theorem setNominal_regs (s : State) (j n : Nat) : BreathRegs [R.brthNextNominal j] s (setNominal s j n) :=
  ((BreathRegs.refl _ s).wr _ (by simp)).setBrth _ _

theorem gridNominal_regs (s : State) (j : Nat) : BreathRegs [R.brthNextNominal j] s (gridNominal s j) :=
  .ite (setNominal_regs ..) (.refl _ s)

/-- A breath that resumes as RUNNING, before the nominal start of its next step is set. -/
def resumed (s : State) (j : Nat) : State :=
  setBrth (setBrthState s j 2) j { brth (setBrthState s j 2) j with resumed := true }

/-- The grid of a frame-locked breath that resumes: the points that are skipped, and the next nominal start. -/
def gridResumed (s : State) (j : Nat) : State :=
  gridNominal (bump (wr s (R.brthFrameStep j) (w64 (((rd s (R.brthFrameStep j)).toNat + 2 ^ 32 - skipPoints s j % 2 ^ 32)
    % 2 ^ 32))) (R.brthGridSkipped j) (skipPoints s j)) j

theorem gridResumed_regs (s : State) (j : Nat) :
    BreathRegs [R.brthNextNominal j, R.brthFrameStep j, R.brthGridSkipped j] s (gridResumed s j) :=
  (((BreathRegs.refl _ s).wr _ (by simp)).wr _ (by simp)).trans ((gridNominal_regs ..).mono (by simp))

theorem resumed_regs (s : State) (j : Nat) : BreathRegs [R.brthStatus j] s (resumed s j) :=
  ((BreathRegs.refl _ s).wr _ (by simp)).setBrth _ _

/-- How a breath resumes, by its mode. -/
theorem resumeBreath_eq (s : State) (j : Nat) : resumeBreath s j =
    if brthHier s j then setBrthState s j 2
    else if brthMode s j = 0 then setNominal (resumed s j) j (nowNs s)
    else if brthMode s j = 2 then
      (match (brth s j).grants with
       | g :: _ => setNominal (resumed s j) j g
       | [] => resumed s j)
    else if brthMode s j = 1 ∧ (brth s j).anchored = false then setBrthState (resumed s j) j 1
    else if (brth s j).anchored then gridResumed (resumed s j) j
    else resumed s j := by
  have hc : R.brthConfig j ≠ R.brthStatus j := by unfold R.brthConfig R.brthStatus; omega
  have hh : brthHier (setBrthState s j 2) j = brthHier s j := by
    rw [brthHier, brthHier, rdB, rdB, setBrthState, rd_wrF_ne _ _ _ _ hc]
  have hm : brthMode (resumed s j) j = brthMode s j := (resumed_regs s j).rdF 0 2 (by simpa using hc)
  have hb : brth (resumed s j) j = { brth s j with resumed := true } := brth_setBrth_self ..
  unfold resumeBreath
  dsimp only
  rw [hh]
  change (if brthHier s j = true then setBrthState s j 2
    else if brthMode (resumed s j) j = 0 then setNominal (resumed s j) j (nowNs (resumed s j))
    else if brthMode (resumed s j) j = 2 then
      (match (brth (resumed s j) j).grants with
       | g :: _ => setNominal (resumed s j) j g
       | [] => resumed s j)
    else if brthMode (resumed s j) j = 1 ∧ ¬ (brth (resumed s j) j).anchored then setBrthState (resumed s j) j 1
    else if (brth (resumed s j) j).anchored then gridResumed (resumed s j) j
    else resumed s j) = _
  rw [hm, hb, show nowNs (resumed s j) = nowNs s from rfl]
  simp only [Bool.not_eq_true]

theorem brthStatus_ne (j : Nat) : R.brthStatus j ≠ R.brthNextNominal j ∧ R.brthStatus j ≠ R.brthFrameStep j
    ∧ R.brthStatus j ≠ R.brthGridSkipped j := by
  unfold R.brthStatus R.brthNextNominal R.brthFrameStep R.brthGridSkipped
  omega

/-- What a resumption leaves: the frame of its registers, and the breath's state. -/
theorem resumeBreath_leaves (s : State) (j : Nat) : BreathRegs (resumeRegs j) s (resumeBreath s j)
    ∧ brthState (resumeBreath s j) j
      = if brthMode s j = 1 ∧ brthHier s j = false ∧ (brth s j).anchored = false then 1 else 2 := by
  obtain ⟨h1, h2', h3⟩ := brthStatus_ne j
  have hstate (v : Nat) (t : State) : BreathRegs (resumeRegs j) t (setBrthState t j v) :=
    (BreathRegs.refl _ t).wr _ (by simp [resumeRegs])
  have hres : BreathRegs (resumeRegs j) s (resumed s j) := (hstate 2 s).setBrth _ _
  have hrun : brthState (resumed s j) j = 2 := brthState_setBrthState s j (by decide)
  have hnom (n : Nat) : BreathRegs (resumeRegs j) s (setNominal (resumed s j) j n)
      ∧ brthState (setNominal (resumed s j) j n) j = 2 :=
    ⟨hres.trans ((setNominal_regs ..).mono (by simp [resumeRegs])),
      ((setNominal_regs ..).rdF 0 3 (by simpa using h1)).trans hrun⟩
  rw [resumeBreath_eq]
  by_cases hh : brthHier s j = true
  · rw [if_pos hh, if_neg (by simp [hh])]
    exact ⟨hstate 2 s, brthState_setBrthState s j (by decide)⟩
  rw [if_neg hh]
  by_cases h0 : brthMode s j = 0
  · rw [if_pos h0, if_neg (by simp [h0])]
    exact hnom _
  rw [if_neg h0]
  by_cases h2 : brthMode s j = 2
  · rw [if_pos h2, if_neg (by simp [h2])]
    split
    · exact hnom _
    · exact ⟨hres, hrun⟩
  rw [if_neg h2]
  by_cases ha : brthMode s j = 1 ∧ (brth s j).anchored = false
  · rw [if_pos ha, if_pos ⟨ha.1, by simpa using hh, ha.2⟩]
    exact ⟨hres.trans (hstate 1 _), brthState_setBrthState _ j (by decide)⟩
  have hno : ¬ (brthMode s j = 1 ∧ brthHier s j = false ∧ (brth s j).anchored = false) := fun h => ha ⟨h.1, h.2.2⟩
  rw [if_neg ha, if_neg hno]
  split
  · exact ⟨hres.trans ((gridResumed_regs ..).mono (by simp [resumeRegs])),
      ((gridResumed_regs ..).rdF 0 3 (by simp [h1, h2', h3])).trans hrun⟩
  · exact ⟨hres, hrun⟩

/-- A free-running breath runs again from the present time. -/
theorem nextNominal_resumeBreath {s : State} {j : Nat} (hh : brthHier s j = false) (h0 : brthMode s j = 0) :
    rd (resumeBreath s j) (R.brthNextNominal j) = w64 (nowNs s) := by
  rw [resumeBreath_eq, if_neg (by simp [hh]), if_pos h0]
  exact rd_wr_self ..

/-- A suspended job whose breath resumes: nothing asks for a suspension any more. -/
def jobResumed (s : State) (j : Nat) : State :=
  resumeBreath (setJobState (setBrth s j { brth s j with asked := [] }) j 3) j

theorem jobResumed_leaves (s : State) (j : Nat) :
    BreathRegs (R.jobState j :: R.jobEvent j :: resumeRegs j) s (jobResumed s j) ∧ jobState (jobResumed s j) j = 3
      ∧ brthState (jobResumed s j) j
        = (if brthMode s j = 1 ∧ brthHier s j = false ∧ (brth s j).anchored = false then 1 else 2)
      ∧ (brthHier s j = false → brthMode s j = 0 → rd (jobResumed s j) (R.brthNextNominal j) = w64 (nowNs s)) := by
  have hjob : jobState (setJobState (setBrth s j { brth s j with asked := [] }) j 3) j = 3 :=
    jobState_setJobState _ j (by decide)
  have hset := setJobState_regs (setBrth s j { brth s j with asked := [] }) j 3
  have hbrth : (brth (setJobState (setBrth s j { brth s j with asked := [] }) j 3) j).anchored = (brth s j).anchored := by
    rw [brth_setJobState, brth_setBrth_self]
  unfold jobResumed
  generalize setJobState (setBrth s j { brth s j with asked := [] }) j 3 = u at hjob hset hbrth
  obtain ⟨hframe, hstate⟩ := resumeBreath_leaves u j
  have hconfig : rd u (R.brthConfig j) = rd s (R.brthConfig j) :=
    hset.rd _ (by simp [R.brthConfig, R.jobState, R.jobEvent])
  have hm : brthMode u j = brthMode s j := congrArg (fld · 0 2) hconfig
  have hh : brthHier u j = brthHier s j := congrArg (bitAt · 4) hconfig
  rw [hm, hh, hbrth] at hstate
  refine ⟨?_, ?_, hstate, fun h1 h2 => ?_⟩
  · exact (((BreathRegs.refl _ s).setBrth _ _).trans (hset.mono (by simp))).trans (hframe.mono (by simp [resumeRegs]))
  · refine (hframe.rdF 0 8 ?_).trans hjob
    simp [resumeRegs, R.jobState, R.brthStatus, R.brthNextNominal, R.brthFrameStep, R.brthGridSkipped]
  · rw [nextNominal_resumeBreath (hh.trans h1) (hm.trans h2), nowNs, hset.time]
    rfl

theorem jobResumed_reg_ge {j o : Nat} (h : o ∈ R.jobState j :: R.jobEvent j :: resumeRegs j) : 0x40000 ≤ o := by
  simp only [resumeRegs, List.mem_cons, List.not_mem_nil, or_false, R.jobState, R.jobEvent, R.brthStatus,
    R.brthNextNominal, R.brthFrameStep, R.brthGridSkipped] at h
  omega

/-! ### The commands (R401) -/

theorem onJob_of {s : State} {id j : Nat} (h : breathOf s id = some j) (k : Nat → Ans) : onJob s id k = k j := by
  rw [onJob, h]

/-- A register of the breaths' block is no mailbox's. -/
theorem breathReg_notMem (src : Src) {o : Nat} (h : 0x40000 ≤ o) : o ∉ boxRegs src ∧ o ≠ R.msixPba :=
  ⟨notMem_boxRegs src (by unfold inMailbox; omega), by unfold R.msixPba; omega⟩

theorem jobState_takeFront (s : State) (src : Src) (j : Nat) : jobState (takeFront s src) j = jobState s j :=
  rdF_takeFront s src 0 8 (by unfold R.jobState; omega)

theorem brthMode_takeFront (s : State) (src : Src) (j : Nat) : brthMode (takeFront s src) j = brthMode s j :=
  rdF_takeFront s src 0 2 (by unfold R.brthConfig; omega)

theorem brthHier_takeFront (s : State) (src : Src) (j : Nat) : brthHier (takeFront s src) j = brthHier s j :=
  congrArg (bitAt · 4) (rd_takeFront s src (by unfold inMailbox R.brthConfig; omega))

theorem brth_takeFront (s : State) (src : Src) (j : Nat) : brth (takeFront s src) j = brth s j :=
  brth_of_breaths (takeFront_breaths ..) j

section
variable {s : State} {src : Src} {c : Cmd} {op : Nat} {masks : List Nat} {locks : Cmd → List Lock} {j : Nat}
  (hl : live s = true) (hj : breathOf s (c.f 1 0 8) = some j) (hs : starts s src op masks (locks c) c)
include hl hj hs

/-- JOB_SUSPEND asks for the boundary and waits. -/
theorem act_jobSuspend : ∃ t, act s (serve op masks locks jobSuspendBody src) = .next t ∧ t.coreRegs = s.coreRegs ∧
    (if jobState s j = 3 then
      begun s t src c false (c1Job c) [] ∧ suspendPending t j = true
        ∧ boxFrame s t src false [R.brthStatus j] (fun _ => False)
    else rejects s t src c 0x12 (jobState s j)) := by
  have hj' := (breathOf_takeFront s src _).trans hj
  by_cases h3 : jobState s j = 3
  · have hbody : jobSuspendBody c (takeFront s src) = .runs (askSuspend (takeFront s src) j 1) false (c1Job c) [] := by
      rw [jobSuspendBody, onJob_of hj', if_neg (by rw [jobState_takeFront]; exact not_not.2 h3), c1Job]
    have hframe : BreathRegs [R.brthStatus j] (takeFront s src) (askSuspend (takeFront s src) j 1) :=
      ((BreathRegs.refl _ _).setBrth _ _).wr _ (by simp)
    obtain ⟨t, ht, hbegun, hcore, hmem, hrd⟩ := act_begins hl hs hbody hframe.mbox
    refine ⟨t, ht, ?_, ?_⟩
    · rw [hcore, hframe.coreRegs, takeFront_coreRegs]
    · rw [if_pos h3]
      refine ⟨hbegun, ?_, fun o ho hbox hp => ?_, fun a _ _ => ldB_of_mem ?_ a⟩
      · rw [suspendPending, rdB, hrd _ (by unfold R.brthStatus R.msixPba; omega)]
        exact (rdB_setB_self ..).trans (by simp)
      · rw [hrd o hp, hframe.rd o ho, rd_takeFront_ne _ _ _ hbox]
      · rw [hmem, hframe.mem, takeFront_mem]
  · have hbody : jobSuspendBody c (takeFront s src) = .fail (takeFront s src) 0x12 (jobState s j) := by
      rw [jobSuspendBody, onJob_of hj', jobState_takeFront, if_pos h3, Ans.badState]
    obtain ⟨t, ht, hr⟩ := act_fails hl hs hbody
    refine ⟨t, ht, ?_, by rwa [if_neg h3]⟩
    rw [hr.2.2]

/-- JOB_RESUME lets the breath run again, unless Chanter itself holds the job. -/
theorem act_jobResume : ∃ t, act s (serve op masks locks jobResumeBody src) = .next t ∧ t.coreRegs = s.coreRegs ∧
    (if jobState s j ≠ 4 then rejects s t src c 0x12 (jobState s j)
     else if ((brth s j).asked.erase 1).isEmpty = false then rejects s t src c 0x14 0
     else completed s t src c 0 0 [] true ∧ jobState t j = 3
      ∧ brthState t j = (if brthMode s j = 1 ∧ brthHier s j = false ∧ (brth s j).anchored = false then 1 else 2)
      ∧ (brthHier s j = false → brthMode s j = 0 → rd t (R.brthNextNominal j) = w64 (nowNs s))
      ∧ boxFrame s t src true [R.jobState j, R.jobEvent j, R.brthStatus j, R.brthNextNominal j, R.brthFrameStep j,
          R.brthGridSkipped j] (fun _ => False)) := by
  have hj' := (breathOf_takeFront s src _).trans hj
  have hjob := jobState_takeFront s src j
  have hb := brth_takeFront s src j
  by_cases h4 : jobState s j = 4
  case neg =>
    have hbody : jobResumeBody c (takeFront s src) = .fail (takeFront s src) 0x12 (jobState s j) := by
      rw [jobResumeBody, onJob_of hj', hjob, if_pos h4, Ans.badState]
    obtain ⟨t, ht, hr⟩ := act_fails hl hs hbody
    exact ⟨t, ht, by rw [hr.2.2], by rwa [if_pos h4]⟩
  by_cases he : ((brth s j).asked.erase 1).isEmpty = false
  case pos =>
    have hbody : jobResumeBody c (takeFront s src) = .fail (takeFront s src) 0x14 0 := by
      rw [jobResumeBody, onJob_of hj', hjob, if_neg (not_not.2 h4), hb, if_pos (by simp [he])]
    obtain ⟨t, ht, hr⟩ := act_fails hl hs hbody
    exact ⟨t, ht, by rw [hr.2.2], by rwa [if_neg (not_not.2 h4), if_pos he]⟩
  have hbody : jobResumeBody c (takeFront s src) = .ends (jobResumed (takeFront s src) j) 0 0 []
      (c.digestChange 1 (jobTarget (jobResumed (takeFront s src) j) j)) := by
    rw [jobResumeBody, onJob_of hj', hjob, if_neg (not_not.2 h4), if_neg (by rw [hb]; simpa using he), jobResumed]
  obtain ⟨hframe, h3, hstate, hnominal⟩ := jobResumed_leaves (takeFront s src) j
  rw [brthMode_takeFront, brthHier_takeFront] at hstate hnominal
  rw [hb] at hstate
  generalize jobResumed (takeFront s src) j = v at hbody hframe h3 hstate hnominal
  have hq : v.mbox.journalSeq = s.mbox.journalSeq := by rw [hframe.mbox, takeFront_journalSeq]
  have hrd {o : Nat} {ch : Option Change} (ho : 0x40000 ≤ o) : rd (ended s src c v [] ch) o = rd v o :=
    rd_ended (breathReg_notMem src ho).1 (breathReg_notMem src ho).2
  refine ⟨_, act_ends hl hs hbody, by rw [ended_coreRegs, hframe.coreRegs, takeFront_coreRegs], ?_⟩
  rw [if_neg (not_not.2 h4), if_neg he]
  refine ⟨ended_completed hq, ?_, ?_, fun hh h0 => ?_, boxFrame_of hframe.rd ?_ (fun a _ => ?_) hq rfl⟩
  · rw [jobState, rdF, hrd (by unfold R.jobState; omega)]
    exact h3
  · rw [brthState, rdF, hrd (by unfold R.brthStatus; omega)]
    exact hstate
  · rw [hrd (by unfold R.brthNextNominal; omega), hnominal hh h0]
    simp [nowNs]
  · intro m
    have hm := m.isLt
    exact ⟨fun h => by have := jobResumed_reg_ge h; unfold R.mbCplPi at this; omega,
      fun h => by have := jobResumed_reg_ge h; unfold R.mbCplCi at this; omega⟩
  · rw [ldB_of_mem hframe.mem, ldB_takeFront]

end

/-- Settles O16: JOB_SUSPEND sets what asks for the boundary and stays among the commands that run; JOB_RESUME's effect is
the breath's resumption, whose registers and state come mode by mode. -/
theorem suspendAndResume : Obligations.SuspendAndResume := by
  unfold Obligations.SuspendAndResume
  intro src s c j hl hj
  exact ⟨fun hs => act_jobSuspend (locks := c1Job) hl hj hs, fun hs => act_jobResume (locks := c1Job) hl hj hs⟩

end Sys2Proof.Machine
end

section
/-! SUPPORT. A breath that runs without a job, asked to suspend for a checkpoint: the checkpoint that its boundary begins
holds the core of its rectangle, which no job's content counted before (R66, R407). -/
namespace Sys2Proof.Machine

/-- Breath 0 runs though no job is bound to it, and it is to be suspended for a checkpoint; its slot has two blocks. -/
def joblessBreath : State :=
  { chip := { phase := .running }, regs := [(R.brthStatus 0, 0x82)]
    breaths := [(0, { asked := [3] })], jobs := [(0, { slotBytes := 512 })] }

/-- While no job is bound, the rectangle holds no core, and the hub record alone fits the slot. -/
theorem joblessBreath_fits : (contentBlocks joblessBreath 0 + 1) * 256 ≤ (jobOf joblessBreath 0).slotBytes := by
  decide +kernel

theorem joblessBreath_reached : boundaryReached joblessBreath 0 = true := by decide

/-- As the job becomes SUSPENDED, the core counts, and the checkpoint ends for want of room. -/
theorem joblessBreath_ckpt : (jobOf (suspendReached joblessBreath 0) 0).ckpt = none := by decide +kernel

theorem exec_suspendReached {s : State} (hl : live s = true) (j : BreathId) (hb : boundaryReached s j.val = true) :
    exec (.suspendReached j) s = .next (after s (suspendReached s j.val)) := by
  refine (rfl : exec _ s = execSuspendReached j s).trans ((act_after _ hl).trans ?_)
  rw [if_pos hb]

/-- Refutes O28: the statement counts the checkpoint's blocks before the boundary, and its effect counts them after it.
Where no job is bound to the breath, which the statement does not exclude, the job's state goes from none
to SUSPENDED, the rectangle's core joins the content, and a slot that the hub record alone fitted is too small. -/
theorem not_suspensionTakesEffect : ¬ Obligations.SuspensionTakesEffect := by
  intro h
  have hl : live joblessBreath = true := rfl
  obtain ⟨t, he, -, -, -, -, -, hc⟩ := h ⟨0, by decide⟩ joblessBreath hl joblessBreath_reached
  dsimp only at hc
  obtain ⟨-, k, hk, -⟩ := hc (by decide) (.inl (by decide)) joblessBreath_fits
  have ht := exec_suspendReached hl ⟨0, by decide⟩ joblessBreath_reached
  obtain rfl := Host.Outcome.next.inj (ht.symm.trans he)
  rw [jobOf, after_jobs, ← jobOf, joblessBreath_ckpt] at hk
  cases hk

end Sys2Proof.Machine
end

section
/-! SUPPORT. A flit of the Event Port that names breath 128: the registers of that number are the mesh's (R38, R55, R222). -/
namespace Sys2Proof.Machine

/-- An event for core (5, 5). -/
def strayEvent : Flit := w64 (mkHead 0 0 false 5 5)

/-- Breath 0 may start step 0 at hub port 8, where fence 3 holds back what is for core (0, 0). The Event Port has a flit of
breath 128, whose step 1 is complete but for that flit. `BRTH_CONFIG`, `BRTH_STATUS`, `BRTH_CLOSED` and `BRTH_BUSY_MAX` of
number 128 are `MESH_SHAPE`, `MESH_FENCE` 1 and 3, and `HUBPORT_STATUS` 8. -/
def aliasedBreath : State :=
  { chip := { phase := .running }, time := 3 * 2 ^ 32
    regs := [(R.brthConfig 0, w64 (8 * 2 ^ 24)), (R.brthStatus 0, 2), (R.meshShape, w64 (8 * 2 ^ 24)), (R.meshFence 1, 2),
      (R.meshFence 3, w64 (2 ^ 32))]
    breaths := [(0, { nominal := true }), (128, { closed := 0, started := 1, acc := [(1, { started := true })] })]
    conv := { epOut := [⟨128, 0, 0, strayEvent⟩] } }

theorem aliasedBreath_mayStart : mayStart aliasedBreath 0 = true := by decide

theorem aliasedBreath_linkUp : linkState aliasedBreath (1024 + rdF aliasedBreath (R.brthConfig 0) 24 5) 1 ≠ 3 := by decide

/-- The closing of step 1 of breath 128 takes the fence away and the link of hub port 8 down, and its COMMIT lets what waits
there go: START is dropped. -/
theorem aliasedBreath_lost : (beginStep aliasedBreath 0).mesh.offers = [⟨1024, 0, strayEvent⟩]
    ∧ buf (beginStep aliasedBreath 0) (1024 + rdF aliasedBreath (R.brthConfig 0) 24 5) 4
      (creditQueue (bcastOf aliasedBreath 0 0 ((brth aliasedBreath 0).started + 1))) = [] := by decide +kernel

theorem exec_stepStart {s : State} (hl : live s = true) (j : BreathId) (hm : mayStart s j.val = true) :
    exec (.stepStart j) s = .next (after s (beginStep s j.val)) := by
  refine (rfl : exec _ s = execStepStart j s).trans ((act_after _ hl).trans ?_)
  rw [if_pos hm]

/-- Refutes O38: the clause of a step's start says that START goes out at the breath's hub port. The Event Port's queue in
the state may name any number as a flit's breath, and the closing of a step of breath 128 writes a fence and a hub port's
link state, by which a START that a fence held back is dropped in the same row. -/
theorem not_breathEvents : ¬ Obligations.BreathEvents := by
  intro h
  have hl : live aliasedBreath = true := rfl
  obtain ⟨hstart, -⟩ := h ⟨0, by decide⟩ aliasedBreath hl
  dsimp only at hstart
  obtain ⟨v, he, -, -, -, hsent, -⟩ := hstart _ aliasedBreath_mayStart rfl
  have ht := exec_stepStart hl ⟨0, by decide⟩ aliasedBreath_mayStart
  dsimp only at ht
  obtain rfl := Host.Outcome.next.inj (ht.symm.trans he)
  obtain ⟨hoffers, hbuf⟩ := aliasedBreath_lost
  rcases hsent aliasedBreath_linkUp with hw | ⟨x, hx, -⟩
  · rw [after_mesh, hoffers] at hw
    exact absurd hw (by decide)
  · rw [buf, after_mesh, ← buf, hbuf] at hx
    cases hx

end Sys2Proof.Machine
end

section
/-! SUPPORT. A flit that a core's own units put into its router: its place at the tail of the local input (R192, R196), and
the core's VC0 tokens (R198). -/
namespace Sys2Proof.Machine

/-! ### The tail of a buffer -/

theorem countDrop_mesh (s : State) (node o : Nat) : (countDrop s node o).mesh = s.mesh := by
  unfold countDrop
  split <;> rfl

theorem liveOuts_mesh (node : Nat) : ∀ (l : List Nat) (s : State), (liveOuts node l s).2.mesh = s.mesh
  | [], _ => rfl
  | o :: r, s => by
    unfold liveOuts
    split
    · rw [liveOuts_mesh node r, countDrop_mesh]
    · exact liveOuts_mesh node r s

/-- A flit with an output whose link is not DOWN is not dropped. -/
theorem liveOuts_ne_nil {node : Nat} (hn : node < 1056) : ∀ (l : List Nat) (s : State), (∀ o ∈ l, o < 8) →
    (∃ o ∈ l, o = 4 ∨ linkState s node o ≠ 3) → (liveOuts node l s).1.isEmpty = false
  | [], _, _, ⟨_, ho, _⟩ => absurd ho (by simp)
  | a :: r, s, h8, ⟨o, ho, hlive⟩ => by
    unfold liveOuts
    split
    next hdead =>
      have hor : o ∈ r := (List.mem_cons.1 ho).resolve_left (by rintro rfl; exact hlive.elim hdead.1 (absurd hdead.2))
      refine liveOuts_ne_nil hn r _ (fun x hx => h8 x (List.mem_cons_of_mem _ hx)) ⟨o, hor, ?_⟩
      rwa [(countDrop_entry s node (h8 a (List.mem_cons_self ..))).linkState hn]
    next => rfl

theorem buf_takePlace {s : State} {node : Nat} (hn : node < 1056) (p q : Nat) (h : Held) {outs : List Nat}
    (h8 : ∀ o ∈ outs, o < 8) (hlive : ∃ o ∈ outs, o = 4 ∨ linkState s node o ≠ 3) :
    buf (takePlace s node p q h outs) node p q = buf s node p q ++ [{ h with outs := (liveOuts node outs s).1 }] := by
  unfold takePlace
  rw [if_neg (by simp [liveOuts_ne_nil hn outs s h8 hlive]), buf_pushHeld_self, buf_of_mesh (liveOuts_mesh ..)]

/-! ### The entry of a flit of the event and reduction types -/

/-- An event flit takes its place at the tail, marked or not (R200, R204). -/
theorem enter_event (s : State) (node p : Nat) {f : Flit} (ht : fType f ≤ 1) (cyc : Nat) : ∃ m : Bool,
    enter s node p f cyc = takePlace (if m then bump s (R.rtrMarks node) 1 else s) node p (fVc f)
      ⟨if m then setBit f 57 else f, [], cyc, 8⟩ (routeOuts node p (if m then setBit f 57 else f)) := by
  have hm (g : Flit) : mergeable g f = false := by
    rw [mergeable]
    by_cases h : fType g = fType f
    · rw [h, decide_eq_false (by omega : ¬ fType f = 2), decide_eq_false (by omega : ¬ fType f = 3)]; rfl
    · rw [decide_eq_false h]; simp
  unfold enter
  dsimp only
  rw [if_neg (by omega), if_neg (by omega), if_neg (by omega), if_neg (by omega)]
  split
  · rw [hm, if_neg Bool.false_ne_true]
    exact ⟨_, rfl⟩
  · exact ⟨false, rfl⟩

/-- A flit of the event and reduction types takes its place in an empty buffer. -/
theorem enter_empty {s : State} {node p : Nat} {f : Flit} (ht : fType f < 7) (cyc : Nat) (hb : buf s node p (fVc f) = []) :
    enter s node p f cyc = takePlace s node p (fVc f) ⟨f, [], cyc, 8⟩ (routeOuts node p f) := by
  unfold enter
  dsimp only
  rw [if_neg (by omega), if_neg (by omega), if_neg (by omega), if_neg (by omega), hb]
  rfl

/-! ### What of a flit routes it -/

theorem routeOuts_congr (node p : Nat) {f g : Flit} (h : ∀ k, 35 ≤ k → k ≤ 56 → bitAt g k = bitAt f k) :
    routeOuts node p g = routeOuts node p f := by
  have hff {lo n : Nat} (h1 : 35 ≤ lo) (h2 : lo + n ≤ 57) : ff g lo n = ff f lo n :=
    fld_congr fun k hk => h (lo + k) (by omega) (by omega)
  have hm : fMc g = fMc f := h 56 (by decide) (by decide)
  have hx : fDx g = fDx f := hff (by decide) (by decide)
  have hy : fDy g = fDy f := hff (by decide) (by decide)
  have hex : fEx g = fEx f := hff (by decide) (by decide)
  have hey : fEy g = fEy f := hff (by decide) (by decide)
  unfold routeOuts
  rw [hm, hx, hy, hex, hey]

theorem routeOuts_mark (node p : Nat) (f : Flit) (m : Bool) :
    routeOuts node p (if m then setBit f 57 else f) = routeOuts node p f := by
  split
  · exact routeOuts_congr node p fun k _ hk => by rw [bitAt_setBit, decide_eq_false (by omega), Bool.or_false]
  · rfl

theorem clrBit_mark (f : Flit) (m : Bool) : clrBit (if m then setBit f 57 else f) 57 = clrBit f 57 := by
  refine BitVec.eq_of_getLsbD_eq fun k _ => ?_
  change bitAt _ k = bitAt _ k
  rw [bitAt_clrBit, bitAt_clrBit]
  by_cases h : k = 57
  · simp [h]
  · split <;> simp [h]

/-- A flit for the hub goes west (R17, R192). -/
theorem routeOuts_hub {n : Nat} (p : Nat) {f : Flit} (hn : n < 1024) (hm : fMc f = false) (hx : fDx f = 63) :
    routeOuts n p f = [3] := by
  unfold routeOuts
  rw [if_neg (by omega)]
  simp [hm, hx]

/-- The row that a flit for the hub takes does not change its way. -/
theorem routeOuts_onRow (n p : Nat) {f : Flit} (hn : n < 1024) (ha : misaddressed f = false) :
    routeOuts n p (onRow n f) = routeOuts n p f := by
  unfold onRow
  split
  next h =>
    have hm : fMc f = false := by
      rw [misaddressed, h.1] at ha
      simpa using ha
    rw [routeOuts_hub p hn hm h.1, routeOuts_hub p hn]
    · rw [fMc, bitAt_putFld, if_neg (by decide)]
      exact hm
    · exact (fld_putFld_apart _ _ (.inr (by decide))).trans h.1
  next => rfl

theorem fType_onRow (n : Nat) (f : Flit) : fType (onRow n f) = fType f := by
  unfold onRow
  split
  · exact fld_putFld_apart _ _ (.inr (by decide))
  · rfl

/-! ### The tokens of VC0 -/

/-- An entry leaves `RTR_SHAPER`, and so the tokens, alone. -/
theorem rtrShaper_bump (s : State) (n : Nat) {o : Nat} (k : Nat) (h : o ≠ R.rtrShaper n) :
    rd (bump s o k) (R.rtrShaper n) = rd s (R.rtrShaper n) := rd_bump_ne _ _ (Ne.symm h)

theorem rtrShaper_freeSlot (s : State) (node p q n : Nat) : rd (freeSlot s node p q) (R.rtrShaper n) = rd s (R.rtrShaper n) := by
  unfold freeSlot
  split <;> rfl

theorem rtrShaper_pushHeld (s : State) (n p q : Nat) (h : Held) (hn : n < 1024) :
    rd (pushHeld s n p q h) (R.rtrShaper n) = rd s (R.rtrShaper n) := by
  unfold pushHeld noteDrain
  split
  · rw [if_neg (by omega), rd_setB_ne _ _ (by unfold R.rtrShaper R.rtrDrain; omega)]
    rfl
  · rfl

theorem rtrShaper_liveOuts (n : Nat) : ∀ (l : List Nat) (s : State),
    rd (liveOuts n l s).2 (R.rtrShaper n) = rd s (R.rtrShaper n)
  | [], _ => rfl
  | o :: r, s => by
    unfold liveOuts
    split
    · rw [rtrShaper_liveOuts n r]
      exact rd_ite rfl (rtrShaper_bump _ _ _ (by unfold R.linkDownDrops R.rtrShaper; omega))
    · exact rtrShaper_liveOuts n r s

theorem rtrShaper_takePlace (s : State) (n p q : Nat) (h : Held) (outs : List Nat) (hn : n < 1024) :
    rd (takePlace s n p q h outs) (R.rtrShaper n) = rd s (R.rtrShaper n) := by
  unfold takePlace
  exact rd_ite ((rtrShaper_freeSlot ..).trans (rtrShaper_liveOuts ..))
    ((rtrShaper_pushHeld _ _ _ _ _ hn).trans (rtrShaper_liveOuts ..))

/-- A flit of the event and reduction types that enters takes no token by itself. -/
theorem rtrShaper_enter (s : State) {n : Nat} (p : Nat) {f : Flit} (cyc : Nat) (hn : n < 1024) (ht : fType f < 7) :
    rd (enter s n p f cyc) (R.rtrShaper n) = rd s (R.rtrShaper n) := by
  unfold enter
  dsimp only
  rw [if_neg (by omega), if_neg (by omega), if_neg (by omega), if_neg (by omega)]
  split
  · refine rd_ite ?_ ?_
    · exact (rtrShaper_freeSlot ..).trans (rd_ite rfl (rtrShaper_bump _ _ _ (by unfold R.rtrMerges R.rtrShaper; omega)))
    · exact (rtrShaper_takePlace _ _ _ _ _ _ hn).trans
        (rd_ite (rtrShaper_bump _ _ _ (by unfold R.rtrMarks R.rtrShaper; omega)) rfl)
  · exact rtrShaper_takePlace _ _ _ _ _ _ hn

end Sys2Proof.Machine
end

section
/-! SUPPORT. The flits, reports and DONE of a core (R48, R49, R94, R198). -/
namespace Sys2Proof.Machine

/-! ### Registers of a core -/

theorem coreRegsKept_of_eq {s t : State} (h : t.coreRegs = s.coreRegs) (n : Nat) (regs : List Nat) : coreRegsKept s t n regs :=
  fun m r _ _ _ => cr_of_coreRegs h m r

theorem coreRegsKept_trans {s t u : State} {n : Nat} {regs : List Nat} (h : coreRegsKept s t n regs)
    (k : coreRegsKept t u n regs) : coreRegsKept s u n regs :=
  fun m r hm hr hx => (k m r hm hr hx).trans (h m r hm hr hx)

theorem coreRegsKept_mono {s t : State} {n : Nat} {l regs : List Nat} (h : coreRegsKept s t n l) (hs : l ⊆ regs) :
    coreRegsKept s t n regs :=
  fun m r hm hr hx => h m r hm hr (hx.imp_right fun hn hl => hn (hs hl))

theorem coreRegsKept_cw (s : State) (n : Nat) {r : Nat} {regs : List Nat} (v : W64) (hr : r < 0x8000) (h : r ∈ regs) :
    coreRegsKept s (cw s n r v) n regs :=
  fun _ _ _ hr' hx => cr_cw_ne _ _ hr hr' (hx.imp_right fun hn he => hn (he ▸ h))

theorem coreRegsKept_cbump (s : State) (n : Nat) {r : Nat} {regs : List Nat} (k : Nat) (hr : r < 0x8000) (h : r ∈ regs) :
    coreRegsKept s (cbump s n r k) n regs := coreRegsKept_cw s n _ hr h

theorem coreRegsKept_upCore (s : State) (n : Nat) (f : Core → Core) (regs : List Nat) : coreRegsKept s (upCore s n f) n regs :=
  coreRegsKept_of_eq rfl _ _

theorem coreRegsKept_after {s u : State} {n : Nat} {regs : List Nat} (h : coreRegsKept s u n regs) :
    coreRegsKept s (after s u) n regs := fun m r hm hr hx => (cr_after s u m r).trans (h m r hm hr hx)

/-! ### What a sender leaves of its router's local port -/

/-- `t` has the memory of `s`, the flits that wait at the routers, and the states of the links of node `n`. -/
structure PortKept (s t : State) (n : Nat) : Prop where
  mem : t.mem = s.mem
  bufs : t.mesh.bufs = s.mesh.bufs
  links : ∀ o, linkState t n o = linkState s n o

namespace PortKept

theorem trans {s t u : State} {n : Nat} (h : PortKept s t n) (k : PortKept t u n) : PortKept s u n :=
  ⟨k.mem.trans h.mem, k.bufs.trans h.bufs, fun o => (k.links o).trans (h.links o)⟩

theorem ite {s t u : State} {n : Nat} {c : Prop} [Decidable c] (h : PortKept s t n) (k : PortKept s u n) :
    PortKept s (if c then t else u) n := by
  split
  · exact h
  · exact k

theorem of_regs {s t : State} (n : Nat) (hm : t.mem = s.mem) (hb : t.mesh.bufs = s.mesh.bufs) (hr : t.regs = s.regs) :
    PortKept s t n := ⟨hm, hb, fun o => linkState_congr o (rd_of_regs hr _) (rd_of_regs hr _)⟩

theorem refl (s : State) (n : Nat) : PortKept s s n := of_regs n rfl rfl rfl

theorem buf {s t : State} {n : Nat} (h : PortKept s t n) (p q : Nat) : buf t n p q = Machine.buf s n p q :=
  congrArg (Sparse.get (fun _ => []) · (bufKey n p q)) h.bufs

end PortKept

theorem wrF_rtrShaper_port (s : State) {n : Nat} (lo w v : Nat) (hn : n < 1024) :
    PortKept s (wrF s (R.rtrShaper n) lo w v) n :=
  ⟨rfl, rfl, fun o => linkState_congr o (rd_wrF_ne _ _ _ _ (by unfold R.rtrShaper R.hubportStatus; omega))
    (rd_wrF_ne _ _ _ _ (by unfold R.rtrShaper R.rtrStatus; omega))⟩

theorem tokensTo_port (s : State) {n : Nat} (cyc : Nat) (hn : n < 1024) : PortKept s (tokensTo s n cyc) n :=
  (wrF_rtrShaper_port s _ _ _ hn).trans (.of_regs n rfl rfl rfl)

theorem tokenTake_port (s : State) {n : Nat} (hn : n < 1024) : PortKept s (tokenTake s n) n := wrF_rtrShaper_port s _ _ _ hn

theorem shapeTo_port (s : State) (n cyc : Nat) : PortKept s (shapeTo s n cyc) n :=
  .ite (.refl ..) (.of_regs n rfl rfl rfl)

theorem shapeTo_cores (s : State) (n cyc : Nat) : (shapeTo s n cyc).cores = s.cores := by
  unfold shapeTo
  dsimp only
  split <;> rfl

theorem shapeTo_coreRegs (s : State) (n cyc : Nat) : (shapeTo s n cyc).coreRegs = s.coreRegs := by
  unfold shapeTo
  dsimp only
  split <;> rfl

/-! ### The emit unit -/

/-- Core `n`'s shaper and tokens up to cycle `cyc`. -/
def broughtTo (s : State) (n cyc : Nat) : State := tokensTo (shapeTo s n cyc) n cyc

/-- The stall of the Neuron Engine counted. -/
def stallCounted (s : State) (n stalled : Nat) : State :=
  if updateStalled s n then cbump s n R.emitStallCycles stalled else s

/-- The flit paid for at the shaper, or by a token for VC0. -/
def emitPaid (s : State) (n : Nat) (f : Flit) : State := if fVc f = 0 then tokenTake s n else shapeTake s n

/-- The core as its next flit, of an entry of kind `k`, leaves the emit buffer in cycle `cyc`. -/
def emitLeft (s : State) (n cyc stalled k : Nat) (f : Flit) : State :=
  countEmit (emitPaid (popEmit (stallCounted (broughtTo s n cyc) n stalled) n) n f) n k

theorem broughtTo_cores (s : State) (n cyc : Nat) : (broughtTo s n cyc).cores = s.cores := shapeTo_cores s n cyc

theorem broughtTo_coreRegs (s : State) (n cyc : Nat) : (broughtTo s n cyc).coreRegs = s.coreRegs := shapeTo_coreRegs s n cyc

theorem emitOne_sends {s : State} {n cyc k g : Nat} {f : Flit} {fs : List Flit} {rest : List EmitEntry}
    (stalled : Nat) (hq : (core s n).emitQ = ⟨k, g, f :: fs⟩ :: rest) (ha : misaddressed f = false)
    (hr : emitReady (broughtTo s n cyc) n cyc f = true) : emitOne s n cyc stalled =
      noteBusy (enter (noteMoved (emitLeft s n cyc stalled k f) n) n 4 (onRow n f) cyc) n := by
  have hb : tokensTo (shapeTo s n cyc) n cyc = broughtTo s n cyc := rfl
  have hq' : (core (broughtTo s n cyc) n).emitQ = ⟨k, g, f :: fs⟩ :: rest := by
    rw [core_of_cores (broughtTo_cores s n cyc), hq]
  have ha' : ¬ misaddressed f = true := by rw [ha]; decide
  unfold emitOne coreInject
  dsimp only
  rw [hb, hq']
  dsimp only
  rw [if_pos hr, if_neg ha', if_neg ha']
  rfl

section
variable (s : State) (n : Nat)

theorem stallCounted_cores (k : Nat) : (stallCounted s n k).cores = s.cores := by
  unfold stallCounted
  split
  · exact cbump_cores ..
  · rfl

theorem emitPaid_cores (f : Flit) : (emitPaid s n f).cores = s.cores := by unfold emitPaid; split <;> rfl

theorem emitPaid_coreRegs (f : Flit) : (emitPaid s n f).coreRegs = s.coreRegs := by unfold emitPaid; split <;> rfl

theorem upCore_port (f : Core → Core) : PortKept s (upCore s n f) n := .of_regs n rfl rfl rfl

theorem cbump_port (r k : Nat) : PortKept s (cbump s n r k) n :=
  .of_regs n (cbump_mem ..) (congrArg Mesh.bufs (cbump_mesh ..)) (cbump_regs ..)

theorem popEmit_port : PortKept s (popEmit s n) n := upCore_port ..

theorem stallCounted_port (k : Nat) : PortKept s (stallCounted s n k) n := by
  unfold stallCounted
  exact .ite (cbump_port ..) (.refl ..)

theorem emitPaid_port (f : Flit) (hn : n < 1024) : PortKept s (emitPaid s n f) n := by
  unfold emitPaid
  exact .ite (tokenTake_port s hn) (.of_regs n rfl rfl rfl)

/-- A flit of the buffer's kinds 1 and 2 counts in a register of its own beside `EMIT_FLITS` (R177). -/
theorem countEmit_kinds {k : Nat} (hk : k ≠ 0) : countEmit s n k =
    upCore (cbump (cbump s n R.emitFlits 1) n (if k = 1 then R.ovbAntiSent else R.ovbFreshSent) 1) n
      fun c => { c with rolled := true } := by
  unfold countEmit
  exact if_neg hk

theorem countEmit_update : countEmit s n 0 = cbump s n R.emitFlits 1 := by
  unfold countEmit
  exact if_pos rfl

theorem countEmit_port (k : Nat) : PortKept s (countEmit s n k) n := by
  by_cases hk : k = 0
  · rw [hk, countEmit_update]
    exact cbump_port ..
  · rw [countEmit_kinds s n hk]
    exact ((cbump_port s n R.emitFlits 1).trans (cbump_port _ n _ 1)).trans (upCore_port _ n _)

theorem countEmit_emitQ (k : Nat) : (core (countEmit s n k) n).emitQ = (core s n).emitQ := by
  by_cases hk : k = 0
  · rw [hk, countEmit_update, core_of_cores (cbump_cores ..)]
  · rw [countEmit_kinds s n hk, core_upCore_self]
    dsimp only
    rw [core_of_cores (cbump_cores ..), core_of_cores (cbump_cores ..)]

theorem stallCounted_coreRegs (k : Nat) :
    coreRegsKept s (stallCounted s n k) n (if updateStalled s n then [R.emitStallCycles] else []) := by
  unfold stallCounted
  split
  · exact coreRegsKept_cbump s n _ (by decide) (by simp)
  · exact coreRegsKept_of_eq rfl _ _

theorem countEmit_after_flits (k : Nat) :
    coreRegsKept (cbump s n R.emitFlits 1) (countEmit s n k) n [R.ovbAntiSent, R.ovbFreshSent] := by
  by_cases hk : k = 0
  · rw [hk, countEmit_update]
    exact coreRegsKept_of_eq rfl _ _
  · rw [countEmit_kinds s n hk]
    generalize cbump s n R.emitFlits 1 = t
    refine coreRegsKept_trans (coreRegsKept_cbump t n _ ?_ ?_) (coreRegsKept_upCore _ n _ _)
    · split <;> decide
    · split <;> simp

theorem countEmit_coreRegs (k : Nat) :
    coreRegsKept s (countEmit s n k) n [R.emitFlits, R.ovbAntiSent, R.ovbFreshSent] :=
  coreRegsKept_trans (coreRegsKept_cbump s n _ (by decide) (by simp)) (coreRegsKept_mono (countEmit_after_flits s n k) (by simp))

end

section
variable (s : State) {n : Nat} (cyc stalled k : Nat) (f : Flit)

theorem emitLeft_port (hn : n < 1024) : PortKept s (emitLeft s n cyc stalled k f) n :=
  (shapeTo_port s n cyc).trans <| (tokensTo_port _ cyc hn).trans <| (stallCounted_port _ n stalled).trans <|
    (popEmit_port _ n).trans <| (emitPaid_port _ n f hn).trans (countEmit_port _ n k)

theorem emitLeft_emitQ {s : State} {g : Nat} {fs : List Flit} {rest : List EmitEntry}
    (hq : (core s n).emitQ = ⟨k, g, f :: fs⟩ :: rest) :
    (core (emitLeft s n cyc stalled k f) n).emitQ = if fs = [] then rest else ⟨k, g, fs⟩ :: rest := by
  rw [emitLeft, countEmit_emitQ, core_of_cores (emitPaid_cores ..), popEmit, core_upCore_self,
    core_of_cores ((stallCounted_cores ..).trans (broughtTo_cores ..)), hq]
  cases fs <;> rfl

/-- What the flit's stall and payment leave of the core's registers. -/
theorem emitLeft_before : coreRegsKept s (emitPaid (popEmit (stallCounted (broughtTo s n cyc) n stalled) n) n f) n
    (if updateStalled s n then [R.emitStallCycles] else []) := by
  have hu : updateStalled (broughtTo s n cyc) n = updateStalled s n := by
    rw [updateStalled, core_of_cores (broughtTo_cores ..), updateStalled]
  have hs := stallCounted_coreRegs (broughtTo s n cyc) n stalled
  rw [hu] at hs
  exact coreRegsKept_trans (coreRegsKept_of_eq (broughtTo_coreRegs ..) _ _) <|
    coreRegsKept_trans hs (coreRegsKept_of_eq (emitPaid_coreRegs ..) _ _)

theorem emitLeft_coreRegs : coreRegsKept s (emitLeft s n cyc stalled k f) n
    ([R.emitFlits, R.ovbAntiSent, R.ovbFreshSent] ++ if updateStalled s n then [R.emitStallCycles] else []) :=
  coreRegsKept_trans (coreRegsKept_mono (emitLeft_before s cyc stalled f) (List.subset_append_right ..))
    (coreRegsKept_mono (countEmit_coreRegs _ n k) (List.subset_append_left ..))

theorem emitLeft_counted (hn : n < 1024) : counted s (emitLeft s n cyc stalled k f) n R.emitFlits 1 := by
  have hb := emitLeft_before s (n := n) cyc stalled f n R.emitFlits hn (by decide) (.inr (by split <;> decide))
  rw [counted, emitLeft, countEmit_after_flits _ n k n R.emitFlits hn (by decide) (.inr (by decide)), cbump, cr_cw_self, hb]

end

/-! ### The flit in the router -/

/-- A flit of the event types is at the tail of the local input, marked or not. -/
theorem event_entered {s t : State} {n : Nat} (h : PortKept s t n) (hn : n < 1024) {f : Flit} (ht : fType f ≤ 1)
    (hlive : ∃ o ∈ routeOuts n 4 f, o = 4 ∨ linkState s n o ≠ 3) (cyc : Nat) :
    ∃ x, buf (enter t n 4 f cyc) n 4 (fVc f) = buf s n 4 (fVc f) ++ [x] ∧ clrBit x.f 57 = clrBit f 57 := by
  obtain ⟨m, he⟩ := enter_event t n 4 ht cyc
  have hp : PortKept s (if m then bump t (R.rtrMarks n) 1 else t) n :=
    h.trans (.ite ⟨rfl, rfl, fun o => linkState_congr o (rd_bump_ne _ _ (by unfold R.rtrMarks R.hubportStatus; omega))
      (rd_bump_ne _ _ (by unfold R.rtrMarks R.rtrStatus; omega))⟩ (.refl ..))
  rw [routeOuts_mark] at he
  rw [he, buf_takePlace (by omega) _ _ _ (routeOuts_lt _ _ _) (by simpa only [hp.links] using hlive), hp.buf]
  exact ⟨_, rfl, clrBit_mark f m⟩

/-- A flit of the event and reduction types is alone in a local input that was empty. -/
theorem alone_entered {s t : State} {n : Nat} (h : PortKept s t n) (hn : n < 1024) {f : Flit} (ht : fType f < 7)
    (hlive : ∃ o ∈ routeOuts n 4 f, o = 4 ∨ linkState s n o ≠ 3) (hb : localFlits s n (fVc f) = []) (cyc : Nat) :
    localFlits (enter t n 4 f cyc) n (fVc f) = [f] := by
  have hbt : buf t n 4 (fVc f) = [] := by rw [h.buf, ← List.map_eq_nil_iff]; exact hb
  rw [enter_empty ht cyc hbt, localFlits, buf_takePlace (by omega) _ _ _ (routeOuts_lt _ _ _)
    (by simpa only [h.links] using hlive), hbt]
  rfl

/-! ### Rows -/

theorem localFlits_of_bufs {s t : State} (h : t.mesh.bufs = s.mesh.bufs) (n vc : Nat) : localFlits t n vc = localFlits s n vc := by
  rw [localFlits, buf, h]
  rfl

theorem noteMoved_port (s : State) (n : Nat) : PortKept s (noteMoved s n) n := .of_regs n rfl rfl rfl

/-- R94: the emit unit's next flit. -/
theorem emitFlit_row {s : State} (hl : live s = true) (n : CoreId) (cyc stalled : Nat) {k g : Nat} {f : Flit} {fs : List Flit}
    {rest : List EmitEntry} (hq : (core s n.val).emitQ = ⟨k, g, f :: fs⟩ :: rest) (ht : fType f ≤ 1)
    (ha : misaddressed f = false) (hr : emitReady (broughtTo s n.val cyc) n.val cyc f = true)
    (hlive : ∃ o ∈ routeOuts n.val 4 f, o = 4 ∨ linkState s n.val o ≠ 3) :
    ∃ v, exec (.emitFlit n cyc stalled) s = .next v
      ∧ (core v n.val).emitQ = (if fs = [] then rest else ⟨k, g, fs⟩ :: rest) ∧ counted s v n.val R.emitFlits 1
      ∧ (localFlits v n.val (fVc f)).length = (localFlits s n.val (fVc f)).length + 1
      ∧ (localFlits v n.val (fVc f)).getLast?.map (clrBit · 57)
          = some (clrBit (if fDx f = 63 then putFld f 45 5 (n.val / 32) else f) 57)
      ∧ coreRegsKept s v n.val [R.emitFlits, R.ovbAntiSent, R.ovbFreshSent, R.coreStatus, R.emitStallCycles]
      ∧ (updateStalled s n.val = false → cr v n.val R.emitStallCycles = cr s n.val R.emitStallCycles) ∧ v.mem = s.mem := by
  have hn := n.isLt
  have hrow : onRow n.val f = if fDx f = 63 then putFld f 45 5 (n.val / 32) else f := by
    simp only [onRow, show fType f ≠ 9 by omega, ne_eq, not_false_eq_true, and_true]
  have hleft := emitLeft_port s cyc stalled k f hn
  have hregs := emitLeft_coreRegs s (n := n.val) cyc stalled k f
  have hcount := emitLeft_counted s cyc stalled k f hn
  have hemit := emitLeft_emitQ cyc stalled k f hq
  refine ⟨_, (rfl : exec _ s = execEmitFlit n cyc stalled s).trans ((act_after _ hl).trans (congrArg (Host.Outcome.next <| after s ·)
    (emitOne_sends stalled hq ha hr))), ?_⟩
  generalize emitLeft s n.val cyc stalled k f = t at *
  have hent := enter_entry (noteMoved t n.val) n.val 4 (onRow n.val f) cyc
  obtain ⟨x, hx, hmark⟩ := event_entered (hleft.trans (noteMoved_port t n.val)) hn (f := onRow n.val f)
    (by rwa [fType_onRow]) (by rwa [routeOuts_onRow _ _ hn ha]) cyc
  generalize enter (noteMoved t n.val) n.val 4 (onRow n.val f) cyc = u at *
  have hu (regs : List Nat) (h : R.coreStatus ∈ regs) : coreRegsKept t (noteBusy u n.val) n.val regs :=
    coreRegsKept_trans (coreRegsKept_of_eq hent.coreRegs _ _) (coreRegsKept_cw u _ _ (by decide) h)
  have hbuf : localFlits (after s (noteBusy u n.val)) n.val (fVc f) = localFlits s n.val (fVc f) ++ [x.f] := by
    rw [localFlits_of_bufs (s := u) (by rw [after_mesh]; rfl), localFlits, ← fVc_onRow n.val f, hx, List.map_append]
    rfl
  refine ⟨?_, ?_, ?_, ?_, coreRegsKept_after ?_, fun hst => ?_, ?_⟩
  · rw [core_after, ← hemit]
    exact congrArg Core.emitQ (core_of_cores hent.cores n.val)
  · rw [counted, cr_after, hu [R.coreStatus] (by simp) n.val R.emitFlits hn (by decide) (.inr (by decide))]
    exact hcount
  · rw [hbuf, List.length_append]
    rfl
  · rw [hbuf, List.getLast?_concat, ← hrow, ← hmark]
    rfl
  · exact coreRegsKept_trans (coreRegsKept_mono hregs (by split <;> simp)) (hu _ (by simp))
  · rw [hst] at hregs
    rw [cr_after, hu [R.coreStatus] (by simp) n.val _ hn (by decide) (.inr (by decide)),
      hregs n.val _ hn (by decide) (.inr (by decide))]
  · rw [after_mem, ← hleft.mem]
    exact hent.mem

/-! ### Reports -/

/-- A report: TYPE 3 on VC0, to the hub's port of the core's own row (Table 2-1). -/
structure IsReport (f : Flit) (n : Nat) : Prop where
  type : fType f = 3
  vc : fVc f = 0
  single : fMc f = false
  column : fDx f = 63
  row : fDy f = n / 32

theorem isReport_mkReport (s : State) {n : Nat} (kind tag value : Nat) (hn : n < 1024) : IsReport (mkReport s n kind tag value) n := by
  obtain ⟨low, hlow, hN⟩ : ∃ low, low < 2 ^ 45 ∧
      (mkReport s n kind tag value).toNat = 3 * 2 ^ 60 + 63 * 2 ^ 50 + n / 32 * 2 ^ 45 + low := by
    refine ⟨(0x600 + 4 * coreBreath s n + kind) % 2048 * 2 ^ 34 + tag % 4 * 2 ^ 32 + value % 2 ^ 32, by omega, ?_⟩
    simp only [mkReport, mkReduce, w64, BitVec.toNat_ofNat, mkHead, b2n, Bool.false_eq_true, if_false]
    omega
  have hff (lo k : Nat) : ff (mkReport s n kind tag value) lo k =
      (3 * 2 ^ 60 + 63 * 2 ^ 50 + n / 32 * 2 ^ 45 + low) / 2 ^ lo % 2 ^ k := by rw [ff, fld_eq_div, hN]
  refine ⟨?_, ?_, ?_, ?_, ?_⟩
  · rw [fType, hff]; omega
  · rw [fVc, hff]; omega
  · rw [fMc, bitAt, ← BitVec.testBit_toNat, hN, Nat.testBit_eq_decide_div_mod_eq, decide_eq_false_iff_not]
    omega
  · rw [fDx, hff]; omega
  · rw [fDy, hff]; omega

namespace IsReport
variable {f : Flit} {n : Nat} (h : IsReport f n)
include h

theorem addressed : misaddressed f = false := by
  rw [misaddressed, h.single, h.column]
  rfl

theorem onRow : onRow n f = f := by
  unfold Machine.onRow
  split
  · refine BitVec.eq_of_getLsbD_eq fun k hk => ?_
    change bitAt _ k = bitAt f k
    rw [bitAt_putFld, ← h.row, fDy, ff, fld_testBit]
    split
    next hk' => rw [decide_eq_true (by omega), Bool.true_and, Nat.add_sub_cancel' hk'.1]
    next => rfl
  · rfl

end IsReport

/-- The report sent: a token taken, the flit in the router. -/
theorem report_sent {s t u : State} {n : Nat} {f : Flit} (h : IsReport f n) (hn : n < 1024) (cyc : Nat)
    (hk : PortKept s t n) (ht : tokenOk t n = true) (hu : u = coreInject (tokenTake t n) n f cyc) :
    u.cores = t.cores ∧ u.coreRegs = t.coreRegs ∧ u.mem = s.mem
      ∧ rdF u (R.rtrShaper n) 8 3 + 1 = rdF t (R.rtrShaper n) 8 3
      ∧ (localFlits s n 0 = [] → linkState s n 3 ≠ 3 → localFlits u n 0 = [f]) := by
  have hnot : ¬ misaddressed f = true := by rw [h.addressed]; decide
  rw [coreInject, if_neg hnot, h.onRow] at hu
  have hp : PortKept s (noteMoved (tokenTake t n) n) n := (hk.trans (tokenTake_port t hn)).trans (noteMoved_port ..)
  have hE := enter_entry (noteMoved (tokenTake t n) n) n 4 f cyc
  have hshaper := rtrShaper_enter (noteMoved (tokenTake t n) n) 4 cyc hn (by rw [h.type]; decide : fType f < 7)
  have halone := alone_entered hp hn (by rw [h.type]; decide : fType f < 7)
  rw [h.vc] at halone
  rw [← hu] at hE hshaper
  refine ⟨hE.cores, hE.coreRegs, hE.mem.trans hp.mem, ?_, fun hb hlink => ?_⟩
  · have hpos : 0 < rdF t (R.rtrShaper n) 8 3 := of_decide_eq_true ht
    have hlt : rdF t (R.rtrShaper n) 8 3 < 2 ^ 3 := fld_lt ..
    have htake : rd (noteMoved (tokenTake t n) n) (R.rtrShaper n) =
        putFld (rd t (R.rtrShaper n)) 8 3 (rdF t (R.rtrShaper n) 8 3 - 1) := rd_wr_self ..
    have hfld : rdF u (R.rtrShaper n) 8 3 = (rdF t (R.rtrShaper n) 8 3 - 1) % 2 ^ 3 := by
      rw [rdF, hshaper, htake, fld_putFld_self _ _ (by decide)]
    omega
  · rw [hu]
    refine halone ?_ hb cyc
    rw [routeOuts_hub 4 hn h.single h.column]
    exact ⟨3, by simp, .inr hlink⟩

/-- The delta of a pair `(kind, tag)` reported: it starts again at 0, and its next report may leave 32 cycles later. -/
def deltaReported (s : State) (n : Nat) (kind : RepKind) (tag k cyc : Nat) : State :=
  upCore s n fun c => { c with
    sent := if kind = .sent then Sparse.set (fun _ => 0) c.sent tag 0 else c.sent
    recv := if kind = .sent then c.recv else Sparse.set (fun _ => 0) c.recv tag 0
    reportAt := Sparse.set (fun _ => 0) c.reportAt (k * 4 + tag) (cyc + 32) }

theorem deltaReported_delta (s : State) (n : Nat) (kind : RepKind) (tag k cyc : Nat) :
    Sparse.get (fun _ => 0) (if kind = .sent then (core (deltaReported s n kind tag k cyc) n).sent
      else (core (deltaReported s n kind tag k cyc) n).recv) tag = 0 := by
  rw [deltaReported, core_upCore_self]
  cases kind <;> simp [Sparse.get_set]

theorem deltaReported_reportAt (s : State) (n : Nat) (kind : RepKind) (tag k cyc : Nat) :
    Sparse.get (fun _ => 0) (core (deltaReported s n kind tag k cyc) n).reportAt (k * 4 + tag) = cyc + 32 := by
  rw [deltaReported, core_upCore_self]
  simp [Sparse.get_set]

/-- R48: an unreported delta. -/
theorem barrierReportSend_row {s : State} (hl : live s = true) (n : CoreId) (kind : RepKind) (g : StepTag) (cyc : Nat) {k d : Nat}
    (hk : k = if kind = .sent then 0 else 1)
    (hd : d = Sparse.get (fun _ => 0) (if kind = .sent then (core s n.val).sent else (core s n.val).recv) g.val) (h0 : d ≠ 0)
    (hat : Sparse.get (fun _ => 0) (core s n.val).reportAt (k * 4 + g.val) ≤ cyc) (hs : stopped s n.val = false)
    (ht : tokenOk (tokensTo s n.val cyc) n.val = true)
    (hroom : roomAt (tokensTo s n.val cyc) n.val (mkReport s n.val k g.val d) = true)
    (hback : holdsBack (tokensTo s n.val cyc) n.val n.val (mkReport s n.val k g.val d) = false) :
    ∃ v, exec (.barrierReportSend n kind g cyc) s = .next v
      ∧ Sparse.get (fun _ => 0) (if kind = .sent then (core v n.val).sent else (core v n.val).recv) g.val = 0
      ∧ Sparse.get (fun _ => 0) (core v n.val).reportAt (k * 4 + g.val) = cyc + 32
      ∧ rdF v (R.rtrShaper n.val) 8 3 + 1 = rdF (tokensTo s n.val cyc) (R.rtrShaper n.val) 8 3
      ∧ (localFlits s n.val 0 = [] → linkState s n.val 3 ≠ 3 → localFlits v n.val 0 = [mkReport s n.val k g.val d])
      ∧ v.coreRegs = s.coreRegs ∧ v.mem = s.mem := by
  have hn := n.isLt
  have hsend : sendReport s n.val kind g.val cyc =
      coreInject (tokenTake (deltaReported (tokensTo s n.val cyc) n.val kind g.val k cyc) n.val) n.val
        (mkReport s n.val k g.val d) cyc := by
    unfold sendReport
    dsimp only
    rw [← hk, ← hd]
    refine if_neg ?_
    rintro (h | h | h | h | h | h)
    · exact h0 h
    · omega
    · exact absurd (h.symm.trans hs) (by decide)
    · exact h ht
    · exact h hroom
    · exact absurd (h.symm.trans hback) (by decide)
  have hpk : PortKept s (deltaReported (tokensTo s n.val cyc) n.val kind g.val k cyc) n.val :=
    (tokensTo_port s cyc hn).trans (upCore_port ..)
  obtain ⟨hcores, hcr, hmem, htok, hfl⟩ := report_sent (isReport_mkReport s k g.val d hn) hn cyc hpk ht hsend
  have hcore : core (sendReport s n.val kind g.val cyc) n.val =
      core (deltaReported (tokensTo s n.val cyc) n.val kind g.val k cyc) n.val := core_of_cores hcores _
  refine ⟨_, (rfl : exec _ s = execBarrierReportSend n kind g cyc s).trans (act_after _ hl), ?_, ?_, ?_, fun hb hlk => ?_, ?_, ?_⟩
  · rw [core_after, hcore]
    exact deltaReported_delta ..
  · rw [core_after, hcore]
    exact deltaReported_reportAt ..
  · rw [rdF_after _ _ _ _ (by unfold R.rtrShaper R.msixPba; omega)]
    exact htok
  · rw [localFlits_of_bufs (congrArg Mesh.bufs (after_mesh ..)), hfl hb hlk]
  · rw [after_coreRegs, hcr]
    rfl
  · rw [after_mem, hmem]

/-- The oldest DONE off the list of those owed, `UPDATE_BUSY` clear. -/
def doneTaken (s : State) (n : Nat) (r : List (BitVec 32)) : State :=
  cwB (upCore s n fun c => { c with doneDue := r }) n R.coreStatus 3 false

theorem doneTaken_doneDue (s : State) (n : Nat) (r : List (BitVec 32)) : (core (doneTaken s n r) n).doneDue = r :=
  congrArg Core.doneDue (core_upCore_self s n fun c => { c with doneDue := r })

/-- R49: the oldest DONE that the core owes. -/
theorem doneSend_row {s : State} (hl : live s = true) (n : CoreId) (cyc : Nat) {t : BitVec 32} {r : List (BitVec 32)}
    (hq : (core s n.val).doneDue = t :: r) (hmay : doneMay (tokensTo s n.val cyc) n.val t = true)
    (ht : tokenOk (tokensTo s n.val cyc) n.val = true)
    (hroom : roomAt (tokensTo s n.val cyc) n.val (mkReport s n.val 2 (t.toNat % 4) 1) = true)
    (hback : holdsBack (tokensTo s n.val cyc) n.val n.val (mkReport s n.val 2 (t.toNat % 4) 1) = false) :
    ∃ v, exec (.doneSend n cyc) s = .next v ∧ (core v n.val).doneDue = r ∧ crB v n.val R.coreStatus 3 = false
      ∧ rdF v (R.rtrShaper n.val) 8 3 + 1 = rdF (tokensTo s n.val cyc) (R.rtrShaper n.val) 8 3
      ∧ (localFlits s n.val 0 = [] → linkState s n.val 3 ≠ 3 →
        localFlits v n.val 0 = [mkReport s n.val 2 (t.toNat % 4) 1])
      ∧ coreRegsKept s v n.val [R.coreStatus] ∧ v.mem = s.mem := by
  have hn := n.isLt
  have hsend : sendDoneFlit s n.val cyc =
      coreInject (tokenTake (doneTaken (tokensTo s n.val cyc) n.val r) n.val) n.val (mkReport s n.val 2 (t.toNat % 4) 1) cyc := by
    have hq' : (core (tokensTo s n.val cyc) n.val).doneDue = t :: r := hq
    have hnot : ¬ holdsBack (tokensTo s n.val cyc) n.val n.val (mkReport s n.val 2 (t.toNat % 4) 1) = true := by
      rw [hback]; decide
    unfold sendDoneFlit
    dsimp only
    rw [hq']
    exact if_pos ⟨hmay, ht, hroom, hnot⟩
  have hpk : PortKept s (doneTaken (tokensTo s n.val cyc) n.val r) n.val :=
    (tokensTo_port s cyc hn).trans (.of_regs n.val rfl rfl rfl)
  obtain ⟨hcores, hcr, hmem, htok, hfl⟩ := report_sent (isReport_mkReport s 2 (t.toNat % 4) 1 hn) hn cyc hpk ht hsend
  refine ⟨_, (rfl : exec _ s = execDoneSend n cyc s).trans (act_after _ hl), ?_, ?_, ?_, fun hb hlk => ?_,
    coreRegsKept_after (coreRegsKept_trans ?_ (coreRegsKept_of_eq hcr _ _)), ?_⟩
  · rw [core_after, core_of_cores hcores, doneTaken_doneDue]
  · rw [crB, cr_after, cr_of_coreRegs hcr, doneTaken, cwB, cr_cw_self]
    simp [putBit]
  · rw [rdF_after _ _ _ _ (by unfold R.rtrShaper R.msixPba; omega)]
    exact htok
  · rw [localFlits_of_bufs (congrArg Mesh.bufs (after_mesh ..)), hfl hb hlk]
  · exact coreRegsKept_trans (coreRegsKept_of_eq rfl _ _) (coreRegsKept_cw _ _ _ (by decide) (by simp))
  · rw [after_mem, hmem]

/-- Settles O34: a row for the emit unit's flit, for a report and for DONE. -/
theorem coreSends : Obligations.CoreSends := by
  unfold Obligations.CoreSends
  intro n cyc stalled s hl
  exact ⟨fun _ _ _ _ _ hq ht ha hr hlive => emitFlit_row hl n cyc stalled hq ht ha hr hlive,
    fun kind g _ _ hk hd h0 hat hs ht hroom hback => barrierReportSend_row hl n kind g cyc hk hd h0 hat hs ht hroom hback,
    fun _ _ hq hmay ht hroom hback => doneSend_row hl n cyc hq hmay ht hroom hback⟩

end Sys2Proof.Machine
end

section
/-! SUPPORT. What the work of one core's engines can change: its own memory, its own registers beside those that the work
keeps, and no part of the core that barrier flits speak of (R39, R43). -/
namespace Sys2Proof.Machine

/-- What barrier flits read and write of a core beside its registers. -/
def barrierPart (c : Core) : List Flit × Option (BitVec 32) × List (BitVec 32) × BitVec 32 × List Nat × List (BitVec 32) :=
  (c.rx, c.startHeld, c.doneDue, c.loadedStep, c.dirty, c.commitsHeld)

/-- `t` comes from `s` by work of core `n`'s engines: it stores below offset `hi` of the core, and keeps the core's registers
`keep`, those of other cores, and what barrier flits speak of. -/
structure EngineWork (n : Nat) (keep : List Nat) (hi : Nat) (s t : State) : Prop where
  own : ∀ m r, m < 1024 → r < 0x8000 → (m ≠ n ∨ r ∈ keep) → cr t m r = cr s m r
  mem : ∀ a, (a < coreBase n ∨ coreBase n + hi ≤ a) → ldB t a = ldB s a
  part : barrierPart (core t n) = barrierPart (core s n)

namespace EngineWork
variable {n : Nat} {keep : List Nat} {hi : Nat}

theorem refl (s : State) : EngineWork n keep hi s s := ⟨fun _ _ _ _ _ => rfl, fun _ _ => rfl, rfl⟩

theorem trans {s t u : State} (h : EngineWork n keep hi s t) (k : EngineWork n keep hi t u) : EngineWork n keep hi s u :=
  ⟨fun m r hm hr hx => (k.own m r hm hr hx).trans (h.own m r hm hr hx), fun a ha => (k.mem a ha).trans (h.mem a ha),
    k.part.trans h.part⟩

theorem ite {s t u : State} {c : Prop} [Decidable c] (h : EngineWork n keep hi s t) (k : EngineWork n keep hi s u) :
    EngineWork n keep hi s (if c then t else u) := by
  split
  · exact h
  · exact k

theorem foldl {α : Type} {f : State → α → State} : ∀ (l : List α) (s : State),
    (∀ t, EngineWork n keep hi s t → ∀ x ∈ l, EngineWork n keep hi t (f t x)) → EngineWork n keep hi s (l.foldl f s)
  | [], s, _ => refl s
  | x :: l, s, hf => by
    have hx := hf s (refl s) x (List.mem_cons_self ..)
    exact hx.trans (foldl l (f s x) fun t ht y hy => hf t (hx.trans ht) y (List.mem_cons_of_mem x hy))

theorem of_eq {s t : State} (hr : t.coreRegs = s.coreRegs) (hm : t.mem = s.mem) (hc : t.cores = s.cores) :
    EngineWork n keep hi s t :=
  ⟨fun m r _ _ _ => cr_of_coreRegs hr m r, fun a _ => ldB_of_mem hm a, by rw [core_of_cores hc]⟩

theorem upCore (s : State) {f : Core → Core} (hf : ∀ c, barrierPart (f c) = barrierPart c) :
    EngineWork n keep hi s (upCore s n f) :=
  ⟨fun _ _ _ _ _ => rfl, fun _ _ => rfl, by rw [core_upCore_self, hf]⟩

theorem cw (s : State) {r : Nat} (v : W64) (hr : r < 0x8000) (hk : r ∉ keep) : EngineWork n keep hi s (cw s n r v) :=
  ⟨fun _ _ _ hr' hx => cr_cw_ne s v hr hr' (hx.imp_right fun h he => hk (he ▸ h)),
    fun a _ => ldB_of_mem (cw_mem ..) a, by rw [core_of_cores (cw_cores ..)]⟩

theorem cbump (s : State) {r : Nat} (k : Nat) (hr : r < 0x8000) (hk : r ∉ keep) : EngineWork n keep hi s (cbump s n r k) :=
  cw s _ hr hk

theorem cwB (s : State) {r : Nat} (i : Nat) (b : Bool) (hr : r < 0x8000) (hk : r ∉ keep) :
    EngineWork n keep hi s (cwB s n r i b) := cw s _ hr hk

theorem cwF (s : State) {r : Nat} (lo w v : Nat) (hr : r < 0x8000) (hk : r ∉ keep) :
    EngineWork n keep hi s (cwF s n r lo w v) := cw s _ hr hk

theorem stN (s : State) {a : Nat} {l : List Byte} (h1 : coreBase n ≤ a) (h2 : a + l.length ≤ coreBase n + hi) :
    EngineWork n keep hi s (stN s a l) := by
  refine ⟨fun m r _ _ _ => ?_, fun x hx => ldB_stN_out l s a x (by omega), ?_⟩
  · rw [stN_frame]; rfl
  · rw [stN_frame]; rfl

theorem stU (s : State) {a k : Nat} (v : Nat) (h1 : coreBase n ≤ a) (h2 : a + k ≤ coreBase n + hi) :
    EngineWork n keep hi s (stU s a k v) := stN s h1 (by rwa [leBytes_length])

theorem stB (s : State) {a : Nat} (b : Byte) (h1 : coreBase n ≤ a) (h2 : a < coreBase n + hi) :
    EngineWork n keep hi s (stB s a b) := stN s (l := [b]) h1 h2

section
variable {s t : State} (h : EngineWork n keep hi s t)
include h

theorem cr {r : Nat} (hn : n < 1024) (hr : r < 0x8000) (hk : r ∈ keep) : cr t n r = Machine.cr s n r := h.own n r hn hr (.inr hk)

theorem others {m r : Nat} (hm : m < 1024) (hr : r < 0x8000) (hne : m ≠ n) : Machine.cr t m r = Machine.cr s m r :=
  h.own m r hm hr (.inl hne)

/-- Work that keeps fewer registers, or reaches further. -/
theorem weaken {l : List Nat} {k : Nat} (hl : l ⊆ keep) (hk : hi ≤ k) : EngineWork n l k s t :=
  ⟨fun m r hm hr hx => h.own m r hm hr (hx.imp_right (hl ·)), fun a ha => h.mem a (by omega), h.part⟩

theorem rx : (core t n).rx = (core s n).rx := congrArg (·.1) h.part
theorem doneDue : (core t n).doneDue = (core s n).doneDue := congrArg (·.2.2.1) h.part
theorem commitsHeld : (core t n).commitsHeld = (core s n).commitsHeld := congrArg (·.2.2.2.2.2) h.part
end

end EngineWork

/-! ### Slots -/

theorem ringLen_cases (s : State) (n : Nat) : ringLen s n = 8 ∨ ringLen s n = 16 ∨ ringLen s n = 32 ∨ ringLen s n = 64 := by
  have h : crF s n R.coreConfig 1 2 < 4 := fld_lt ..
  unfold ringLen
  interval_cases crF s n R.coreConfig 1 2 <;> simp

theorem neurons_le (s : State) (n : Nat) : neurons s n ≤ 4096 := by
  unfold neurons
  obtain h | h | h | h := ringLen_cases s n <;> rw [h] <;> decide

/-- The slots of a core lie between offsets 0x40000 and 0x61000, some way past its last neuron. -/
theorem slotAddr_within (s : State) (n i : Nat) (e : BitVec 32) (hi : i < 0x2000) :
    coreBase n ≤ slotAddr s n i e ∧ slotAddr s n i e + 4 ≤ coreBase n + 0x61000 := by
  have hp : e.toNat % ringLen s n * (neurons s n / 128) ≤ 256 := by
    unfold neurons
    obtain h | h | h | h := ringLen_cases s n <;> rw [h] <;> omega
  unfold slotAddr slotOffset
  omega

theorem setSlot_work {keep : List Nat} {hi : Nat} (s : State) (n : Nat) {i : Nat} (e v : BitVec 32) (h : i < 0x2000)
    (hhi : 0x61000 ≤ hi) : EngineWork n keep hi s (setSlot s n i e v) := by
  obtain ⟨h1, h2⟩ := slotAddr_within s n i e h
  exact .stU s _ h1 (by omega)

end Sys2Proof.Machine
end

section
/-! SUPPORT. The update of a step: what it leaves of its core (R106, R107, R135). -/
namespace Sys2Proof.Machine

/-! ### Lanes keep their neuron -/

section
variable (l : Lane) (g : GroupCtx)

theorem writeReg_nid (pc c : Nat) (x : Int) : (writeReg l pc c x).nid = l.nid := by
  unfold writeReg
  split <;> rfl

theorem setFlagF_nid (pc : Nat) (c : Option Bool) (comb : Nat) : (setFlagF l pc c comb).nid = l.nid := by
  unfold setFlagF
  split
  · split_ifs <;> rfl
  · rfl

theorem fireOp_nid (d : Nat) (a : Int) : (fireOp g l d a).nid = l.nid := by
  unfold fireOp
  dsimp only
  split_ifs <;> rfl

theorem execInstr_nid (xin : Int) (pc w : Nat) : (execInstr g xin l pc w).nid = l.nid := by
  have hite {c : Prop} [Decidable c] {a b : Lane} (ha : a.nid = l.nid) (hb : b.nid = l.nid) :
      (if c then a else b).nid = l.nid := by split <;> assumption
  unfold execInstr
  dsimp only
  split
  case h_1 => rfl
  case h_15 => exact hite (writeReg_nid ..) (writeReg_nid ..)
  case h_16 => exact hite (writeReg_nid ..) (writeReg_nid ..)
  case h_18 => exact setFlagF_nid ..
  case h_19 => exact setFlagF_nid ..
  case h_21 => rfl
  case h_22 => exact hite (writeReg_nid ..) (writeReg_nid ..)
  case h_25 => exact hite rfl (fireOp_nid ..)
  case h_26 => exact hite rfl (hite rfl rfl)
  case h_27 => rfl
  all_goals exact writeReg_nid ..

theorem laneInstr_nid (xin : Int) (pc w : Nat) : (laneInstr g xin l pc w).nid = l.nid := by
  unfold laneInstr
  dsimp only
  split_ifs
  · rfl
  · exact execInstr_nid ..
  · rfl

end

theorem runLane_nid (g : GroupCtx) (xin : Int) : ∀ (p : List Nat) (pc : Nat) (l : Lane), (runLane g xin p pc l).nid = l.nid
  | [], _, _ => rfl
  | _ :: p, pc, _ => (runLane_nid g xin p (pc + 1) _).trans (laneInstr_nid ..)

/-! ### The parts of an update -/

/-- The registers that an update reads and keeps. -/
def updateKept : List Nat := [R.coreStep, R.neConfig, R.coreConfig]

/-- `t` comes from `s` by a part of an update of core `n`: it stores below the core's scratch, and keeps the hub's registers. -/
structure UpdateWork (n : Nat) (s t : State) : Prop extends EngineWork n updateKept 0x70000 s t where
  hub : t.regs = s.regs

namespace UpdateWork
variable {n : Nat}

theorem refl (s : State) : UpdateWork n s s := ⟨.refl s, rfl⟩

theorem trans {s t u : State} (h : UpdateWork n s t) (k : UpdateWork n t u) : UpdateWork n s u :=
  ⟨h.toEngineWork.trans k.toEngineWork, k.hub.trans h.hub⟩

theorem ite {s t u : State} {c : Prop} [Decidable c] (h : UpdateWork n s t) (k : UpdateWork n s u) :
    UpdateWork n s (if c then t else u) := by
  split
  · exact h
  · exact k

theorem foldl {α : Type} {f : State → α → State} : ∀ (l : List α) (s : State),
    (∀ t, ∀ x ∈ l, UpdateWork n t (f t x)) → UpdateWork n s (l.foldl f s)
  | [], s, _ => refl s
  | x :: l, s, hf => (hf s x (List.mem_cons_self ..)).trans (foldl l _ fun t y hy => hf t y (List.mem_cons_of_mem x hy))

theorem upCore (s : State) {f : Core → Core} (hf : ∀ c, barrierPart (f c) = barrierPart c) :
    UpdateWork n s (upCore s n f) := ⟨.upCore s hf, rfl⟩

theorem cw (s : State) {r : Nat} (v : W64) (hr : r < 0x8000) (hk : r ∉ updateKept) : UpdateWork n s (cw s n r v) :=
  ⟨.cw s v hr hk, cw_regs ..⟩

theorem cbump (s : State) {r : Nat} (k : Nat) (hr : r < 0x8000) (hk : r ∉ updateKept) : UpdateWork n s (cbump s n r k) :=
  cw s _ hr hk

theorem stN (s : State) {a : Nat} {l : List Byte} (h1 : coreBase n ≤ a) (h2 : a + l.length ≤ coreBase n + 0x70000) :
    UpdateWork n s (stN s a l) := ⟨.stN s h1 h2, by rw [stN_frame]⟩

end UpdateWork

section
variable (s : State) (n : Nat)

/-- A population's entry and program are latched as they stand in the core's memory. -/
theorem latchPop_work (q : Nat) (hq : q < 16) : UpdateWork n s (latchPop s n q) := by
  have hreg : R.nePopCost q < 0x8000 ∧ R.nePopCost q ∉ updateKept := by
    simp only [R.nePopCost, updateKept, R.coreStep, R.neConfig, R.coreConfig, List.mem_cons, List.not_mem_nil, or_false]
    omega
  unfold latchPop
  extract_lets pop w4 prog t
  have ht : UpdateWork n s t := .upCore s fun _ => rfl
  exact .ite (ht.trans (.cw t _ hreg.1 hreg.2)) ht

theorem latchPop_pops (q : Nat) :
    Sparse.get (fun _ => []) (core (latchPop s n q) n).pops q = (List.range 8).map (popWord s n q) := by
  unfold latchPop
  extract_lets pop w4 prog t
  have ht : (core t n).pops = Sparse.set (fun _ => []) (core s n).pops q pop := by
    rw [show core t n = _ from core_upCore_self s n _]
  have hc (c : Prop) [Decidable c] (v : W64) : core (if c then cw t n (R.nePopCost q) v else t) n = core t n := by
    split <;> rfl
  rw [hc, ht, Sparse.get_set, if_pos rfl]

theorem setSlot_update {i : Nat} (e v : BitVec 32) (h : i < 4096) : UpdateWork n s (setSlot s n i e v) :=
  ⟨setSlot_work s n e v (by omega) (by decide), by rw [setSlot, stU, stN_frame]⟩

theorem loadNeuron_work {i : Nat} (t : BitVec 32) (h : i < 4096) : UpdateWork n s (loadNeuron s n i t).2 := by
  unfold loadNeuron
  extract_lets v a b c
  have ha : UpdateWork n s a := setSlot_update s n t 0 h
  have hb : UpdateWork n a b := .ite (.stN a (by unfold stateAddr; omega) (by simp [stateAddr, ldN]; omega)) (.refl a)
  have hc : UpdateWork n b c := .upCore b fun _ => rfl
  exact ((ha.trans hb).trans hc).trans (.ite (.cbump c 1 (by decide) (by decide)) (.refl c))

theorem loadGroup_work (t : BitVec 32) : ∀ (l : List Nat) (s : State), (∀ i ∈ l, i < 4096) →
    UpdateWork n s (loadGroup n t l s).2 ∧ (loadGroup n t l s).1.map (·.1) = l
  | [], s, _ => ⟨.refl s, rfl⟩
  | i :: l, s, h => by
    obtain ⟨hw, hl⟩ := loadGroup_work t l (loadNeuron s n i t).2 fun x hx => h x (List.mem_cons_of_mem i hx)
    exact ⟨(loadNeuron_work s n t (h i (List.mem_cons_self ..))).trans hw, congrArg (i :: ·) hl⟩

theorem countLanes_work (ls : List Lane) : UpdateWork n s (countLanes s n ls) :=
  ((UpdateWork.cbump s _ (by decide) (by decide)).trans (.cbump _ _ (by decide) (by decide))).trans
    (.cbump _ _ (by decide) (by decide))

theorem stateBytes_length (r : List Int) : (stateBytes r).length ≤ 8 := by
  simp only [stateBytes, List.length_flatMap, leBytes_length, List.map_const', List.sum_replicate, List.length_take,
    smul_eq_mul]
  omega

theorem pushEmit_work (k at_ : Nat) (l : List Flit) : UpdateWork n s (pushEmit s n k at_ l) :=
  .ite (.refl s) (.upCore s fun _ => rfl)

theorem writeLane_work (q k : Nat) (t : BitVec 32) (g : GroupCtx) {l : Lane} (h : l.nid < 4096) :
    UpdateWork n s (writeLane n q k t g s l) := by
  have hb := stateBytes_length l.r
  unfold writeLane
  extract_lets a b fl
  have ha : UpdateWork n s a := .stN s (by unfold stateAddr; omega) (by simp only [stateAddr, Bool.false_eq_true, if_false]; omega)
  have hab : UpdateWork n a b := .upCore a fun _ => rfl
  exact (ha.trans hab).trans (.ite (.refl b) ((UpdateWork.cbump b 1 (by decide) (by decide)).trans (pushEmit_work ..)))

/-- The neurons of the group behind are the core's. -/
def BehindWithin (b : Option Behind) : Prop := ∀ x, b = some x → ∀ l ∈ x.lanes, l.nid < 4096

theorem writeBehind_work (t : BitVec 32) {b : Option Behind} (h : BehindWithin b) : UpdateWork n s (writeBehind n t s b) := by
  cases b with
  | none => exact .refl s
  | some x => exact .foldl _ _ fun u l hl => writeLane_work u n _ _ _ _ (h x rfl l hl)

theorem groupNeurons_lt (g : GroupCtx) (k : Nat) : ∀ i ∈ groupNeurons s n g k, i < 4096 := by
  intro i hi
  have hn := neurons_le s n
  unfold groupNeurons at hi
  simp only [List.mem_filter, Bool.and_eq_true, decide_eq_true_eq] at hi
  omega

theorem loadExec_work (q : Nat) (t : BitVec 32) (k : Nat) :
    UpdateWork n s (loadExec n q t s k).1 ∧ BehindWithin (some (loadExec n q t s k).2) := by
  unfold loadExec
  extract_lets g prog a ld b ls c
  have ha : UpdateWork n s a := .ite (.cbump s 1 (by decide) (by decide)) (.refl s)
  obtain ⟨hld, hlist⟩ := loadGroup_work n t (groupNeurons a n g k) a (groupNeurons_lt a n g k)
  have hc : UpdateWork n b c := countLanes_work b n ls
  refine ⟨((ha.trans hld).trans hc).trans (.ite (.cbump c 1 (by decide) (by decide)) (.refl c)), ?_⟩
  rintro _ ⟨⟩ l hl
  obtain ⟨p, hp, rfl⟩ := List.mem_map.1 hl
  rw [runLane_nid]
  exact groupNeurons_lt a n g k p.1 (hlist ▸ List.mem_map_of_mem hp)

end

/-! ### The flow of an update -/

/-- An update under way from `s`: its work so far, and the group behind. -/
structure FlowWork (n : Nat) (s : State) (x : Flow) : Prop where
  work : UpdateWork n s x.s
  behind : BehindWithin x.behind

section
variable {n : Nat} {s : State} {x : Flow} (t : BitVec 32) (ue : Option BadLoad)

theorem updateGroup_flow (q : Nat) (h : FlowWork n s x) (k : Nat) : FlowWork n s (updateGroup n q t ue x k) := by
  unfold updateGroup
  split
  · exact h
  · split
    · exact ⟨h.work.trans (writeBehind_work _ n t h.behind), nofun⟩
    · obtain ⟨hw, hb⟩ := loadExec_work x.s n q t k
      exact ⟨(h.work.trans hw).trans (writeBehind_work _ n t h.behind), hb⟩

theorem updateGroups_flow (q : Nat) : ∀ (l : List Nat) (x : Flow), FlowWork n s x →
    FlowWork n s (l.foldl (updateGroup n q t ue) x)
  | [], _, h => h
  | k :: l, _, h => updateGroups_flow q l _ (updateGroup_flow t ue q h k)

theorem latched_flow (h : FlowWork n s x) {q : Nat} (hq : q < 16) : FlowWork n s { x with s := latchPop x.s n q } :=
  ⟨h.work.trans (latchPop_work x.s n q hq), h.behind⟩

theorem updatePop_flow (h : FlowWork n s x) {q : Nat} (hq : q < 16) : FlowWork n s (updatePop n t ue x q) := by
  unfold updatePop
  split
  · exact h
  · dsimp only
    split
    · exact updateGroups_flow t ue q _ _ (latched_flow h hq)
    · exact latched_flow h hq

theorem updatePops_flow : ∀ (l : List Nat) (x : Flow), (∀ q ∈ l, q < 16) → FlowWork n s x →
    FlowWork n s (l.foldl (updatePop n t ue) x)
  | [], _, _, h => h
  | q :: l, _, hl, h => updatePops_flow l _ (fun p hp => hl p (List.mem_cons_of_mem q hp))
    (updatePop_flow t ue h (hl q (List.mem_cons_self ..)))

end

end Sys2Proof.Machine
end

section
/-! SUPPORT. The update of a step as a whole: the one that completes, and the one that meets an uncorrectable word (R39,
R107, R135, R328). -/
namespace Sys2Proof.Machine

/-! ### The flow from the start of an update -/

/-- The core's notes of the step it loads, begun anew (R107, R173). -/
def stepOpened (s : State) (n : Nat) (t : BitVec 32) : State := upCore s n fun c => { c with
  loadedStep := t, loaded := [], dirty := [], retained := [], record := [], startHeld := none, rolled := false
  splitCnt := (List.range 16).foldl (fun m k => Sparse.set (fun _ => 0) m (k * 4 + t.toNat % 4) 0) c.splitCnt }

/-- The step opened, and noted as speculative where it is (R172). -/
def stepMarked (s : State) (n : Nat) (t : BitVec 32) : State :=
  if ovbOn s n && commitStep s n ≠ t - 1 then cwB (cbump (stepOpened s n t) n R.ovbSpecSteps 1) n R.ovbStatus 0 true
  else cwB (stepOpened s n t) n R.ovbStatus 0 false

/-- The update of step `t` under way, up to the last group that executes. -/
def updateFlow (s : State) (n : Nat) (t : BitVec 32) (ue : Option BadLoad) : Flow :=
  (List.range 16).foldl (updatePop n t ue) { s := stepMarked s n t }

/-- DONE of the step owed, and `UPDATE_BUSY` while the emit buffer holds it up (R49, R94). -/
def updateClosed (s : State) (n : Nat) (t : BitVec 32) : State :=
  let s := upCore s n fun c => { c with doneDue := c.doneDue ++ [t] }
  cwB s n R.coreStatus 3 (!(core s n).emitQ.isEmpty)

/-- The update's last group written back, and its cycles counted. -/
def updateWritten (n : Nat) (t : BitVec 32) (x : Flow) : State := noteUpdate (writeBehind n t x.s x.behind) n

theorem runUpdate_eq (s : State) (n : Nat) (t : BitVec 32) (ue : Option BadLoad) : runUpdate s n t ue =
    if (updateFlow s n t ue).dead then
      engineLost (updateFlow s n t ue).s n t ((ue.map fun u => Lost.mem u.word).getD .none)
    else updateClosed (updateWritten n t (updateFlow s n t ue)) n t := rfl

theorem stepMarked_work (s : State) (n : Nat) (t : BitVec 32) : UpdateWork n (stepOpened s n t) (stepMarked s n t) :=
  .ite ((UpdateWork.cbump _ _ (by decide) (by decide)).trans (.cw _ _ (by decide) (by decide)))
    (.cw _ _ (by decide) (by decide))

theorem updateFlow_work (s : State) (n : Nat) (t : BitVec 32) (ue : Option BadLoad) :
    FlowWork n (stepOpened s n t) (updateFlow s n t ue) := by
  exact updatePops_flow t ue _ _ (fun q hq => List.mem_range.1 hq) ⟨stepMarked_work s n t, nofun⟩

theorem noteUpdate_work (s : State) (n : Nat) : UpdateWork n s (noteUpdate s n) :=
  (UpdateWork.cw _ _ (by decide) (by decide)).trans (.cw _ _ (by decide) (by decide))

/-! ### An update that completes -/

theorem updateGroups_alive (n q : Nat) (t : BitVec 32) : ∀ (l : List Nat) (x : Flow), x.dead = false →
    (l.foldl (updateGroup n q t none) x).dead = false
  | [], _, h => h
  | k :: l, x, h => updateGroups_alive n q t l _ (by
      unfold updateGroup
      rw [h]
      rfl)

theorem updatePops_alive (n : Nat) (t : BitVec 32) : ∀ (l : List Nat) (x : Flow), x.dead = false →
    (l.foldl (updatePop n t none) x).dead = false
  | [], _, h => h
  | q :: l, x, h => updatePops_alive n t l _ (by
      unfold updatePop
      rw [if_neg (by simp [h])]
      dsimp only
      split
      · exact updateGroups_alive n q t _ _ h
      · exact h)

/-- An update that completes leaves the step loaded, its DONE due, and work of the core's engines beside. -/
theorem runUpdate_completes (s : State) (n : Nat) (t : BitVec 32) :
    ∃ u, UpdateWork n (stepOpened s n t) u ∧ UpdateWork n (upCore u n fun c => { c with doneDue := c.doneDue ++ [t] })
      (runUpdate s n t none) := by
  have hflow := updateFlow_work s n t none
  refine ⟨_, (hflow.work.trans (writeBehind_work _ n t hflow.behind)).trans (noteUpdate_work ..), ?_⟩
  rw [runUpdate_eq, if_neg (by simp [updateFlow, updatePops_alive])]
  exact .cw _ _ (by decide) (by decide)

/-! ### An update that meets an uncorrectable word -/

theorem popWord_work {n : Nat} {s t : State} (h : UpdateWork n s t) (hn : n < 1024) (q k : Nat) :
    popWord t n q k = popWord s n q k := by
  have hc : crF t n R.neConfig 0 15 = crF s n R.neConfig 0 15 :=
    congrArg (fld · 0 15) (h.cr hn (by decide) (by simp [updateKept]))
  unfold popWord
  rw [hc]
  exact ldU_congr fun a ha => h.mem a (.inr (by unfold scratch at ha; omega))

/-- A flow stops where one of its steps meets the word, if those before it lead there. -/
theorem foldl_dead {α : Type} {f : Flow → α → Flow} {P : Flow → Prop} (hd : ∀ x a, x.dead = true → f x a = x) {a : α}
    (ha : ∀ x, P x → (f x a).dead = true) : ∀ (l : List α) (x : Flow), (∀ b ∈ l, ∀ y, P y → P (f y b)) → P x → a ∈ l →
    (l.foldl f x).dead = true
  | [], _, _, _, h => absurd h (by simp)
  | b :: l, x, hP, hx, h => by
    have hstay : ∀ (l : List α) (x : Flow), x.dead = true → (l.foldl f x).dead = true := fun l => by
      induction l with
      | nil => exact fun _ h => h
      | cons c l ih => exact fun x h => ih _ (by rw [hd x c h]; exact h)
    obtain rfl | h := List.mem_cons.1 h
    · exact hstay l _ (ha x hx)
    · exact foldl_dead hd ha l _ (fun c hc => hP c (List.mem_cons_of_mem b hc)) (hP b (List.mem_cons_self ..) x hx) h

theorem updateGroup_dead {n q : Nat} {t : BitVec 32} {ue : Option BadLoad} {x : Flow} (k : Nat) (h : x.dead = true) :
    updateGroup n q t ue x k = x := by
  unfold updateGroup
  exact if_pos h

theorem updatePop_dead {n : Nat} {t : BitVec 32} {ue : Option BadLoad} {x : Flow} (q : Nat) (h : x.dead = true) :
    updatePop n t ue x q = x := by
  unfold updatePop
  exact if_pos h

/-- The group whose load meets the word ends the flow. -/
theorem updateGroup_lost (n : Nat) (t : BitVec 32) (u : BadLoad) (x : Flow) :
    (updateGroup n u.pop.val t (some u) x u.group.val).dead = true := by
  unfold updateGroup
  split
  · assumption
  · rw [if_pos (by simp)]

section
variable {s : State} {n : Nat} {t : BitVec 32} {u : BadLoad} (hn : n < 1024)
  (hv : bitAt (w64 (popWord s n u.pop.val 4)) 0 = true)
  (hg : u.group.val < cdiv (fld (w64 (popWord s n u.pop.val 4)) 13 12 + 1) 16)
include hn hv hg

/-- A population is latched as it stood when the update began, so the group is among those loaded. -/
theorem updatePop_lost {x : Flow} (h : FlowWork n s x) : (updatePop n t (some u) x u.pop.val).dead = true := by
  have hw : (groupCtx (latchPop x.s n u.pop.val) n u.pop.val t).w 4 = w64 (popWord s n u.pop.val 4) := by
    rw [GroupCtx.w, groupCtx, latchPop_pops, ← popWord_work h.work hn]
    rfl
  unfold updatePop
  split
  · assumption
  · dsimp only
    rw [hw, if_pos hv]
    exact foldl_dead (P := fun _ => True) (a := u.group.val) (fun _ k => updateGroup_dead k) (fun x _ => updateGroup_lost n t u x) _ _
      (fun _ _ _ _ => trivial) trivial (List.mem_range.2 hg)

theorem updateFlow_lost : (updateFlow s n t (some u)).dead = true :=
  foldl_dead (P := FlowWork n (stepOpened s n t)) (a := u.pop.val) (fun _ q => updatePop_dead q)
    (fun _ h => updatePop_lost (s := stepOpened s n t) hn hv hg h) _ _
    (fun _ hq _ h => updatePop_flow t _ h (List.mem_range.1 hq)) ⟨stepMarked_work s n t, nofun⟩
    (List.mem_range.2 u.pop.isLt)

end

end Sys2Proof.Machine
end

section
/-! SUPPORT. START at a core: the update that it begins, the one it leaves held, and the core's fault (R39, R41, R109, R135). -/
namespace Sys2Proof.Machine

/-! ### A word of a core that an engine loses -/

theorem rd_raise_ne (s : State) (j code step : Nat) {o : Nat} (hc : o ∉ condRegs j) (hb : o ≠ R.brthStatus j) :
    rd (raise s j code step) o = rd s o := by
  unfold raise
  extract_lets st t
  exact rd_ite ((rd_failL0_ne _ _ _ hc).trans ((rd_wrF_ne _ _ _ _ hb).trans rfl)) rfl

theorem raise_coreRegs (s : State) (j code step : Nat) : (raise s j code step).coreRegs = s.coreRegs := by
  obtain ⟨_, _, _, h⟩ := raise_frame s j code step
  rw [h]

theorem raise_cores (s : State) (j code step : Nat) : (raise s j code step).cores = s.cores := by
  obtain ⟨_, _, _, h⟩ := raise_frame s j code step
  rw [h]

theorem raise_mem (s : State) (j code step : Nat) : (raise s j code step).mem = s.mem := by
  obtain ⟨_, _, _, h⟩ := raise_frame s j code step
  rw [h]

/-- `u` comes from `s` by the loss of the eight bytes at `a` of core `n`, counted and logged (R328). -/
structure WordLost (s u : State) (n a source : Nat) : Prop where
  coreRegs : u.coreRegs = s.coreRegs
  cores : u.cores = s.cores
  rd : ∀ o, rd u o = rd (noteCoreLoss s n a source) o
  mem : ∀ x, (x < a ∨ a + 8 ≤ x) → ldB u x = ldB s x

theorem wordLost_loseWord (s : State) (n a source : Nat) : WordLost s (loseWord (noteCoreLoss s n a source) a) n a source := by
  have hcores : (noteCoreLoss s n a source).cores = s.cores := by simp [noteCoreLoss, errLog]
  have hmem := noteCoreLoss_mem (s := s) n a source
  have hregs := noteCoreLoss_coreRegs (s := s) n a source
  refine ⟨?_, ?_, fun o => rd_of_regs ?_ o, fun x hx => (ldB_loseWord_out _ hx).trans (ldB_of_mem hmem x)⟩
  · rw [loseWord_frame]
    exact hregs
  · rw [loseWord_frame]
    exact hcores
  · rw [loseWord_frame]

theorem coreFault_assigned {s : State} {n : Nat} (h : assigned s n = true) (code jobCode : Nat) (t : BitVec 32) :
    coreFault s n code jobCode t.toNat =
      raise (cw s n R.coreFault (w64 (code + t.toNat * 2 ^ 32))) (coreBreath s n) jobCode t.toNat := by
  have hr (v : W64) : cr (cw s n R.coreFault v) n R.coreConfig = cr s n R.coreConfig :=
    cr_cw_ne s v (by decide) (by decide) (.inr (by decide))
  have ha (v : W64) : assigned (cw s n R.coreFault v) n = true := (congrArg (bitAt · 0) (hr v)).trans h
  have hj (v : W64) : coreBreath (cw s n R.coreFault v) n = coreBreath s n := congrArg (fld · 16 6) (hr v)
  unfold coreFault
  rw [Nat.mod_eq_of_lt t.isLt, if_pos (ha _), hj]

/-- The loss of a word of a core that a job owns is the job's fault. -/
theorem coreWordLost_assigned {s : State} {n : Nat} (h : assigned s n = true) (off source : Nat) (t : BitVec 32) :
    ∃ u, WordLost s u n (coreBase n + off) source ∧
      coreWordLost s n off source t = raise (cw u n R.coreFault (w64 (2 + t.toNat * 2 ^ 32))) (coreBreath s n) 4 t.toNat := by
  have hfault {x : State} (hx : WordLost s x n (coreBase n + off) source) : coreFault x n 2 4 t.toNat =
      raise (cw x n R.coreFault (w64 (2 + t.toNat * 2 ^ 32))) (coreBreath s n) 4 t.toNat := by
    have hr := cr_of_coreRegs hx.coreRegs n R.coreConfig
    have ha : assigned x n = true := (congrArg (bitAt · 0) hr).trans h
    have hj : coreBreath x n = coreBreath s n := congrArg (fld · 16 6) hr
    rw [coreFault_assigned ha, hj]
  have hw := wordLost_loseWord s n (coreBase n + off) source
  have hset (u : State) (j : Nat) (b : Job) (hu : WordLost s u n (coreBase n + off) source) :
      WordLost s (setJob u j b) n (coreBase n + off) source := ⟨hu.coreRegs, hu.cores, hu.rd, hu.mem⟩
  unfold coreWordLost
  extract_lets u j job x
  have hu : WordLost s u n (coreBase n + off) source := hw
  have ha : assigned u n = true := (congrArg (bitAt · 0) (cr_of_coreRegs hu.coreRegs n R.coreConfig)).trans h
  have hx : WordLost s x n (coreBase n + off) source := by
    have hite (c : Prop) [Decidable c] (v : State) (hv : WordLost s v n (coreBase n + off) source) :
        WordLost s (if c then v else u) n (coreBase n + off) source := by
      split
      · exact hv
      · exact hu
    exact hite _ _ (hset u j _ hu)
  rw [if_neg (not_not.2 ha)]
  exact ⟨x, hx, hfault hx⟩

/-- Work that ends with the loss of a word of the core faults the core, and the job if it runs; other cores stay as they
are. -/
structure CoreFaulted (s v : State) (n j : Nat) (t : BitVec 32) : Prop where
  fault : cr v n R.coreFault = w64 (2 + t.toNat * 2 ^ 32)
  job : jobState s j = 3 → (⟨j, 4, t.toNat⟩ : Raised) ∈ v.faults ∧ brthState v j = 4
  doneDue : (core v n).doneDue = (core s n).doneDue
  alarm : rdB v R.memAlarm 1 = true
  others : ∀ m r, m < 1024 → r < 0x8000 → m ≠ n → cr v m r = cr s m r
  mem : ∀ a, (a < coreBase n ∨ coreBase n + 0x100000 ≤ a) → ldB v a = ldB s a

theorem coreWordLost_faults {s : State} {n : Nat} (hn : n < 1024) (h : assigned s n = true) {off : Nat} (ho : off + 8 ≤ 0x100000)
    (source : Nat) (t : BitVec 32) : CoreFaulted s (coreWordLost s n off source t) n (coreBreath s n) t := by
  obtain ⟨u, hu, he⟩ := coreWordLost_assigned h off source t
  rw [he]
  have hj : coreBreath s n < 64 := fld_lt ..
  generalize coreBreath s n = j at hj
  generalize hv : w64 (2 + t.toNat * 2 ^ 32) = v
  have hjs : rd u (R.jobState j) = rd s (R.jobState j) := by
    have hd := dieOf_lt hn
    rw [hu.rd, noteCoreLoss, rd_errLog_ne, rd_setB_ne, rd_bump_ne]
    · unfold R.sramUe R.jobState; omega
    · unfold R.memAlarm R.jobState; omega
    · simp only [errLogRegs, R.errLogAddr, R.errLogInfo, R.errLogTime, R.jobState, List.mem_cons, List.not_mem_nil, or_false]
      omega
  refine ⟨?_, fun hrun => ?_, ?_, ?_, fun m r hm hr hne => ?_, fun a ha => ?_⟩
  · rw [cr_of_coreRegs (raise_coreRegs ..), cr_cw_self, hv]
  · have hrun' : jobState (cw u n R.coreFault v) j = 3 := by
      rw [jobState, rdF, rd_of_regs (cw_regs ..), hjs]
      exact hrun
    obtain ⟨hf, hb, -⟩ := raise_running hrun' 4 t.toNat
    rw [Nat.mod_eq_of_lt t.isLt] at hf
    exact ⟨hf, hb⟩
  · rw [core_of_cores ((raise_cores ..).trans ((cw_cores ..).trans hu.cores))]
  · rw [rdB, rd_raise_ne]
    · rw [rd_of_regs (cw_regs ..), hu.rd]
      exact rdB_noteCoreLoss_memAlarm ..
    · simp only [condRegs, R.l0Cond, R.l0StepsOut, R.jobEvent, R.memAlarm, List.mem_cons, List.not_mem_nil, or_false]
      omega
    · unfold R.brthStatus R.memAlarm; omega
  · rw [cr_of_coreRegs (raise_coreRegs ..), cr_cw_ne _ _ (by decide) hr (.inl hne), cr_of_coreRegs hu.coreRegs]
  · rw [ldB_of_mem (raise_mem ..), ldB_of_mem (cw_mem ..), hu.mem a (by omega)]

/-- A fault that follows other work of the core. -/
theorem CoreFaulted.base {s x v : State} {n j : Nat} {t : BitVec 32} (h : CoreFaulted x v n j t) (hr : x.regs = s.regs)
    (hd : (core x n).doneDue = (core s n).doneDue)
    (ho : ∀ m r, m < 1024 → r < 0x8000 → m ≠ n → cr x m r = cr s m r)
    (hm : ∀ a, (a < coreBase n ∨ coreBase n + 0x100000 ≤ a) → ldB x a = ldB s a) : CoreFaulted s v n j t where
  fault := h.fault
  job hrun := h.job (by rw [jobState, rdF, rd_of_regs hr]; exact hrun)
  doneDue := h.doneDue.trans hd
  alarm := h.alarm
  others m r hm hr hne := (h.others m r hm hr hne).trans (ho m r hm hr hne)
  mem a ha := (h.mem a ha).trans (hm a ha)

theorem CoreFaulted.after {s v : State} {n j : Nat} {t : BitVec 32} (h : CoreFaulted s v n j t) (u : State) :
    CoreFaulted s (after u v) n j t where
  fault := (cr_after ..).trans h.fault
  job hrun := by
    rw [after_faults, brthState, rdF_after _ _ _ _ (by unfold R.brthStatus R.msixPba; omega)]
    exact h.job hrun
  doneDue := by rw [core_after, h.doneDue]
  alarm := by rw [rdB_after _ _ _ (by decide), h.alarm]
  others m r hm hr hne := (cr_after ..).trans (h.others m r hm hr hne)
  mem a ha := (ldB_after ..).trans (h.mem a ha)

/-- An update that meets an uncorrectable word in what one of its groups loads faults the core. -/
theorem runUpdate_lost {s : State} {n : Nat} (hn : n < 1024) (h : assigned s n = true) (t : BitVec 32) {u : BadLoad}
    (hv : bitAt (w64 (popWord s n u.pop.val 4)) 0 = true)
    (hg : u.group.val < cdiv (fld (w64 (popWord s n u.pop.val 4)) 13 12 + 1) 16) :
    CoreFaulted s (runUpdate s n t (some u)) n (coreBreath s n) t := by
  have hw := (updateFlow_work s n t (some u)).work
  have hlost : runUpdate s n t (some u) = coreWordLost (updateFlow s n t (some u)).s n (8 * u.word.val) 2 t := by
    rw [runUpdate_eq, if_pos (updateFlow_lost hn hv hg)]
    rfl
  rw [hlost]
  generalize (updateFlow s n t (some u)).s = x at hw
  have hc : cr x n R.coreConfig = cr s n R.coreConfig := hw.cr hn (by decide) (by simp [updateKept])
  have hj : coreBreath x n = coreBreath s n := congrArg (fld · 16 6) hc
  have hopen : (core (stepOpened s n t) n).doneDue = (core s n).doneDue := (congrArg Core.doneDue (core_upCore_self s n _) :)
  rw [← hj]
  exact (coreWordLost_faults hn ((congrArg (bitAt · 0) hc).trans h) (by omega) 2 t).base hw.hub (hw.doneDue.trans hopen)
    (fun m r hm hr hne => hw.others hm hr hne) fun a ha => hw.mem a (by omega)

/-! ### The update that START begins -/

/-- What an update that completes leaves of its core: the step is loaded and its DONE due. -/
structure UpdateDone (u v : State) (n : Nat) (t : BitVec 32) : Prop where
  loadedStep : (core v n).loadedStep = t
  doneDue : (core v n).doneDue = (core u n).doneDue ++ [t]
  startHeld : (core v n).startHeld = none
  dirty : (core v n).dirty = []
  rx : (core v n).rx = (core u n).rx
  coreStep : cr v n R.coreStep = cr u n R.coreStep
  others : ∀ m r, m < 1024 → r < 0x8000 → m ≠ n → cr v m r = cr u m r
  mem : ∀ a, (a < coreBase n ∨ coreBase n + 0x100000 ≤ a) → ldB v a = ldB u a
  hub : v.regs = u.regs

theorem runUpdate_done (u : State) {n : Nat} (hn : n < 1024) (t : BitVec 32) : UpdateDone u (runUpdate u n t none) n t := by
  obtain ⟨w, hw, hv⟩ := runUpdate_completes u n t
  generalize runUpdate u n t none = v at hv
  have hstep : R.coreStep ∈ updateKept := by simp [updateKept]
  have hopen : barrierPart (core (stepOpened u n t) n) =
      ((core u n).rx, none, (core u n).doneDue, t, [], (core u n).commitsHeld) := congrArg barrierPart (core_upCore_self ..)
  have hpart : barrierPart (core v n) =
      ((core u n).rx, none, (core u n).doneDue ++ [t], t, [], (core u n).commitsHeld) := by
    have hw' := hw.part.trans hopen
    rw [hv.part, core_upCore_self]
    simp only [barrierPart, Prod.mk.injEq] at hw' ⊢
    obtain ⟨h1, h2, h3, h4, h5, h6⟩ := hw'
    exact ⟨h1, h2, by rw [h3], h4, h5, h6⟩
  refine ⟨congrArg (·.2.2.2.1) hpart, congrArg (·.2.2.1) hpart, congrArg (·.2.1) hpart, congrArg (·.2.2.2.2.1) hpart,
    congrArg (·.1) hpart, ?_, fun m r hm hr hne => ?_, fun a ha => ?_, ?_⟩
  · exact (hv.cr hn (by decide) hstep).trans (hw.cr hn (by decide) hstep)
  · exact (hv.others hm hr hne).trans (hw.others hm hr hne)
  · exact (hv.mem a (by omega)).trans (hw.mem a (by omega))
  · exact hv.hub.trans hw.hub

/-- `NE_STATUS` shows whether a START is held. -/
theorem neStatusRead_startHeld (s : State) (n : Nat) : bitAt (neStatusRead s n) 25 = (core s n).startHeld.isSome := by
  have hbit (k : Nat) (b : Bool) (hk : k < 2 ^ 25) : bitAt (w64 (k + b2n b * 2 ^ 25)) 25 = b := by
    rw [bitAt, w64, BitVec.getLsbD_ofNat, Nat.testBit_eq_decide_div_mod_eq]
    rw [decide_eq_true (by decide : 25 < 64), Bool.true_and]
    cases b
    · exact decide_eq_false (by simp only [b2n, Bool.false_eq_true, if_false]; omega)
    · exact decide_eq_true (by simp only [b2n, if_true]; omega)
  have hf : fld (freshValue s).1 0 7 < 2 ^ 7 := fld_lt ..
  unfold neStatusRead
  dsimp only
  split
  next e _ =>
    exact hbit (e.group / 256 % 16 + e.group % 256 * 256 + fld (freshValue s).1 0 7 * 65536 + 2 ^ 24) _ (by omega)
  next => simpa using hbit 0 (core s n).startHeld.isSome (by decide)

/-- The update that `s` begins, by way of a state `u` in which the core has taken its START. -/
theorem UpdateDone.begun {s u v : State} {n : Nat} {t : BitVec 32} (h : UpdateDone u v n t)
    (hd : (core u n).doneDue = (core s n).doneDue) (hr : ∀ m r, m < 1024 → r < 0x8000 → m ≠ n → cr u m r = cr s m r)
    (hm : u.mem = s.mem) (hh : u.regs = s.regs) : updateBegun s (after s v) n t := by
  refine ⟨?_, ?_, ?_, ?_, ?_, fun m r hm hr' hne => ?_, fun a ha => ?_, fun o ho => ?_⟩
  · rw [core_after, h.loadedStep]
  · rw [core_after, h.doneDue, hd]
  · rw [core_after, h.startHeld]
  · rw [core_after, h.dirty]
  · rw [neStatusRead_startHeld, core_after, h.startHeld]
    rfl
  · rw [cr_after, h.others m r hm hr' hne, hr m r hm hr' hne]
  · rw [ldB_after, h.mem a ha, ldB_of_mem hm]
  · rw [rd_after _ _ ho, rd_of_regs (h.hub.trans hh)]

end Sys2Proof.Machine
end

section
/-! SUPPORT. The rows of START, and of a held START, at a core. -/
namespace Sys2Proof.Machine

/-! ### START taken and recorded -/

/-- START(t), the flit `f`, taken from those that wait at core `n`, and recorded. -/
def startNoted (s : State) (n : Nat) (f : Flit) (t : BitVec 32) : State :=
  cwF (takeLocal s n f) n R.coreStep 0 32 t.toNat

section
variable (s : State) (n : Nat) (f : Flit) (t : BitVec 32)

theorem startNoted_regs : (startNoted s n f t).regs = s.regs := cwF_regs ..
theorem startNoted_mem : (startNoted s n f t).mem = s.mem := cwF_mem ..

theorem core_startNoted : core (startNoted s n f t) n = { core s n with rx := (core s n).rx.erase f } :=
  (core_of_cores (cwF_cores ..) n).trans (core_takeLocal_self s n f)

theorem startNoted_others : coreRegsKept s (startNoted s n f t) n [R.coreStep] :=
  fun _ _ _ hr h => cr_cw_ne _ _ (by decide) hr (h.imp_right fun hx => by simpa using hx)

theorem startNoted_step : crF (startNoted s n f t) n R.coreStep 0 32 = t.toNat := by
  rw [crF, startNoted, cwF, cr_cw_self, fld_putFld_self _ _ (by decide)]
  exact Nat.mod_eq_of_lt t.isLt

theorem startNoted_commit : crF (startNoted s n f t) n R.coreStep 32 32 = crF s n R.coreStep 32 32 := by
  rw [crF, startNoted, cwF, cr_cw_self, fld_putFld_apart _ _ (.inr (by decide))]
  rfl

end

/-- Whether an update may begin is a matter of some fields of the core, its memory, and its registers but `START_STEP`. -/
theorem mayUpdate_congr {s u : State} {n : Nat} (t : BitVec 32) (he : (core u n).emitQ = (core s n).emitQ)
    (hs : (core u n).splitCnt = (core s n).splitCnt) (hm : (core u n).mread = (core s n).mread)
    (hd : (core u n).dirty = (core s n).dirty)
    (hr : ∀ r, r < 0x8000 → r ≠ R.coreStep → cr u n r = cr s n r) (hc : commitStep u n = commitStep s n)
    (hmem : u.mem = s.mem) : mayUpdate u n t = mayUpdate s n t := by
  have hsplit (k : Nat) : splitIn u n k = splitIn s n k := by
    rw [splitIn, splitEntry, crF, hr _ (by decide) (by decide), ldU_of_mem hmem]
    rfl
  have hcount (k g : Nat) : splitCount u n k g = splitCount s n k g := by rw [splitCount, hs, splitCount]
  have hcomplete : splitComplete u n t = splitComplete s n t := by simp only [splitComplete, hsplit, hcount]
  have hhome : isHome u n = isHome s n := by simp only [isHome, hsplit]
  have hread : mreadDone u n (t - 2) = mreadDone s n (t - 2) := by
    rw [mreadDone, crB, crF, hr R.ovbConfig (by decide) (by decide), hm]
    rfl
  have hplas : plasStep u n = plasStep s n := by rw [plasStep, crF, hr _ (by decide) (by decide)]; rfl
  have hstall : updateStalled u n = updateStalled s n := by rw [updateStalled, he, updateStalled]
  rw [mayUpdate, hstall, hplas, hhome, hc, hcomplete, hread, hd, mayUpdate]

theorem mayUpdate_startNoted (s : State) {n : Nat} (f : Flit) (t : BitVec 32) (hn : n < 1024) :
    mayUpdate (startNoted s n f t) n t = mayUpdate s n t := by
  have hc := core_startNoted s n f t
  refine mayUpdate_congr t (congrArg Core.emitQ hc :) (congrArg Core.splitCnt hc :) (congrArg Core.mread hc :)
    (congrArg Core.dirty hc :) (fun r hr hne => startNoted_others s n f t n r hn hr (.inr (by simpa using hne))) ?_
    (startNoted_mem ..)
  rw [commitStep, startNoted_commit, commitStep]

theorem popWord_startNoted (s : State) {n : Nat} (f : Flit) (t : BitVec 32) (hn : n < 1024) (q k : Nat) :
    popWord (startNoted s n f t) n q k = popWord s n q k := by
  rw [popWord, crF, startNoted_others s n f t n _ hn (by decide) (.inr (by decide)), ldU_of_mem (startNoted_mem ..)]
  rfl

/-- A START that the core obeys, with no other one held, is taken, recorded, and begins its update or is held. -/
theorem coreStart_obeyed {s : State} {n j : Nat} {t : BitVec 32} (hn : n < 1024) (ho : obeys s n j = true)
    (hb : barrierHere s n j 0 t = true) (hh : (core s n).startHeld = none) (ue : Option BadLoad) :
    coreStart s n j t ue = if mayUpdate s n t then runUpdate (startNoted s n (bcastOf s j 0 t) t) n t ue
      else upCore (startNoted s n (bcastOf s j 0 t) t) n fun c => { c with startHeld := some t } := by
  have ho' : obeys (takeLocal s n (bcastOf s j 0 t)) n j = true := ho
  unfold coreStart
  rw [if_neg (by simp [hb, hh])]
  dsimp only
  rw [if_pos ho', startUpdate, ← mayUpdate_startNoted s (bcastOf s j 0 t) t hn]
  rfl

/-! ### Rows -/

section
variable {s : State} (hl : live s = true) (n : CoreId) (j : BreathId) (t : BitVec 32)
include hl

theorem exec_coreStart (ue : Option BadLoad) :
    exec (.coreStart n j t ue) s = .next (after s (coreStart s n.val j.val t ue)) :=
  (rfl : exec _ s = execCoreStart n j t ue s).trans (act_after _ hl)

theorem coreStart_waits (ho : obeys s n.val j.val = true) (ue : Option BadLoad) (hh : (core s n.val).startHeld.isSome = true) :
    exec (.coreStart n j t ue) s = .next (after s s) := by
  rw [exec_coreStart hl]
  unfold coreStart
  rw [if_pos (.inr ⟨ho, hh⟩)]

theorem coreStart_unheeded (ho : obeys s n.val j.val = false) (ue : Option BadLoad) (hb : barrierHere s n.val j.val 0 t = true) :
    exec (.coreStart n j t ue) s = .next (after s (takeLocal s n.val (bcastOf s j.val 0 t))) := by
  have ho' : ¬ obeys (takeLocal s n.val (bcastOf s j.val 0 t)) n.val j.val = true := by
    rw [show obeys (takeLocal s n.val (bcastOf s j.val 0 t)) n.val j.val = _ from ho]
    decide
  rw [exec_coreStart hl]
  unfold coreStart
  rw [if_neg (by simp [hb, ho])]
  dsimp only
  rw [if_neg ho']

section
variable (ho : obeys s n.val j.val = true) (hb : barrierHere s n.val j.val 0 t = true) (hh : (core s n.val).startHeld = none)
include ho hb hh

/-- START(t) whose update may begin begins it. -/
theorem coreStart_begins (hm : mayUpdate s n.val t = true) : ∃ v, exec (.coreStart n j t none) s = .next v
    ∧ crF v n.val R.coreStep 0 32 = t.toNat ∧ crF v n.val R.coreStep 32 32 = crF s n.val R.coreStep 32 32
    ∧ updateBegun s v n.val t ∧ (core v n.val).rx = (core s n.val).rx.erase (bcastOf s j.val 0 t) := by
  refine ⟨_, exec_coreStart hl n j t none, ?_⟩
  rw [coreStart_obeyed n.isLt ho hb hh, if_pos hm]
  have hcore := core_startNoted s n.val (bcastOf s j.val 0 t) t
  have hdone := runUpdate_done (startNoted s n.val (bcastOf s j.val 0 t) t) n.isLt t
  have hstep (lo w : Nat) : crF (after s (runUpdate (startNoted s n.val (bcastOf s j.val 0 t) t) n.val t none)) n.val R.coreStep
      lo w = crF (startNoted s n.val (bcastOf s j.val 0 t) t) n.val R.coreStep lo w := by
    rw [crF, cr_after, hdone.coreStep, crF]
  refine ⟨?_, ?_, hdone.begun (congrArg Core.doneDue hcore :) (fun m r hm hr hne => ?_) (startNoted_mem ..) (startNoted_regs ..), ?_⟩
  · rw [hstep, startNoted_step]
  · rw [hstep, startNoted_commit]
  · exact startNoted_others s n.val _ t m r hm hr (.inl hne)
  · rw [core_after, hdone.rx, hcore]

/-- START(t) whose update may not begin yet is held. -/
theorem coreStart_held (ue : Option BadLoad) (hm : mayUpdate s n.val t = false) : ∃ v, exec (.coreStart n j t ue) s = .next v
    ∧ crF v n.val R.coreStep 0 32 = t.toNat ∧ (core v n.val).startHeld = some t ∧ bitAt (neStatusRead v n.val) 25 = true
    ∧ v.mem = s.mem ∧ coreRegsKept s v n.val [R.coreStep] ∧ hubRegsKept s v [] := by
  refine ⟨_, exec_coreStart hl n j t ue, ?_⟩
  rw [coreStart_obeyed n.isLt ho hb hh, if_neg (by simp [hm])]
  have hstep := startNoted_step s n.val (bcastOf s j.val 0 t) t
  have hregs := startNoted_others s n.val (bcastOf s j.val 0 t) t
  have hmem := startNoted_mem s n.val (bcastOf s j.val 0 t) t
  have hhub := startNoted_regs s n.val (bcastOf s j.val 0 t) t
  generalize startNoted s n.val (bcastOf s j.val 0 t) t = u at *
  have hheld : (core (upCore u n.val fun c => { c with startHeld := some t }) n.val).startHeld = some t :=
    congrArg Core.startHeld (core_upCore_self ..)
  refine ⟨?_, ?_, ?_, ?_, fun m r hm hr hx => ?_, hubRegsKept_after fun o _ => ?_⟩
  · rw [crF, cr_after]
    exact hstep
  · rw [core_after, hheld]
  · rw [neStatusRead_startHeld, core_after, hheld]
    rfl
  · rw [after_mem]
    exact hmem
  · rw [cr_after]
    exact hregs m r hm hr hx
  · exact rd_of_regs hhub o

/-- An uncorrectable word in what a group of the update loads faults the core and its job. -/
theorem coreStart_lost (u : BadLoad) (hm : mayUpdate s n.val t = true)
    (hv : bitAt (w64 (popWord s n.val u.pop.val 4)) 0 = true)
    (hg : u.group.val < cdiv (fld (w64 (popWord s n.val u.pop.val 4)) 13 12 + 1) 16) :
    ∃ v, exec (.coreStart n j t (some u)) s = .next v ∧ CoreFaulted s v n.val j.val t := by
  refine ⟨_, exec_coreStart hl n j t (some u), ?_⟩
  rw [coreStart_obeyed n.isLt ho hb hh, if_pos hm]
  obtain ⟨hassigned, hbreath⟩ : assigned s n.val = true ∧ coreBreath s n.val = j.val := by simpa [obeys] using ho
  have hpop := popWord_startNoted s (bcastOf s j.val 0 t) t n.isLt u.pop.val 4
  have hregs := startNoted_others s n.val (bcastOf s j.val 0 t) t
  have hmem := startNoted_mem s n.val (bcastOf s j.val 0 t) t
  have hhub := startNoted_regs s n.val (bcastOf s j.val 0 t) t
  have hdue := (congrArg Core.doneDue (core_startNoted s n.val (bcastOf s j.val 0 t) t) :)
  generalize startNoted s n.val (bcastOf s j.val 0 t) t = x at *
  have hcfg := hregs n.val R.coreConfig n.isLt (by decide) (.inr (by decide))
  have hj : coreBreath x n.val = j.val := (congrArg (fld · 16 6) hcfg).trans hbreath
  rw [← hpop] at hv hg
  have hlost := runUpdate_lost n.isLt ((congrArg (bitAt · 0) hcfg).trans hassigned) t hv hg
  rw [hj] at hlost
  exact (hlost.base hhub hdue (fun m r hm hr hne => hregs m r hm hr (.inl hne)) fun a _ => ldB_of_mem hmem a).after s

end
end

end Sys2Proof.Machine
end

section
/-! SUPPORT. The rows of a held START and of HOLD at a core (R76, R109). -/
namespace Sys2Proof.Machine

section
variable {s : State} (hl : live s = true) (n : CoreId) (t : BitVec 32)
include hl

/-- A held START begins its update once that may begin. -/
theorem heldUpdateStart_begins (hh : (core s n.val).startHeld = some t) (hs : stopped s n.val = false)
    (hm : mayUpdate s n.val t = true) : ∃ v, exec (.heldUpdateStart n none) s = .next v ∧ updateBegun s v n.val t := by
  have hdone := runUpdate_done s n.isLt t
  refine ⟨_, (rfl : exec _ s = execHeldUpdateStart n none s).trans (act_after _ hl), ?_⟩
  rw [hh]
  dsimp only
  rw [if_pos (by rw [hs, hm]; rfl)]
  exact hdone.begun rfl (fun _ _ _ _ _ => rfl) rfl rfl

theorem exec_coreHold (j : BreathId) : exec (.coreHold n j t) s = .next (after s (coreHold s n.val j.val t)) :=
  (rfl : exec _ s = execCoreHold n j t s).trans (act_after _ hl)

variable (j : BreathId) (hb : barrierHere s n.val j.val 2 t = true)
include hb

theorem coreHold_unheeded (ho : obeys s n.val j.val = false) :
    exec (.coreHold n j t) s = .next (after s (takeLocal s n.val (bcastOf s j.val 2 t))) := by
  have ho' : ¬ obeys (takeLocal s n.val (bcastOf s j.val 2 t)) n.val j.val = true := by
    rw [show obeys (takeLocal s n.val (bcastOf s j.val 2 t)) n.val j.val = _ from ho]
    decide
  rw [exec_coreHold hl]
  unfold coreHold
  rw [if_neg (not_not.2 hb)]
  dsimp only
  rw [if_neg ho']

/-- HOLD clears `UPDATE_BUSY`, and nothing else of the core's registers. -/
theorem coreHold_obeyed (ho : obeys s n.val j.val = true) : ∃ v, exec (.coreHold n j t) s = .next v
    ∧ crB v n.val R.coreStatus 3 = false ∧ (∀ k, k ≠ 3 → crB v n.val R.coreStatus k = crB s n.val R.coreStatus k)
    ∧ coreRegsKept s v n.val [R.coreStatus] ∧ hubRegsKept s v [] ∧ v.mem = s.mem
    ∧ v.cores = (takeLocal s n.val (bcastOf s j.val 2 t)).cores := by
  have ho' : obeys (takeLocal s n.val (bcastOf s j.val 2 t)) n.val j.val = true := ho
  refine ⟨_, exec_coreHold hl n t j, ?_⟩
  unfold coreHold
  rw [if_neg (not_not.2 hb)]
  dsimp only
  rw [if_pos ho']
  have hbit (k : Nat) : crB (after s (cwB (takeLocal s n.val (bcastOf s j.val 2 t)) n.val R.coreStatus 3 false)) n.val
      R.coreStatus k = (crB s n.val R.coreStatus k && !decide (k = 3)) := by
    rw [crB, cr_after, cwB, cr_cw_self, putBit, if_neg Bool.false_ne_true, bitAt_clrBit]
    rfl
  refine ⟨?_, fun k hk => ?_, coreRegsKept_after ?_, hubRegsKept_after fun o _ => rfl, ?_, after_cores ..⟩
  · rw [hbit, decide_eq_true rfl, Bool.not_true, Bool.and_false]
  · rw [hbit, decide_eq_false hk, Bool.not_false, Bool.and_true]
  · exact coreRegsKept_cw (takeLocal s n.val (bcastOf s j.val 2 t)) _ _ (by decide) (by simp)
  · rw [after_mem]
    rfl

end

end Sys2Proof.Machine
end

section
/-! SUPPORT. What COMMIT makes a core's units do: split groups forwarded, banks released, signals (R97, R249, R260). -/
namespace Sys2Proof.Machine

/-- The registers that forwarding, releases and signals keep. -/
def commitKept : List Nat := [R.coreStep, R.coreStatus, R.plasStep, R.plasStatus]

/-- `t` comes from `s` by work of core `n` at a COMMIT before the Plasticity Engine's. -/
abbrev CommitWork (n : Nat) (s t : State) : Prop := EngineWork n commitKept 0x100000 s t

section
variable (n : Nat)

/-! ### Flits that leave -/

theorem coreSend_work (s : State) (f : Flit) : CommitWork n s (coreSend s n f) := by
  have hset : CommitWork n s (noteSetup s n f) := .ite (.upCore s fun _ => rfl) (.refl s)
  have hent := offer_entry (noteSetup s n f) n n (onRow n f)
  exact .ite (hset.trans (.cbump _ 1 (by decide) (by decide))) (hset.trans (.of_eq hent.coreRegs hent.mem hent.cores))

theorem coreSendAll_work : ∀ (l : List Flit) (s : State), CommitWork n s (coreSendAll n l s)
  | [], s => .refl s
  | f :: l, s => (coreSend_work n s f).trans (coreSendAll_work l _)

theorem forwardCol_work (e : W64) (step : BitVec 32) : ∀ (l : List Nat) (s : State) (fs : List Flit), (∀ j ∈ l, j < 1024) →
    CommitWork n s (forwardCol n e step l s fs).1
  | [], s, _, _ => .refl s
  | j :: l, s, fs, h => by
    have he : fld e 1 12 < 4096 := fld_lt ..
    have hj := h j (List.mem_cons_self ..)
    exact (setSlot_work s n step 0 (by omega) (by decide)).trans
      (forwardCol_work e step l _ _ fun k hk => h k (List.mem_cons_of_mem j hk))

theorem forwardAll_work (step : BitVec 32) : ∀ (l : List Nat) (s : State) (fs : List Flit),
    CommitWork n s (forwardAll n step l s fs).1
  | [], s, _ => .refl s
  | k :: l, s, fs => by
    have hw : fld (splitOut s n k) 13 10 < 1024 := fld_lt ..
    have hcol := forwardCol_work n (splitOut s n k) step (List.range (fld (splitOut s n k) 13 10 + 1)) s fs
      fun j hj => by have := List.mem_range.1 hj; omega
    unfold forwardAll
    dsimp only
    split
    · exact hcol.trans (forwardAll_work step l _ _)
    · exact forwardAll_work step l s fs

theorem splitForward_work (s : State) (t : BitVec 32) : CommitWork n s (splitForward s n t) :=
  ((forwardAll_work n (t + 1) (List.range 16) s []).trans (.cbump _ _ (by decide) (by decide))).trans (coreSendAll_work ..)

/-! ### Signals -/

theorem objAddr_within (s : State) {o : Nat} (h : o < 32) :
    coreBase n ≤ objAddr s n o ∧ objAddr s n o + 16 ≤ coreBase n + 0x100000 := by
  have hb : crF s n R.qConfig 32 15 < 0x8000 := fld_lt ..
  unfold objAddr scratch
  omega

theorem setObj_work (s : State) {o : Nat} (w : W64) (h : o < 32) : CommitWork n s (setObj s n o w) := by
  obtain ⟨h1, h2⟩ := objAddr_within n s h
  exact .stU s _ h1 (by omega)

/-- A signal's stamps stand in the two words after the object's own (R260). -/
theorem stamp_work (s u : State) {o : Nat} (a b : Nat) (h : o < 32) :
    CommitWork n u (stU (stU u (objAddr s n o + 8) 4 a) (objAddr s n o + 12) 4 b) := by
  obtain ⟨h1, h2⟩ := objAddr_within n s h
  generalize objAddr s n o = x at *
  exact (EngineWork.stU u a (by omega) (by omega)).trans (.stU _ b (by omega) (by omega))

theorem endWait_work (s : State) {e : Nat} (code v : Nat) (he : e < 6) : CommitWork n s (endWait s n e code v) := by
  have hreg : R.waitState e < 0x8000 ∧ R.waitState e ∉ commitKept := by
    simp only [R.waitState, commitKept, R.coreStep, R.coreStatus, R.plasStep, R.plasStatus, List.mem_cons, List.not_mem_nil,
      or_false]
    omega
  unfold endWait
  extract_lets o a b c
  have ha : CommitWork n s a := .ite (.refl s) (setObj_work n s _ (fld_lt ..))
  have hb : CommitWork n a b := .cw a _ hreg.1 hreg.2
  have hc : CommitWork n b c := .upCore b fun _ => rfl
  exact ((ha.trans hb).trans hc).trans (.ite (.cw c _ (by decide) (by decide)) (.refl c))

theorem serveWaiters_work {o : Nat} (ho : o < 32) : ∀ (l : List Nat) (s : State), (∀ e ∈ l, e < 6) →
    CommitWork n s (serveWaiters n o l s)
  | [], s, _ => .refl s
  | e :: l, s, h => by
    have he := h e (List.mem_cons_self ..)
    have hl := fun x hx => h x (List.mem_cons_of_mem e hx)
    unfold serveWaiters
    extract_lets w c
    refine .ite (.ite (.ite ?_ ?_) (serveWaiters_work ho l s hl)) (serveWaiters_work ho l s hl)
    · exact ((endWait_work n s _ _ he).trans
        (.foldl _ _ fun t _ x hx => endWait_work n t _ _ (hl x (List.mem_of_mem_filter hx)))).trans (setObj_work n _ _ ho)
    · exact ((setObj_work n s _ ho).trans (endWait_work n _ _ _ he)).trans (serveWaiters_work ho l _ hl)

theorem freshValue_work (s : State) : CommitWork n s (freshValue s).2 := .of_eq rfl rfl rfl

theorem signalObj_work (s : State) {o : Nat} (c e : Nat) (ho : o < 32) : CommitWork n s (signalObj s n o c e).2 := by
  unfold signalObj
  extract_lets w v lim clamped v' t f u x y
  split
  · exact .refl s
  · have ht : CommitWork n s t := setObj_work n s _ ho
    have hf : CommitWork n t f.2 := freshValue_work n t
    have hu : CommitWork n f.2 u := stamp_work n t f.2 _ _ ho
    have hx : CommitWork n u x := .cbump u 1 (by decide) (by decide)
    have hy : CommitWork n x y := .ite (.cbump x 1 (by decide) (by decide)) (.refl x)
    exact ((((ht.trans hf).trans hu).trans hx).trans hy).trans
      (serveWaiters_work n ho _ y fun e he => List.mem_range.1 he)

theorem unitSignal_work (s : State) {o : Nat} (ho : o < 32) : CommitWork n s (unitSignal s n o) :=
  .ite (.upCore s fun _ => rfl) (signalObj_work n s 1 5 ho)

/-! ### Banks -/

theorem noteQ_work (s : State) {q : Nat} (inc : Nat) (b : Bool) (h : q < 64) : CommitWork n s (noteQ s n q inc b) := by
  have hb : crF s n R.qConfig 16 15 < 0x8000 := fld_lt ..
  exact .stU s _ (by unfold statAddr scratch; omega) (by unfold statAddr scratch; omega)

theorem releaseBank_work (s : State) {q : Nat} (b : Nat) (h : q < 64) : CommitWork n s (releaseBank s n q b) := by
  unfold releaseBank
  extract_lets t
  have ht : CommitWork n s t := .upCore s fun _ => rfl
  have hn := ht.trans ((EngineWork.cbump t 1 (by decide) (by decide)).trans
    (noteQ_work n (cbump t n R.combReleases 1) 1 false h))
  exact hn.trans (.ite (unitSignal_work n _ (fld_lt ..)) (.refl _))

theorem combCommit_work (s : State) (t : BitVec 32) : CommitWork n s (combCommit s n t) :=
  .ite (.refl s) (.foldl _ _ fun u _ _ hq => .ite (releaseBank_work n u _ (List.mem_range.1 hq)) (.refl u))

end

end Sys2Proof.Machine
end

section
/-! SUPPORT. What COMMIT makes the Plasticity Engine do: the commit held, or the step's plasticity run (R154, R157, R165). -/
namespace Sys2Proof.Machine

/-- The registers that the plasticity of a step keeps. -/
def plasKept : List Nat := [R.coreStep, R.coreStatus]

/-- `t` comes from `s` by work of core `n`'s Plasticity Engine. -/
abbrev PlasWork (n : Nat) (s t : State) : Prop := EngineWork n plasKept 0x100000 s t

/-- The same, where the descriptor of matrix `d` stays too. -/
abbrev EntryWork (n d : Nat) (s t : State) : Prop :=
  EngineWork n (plasKept ++ [R.matrixDescA d, R.matrixDescB d]) 0x100000 s t

/-- A register that no descriptor of the 16 matrices is, and no work of plasticity keeps. -/
theorem notMem_entryKept {r d : Nat} (hd : d < 16) (h : r ∉ plasKept) (h4 : 0x400 ≤ r) :
    r ∉ plasKept ++ [R.matrixDescA d, R.matrixDescB d] := by
  rw [List.mem_append]
  rintro (hk | hk)
  · exact h hk
  · simp only [R.matrixDescA, R.matrixDescB, List.mem_cons, List.not_mem_nil, or_false] at hk
    omega

theorem PlasEntry.desc_lt (e : PlasEntry) : e.desc < 16 := fld_lt ..

section
variable {n : Nat}

theorem EntryWork.plas {d : Nat} {s t : State} (h : EntryWork n d s t) : PlasWork n s t :=
  h.weaken (List.subset_append_left ..) le_rfl

theorem EntryWork.descA {d : Nat} {s t : State} (h : EntryWork n d s t) (hn : n < 1024) (hd : d < 16) :
    descA t n d = descA s n d := h.cr hn (by unfold R.matrixDescA; omega) (by simp)

theorem EntryWork.descB {d : Nat} {s t : State} (h : EntryWork n d s t) (hn : n < 1024) (hd : d < 16) :
    descB t n d = descB s n d := h.cr hn (by unfold R.matrixDescB; omega) (by simp)

section
variable {d : Nat} (hd : d < 16)
include hd

theorem cbump_entry_work (s : State) {r : Nat} (k : Nat) (h : r ∉ plasKept) (h4 : 0x400 ≤ r) (hr : r < 0x8000) :
    EntryWork n d s (cbump s n r k) := .cbump s k hr (notMem_entryKept hd h h4)

/-- The weights of a row lie in the core's synapse memory. -/
theorem plasRow_work (e : PlasEntry) (p : PlasPass) (hash : Nat → Nat) (off r : Nat) : ∀ (l : List Nat) (s : State),
    (∀ j ∈ l, off + j < 0x100000) → EntryWork n d s (plasRow n e p hash off r l s)
  | [], s, _ => .refl s
  | j :: l, s, h => by
    have hj := h j (List.mem_cons_self ..)
    have hl := fun k hk => h k (List.mem_cons_of_mem j hk)
    unfold plasRow
    dsimp only
    split
    · exact plasRow_work e p hash off r l s hl
    next c clamped _ =>
      have hstore : EntryWork n d s (stB s (coreBase n + (off + j)) (BitVec.ofNat 8 c)) := .stB s _ (by omega) (by omega)
      have hcount := hstore.trans (cbump_entry_work hd _ 1 (by decide) (by decide) (by decide : R.plasWrites < 0x8000))
      exact (hcount.trans (.ite (cbump_entry_work hd _ 1 (by decide) (by decide) (by decide)) (.refl _))).trans
        (plasRow_work e p hash off r l _ hl)

end

theorem plasTraces_work {d : Nat} (e : PlasEntry) (p : PlasPass) (s : State) : EntryWork n d s (plasTraces n e p s) := by
  have hput (base inc : Nat) (ds ms : List Nat) (s : State) : EntryWork n d s ((List.range ds.length).foldl (fun s i =>
      stB s (scratch n ((base + i) % 0x8000)) (BitVec.ofNat 8 (traceInc (ds.getD i 0) inc (ms.getD i 0)))) s) :=
    .foldl _ _ fun t _ i _ => .stB t _ (by unfold scratch; omega) (by unfold scratch; omega)
  have hpp := (hput e.preBase e.preInc p.xd p.mpre s).trans (hput e.postBase e.postInc p.yd p.mpost _)
  exact hpp.trans (.ite (hput ..) (.refl _))

/-- A good entry's rows and columns lie below 0x41000 in the core. -/
theorem plasGood_within {s : State} {e : PlasEntry} (h : plasGood s n e = true) {r j : Nat} (hr : r < dRows (descA s n e.desc))
    (hj : j < dCols (descA s n e.desc)) :
    dBase (descB s n e.desc) + r * dStride (descA s n e.desc) + j < 0x100000 := by
  have hc : dCols (descA s n e.desc) ≤ 4096 := by
    have hw : fld (descA s n e.desc) 36 8 < 256 := fld_lt ..
    unfold dCols
    omega
  have hm := Nat.mul_le_mul_right (dStride (descA s n e.desc)) hr.le
  simp only [plasGood, Bool.and_eq_true, decide_eq_true_eq] at h
  omega

theorem plasGood_congr {s t : State} {e : PlasEntry} (h : EntryWork n e.desc s t) (hn : n < 1024) :
    plasGood t n e = plasGood s n e := by
  simp only [plasGood, h.descA hn e.desc_lt, h.descB hn e.desc_lt]

theorem plasEntryRun_work {s : State} (t : BitVec 32) {e : PlasEntry} (v : Int) (hn : n < 1024) (hg : plasGood s n e = true) :
    EntryWork n e.desc s (plasEntryRun s n t e v) := by
  have hd := e.desc_lt
  unfold plasEntryRun
  extract_lets a p hash rows exceeds s1 s2 s3 s4 gone units
  have h1 : EntryWork n e.desc s s1 := .foldl _ _ fun u hu r hr => by
    have hr' : r < dRows (descA s n e.desc) := List.mem_range.1 (List.mem_of_mem_filter hr)
    refine plasRow_work hd e p hash _ r _ u fun j hj => ?_
    rw [EntryWork.descB hu hn hd]
    exact plasGood_within hg hr' (List.mem_range.1 hj)
  have h2 : EntryWork n e.desc s1 s2 := plasTraces_work e p s1
  have h3 : EntryWork n e.desc s2 s3 := (cbump_entry_work hd s2 _ (by decide) (by decide) (by decide)).trans
    (cbump_entry_work hd _ _ (by decide) (by decide) (by decide))
  have h4 : EntryWork n e.desc s3 s4 := .upCore s3 fun _ => rfl
  exact (((h1.trans h2).trans h3).trans h4).trans (.upCore s4 fun _ => rfl)

theorem lateInput_work {d : Nat} (s : State) (j : Nat) : EntryWork n d s (lateInput s j) := .of_eq rfl rfl rfl

/-- The modulator of an entry: where it is missing, a late input of the job. -/
theorem modFor_work (s : State) (t : BitVec 32) (e : PlasEntry) : EntryWork n e.desc s (modFor s n t e).2 := by
  unfold modFor
  split
  · exact .refl s
  · split
    · exact .refl s
    · extract_lets a b
      have ha : EntryWork n e.desc s a := cbump_entry_work e.desc_lt s 1 (by decide) (by decide) (by decide)
      have hb : EntryWork n e.desc a b := .ite (lateInput_work a _) (.refl a)
      dsimp only
      exact (ha.trans hb).trans (.upCore b fun _ => rfl)

theorem plasEntries_work (hn : n < 1024) (t : BitVec 32) : ∀ (l : List Nat) (s : State), PlasWork n s (plasEntries n t l s)
  | [], s => .upCore s fun _ => rfl
  | k :: l, s => by
    unfold plasEntries
    extract_lets e s1 s2 m
    have h1 : PlasWork n s s1 := .upCore s fun _ => rfl
    have h2 : PlasWork n s1 s2 := .cwF s1 _ _ _ (by decide) (by decide)
    split
    · exact h1.trans (plasEntries_work hn t l s1)
    · split
      · have hbad : PlasWork n s2 (addPlasCycles (cbump s2 n R.plasBadEntry 1) n 1) :=
          (EngineWork.cbump s2 1 (by decide) (by decide)).trans (.upCore _ fun _ => rfl)
        exact ((h1.trans h2).trans hbad).trans (plasEntries_work hn t l _)
      next hgood =>
        have hm : EntryWork n e.desc s2 m.2 := by
          have hite (c : Prop) [Decidable c] : EntryWork n e.desc s2 (if c then modFor s2 n t e else (some 1, s2)).2 := by
            split
            · exact modFor_work s2 t e
            · exact .refl s2
          exact hite _
        dsimp only
        split
        · exact ((h1.trans h2).trans hm.plas).trans ((EngineWork.cwB _ _ _ (by decide) (by decide)).trans (.upCore _ fun _ => rfl))
        · have hg : plasGood m.2 n e = true := by rw [plasGood_congr hm hn]; exact not_not.1 hgood
          exact (((h1.trans h2).trans hm.plas).trans (plasEntryRun_work t _ hn hg).plas).trans
            ((EngineWork.cwF _ _ _ _ (by decide) (by decide)).trans (plasEntries_work hn t l _))

/-- The core's commits held are `l`. -/
def commitsNoted (s : State) (n : Nat) (l : List (BitVec 32)) : State := upCore s n fun c => { c with commitsHeld := l }

theorem commitsNoted_upCore (s : State) {l : List (BitVec 32)} {f : Core → Core}
    (hf : ∀ c, barrierPart (f c) = barrierPart { c with commitsHeld := l }) : PlasWork n (commitsNoted s n l) (upCore s n f) :=
  ⟨fun _ _ _ _ _ => rfl, fun _ _ => rfl, by rw [core_upCore_self, hf, commitsNoted, core_upCore_self]⟩

theorem commitsNoted_cw (s : State) {r : Nat} (v : W64) (l : List (BitVec 32)) (hr : r < 0x8000) (hk : r ∉ plasKept) :
    PlasWork n (commitsNoted s n l) (commitsNoted (cw s n r v) n l) := .cw (commitsNoted s n l) v hr hk

theorem plasOpens_work (s : State) (t : BitVec 32) (rows : List Nat) (cost : Nat) :
    PlasWork n (commitsNoted s n ((core s n).commitsHeld.erase t)) (plasOpens s n t rows cost) := by
  unfold plasOpens
  extract_lets left
  exact (commitsNoted_cw s _ left (by decide) (by decide : R.plasStatus ∉ plasKept)).trans
    (commitsNoted_upCore (cw s n R.plasStatus _) fun _ => rfl)

theorem plasComplete_work (s : State) (refused : Nat) : PlasWork n s (plasComplete s n refused) := by
  unfold plasComplete
  extract_lets t a b c d e
  have ha : PlasWork n s a := (EngineWork.cbump s _ (by decide) (by decide)).trans (.cwF _ _ _ _ (by decide) (by decide))
  have hb : PlasWork n a b := .cw a _ (by decide) (by decide)
  have hc : PlasWork n b c := .cwB b _ _ (by decide) (by decide)
  have hd : PlasWork n c d := .cw c _ (by decide) (by decide)
  have he : PlasWork n d e := .upCore d fun _ => rfl
  have hend : PlasWork n s e := (((ha.trans hb).trans hc).trans hd).trans he
  split
  · exact hend.trans (.ite (.cwB e _ _ (by decide) (by decide)) (.refl e))
  · exact hend

/-- Plasticity that starts takes its commit from those held. -/
theorem plasStart_work (hn : n < 1024) (s : State) (t : BitVec 32) :
    PlasWork n (commitsNoted s n ((core s n).commitsHeld.erase t)) (plasStart s n t) :=
  .ite ((plasOpens_work s t _ 8).trans (plasEntries_work hn t _ _)) ((plasOpens_work s t [] 0).trans (plasComplete_work _ 0))

/-- A commit that the engine takes leaves work of its own, and the commits held. -/
theorem plasCommit_work (hn : n < 1024) (s : State) (t : BitVec 32) :
    ∃ l, PlasWork n (commitsNoted s n l) (plasCommit s n t) := by
  unfold plasCommit
  split
  · exact ⟨_, plasStart_work hn s t⟩
  · exact ⟨_, .cwB _ _ _ (by decide) (by decide)⟩

/-- A commit whose predecessor is not complete is held. -/
theorem plasCommit_held {s : State} {t : BitVec 32} (h : plasStep s n ≠ t - 1) :
    (core (plasCommit s n t) n).commitsHeld = (core s n).commitsHeld ++ [t]
      ∧ crB (plasCommit s n t) n R.plasStatus 1 = true := by
  unfold plasCommit
  rw [if_neg fun hp => h hp.1]
  refine ⟨?_, ?_⟩
  · rw [core_of_cores (cwB_cores ..), core_upCore_self]
  · rw [crB, cwB, cr_cw_self, putBit, if_pos rfl, bitAt_setBit, decide_eq_true (by decide), Bool.or_true]

end

end Sys2Proof.Machine
end

section
/-! SUPPORT. The rows of COMMIT at a core (R43, R76). -/
namespace Sys2Proof.Machine

/-- COMMIT(t), the flit `f`, taken from those that wait at core `n`, and recorded. -/
def commitNoted (s : State) (n : Nat) (f : Flit) (t : BitVec 32) : State :=
  cwB (cwF (takeLocal s n f) n R.coreStep 32 32 t.toNat) n R.coreStatus 7 true

/-- The loaded step is no longer speculative once its predecessor is final (R172). -/
def speculationEnded (s : State) (n : Nat) (t : BitVec 32) : State :=
  cwB s n R.ovbStatus 0 (crB s n R.ovbStatus 0 && (core s n).loadedStep ≠ t + 1)

theorem coreCommit_obeyed {s : State} {n j : Nat} {t : BitVec 32} (ho : obeys s n j = true)
    (hb : barrierHere s n j 1 t = true) : coreCommit s n j t .none =
      plasCommit (combCommit (splitForward (speculationEnded (commitNoted s n (bcastOf s j 1 t) t) n t) n t) n t) n t := by
  have ho' : ¬ ¬ obeys (takeLocal s n (bcastOf s j 1 t)) n j = true := not_not.2 ho
  unfold coreCommit
  rw [if_neg (not_not.2 hb)]
  dsimp only
  rw [if_neg ho']
  rfl

section
variable (s : State) (n : Nat) (f : Flit) (t : BitVec 32)

theorem commitNoted_mem : (commitNoted s n f t).mem = s.mem := (cwB_mem ..).trans (cwF_mem ..)

theorem core_commitNoted : core (commitNoted s n f t) n = { core s n with rx := (core s n).rx.erase f } :=
  (core_of_cores ((cwB_cores ..).trans (cwF_cores ..)) n).trans (core_takeLocal_self s n f)

theorem commitNoted_others : coreRegsKept s (commitNoted s n f t) n [R.coreStep, R.coreStatus] :=
  coreRegsKept_trans (coreRegsKept_cw (takeLocal s n f) n _ (by decide) (by simp))
    (coreRegsKept_cw (cwF (takeLocal s n f) n R.coreStep 32 32 t.toNat) n _ (by decide) (by simp))

theorem commitNoted_coreStep :
    cr (commitNoted s n f t) n R.coreStep = putFld (cr s n R.coreStep) 32 32 t.toNat := by
  rw [commitNoted, cwB, cr_cw_ne _ _ (by decide) (by decide) (.inr (by decide)), cwF, cr_cw_self]
  rfl

theorem commitNoted_bit : crB (commitNoted s n f t) n R.coreStatus 7 = true := by
  rw [crB, commitNoted, cwB, cr_cw_self, putBit, if_pos rfl, bitAt_setBit, decide_eq_true (by decide), Bool.or_true]

end

section
variable {s : State} (hl : live s = true) (n : CoreId) (j : BreathId) (t : BitVec 32)
include hl

theorem exec_coreCommit (lost : Lost) :
    exec (.coreCommit n j t lost) s = .next (after s (coreCommit s n.val j.val t lost)) :=
  (rfl : exec _ s = execCoreCommit n j t lost s).trans (act_after _ hl)

variable (hb : barrierHere s n.val j.val 1 t = true)
include hb

theorem coreCommit_unheeded (lost : Lost) (ho : obeys s n.val j.val = false) :
    exec (.coreCommit n j t lost) s = .next (after s (takeLocal s n.val (bcastOf s j.val 1 t))) := by
  have ho' : ¬ obeys (takeLocal s n.val (bcastOf s j.val 1 t)) n.val j.val = true := by
    rw [show obeys (takeLocal s n.val (bcastOf s j.val 1 t)) n.val j.val = _ from ho]
    decide
  rw [exec_coreCommit hl]
  unfold coreCommit
  rw [if_neg (not_not.2 hb)]
  dsimp only
  rw [if_pos ho']

/-- COMMIT(t) is recorded, and its plasticity runs or is held. -/
theorem coreCommit_row (ho : obeys s n.val j.val = true) :
    ∃ v, exec (.coreCommit n j t .none) s = .next v ∧ crF v n.val R.coreStep 32 32 = t.toNat
      ∧ crF v n.val R.coreStep 0 32 = crF s n.val R.coreStep 0 32 ∧ crB v n.val R.coreStatus 7 = true
      ∧ (plasStep s n.val ≠ t - 1 → (core v n.val).commitsHeld = (core s n.val).commitsHeld ++ [t]
          ∧ crB v n.val R.plasStatus 1 = true)
      ∧ (∀ m r, m < 1024 → r < 0x8000 → m ≠ n.val → cr v m r = cr s m r)
      ∧ (∀ a, (a < coreBase n.val ∨ coreBase n.val + 0x100000 ≤ a) → ldB v a = ldB s a)
      ∧ (core v n.val).rx = (core s n.val).rx.erase (bcastOf s j.val 1 t) := by
  have hn := n.isLt
  refine ⟨_, exec_coreCommit hl n j t .none, ?_⟩
  rw [coreCommit_obeyed ho hb]
  have hothers := commitNoted_others s n.val (bcastOf s j.val 1 t) t
  have hstep := commitNoted_coreStep s n.val (bcastOf s j.val 1 t) t
  have hbit := commitNoted_bit s n.val (bcastOf s j.val 1 t) t
  have hmem := commitNoted_mem s n.val (bcastOf s j.val 1 t) t
  have hcore := core_commitNoted s n.val (bcastOf s j.val 1 t) t
  generalize commitNoted s n.val (bcastOf s j.val 1 t) t = x at *
  have hspec : CommitWork n.val x (speculationEnded x n.val t) := .cwB x _ _ (by decide) (by decide)
  have hwork := (hspec.trans (splitForward_work n.val _ t)).trans (combCommit_work n.val _ t)
  generalize combCommit (splitForward (speculationEnded x n.val t) n.val t) n.val t = y at hwork
  have hkept : crB y n.val R.coreStatus 7 = true := by
    rw [crB, hwork.cr hn (by decide) (by simp [commitKept])]
    exact hbit
  have hplas : plasStep y n.val = plasStep s n.val := by
    rw [plasStep, crF, hwork.cr hn (by decide) (by simp [commitKept]), hothers n.val _ hn (by decide) (.inr (by decide))]
    rfl
  obtain ⟨l, hp⟩ := plasCommit_work hn y t
  have hv (r : Nat) (hr : r < 0x8000) (hk : r ∈ plasKept) (hk' : r ∈ commitKept) :
      cr (after s (plasCommit y n.val t)) n.val r = cr x n.val r := by
    rw [cr_after, hp.cr hn hr hk]
    exact hwork.cr hn hr hk'
  refine ⟨?_, ?_, ?_, fun hne => ?_, fun m r hm hr hne => ?_, fun a ha => ?_, ?_⟩
  · rw [crF, hv _ (by decide) (by simp [plasKept]) (by simp [commitKept]), hstep, fld_putFld_self _ _ (by decide)]
    exact Nat.mod_eq_of_lt t.isLt
  · rw [crF, hv _ (by decide) (by simp [plasKept]) (by simp [commitKept]), hstep, fld_putFld_apart _ _ (.inl (by decide))]
    rfl
  · rw [crB, hv _ (by decide) (by simp [plasKept]) (by simp [commitKept])]
    exact hbit
  · obtain ⟨hheld, hb⟩ := plasCommit_held (s := y) (t := t) (by rwa [hplas])
    rw [core_after, crB, cr_after, hheld, hwork.commitsHeld, hcore]
    exact ⟨rfl, hb⟩
  · rw [cr_after, hp.others hm hr hne]
    exact (hwork.others hm hr hne).trans (hothers m r hm hr (.inl hne))
  · rw [ldB_after, hp.mem a ha]
    exact (hwork.mem a ha).trans (ldB_of_mem hmem a)
  · have hrx : (core (commitsNoted y n.val l) n.val).rx = (core y n.val).rx :=
      (congrArg Core.rx (core_upCore_self y n.val _) :)
    rw [core_after, hp.rx, hrx, hwork.rx, hcore]

end

/-- Settles O33: the rows of START by what may begin and what is held, of COMMIT and of HOLD, at a core that obeys them and at
one that does not, and the row of a held START. -/
theorem barrierFlitsAtACore : Obligations.BarrierFlitsAtACore := by
  unfold Obligations.BarrierFlitsAtACore
  intro n s hl
  refine ⟨fun j t ho => ⟨fun hb hh hm => coreStart_begins hl n j t ho hb hh hm,
    fun ue hb hh hm => coreStart_held hl n j t ho hb hh ue hm, fun ue hh => coreStart_waits hl n j t ho ue hh,
    fun u hb hh hm hv hg => ?_, fun hb => coreCommit_row hl n j t hb ho, fun hb => coreHold_obeyed hl n t j hb ho⟩,
    fun j t ue lost ho => ⟨fun hb => coreStart_unheeded hl n j t ho ue hb, fun hb => coreCommit_unheeded hl n j t hb lost ho,
      fun hb => coreHold_unheeded hl n t j hb ho⟩,
    fun t hh hs hm => heldUpdateStart_begins hl n t hh hs hm⟩
  obtain ⟨v, he, hf⟩ := coreStart_lost hl n j t ho hb hh u hm hv hg
  exact ⟨v, he, hf.fault, hf.job, hf.doneDue, hf.alarm, hf.others, hf.mem⟩

end Sys2Proof.Machine
end

section
/-! SUPPORT. The counters that COUNTERS_CLEAR clears, by scope (Table 14-4), and its row. -/
namespace Sys2Proof.Machine

/-! ### Counters of the cores (R102, R138, R168) -/

/-- The counters of cores `a` to `b` cleared: those of the Neuron Engine and plasticity, or the rest. -/
def coreCleared (s : State) (neuron : Bool) (a b : Nat) : State :=
  { s with coreRegs := Sparse.clear s.coreRegs fun k =>
      a ≤ k / 0x8000 && k / 0x8000 ≤ b && coreCounter neuron (k % 0x8000) }

/-- The occupancies of the deferral areas of `k` cores from `a` on start again from the present ones (Table 6-3). -/
def occRestarted (s : State) (a k : Nat) : State :=
  (List.range k).foldl (fun s i => cw s (a + i) R.deferOcc (occNow (cr s (a + i) R.deferOcc))) s

section
variable (s : State) (a b k n : Nat)

theorem cr_coreCleared (neuron : Bool) {r : Nat} (hr : r < 0x8000) : cr (coreCleared s neuron a b) n r =
    if a ≤ n ∧ n ≤ b ∧ coreCounter neuron r then coreReset (coreKey n r) else cr s n r := by
  have hn : coreKey n r / 0x8000 = n := by unfold coreKey; omega
  have hm : coreKey n r % 0x8000 = r := by unfold coreKey; omega
  rw [cr, coreCleared, Sparse.get_clear]
  simp only [hn, hm, Bool.and_eq_true, decide_eq_true_eq, and_assoc]
  rfl

theorem occRestarted_succ : occRestarted s a (k + 1) = cw (occRestarted s a k) (a + k) R.deferOcc
    (occNow (cr (occRestarted s a k) (a + k) R.deferOcc)) := by
  unfold occRestarted
  rw [List.range_succ, List.foldl_append]
  rfl

theorem occRestarted_frame : ∃ g, occRestarted s a k = { s with coreRegs := g } := by
  induction k with
  | zero => exact ⟨_, rfl⟩
  | succ k ih =>
    obtain ⟨g, hg⟩ := ih
    rw [occRestarted_succ, hg]
    exact ⟨_, rfl⟩

theorem cr_occRestarted {r : Nat} (hr : r < 0x8000) : cr (occRestarted s a k) n r =
    if a ≤ n ∧ n < a + k ∧ r = R.deferOcc then occNow (cr s n r) else cr s n r := by
  induction k with
  | zero => rw [if_neg (by omega)]; rfl
  | succ k ih =>
    rw [occRestarted_succ]
    by_cases h : n = a + k ∧ r = R.deferOcc
    · obtain ⟨rfl, rfl⟩ := h
      rw [if_neg (by omega)] at ih
      rw [cr_cw_self, ih, if_pos (by omega)]
    · rw [cr_cw_ne _ _ (by decide) hr (by omega), ih]
      exact if_congr (by omega) rfl rfl

end

/-! ### The counters of a scope -/

section
variable (s : State) {scope : Nat} (a b : Nat)

theorem clearCounters_cores (h : scope = 0 ∨ scope = 6) : clearCounters s scope a b =
    if scope = 6 then occRestarted (coreCleared s true a b) a (b + 1 - a) else coreCleared s false a b := by
  obtain rfl | rfl := h <;> rfl

theorem clearCounters_hub (h : ¬ (scope = 0 ∨ scope = 6)) : ∃ g, clearCounters s scope a b = { s with regs := g } := by
  unfold clearCounters
  rw [if_neg h]
  exact ⟨_, rfl⟩

theorem clearCounters_cores_frame (h : scope = 0 ∨ scope = 6) :
    ∃ g, clearCounters s scope a b = { s with coreRegs := g } := by
  rw [clearCounters_cores s a b h]
  split
  · obtain ⟨g, hg⟩ := occRestarted_frame (coreCleared s true a b) a (b + 1 - a)
    rw [hg]
    exact ⟨_, rfl⟩
  · exact ⟨_, rfl⟩

theorem clearCounters_frame : ∃ g h, clearCounters s scope a b = { s with regs := g, coreRegs := h } := by
  by_cases h : scope = 0 ∨ scope = 6
  · obtain ⟨g, hg⟩ := clearCounters_cores_frame s a b h
    exact ⟨_, g, hg⟩
  · obtain ⟨g, hg⟩ := clearCounters_hub s a b h
    exact ⟨g, _, hg⟩

theorem clearCounters_mem : (clearCounters s scope a b).mem = s.mem := by
  obtain ⟨_, _, h⟩ := clearCounters_frame s (scope := scope) a b
  rw [h]

theorem clearCounters_mbox : (clearCounters s scope a b).mbox = s.mbox := by
  obtain ⟨_, _, h⟩ := clearCounters_frame s (scope := scope) a b
  rw [h]

theorem rd_clearCounters_cores (h : scope = 0 ∨ scope = 6) (o : Nat) : rd (clearCounters s scope a b) o = rd s o := by
  obtain ⟨g, hg⟩ := clearCounters_cores_frame s a b h
  rw [hg]
  rfl

/-- The core registers of a scope: counters at their reset values, and for scope 6 the occupancy started again. -/
theorem cr_clearCounters {n r : Nat} (hr : r < 0x8000) : cr (clearCounters s scope a b) n r =
    if (scope = 0 ∨ scope = 6) ∧ a ≤ n ∧ n ≤ b ∧ coreCounter (scope = 6) r then coreReset (coreKey n r)
    else if scope = 6 ∧ a ≤ n ∧ n ≤ b ∧ r = R.deferOcc then occNow (cr s n r) else cr s n r := by
  by_cases h : scope = 0 ∨ scope = 6
  · rw [clearCounters_cores s a b h]
    obtain rfl | rfl := h
    · rw [if_neg (by decide), cr_coreCleared _ _ _ _ _ hr]
      simp
    · rw [if_pos rfl, cr_occRestarted _ _ _ _ hr, cr_coreCleared _ _ _ _ _ hr]
      by_cases hocc : r = R.deferOcc
      · subst hocc
        have hno : coreCounter true R.deferOcc = false := by decide
        simp only [decide_true, hno, Bool.false_eq_true, and_false, if_false, true_and, and_true]
        exact if_congr (by omega) rfl rfl
      · simp [hocc]
  · obtain ⟨g, hg⟩ := clearCounters_hub s a b h
    rw [hg, if_neg fun k => h k.1, if_neg fun k => h (.inr k.1)]
    rfl

/-- The hub registers of the scopes memory, peer, converter and ownership. -/
theorem rd_clearCounters_hub (h2 : 2 ≤ scope) (h5 : scope ≤ 5) (o : Nat) :
    rd (clearCounters s scope a b) o = if hubCounter scope o then hubReset o else rd s o := by
  unfold clearCounters
  rw [if_neg (by omega), rd, Sparse.get_clear, if_neg (show scope ≠ 1 by omega)]
  rfl

theorem rd_clearCounters_mesh (o : Nat) : rd (clearCounters s 1 a b) o =
    if 0x100000 + 0x200 * a ≤ o ∧ o < 0x100000 + 0x200 * (b + 1) ∧ routerCounter ((o - 0x100000) % 0x200)
    then hubReset o else rd s o := by
  unfold clearCounters
  rw [if_neg (by decide), rd, Sparse.get_clear]
  simp only [if_true, Bool.and_eq_true, decide_eq_true_eq, and_assoc]
  rfl

theorem rd_clearCounters_router {n r : Nat} (hr : r < 0x200) :
    rd (clearCounters s 1 a b) (0x100000 + 0x200 * n + r) =
      if a ≤ n ∧ n ≤ b ∧ routerCounter r then hubReset (0x100000 + 0x200 * n + r)
      else rd s (0x100000 + 0x200 * n + r) := by
  rw [rd_clearCounters_mesh, show (0x100000 + 0x200 * n + r - 0x100000) % 0x200 = r by omega]
  exact if_congr (and_congr (by omega) (and_congr (by omega) .rfl)) rfl rfl

/-- No register of a mailbox is a counter. -/
theorem hubCounter_mailbox {o : Nat} (h : inMailbox o) : hubCounter scope o = false := by
  unfold inMailbox at h
  have ho : o ≠ R.peerNoRoute ∧ o ≠ R.peerBadType ∧ o ≠ R.ownViolation ∧ o ≠ R.ownDeviceFaults ∧ o ≠ R.ownHandoffPartial := by
    unfold R.peerNoRoute R.peerBadType R.ownViolation R.ownDeviceFaults R.ownHandoffPartial
    omega
  obtain ⟨h1, h2, h3, h4, h5⟩ := ho
  unfold hubCounter
  split_ifs <;> simp [h1, h2, h3, h4, h5] <;> omega

theorem rd_clearCounters_mailbox (h : scope ≤ 6) {o : Nat} (ho : inMailbox o) :
    rd (clearCounters s scope a b) o = rd s o := by
  by_cases hc : scope = 0 ∨ scope = 6
  · exact rd_clearCounters_cores s a b hc o
  · by_cases h1 : scope = 1
    · subst h1
      unfold inMailbox at ho
      rw [rd_clearCounters_mesh, if_neg (by omega)]
    · rw [rd_clearCounters_hub s a b (by omega) (by omega), hubCounter_mailbox ho, if_neg Bool.false_ne_true]

end

/-! ### The row -/

theorem inMailbox_completion (m : Fin 8) : inMailbox (R.mbCplPi m.val) ∧ inMailbox (R.mbCplCi m.val) := by
  have := m.isLt
  unfold inMailbox R.mbCplPi R.mbCplCi
  omega

/-- The completion of COUNTERS_CLEAR goes where it would have gone before. -/
theorem boxByte_clearCounters (s : State) (src : Src) {scope : Nat} (h : scope ≤ 6) (a b : Nat) (j : Bool) (x : Nat) :
    boxByte (clearCounters (takeFront s src) scope a b) src j x ↔ boxByte s src j x := by
  have hrd (m : Fin 8) := inMailbox_completion m
  refine boxByte_of ?_ (fun m => ?_) fun m => ?_
  · rw [clearCounters_mbox, takeFront_journalSeq]
  · rw [← cplPi_takeFront s src m, cplPi, rdF, rd_clearCounters_mailbox _ _ _ h (hrd m).1]
    rfl
  · rw [← cplCi_takeFront s src m, cplCi, rdF, rd_clearCounters_mailbox _ _ _ h (hrd m).2]
    rfl

/-- A register of a router is no register of a completion. -/
theorem router_notMem_boxRegs (src : Src) (o : Nat) :
    0x100000 + o ∉ boxRegs src ∧ 0x100000 + o ≠ R.msixPba :=
  ⟨notMem_boxRegs src (by unfold inMailbox; omega), by unfold R.msixPba; omega⟩

theorem countersClearBody_ends {c : Cmd} (s : State) (h6 : c.f 1 0 4 ≤ 6) (hab : c.f 1 4 10 ≤ c.f 1 14 10) :
    countersClearBody c s = .ends (clearCounters s (c.f 1 0 4) (c.f 1 4 10) (c.f 1 14 10)) 0 0 [] (c.digestChange 10 0) :=
  if_neg (by omega)

/-- Settles O15: the completion's own registers and bytes aside, what a scope's clearing leaves is read off the sparse
tables. What each scope reaches is the model's choice (log entries 125 and 136). -/
theorem countersClearedByScope : Obligations.CountersClearedByScope := by
  unfold Obligations.CountersClearedByScope
  intro src s c hl hs h6 hab
  have hact := act_ends (locks := fun _ => []) hl hs (countersClearBody_ends (takeFront s src) h6 hab)
  have hrd {o : Nat} (ho : o ∉ boxRegs src) : rd (takeFront s src) o = rd s o := rd_takeFront_ne s src o ho
  refine ⟨_, (rfl : exec _ s = execCountersClear src s).trans hact, ended_completed ?_, fun n r hr => ?_, fun o ho hp h => ?_,
    fun o ho hp h2 h5 => ?_, fun n r hn hr h1 => ?_, fun a ha => ?_⟩
  · rw [clearCounters_mbox, takeFront_journalSeq]
  · rw [cr_ended, cr_clearCounters _ _ _ hr, cr_takeFront]
  · rw [rd_ended ho hp, rd_clearCounters_cores _ _ _ h, hrd ho]
  · rw [rd_ended ho hp, rd_clearCounters_hub _ _ _ h2 h5, hrd ho]
  · obtain ⟨ho, hp⟩ := router_notMem_boxRegs src (0x200 * n + r)
    rw [← Nat.add_assoc] at ho hp
    rw [rd_ended ho hp, h1, rd_clearCounters_router _ _ _ hr, hrd ho]
  · rw [ldB_ended fun h => ha ((boxByte_clearCounters s src h6 _ _ _ a).1 h), ldB_of_mem (clearCounters_mem ..), ldB_takeFront]

end Sys2Proof.Machine
end

section
/-! SUPPORT. Numbers in memory, and the ring slots of a core (R88): where they lie, and what a read of one gives after a write. -/
namespace Sys2Proof.Machine

/-! ### Numbers in memory -/

theorem ldU_of_bytes {s t : State} {a k : Nat} (h : ∀ x, a ≤ x → x < a + k → ldB t x = ldB s x) : ldU t a k = ldU s a k := by
  unfold ldU ldN
  refine congrArg leNat (List.map_congr_left fun i hi => h _ (Nat.le_add_right ..) ?_)
  have := List.mem_range.1 hi
  omega

theorem ldU_stU_self (s : State) (a k v : Nat) : ldU (stU s a k v) a k = v % 256 ^ k := by
  have h := ldN_stN s a (leBytes k v)
  rw [leBytes_length] at h
  rw [ldU, stU, h, leNat_leBytes]

/-! ### Slots -/

section
variable {s t : State} {n : Nat}

section
variable (h : cr t n R.coreConfig = cr s n R.coreConfig)
include h

theorem ringLen_congr : ringLen t n = ringLen s n := by rw [ringLen, crF, h]; rfl
theorem neurons_congr : neurons t n = neurons s n := by rw [neurons, ringLen_congr h, neurons]

theorem slotAddr_congr (i : Nat) (e : BitVec 32) : slotAddr t n i e = slotAddr s n i e := by
  rw [slotAddr, neurons_congr h, ringLen_congr h, slotAddr]

theorem slot_of_bytes (i : Nat) (e : BitVec 32)
    (hb : ∀ x, slotAddr s n i e ≤ x → x < slotAddr s n i e + 4 → ldB t x = ldB s x) : slot t n i e = slot s n i e := by
  rw [slot, slotAddr_congr h, ldU_of_bytes hb, slot]

end

/-- The slots of a core's neurons lie in its ring buffers. -/
theorem slotAddr_ring {i : Nat} (e : BitVec 32) (hi : i < neurons s n) :
    coreBase n + 0x40000 ≤ slotAddr s n i e ∧ slotAddr s n i e + 4 ≤ coreBase n + 0x60000 := by
  unfold slotAddr slotOffset
  unfold neurons at hi ⊢
  obtain h | h | h | h := ringLen_cases s n <;> rw [h] at hi ⊢ <;> omega

/-- Two neurons share no byte of their slots. -/
theorem slotAddr_apart {i j : Nat} (e : BitVec 32) (hi : i < neurons s n) (hj : j < neurons s n) (hne : i ≠ j) :
    apart (slotAddr s n i e) 4 (slotAddr s n j e) 4 := by
  have hp : e.toNat % ringLen s n * (neurons s n / 128) + i / 128 < 256
      ∧ e.toNat % ringLen s n * (neurons s n / 128) + j / 128 < 256 := by
    unfold neurons at hi hj ⊢
    obtain h | h | h | h := ringLen_cases s n <;> rw [h] at hi hj ⊢ <;> omega
  have hodd : i % 2 < 2 ∧ j % 2 < 2 := by omega
  have hpart : i / 2 % 64 ≠ j / 2 % 64 ∨ i / 128 ≠ j / 128 ∨ i % 2 ≠ j % 2 := by omega
  unfold apart slotAddr slotOffset
  generalize e.toNat % ringLen s n * (neurons s n / 128) = p at hp ⊢
  generalize i / 2 % 64 = a, i / 128 = b, i % 2 = c, j / 2 % 64 = a', j / 128 = b', j % 2 = c' at hp hodd hpart ⊢
  omega

end

section
variable (s : State) (n i : Nat) (e v : BitVec 32)

theorem slot_setSlot_self : slot (setSlot s n i e v) n i e = v := by
  have hc : cr (setSlot s n i e v) n R.coreConfig = cr s n R.coreConfig := cr_of_coreRegs (stU_coreRegs ..) ..
  rw [slot, slotAddr_congr hc, setSlot, ldU_stU_self]
  apply BitVec.eq_of_toNat_eq
  have := v.isLt
  rw [BitVec.toNat_ofNat]
  omega

theorem ldB_setSlot_out {y : Nat} (h : y < slotAddr s n i e ∨ slotAddr s n i e + 4 ≤ y) :
    ldB (setSlot s n i e v) y = ldB s y := ldB_stU_out _ _ _ _ _ h

end

end Sys2Proof.Machine
end

section
/-! SUPPORT. Adds into ring slots (R84, R174): what any add changes, and what one does that comes in time. -/
namespace Sys2Proof.Machine

/-! ### Any add -/

/-- `t` comes from `s` by adds into slots of core `n`: late ones are counted, and memory changes in the ring buffers alone. -/
structure SlotWork (n : Nat) (s t : State) : Prop where
  regs : coreRegsKept s t n [R.ovbLateDropped, R.ovbLateEvents]
  mem : ∀ a, (a < coreBase n + 0x40000 ∨ coreBase n + 0x60000 ≤ a) → ldB t a = ldB s a
  deferred : (core t n).deferred = (core s n).deferred

namespace SlotWork
variable {n : Nat}

theorem refl (s : State) : SlotWork n s s := ⟨fun _ _ _ _ _ => rfl, fun _ _ => rfl, rfl⟩

theorem trans {s t u : State} (h : SlotWork n s t) (k : SlotWork n t u) : SlotWork n s u :=
  ⟨coreRegsKept_trans h.regs k.regs, fun a ha => (k.mem a ha).trans (h.mem a ha), k.deferred.trans h.deferred⟩

theorem ite {s t u : State} {c : Prop} [Decidable c] (h : SlotWork n s t) (k : SlotWork n s u) :
    SlotWork n s (if c then t else u) := by
  split
  · exact h
  · exact k

theorem upCore (s : State) {f : Core → Core} (hf : ∀ c, (f c).deferred = c.deferred) : SlotWork n s (upCore s n f) :=
  ⟨coreRegsKept_upCore s n f _, fun _ _ => rfl, by rw [core_upCore_self, hf]⟩

theorem cbump (s : State) {r : Nat} (k : Nat) (hr : r ∈ [R.ovbLateDropped, R.ovbLateEvents]) :
    SlotWork n s (cbump s n r k) := by
  have hlt : r < 0x8000 := by
    simp only [List.mem_cons, List.not_mem_nil, or_false] at hr
    obtain rfl | rfl := hr <;> decide
  exact ⟨coreRegsKept_cbump s n k hlt hr, fun _ _ => ldB_of_mem (cbump_mem ..) _, congrArg _ (core_of_cores (cbump_cores ..) n)⟩

theorem setSlot (s : State) {i : Nat} (e v : BitVec 32) (hi : i < neurons s n) : SlotWork n s (setSlot s n i e v) := by
  have hring := slotAddr_ring e hi
  refine ⟨coreRegsKept_of_eq (stU_coreRegs ..) n _, fun a ha => ldB_setSlot_out _ _ _ _ _ ?_,
    congrArg _ (core_of_cores (stU_cores ..) n)⟩
  omega

end SlotWork

theorem slotAdd_work (s : State) {n i : Nat} (e : BitVec 32) (v : Int) (hi : i < neurons s n) :
    SlotWork n s (slotAdd s n i e v) :=
  .ite (.cbump s 1 (by simp)) ((SlotWork.setSlot s e _ hi).trans (.ite (.upCore _ fun _ => rfl) (.refl _)))

theorem addRow_work (n m r : Nat) (x : Int) (e : BitVec 32) :
    ∀ (js : List Nat) (s : State) (l : Bool), SlotWork n s (addRow n m r x e js s l).1
  | [], s, _ => .refl s
  | j :: js, s, l => by
    unfold addRow
    dsimp only
    split
    · exact addRow_work n m r x e js s l
    · exact (slotAdd_work s e _ (by omega)).trans (addRow_work n m r x e js _ _)

/-! ### An add that comes in time -/

theorem slotAdd_timely {s : State} {n : Nat} {e : BitVec 32} (h : (core s n).loadedStep ≠ e) (i : Nat) (v : Int) :
    slotAdd s n i e v = setSlot s n i e (slot s n i e + BitVec.ofInt 32 v) := by
  simp [slotAdd, h]

/-- The weights of a matrix that ends below the ring buffers lie below them. -/
theorem weight_within {a b : W64} {r j : Nat} (hb : dBase b + dRows a * dStride a ≤ 0x40000) (hr : r < dRows a)
    (hj : j < dCols a) : dBase b + r * dStride a + j * dBits a / 8 < 0x40000 := by
  have hbits : 0 < dBits a := Nat.two_pow_pos _
  have hcols : (j + 1) * dBits a ≤ dCols a * dBits a := Nat.mul_le_mul_right _ hj
  have hrows : (r + 1) * dStride a ≤ dRows a * dStride a := Nat.mul_le_mul_right _ hr
  have hstride : j * dBits a / 8 < dStride a := by
    rw [Nat.add_mul] at hcols
    unfold dStride cdiv
    omega
  rw [Nat.add_mul] at hrows
  omega

theorem weightAt_congr {s t : State} {n m r j : Nat} (hr : t.coreRegs = s.coreRegs)
    (hw : dBase (descB s n m) + r * dStride (descA s n m) + j * dBits (descA s n m) / 8 < 0x40000)
    (hb : ∀ y, y < coreBase n + 0x40000 → ldB t y = ldB s y) : weightAt t n m r j = weightAt s n m r j := by
  have ha : descA t n m = descA s n m := cr_of_coreRegs hr ..
  have hd : descB t n m = descB s n m := cr_of_coreRegs hr ..
  unfold weightAt
  rw [ha, hd]
  dsimp only
  rw [hb _ (by omega)]

/-- `t` comes from `s` by adding the products of row `r` of matrix `m`, at the columns `js`, into the slots of step `e`. -/
structure RowAdded (n m r : Nat) (x : Int) (e : BitVec 32) (js : List Nat) (s t : State) : Prop where
  coreRegs : t.coreRegs = s.coreRegs
  cores : t.cores = s.cores
  slots : ∀ j ∈ js, dColFirst (descA s n m) + j < neurons s n → slot t n (dColFirst (descA s n m) + j) e =
    slot s n (dColFirst (descA s n m) + j) e + BitVec.ofInt 32 (weightAt s n m r j * x)
  others : ∀ y, (∀ j ∈ js, dColFirst (descA s n m) + j < neurons s n → y < slotAddr s n (dColFirst (descA s n m) + j) e
    ∨ slotAddr s n (dColFirst (descA s n m) + j) e + 4 ≤ y) → ldB t y = ldB s y

section
variable {n m r : Nat} {x : Int} {e : BitVec 32} {j : Nat} {js : List Nat}

/-- A column past the core's last neuron adds nothing. -/
theorem RowAdded.cons_past {s t : State} (h : RowAdded n m r x e js s t) (hj : neurons s n ≤ dColFirst (descA s n m) + j) :
    RowAdded n m r x e (j :: js) s t where
  coreRegs := h.coreRegs
  cores := h.cores
  slots k hk hn := by
    obtain rfl | hk := List.mem_cons.1 hk
    · omega
    · exact h.slots k hk hn
  others y hy := h.others y fun k hk => hy k (List.mem_cons_of_mem _ hk)

/-- The product of column `j` goes into a slot that no other column's product changes, and changes no weight. -/
theorem RowAdded.cons {s t : State} {i : Nat} (hi : i = dColFirst (descA s n m) + j) (hin : i < neurons s n)
    (hw : ∀ k ∈ js, dBase (descB s n m) + r * dStride (descA s n m) + k * dBits (descA s n m) / 8 < 0x40000)
    (h : RowAdded n m r x e js (setSlot s n i e (slot s n i e + BitVec.ofInt 32 (weightAt s n m r j * x))) t)
    (hj : j ∉ js) : RowAdded n m r x e (j :: js) s t := by
  obtain ⟨hr, hcores, hslots, hothers⟩ := h
  generalize hv : slot s n i e + BitVec.ofInt 32 (weightAt s n m r j * x) = v at hr hcores hslots hothers
  have hregs : (setSlot s n i e v).coreRegs = s.coreRegs := stU_coreRegs ..
  have hc : cr (setSlot s n i e v) n R.coreConfig = cr s n R.coreConfig := cr_of_coreRegs hregs ..
  have ha : descA (setSlot s n i e v) n m = descA s n m := cr_of_coreRegs hregs ..
  simp only [ha, neurons_congr hc, slotAddr_congr hc] at hslots hothers
  have hct : cr t n R.coreConfig = cr (setSlot s n i e v) n R.coreConfig :=
    cr_of_coreRegs hr ..
  have hring := slotAddr_ring e hin
  have hweights (y : Nat) (hy : y < coreBase n + 0x40000) : ldB (setSlot s n i e v) y = ldB s y :=
    ldB_setSlot_out _ _ _ _ _ (by omega)
  refine ⟨hr.trans hregs, hcores.trans (stU_cores ..), fun k hk hn => ?_, fun y hy => ?_⟩
  · obtain hkj | hk := List.mem_cons.1 hk
    · have hlast : slot t n i e = slot (setSlot s n i e v) n i e := by
        refine slot_of_bytes hct i e fun y hy1 hy2 => hothers y fun k hk hkn => ?_
        rw [slotAddr_congr hc] at hy1 hy2
        have hne : i ≠ dColFirst (descA s n m) + k := fun h => hj (by rwa [show j = k by omega])
        have hap := slotAddr_apart e hin hkn hne
        unfold apart at hap
        omega
      rw [hkj, ← hi, hlast, slot_setSlot_self, hv]
    · have hne : i ≠ dColFirst (descA s n m) + k := fun h => hj (by rwa [show j = k by omega])
      have hap := slotAddr_apart e hin hn hne
      unfold apart at hap
      rw [hslots k hk hn, weightAt_congr hregs (hw k hk) hweights,
        slot_of_bytes hc _ e fun y hy1 hy2 => ldB_setSlot_out _ _ _ _ _ (by omega)]
  · have hyi := hy j (List.mem_cons_self ..)
    rw [← hi] at hyi
    rw [hothers y fun k hk => hy k (List.mem_cons_of_mem _ hk), ldB_setSlot_out _ _ _ _ _ (hyi hin)]

/-- A row that no neuron has loaded yet is added whole, and is not late. -/
theorem addRow_timely : ∀ (js : List Nat) (s : State) (l : Bool), js.Nodup → (core s n).loadedStep ≠ e →
    (∀ k ∈ js, dBase (descB s n m) + r * dStride (descA s n m) + k * dBits (descA s n m) / 8 < 0x40000) →
    RowAdded n m r x e js s (addRow n m r x e js s l).1 ∧ (addRow n m r x e js s l).2 = l
  | [], s, l, _, _, _ => ⟨⟨rfl, rfl, fun _ h => absurd h List.not_mem_nil, fun _ _ => rfl⟩, rfl⟩
  | j :: js, s, l, hnd, he, hw => by
    obtain ⟨hj, hnd⟩ := List.nodup_cons.1 hnd
    have hw' := fun k hk => hw k (List.mem_cons_of_mem j hk)
    unfold addRow
    dsimp only
    split
    · obtain ⟨h, hl⟩ := addRow_timely js s l hnd he hw'
      exact ⟨h.cons_past (by omega), hl⟩
    · have hlate (b : Bool) : (l || (b && decide ((core s n).loadedStep = e) && (core s n).loaded.contains
          (dColFirst (descA s n m) + j))) = l := by simp [he]
      rw [hlate, slotAdd_timely he]
      generalize hv : slot s n (dColFirst (descA s n m) + j) e + BitVec.ofInt 32 (weightAt s n m r j * x) = v
      have hregs : (setSlot s n (dColFirst (descA s n m) + j) e v).coreRegs = s.coreRegs := stU_coreRegs ..
      have hcore : core (setSlot s n (dColFirst (descA s n m) + j) e v) n = core s n := core_of_cores (stU_cores ..) n
      have ha : descA (setSlot s n (dColFirst (descA s n m) + j) e v) n m = descA s n m := cr_of_coreRegs hregs ..
      have hb : descB (setSlot s n (dColFirst (descA s n m) + j) e v) n m = descB s n m := cr_of_coreRegs hregs ..
      obtain ⟨h, hl⟩ := addRow_timely js (setSlot s n (dColFirst (descA s n m) + j) e v) l hnd (by rwa [hcore])
        (by rwa [ha, hb])
      exact ⟨.cons rfl (by omega) hw' (by rwa [hv]) hj, hl⟩

end

end Sys2Proof.Machine
end

section
/-! SUPPORT. The intake of an event (R81 to R87, R152, R160): which case it is, and what it counts. -/
namespace Sys2Proof.Machine

/-! ### Counters -/

section
variable {s t u : State} {n r k : Nat}

theorem counted_cbump (s : State) (n r k : Nat) : counted s (cbump s n r k) n r k := cr_cw_self ..

theorem counted_from (h : cr t n r = cr s n r) (hc : counted t u n r k) : counted s u n r k := by
  unfold counted at hc ⊢
  rw [hc, h]

theorem counted_to (hc : counted s t n r k) (h : cr u n r = cr t n r) : counted s u n r k := h.trans hc

theorem counted_after (v : State) (hc : counted s u n r k) : counted s (after v u) n r k := counted_to hc (cr_after v u n r)

end

/-! ### The cases of an intake -/

section
variable {s t : State} {n : Nat}

theorem eventStep_congr (h : cr t n R.coreStep = cr s n R.coreStep) (g : Nat) : eventStep t n g = eventStep s n g := by
  rw [eventStep, commitStep, crF, h, eventStep]
  rfl

theorem matchDesc_lt {row m : Nat} (h : matchDesc s n row = some m) : m < 16 :=
  List.mem_range.1 (List.mem_of_find?_eq_some h)

theorem matchDesc_row {row m : Nat} (h : matchDesc s n row = some m) :
    dRowFirst (descA s n m) ≤ row ∧ row < dRowFirst (descA s n m) + dRows (descA s n m) := by
  have hp := List.find?_some h
  simp only [Bool.and_eq_true, decide_eq_true_eq] at hp
  exact ⟨hp.1.2, hp.2⟩

theorem matchDesc_congr (h : ∀ m < 16, descA t n m = descA s n m) (row : Nat) : matchDesc t n row = matchDesc s n row :=
  List.find?_congr fun m hm => by rw [h m (List.mem_range.1 hm)]

theorem eligible_congr (hs : cr t n R.plasStep = cr s n R.plasStep) (ha : cr t n R.plasStatus = cr s n R.plasStatus)
    (hp : (core t n).pendingRows = (core s n).pendingRows) (e : BitVec 32) (row : Nat) :
    eligible t n e row = eligible s n e row := by
  rw [eligible, plasStep, plasActive, plasRun, crF, crB, crF, hs, ha, hp]
  rfl

/-- Whether an event waits is a matter of the pending rows and of registers that an intake leaves alone. -/
theorem mustDefer_congr (hr : ∀ r, r < 0x8000 → r ≠ R.deferOcc → cr t n r = cr s n r)
    (hp : (core t n).pendingRows = (core s n).pendingRows) (f : Flit) : mustDefer t n f = mustDefer s n f := by
  have hd (m : Nat) (hm : m < 16) : descA t n m = descA s n m := by
    refine hr _ ?_ ?_
    · unfold R.matrixDescA; omega
    · unfold R.matrixDescA R.deferOcc; omega
  have helig := eligible_congr (hr R.plasStep (by decide) (by decide)) (hr R.plasStatus (by decide) (by decide)) hp
  have hstep := eventStep_congr (hr R.coreStep (by decide) (by decide)) (fStep f)
  unfold mustDefer
  rw [matchDesc_congr hd]
  cases hm : matchDesc s n (fRow f) with
  | none => rfl
  | some m => simp only [hd m (matchDesc_lt hm), hstep, helig]

theorem mustDefer_takeLocal (s : State) (n : Nat) (g f : Flit) : mustDefer (takeLocal s n g) n f = mustDefer s n f :=
  mustDefer_congr (s := s) (t := takeLocal s n g) (fun _ _ _ => rfl) (by rw [core_takeLocal_self]) f

section
variable {f : Flit}

theorem acceptEvent_stray (ha : assigned s n = false) : acceptEvent s n f = cbump s n R.intakeStray 1 :=
  if_pos (by rw [ha]; exact Bool.false_ne_true)

section
variable (ha : assigned s n = true)
include ha

theorem acceptEvent_waits (hd : mustDefer s n f = true) : acceptEvent s n f = deferEvent s n f := by
  rw [acceptEvent, if_neg (not_not.2 ha), if_pos hd]

variable (hd : mustDefer s n f = false)
include hd

theorem acceptEvent_unmatched (hm : ∀ m, matchDesc s n (fRow f) = some m → dWidth (descA s n m) = 3) :
    acceptEvent s n f = takeNone s n f := by
  rw [acceptEvent, if_neg (not_not.2 ha), if_neg (by rw [hd]; exact Bool.false_ne_true)]
  cases h : matchDesc s n (fRow f) with
  | none => rfl
  | some m => exact if_pos (hm m h)

theorem acceptEvent_matched {m : Nat} (hm : matchDesc s n (fRow f) = some m) (hw : dWidth (descA s n m) ≠ 3) :
    acceptEvent s n f = takeIn s n m f := by
  rw [acceptEvent, if_neg (not_not.2 ha), if_neg (by rw [hd]; exact Bool.false_ne_true), hm]
  exact if_neg hw

end

end

end

/-! ### What a taken event counts -/

/-- An event counted in `INTAKE_EVENTS`, in register `r` by `k`, and as an anti-event where it is one. -/
def eventCounted (s : State) (n r k : Nat) (f : Flit) : State :=
  let s := cbump (cbump s n R.intakeEvents 1) n r k
  if fAnti f then cbump s n R.intakeAnti 1 else s

section
variable (s : State) (n k : Nat) (f : Flit) {r : Nat}

theorem eventCounted_cores : (eventCounted s n r k f).cores = s.cores := by
  unfold eventCounted
  dsimp only
  split <;> simp only [cbump_cores]

theorem eventCounted_mem : (eventCounted s n r k f).mem = s.mem := by
  unfold eventCounted
  dsimp only
  split <;> simp only [cbump_mem]

theorem eventCounted_anti {q : Nat} (hq : q < 0x8000) (ha : q ≠ R.intakeAnti) :
    cr (eventCounted s n r k f) n q = cr (cbump (cbump s n R.intakeEvents 1) n r k) n q := by
  unfold eventCounted
  dsimp only
  split
  · exact cr_cw_ne _ _ (by decide) hq (.inr ha)
  · rfl

variable (hr : r < 0x8000)
include hr

theorem eventCounted_kept : coreRegsKept s (eventCounted s n r k f) n [R.intakeEvents, r, R.intakeAnti] := by
  have h1 : coreRegsKept s (cbump s n R.intakeEvents 1) n [R.intakeEvents, r, R.intakeAnti] :=
    coreRegsKept_cbump _ _ _ (by decide) (by simp)
  have h2 := coreRegsKept_trans h1 (coreRegsKept_cbump _ n k hr (by simp))
  unfold eventCounted
  dsimp only
  split
  · exact coreRegsKept_trans h2 (coreRegsKept_cbump _ _ _ (by decide) (by simp))
  · exact h2

theorem eventCounted_events (he : r ≠ R.intakeEvents) : counted s (eventCounted s n r k f) n R.intakeEvents 1 :=
  counted_to (counted_cbump ..) ((eventCounted_anti s n k f (by decide) (by decide)).trans
    (cr_cw_ne _ _ hr (by decide) (.inr he.symm)))

theorem eventCounted_counted (he : r ≠ R.intakeEvents) (ha : r ≠ R.intakeAnti) :
    counted s (eventCounted s n r k f) n r k :=
  counted_to (counted_from (cr_cw_ne _ _ (by decide) hr (.inr he)) (counted_cbump ..)) (eventCounted_anti s n k f hr ha)

end

theorem fStep_lt (f : Flit) : fStep f < 4 := fld_lt ..

/-- A receipt of step tag `g` is one more of it. -/
theorem countRecv_recv (s : State) (n k : Nat) {g : Nat} (hg : g < 4) :
    Sparse.get (fun _ => 0) (core (countRecv s n g k) n).recv g = Sparse.get (fun _ => 0) (core s n).recv g + k := by
  rw [countRecv, core_upCore_self]
  dsimp only
  rw [Nat.mod_eq_of_lt hg, Sparse.get_set, if_pos rfl]

theorem takeNone_eq (s : State) (n : Nat) (f : Flit) :
    takeNone s n f = countRecv (eventCounted s n R.intakeNomatch 1 f) n (fStep f) 1 := rfl

/-- The input that an event brings to a matrix: an anti-event's is taken away (R84, R172). -/
def signedX (f : Flit) (a : W64) : Int := if fAnti f then -intakeX f (dZp a) else intakeX f (dZp a)

/-- What an event adds to the pre sum of its row (R152). -/
def preAmount (f : Flit) (a : W64) : Int :=
  let amount : Int := if fType f = 1 then ((intakeX f (dZp a)).natAbs : Int) else 256
  if fAnti f then -amount else amount

/-- After its row has been added: a late event counted, the pre sum of a plastic row, and the receipt. -/
def rowNoted (p : State × Bool) (n : Nat) (a : W64) (f : Flit) : State :=
  let s := if p.2 then cbump p.1 n R.ovbLateEvents 1 else p.1
  let s := if dPlastic a then preAdd s n (fRow f) (fStep f) (preAmount f a) else s
  countRecv s n (fStep f) 1

theorem takeIn_eq (s : State) (n m : Nat) (f : Flit) : takeIn s n m f =
    rowNoted (addRow n m (fRow f - dRowFirst (descA s n m)) (signedX f (descA s n m))
      (eventStep s n (fStep f) + BitVec.ofNat 32 (dDelay (descA s n m))) (List.range (dCols (descA s n m)))
      (eventCounted s n R.intakeReads (dStride (descA s n m) / 32) f) false) n (descA s n m) f := rfl

theorem countRecv_work (s : State) (n g k : Nat) : SlotWork n s (countRecv s n g k) := .upCore s fun _ => rfl

theorem preAdd_work (s : State) (n row g : Nat) (v : Int) : SlotWork n s (preAdd s n row g v) := .upCore s fun _ => rfl

theorem rowNoted_work (p : State × Bool) (n : Nat) (a : W64) (f : Flit) : SlotWork n p.1 (rowNoted p n a f) := by
  unfold rowNoted
  extract_lets u v
  have hu : SlotWork n p.1 u := .ite (.cbump _ 1 (by simp)) (.refl _)
  have hv : SlotWork n u v := .ite (preAdd_work ..) (.refl _)
  exact (hu.trans hv).trans (countRecv_work ..)

/-! ### What any taken event leaves -/

/-- `t` comes from `s` by the taking of an event that does not wait at core `n`: it counts, and memory changes in the ring
buffers alone. -/
structure EventTaken (n : Nat) (s t : State) : Prop where
  events : counted s t n R.intakeEvents 1
  mem : ∀ a, (a < coreBase n + 0x40000 ∨ coreBase n + 0x60000 ≤ a) → ldB t a = ldB s a
  deferred : (core t n).deferred = (core s n).deferred

section
variable {s : State} {n : Nat} (f : Flit)

theorem takeNone_taken (s : State) (n : Nat) : EventTaken n s (takeNone s n f) where
  events := eventCounted_events s n 1 f (by decide) (by decide)
  mem _ _ := ldB_of_mem (eventCounted_mem s n 1 f) _
  deferred := by
    rw [takeNone_eq, countRecv, core_upCore_self, core_of_cores (eventCounted_cores s n 1 f)]

theorem takeIn_taken (hn : n < 1024) (m : Nat) : EventTaken n s (takeIn s n m f) := by
  rw [takeIn_eq]
  generalize hu : eventCounted s n R.intakeReads (dStride (descA s n m) / 32) f = u
  have hw := (addRow_work n m (fRow f - dRowFirst (descA s n m)) (signedX f (descA s n m))
    (eventStep s n (fStep f) + BitVec.ofNat 32 (dDelay (descA s n m))) (List.range (dCols (descA s n m))) u false).trans
      (rowNoted_work _ n (descA s n m) f)
  refine ⟨counted_to ?_ (hw.regs _ _ hn (by decide) (.inr (by decide))), fun a ha => (hw.mem a ha).trans ?_,
    hw.deferred.trans ?_⟩
  · rw [← hu]
    exact eventCounted_events s n _ f (by decide) (by decide)
  · rw [← hu]
    exact ldB_of_mem (eventCounted_mem ..) a
  · rw [← hu, core_of_cores (eventCounted_cores ..)]

theorem acceptEvent_taken (hn : n < 1024) (ha : assigned s n = true) (hd : mustDefer s n f = false) :
    EventTaken n s (acceptEvent s n f) := by
  by_cases h : ∀ m, matchDesc s n (fRow f) = some m → dWidth (descA s n m) = 3
  · rw [acceptEvent_unmatched ha hd h]
    exact takeNone_taken f s n
  · push Not at h
    obtain ⟨m, hm, hw⟩ := h
    rw [acceptEvent_matched ha hd hm hw]
    exact takeIn_taken f hn m

end

end Sys2Proof.Machine
end

section
/-! SUPPORT. The rows of a core's intakes: a deferred event taken back, and the reduction flits (R97 to R99, R160, R249, R250). -/
namespace Sys2Proof.Machine

/-! ### A deferred event (R160) -/

/-- The place `k` of the deferral area free again. -/
def deferFreed (s : State) (n k : Nat) : State := noteDefer (upCore s n fun c => { c with deferred := c.deferred.erase k }) n

/-- The event in place `k` of the deferral area. -/
def deferredEvent (s : State) (n k : Nat) : Flit := w64 (ldU s (deferAddr s n k) 8)

theorem takeDeferredAny_eq (s : State) (n k : Nat) : takeDeferredAny s n k =
    if fVc (deferredEvent s n k) = 3 then
      upCore (acceptEvent (deferFreed s n k) n (deferredEvent s n k)) n fun c => { c with recv := (core s n).recv }
    else acceptEvent (deferFreed s n k) n (deferredEvent s n k) := rfl

section
variable (s : State) (n : Nat)

theorem noteDefer_cores : (noteDefer s n).cores = s.cores := cw_cores ..
theorem noteDefer_mem : (noteDefer s n).mem = s.mem := cw_mem ..

theorem noteDefer_cr {r : Nat} (hr : r < 0x8000) (h : r ≠ R.deferOcc) : cr (noteDefer s n) n r = cr s n r :=
  cr_cw_ne s _ (by decide) hr (.inr h)

variable (k : Nat)

theorem core_deferFreed :
    core (deferFreed s n k) n = { core s n with deferred := (core s n).deferred.erase k } := by
  rw [deferFreed, core_of_cores (noteDefer_cores ..), core_upCore_self]

theorem deferFreed_cr {r : Nat} (hr : r < 0x8000) (h : r ≠ R.deferOcc) : cr (deferFreed s n k) n r = cr s n r :=
  noteDefer_cr (upCore s n _) n hr h

theorem deferFreed_mem : (deferFreed s n k).mem = s.mem := noteDefer_mem (upCore s n _) n

theorem deferFreed_mustDefer (f : Flit) : mustDefer (deferFreed s n k) n f = mustDefer s n f :=
  mustDefer_congr (s := s) (t := deferFreed s n k) (fun _ hr h => deferFreed_cr s n k hr h) (by rw [core_deferFreed]) f

theorem deferFreed_assigned : assigned (deferFreed s n k) n = assigned s n := by
  rw [assigned, crB, deferFreed_cr s n k (by decide) (by decide)]
  rfl

end

section
variable {s : State} (hl : live s = true) (n : CoreId)
include hl

theorem exec_deferredIntake {k : Nat} (hs : stopped s n.val = false) (hk : nextDeferred s n.val = some k) :
    exec (.deferredIntake n .none) s = .next (after s (takeDeferredAny s n.val k)) := by
  refine (rfl : exec _ s = execDeferredIntake n .none s).trans ((act_after _ hl).trans ?_)
  rw [hk]
  dsimp only
  rw [if_neg (by rw [hs]; exact Bool.false_ne_true)]
  rfl

/-- A deferred event that may come back leaves its place, and waits no more. -/
theorem deferredIntake_row (hs : stopped s n.val = false) {k : Nat} (hk : nextDeferred s n.val = some k) :
    ∃ v, exec (.deferredIntake n .none) s = .next v ∧ (core v n.val).deferred = (core s n.val).deferred.erase k
      ∧ (assigned s n.val = true → counted s v n.val R.intakeEvents 1)
      ∧ (∀ a, (a < coreBase n.val + 0x40000 ∨ coreBase n.val + 0x60000 ≤ a) → ldB v a = ldB s a) := by
  have hd : mustDefer (deferFreed s n.val k) n.val (deferredEvent s n.val k) = false := by
    rw [deferFreed_mustDefer]
    have h := List.find?_some (p := fun k => !mustDefer s n.val (deferredEvent s n.val k)) hk
    simpa using h
  generalize hx : acceptEvent (deferFreed s n.val k) n.val (deferredEvent s n.val k) = x
  have hrecv : SlotWork n.val x (takeDeferredAny s n.val k) := by
    rw [takeDeferredAny_eq, hx]
    exact .ite (.upCore _ fun _ => rfl) (.refl _)
  refine ⟨_, exec_deferredIntake hl n hs hk, ?_⟩
  simp only [core_after, ldB_after, hrecv.deferred]
  rw [show (core s n.val).deferred.erase k = (core (deferFreed s n.val k) n.val).deferred by rw [core_deferFreed]]
  cases ha : assigned s n.val with
  | false =>
    rw [acceptEvent_stray (by rw [deferFreed_assigned, ha])] at hx
    refine ⟨?_, nofun, fun a h => (hrecv.mem a h).trans ?_⟩
    · rw [← hx, core_of_cores (cbump_cores ..)]
    · rw [← hx, ldB_of_mem (cbump_mem ..), ldB_of_mem (deferFreed_mem ..)]
  | true =>
    have ht := acceptEvent_taken (deferredEvent s n.val k) n.isLt (by rwa [deferFreed_assigned]) hd
    rw [hx] at ht
    refine ⟨ht.deferred, fun _ => counted_after _ (counted_from (deferFreed_cr s n.val k (by decide) (by decide))
      (counted_to ht.events (hrecv.regs _ _ n.isLt (by decide) (.inr (by decide))))), fun a h => ?_⟩
    rw [hrecv.mem a h, ht.mem a h, ldB_of_mem (deferFreed_mem ..)]

end

/-! ### A reduction flit that is taken -/

theorem cr_cbump_ne (s : State) {n r r' : Nat} (k : Nat) (hr : r < 0x8000) (hr' : r' < 0x8000) (h : r' ≠ r) :
    cr (cbump s n r k) n r' = cr s n r' := cr_cw_ne s _ hr hr' (.inr h)

/-- Flit `f` taken by core `n`, and counted in `SPLIT_IN_FLITS`. -/
def splitTaken (s : State) (n : Nat) (f : Flit) : State := cbump (takeLocal s n f) n R.splitInFlits 1

theorem splitIn_congr {s t : State} {n : Nat} (hr : cr t n R.splitInBase = cr s n R.splitInBase) (hm : t.mem = s.mem)
    (k : Nat) : splitIn t n k = splitIn s n k := by
  rw [splitIn, splitEntry, crF, hr, ldU_of_mem hm]
  rfl

section
variable (s : State) (n : Nat) (f : Flit)

theorem splitTaken_kept : coreRegsKept s (splitTaken s n f) n [R.splitInFlits] :=
  coreRegsKept_cbump (takeLocal s n f) n 1 (by decide) (by simp)

theorem splitTaken_counted : counted s (splitTaken s n f) n R.splitInFlits 1 := counted_cbump (takeLocal s n f) ..

theorem splitTaken_cr {r : Nat} (hr : r < 0x8000) (h : r ≠ R.splitInFlits) : cr (splitTaken s n f) n r = cr s n r :=
  cr_cw_ne (takeLocal s n f) _ (by decide) hr (.inr h)

theorem splitTaken_mem : (splitTaken s n f).mem = s.mem := cbump_mem ..

theorem splitTaken_faults : (splitTaken s n f).faults = s.faults := cbump_faults ..

theorem core_splitTaken : core (splitTaken s n f) n = { core s n with rx := (core s n).rx.erase f } :=
  (core_of_cores (cbump_cores ..) n).trans (core_takeLocal_self ..)

theorem splitIn_splitTaken (k : Nat) : splitIn (splitTaken s n f) n k = splitIn s n k :=
  splitIn_congr (splitTaken_cr s n f (by decide) (by decide)) (splitTaken_mem s n f) k

theorem splitSetOf_splitTaken (k : Nat) : splitSetOf (splitTaken s n f) n k = splitSetOf s n k := by
  unfold splitSetOf
  simp only [splitIn_splitTaken]

theorem eventStep_splitTaken (g : Nat) : eventStep (splitTaken s n f) n g = eventStep s n g :=
  eventStep_congr (splitTaken_cr s n f (by decide) (by decide)) g

theorem slot_splitTaken (i : Nat) (e : BitVec 32) : slot (splitTaken s n f) n i e = slot s n i e :=
  slot_of_bytes (splitTaken_cr s n f (by decide) (by decide)) i e fun x _ _ => ldB_of_mem (splitTaken_mem s n f) x

theorem slotAddr_splitTaken (i : Nat) (e : BitVec 32) : slotAddr (splitTaken s n f) n i e = slotAddr s n i e :=
  slotAddr_congr (splitTaken_cr s n f (by decide) (by decide)) i e

end

/-! ### Split values (R99) -/

/-- The sign of a number of 32 bits is lost again in 32 bits. -/
theorem ofInt_sx (v : Nat) : BitVec.ofInt 32 (sx 32 v) = BitVec.ofNat 32 v := by
  apply BitVec.eq_of_toNat_eq
  rw [BitVec.toNat_ofInt, BitVec.toNat_ofNat]
  simp only [sx]
  split <;> omega

section
variable {s : State} {n : Nat} {f : Flit}

theorem splitValue_some {i : Nat} (h : splitSetOf (cbump s n R.splitInFlits 1) n (fRid f - 0x400) = some i) :
    splitValue s n f = slotAdd (cbump s n R.splitInFlits 1) n
      (fld (splitIn (cbump s n R.splitInFlits 1) n i) 1 12
        + (fRid f - 0x400 - fld (splitIn (cbump s n R.splitInFlits 1) n i) 13 10))
      (eventStep (cbump s n R.splitInFlits 1) n (fRStep f)) (sx 32 (fValue f)) := by
  unfold splitValue
  simp only [h]

theorem splitValue_none (h : splitSetOf (cbump s n R.splitInFlits 1) n (fRid f - 0x400) = none) :
    splitValue s n f = cbump (cbump s n R.splitInFlits 1) n R.splitStray 1 := by
  unfold splitValue
  simp only [h]

theorem splitValue_taken {i : Nat} (h : splitSetOf s n (fRid f - 0x400) = some i) :
    splitValue (takeLocal s n f) n f = slotAdd (splitTaken s n f) n
      (fld (splitIn s n i) 1 12 + (fRid f - 0x400 - fld (splitIn s n i) 13 10)) (eventStep s n (fRStep f)) (sx 32 (fValue f)) := by
  rw [← splitSetOf_splitTaken s n f] at h
  rw [splitValue_some h, ← splitIn_splitTaken s n f, ← eventStep_splitTaken s n f]
  rfl

theorem splitValue_lost (h : splitSetOf s n (fRid f - 0x400) = none) :
    splitValue (takeLocal s n f) n f = cbump (splitTaken s n f) n R.splitStray 1 :=
  splitValue_none ((splitSetOf_splitTaken ..).trans h)

end

section
variable {s : State} (hl : live s = true) (n : CoreId) {f : Flit} (hs : stopped s n.val = false) (h2 : fType f = 2)
  (hn : nextLocal s n.val f = true)
include hl hs h2 hn

section
variable (h4 : 0x400 ≤ fRid f) (h7 : fRid f < 0x7F0)
include h4 h7

theorem exec_splitValue : exec (.splitValue n f .none) s = .next (after s (splitValue (takeLocal s n.val f) n.val f)) := by
  refine (rfl : exec _ s = execSplitValue n f .none s).trans ((act_after _ hl).trans ?_)
  rw [if_pos ⟨h2, h4, h7⟩, engineTakes_next _ hs hn]
  rfl

/-- A split value is added into its home neuron's slot, which has not been loaded. -/
theorem splitValue_row {i m : Nat} {t : BitVec 32} (hi : splitSetOf s n.val (fRid f - 0x400) = some i)
    (ht : t = eventStep s n.val (fRStep f))
    (hm : m = fld (splitIn s n.val i) 1 12 + (fRid f - 0x400 - fld (splitIn s n.val i) 13 10))
    (hload : (core s n.val).loadedStep ≠ t) : ∃ v, exec (.splitValue n f .none) s = .next v
      ∧ counted s v n.val R.splitInFlits 1 ∧ slot v n.val m t = slot s n.val m t + BitVec.ofNat 32 (fValue f)
      ∧ (∀ a, (a < slotAddr s n.val m t ∨ slotAddr s n.val m t + 4 ≤ a) → ldB v a = ldB s a)
      ∧ coreRegsKept s v n.val [R.splitInFlits] := by
  have hcore : (core (splitTaken s n.val f) n.val).loadedStep ≠ t := by rwa [core_splitTaken]
  refine ⟨_, exec_splitValue hl n hs h2 hn h4 h7, ?_⟩
  rw [splitValue_taken hi, ← hm, ← ht, slotAdd_timely hcore, ofInt_sx, slot_splitTaken]
  generalize slot s n.val m t + BitVec.ofNat 32 (fValue f) = w
  have hregs : (setSlot (splitTaken s n.val f) n.val m t w).coreRegs = (splitTaken s n.val f).coreRegs := stU_coreRegs ..
  refine ⟨counted_after _ (counted_to (splitTaken_counted s n.val f) (cr_of_coreRegs hregs ..)), ?_, fun a ha => ?_,
    coreRegsKept_after (coreRegsKept_trans (splitTaken_kept s n.val f) (coreRegsKept_of_eq hregs _ _))⟩
  · rw [slot_of_bytes (cr_after ..) m t fun x _ _ => ldB_after .., slot_setSlot_self]
  · rw [ldB_after, ldB_setSlot_out _ _ _ _ _ (by rwa [slotAddr_splitTaken]), ldB_of_mem (splitTaken_mem ..)]

/-- A split value of no valid set is stray. -/
theorem splitValue_stray (hi : splitSetOf s n.val (fRid f - 0x400) = none) : ∃ v, exec (.splitValue n f .none) s = .next v
    ∧ counted s v n.val R.splitInFlits 1 ∧ counted s v n.val R.splitStray 1 ∧ v.mem = s.mem := by
  refine ⟨_, exec_splitValue hl n hs h2 hn h4 h7, ?_⟩
  rw [splitValue_lost hi]
  refine ⟨counted_after _ (counted_to (splitTaken_counted s n.val f) (cr_cbump_ne _ 1 (by decide) (by decide) (by decide))),
    counted_after _ (counted_from (splitTaken_cr s n.val f (by decide) (by decide)) (counted_cbump ..)), ?_⟩
  rw [after_mem, cbump_mem, splitTaken_mem]

end

end

/-! ### Split counts (R99) -/

section
variable (s : State) (n code job step : Nat)

theorem coreFault_coreRegs : (coreFault s n code job step).coreRegs =
    (cw s n R.coreFault (w64 (code + step % 2 ^ 32 * 2 ^ 32))).coreRegs := by
  unfold coreFault
  extract_lets u
  split
  · exact raise_coreRegs ..
  · rfl

theorem coreFault_mem : (coreFault s n code job step).mem = s.mem := by
  unfold coreFault
  extract_lets u
  split
  · exact (raise_mem ..).trans (cw_mem ..)
  · exact cw_mem ..

theorem coreFault_cores : (coreFault s n code job step).cores = s.cores := by
  unfold coreFault
  extract_lets u
  split
  · exact (raise_cores ..).trans (cw_cores ..)
  · exact cw_cores ..

end

/-- The count of set `k` for step tag `g` is `c`. -/
def countNoted (s : State) (n k g c : Nat) : State :=
  upCore s n fun x => { x with splitCnt := Sparse.set (fun _ => 0) x.splitCnt (k * 4 + g) c }

theorem countNoted_coreRegs (s : State) (n k g c : Nat) : (countNoted s n k g c).coreRegs = s.coreRegs := upCore_coreRegs ..
theorem countNoted_mem (s : State) (n k g c : Nat) : (countNoted s n k g c).mem = s.mem := upCore_mem ..
theorem countNoted_faults (s : State) (n k g c : Nat) : (countNoted s n k g c).faults = s.faults := upCore_faults ..

theorem splitCount_countNoted (s : State) (n k g c : Nat) : splitCount (countNoted s n k g c) n k g = c := by
  rw [splitCount, countNoted, core_upCore_self]
  exact (Sparse.get_set ..).trans (if_pos rfl)

theorem splitCount_of_cores {s t : State} (h : t.cores = s.cores) (n k g : Nat) : splitCount t n k g = splitCount s n k g := by
  rw [splitCount, core_of_cores h, splitCount]

section
variable {s : State} {n : Nat} {f : Flit}

theorem splitCountFlit_invalid {k : Nat} (hk : k = fRid f - 0x7F0) (h : bitAt (splitIn s n k) 0 = false) :
    splitCountFlit (takeLocal s n f) n f = cbump (splitTaken s n f) n R.splitStray 1 := by
  unfold splitCountFlit
  rw [← hk]
  extract_lets u q e
  have he : e = splitIn s n k := splitIn_splitTaken s n f k
  rw [he, if_neg (by rw [h]; exact Bool.false_ne_true)]
  rfl

theorem splitCountFlit_valid {k c : Nat} (hk : k = fRid f - 0x7F0) (hc : c = splitCount s n k (fRStep f) + fValue f)
    (h : bitAt (splitIn s n k) 0 = true) : splitCountFlit (takeLocal s n f) n f =
      if fld (splitIn s n k) 33 8 < c then
        coreFault (countNoted (splitTaken s n f) n k (fRStep f) c) n 1 0x03 (eventStep s n (fRStep f)).toNat
      else countNoted (splitTaken s n f) n k (fRStep f) c := by
  have hcnt : splitCount (splitTaken s n f) n k (fRStep f) + fValue f = c := by
    rw [splitCount, core_splitTaken, hc, splitCount]
  unfold splitCountFlit
  rw [← hk]
  extract_lets u q e v w
  have he : e = splitIn s n k := splitIn_splitTaken s n f k
  have hv : v = c := hcnt
  have hw : w = countNoted (splitTaken s n f) n k (fRStep f) c := by rw [← hcnt]; rfl
  have hstep : eventStep (countNoted (splitTaken s n f) n k (fRStep f) c) n (fRStep f) = eventStep s n (fRStep f) :=
    (eventStep_congr (cr_of_coreRegs (countNoted_coreRegs ..) ..) _).trans (eventStep_splitTaken ..)
  rw [he, if_pos h, hv, hw, hstep]

end

section
variable {s : State} (hl : live s = true) (n : CoreId) {f : Flit} (hs : stopped s n.val = false) (h2 : fType f = 2)
  (hn : nextLocal s n.val f = true)
include hl hs h2 hn

section
variable (h7 : 0x7F0 ≤ fRid f)
include h7

theorem exec_splitCount : exec (.splitCount n f) s = .next (after s (splitCountFlit (takeLocal s n.val f) n.val f)) := by
  refine (rfl : exec _ s = execSplitCount n f s).trans ((act_after _ hl).trans ?_)
  rw [if_pos ⟨h2, h7⟩, engineTakes_next _ hs hn]

variable {k : Nat} (hk : k = fRid f - 0x7F0)
include hk

/-- A split count for no valid set is stray. -/
theorem splitCount_stray (hb : bitAt (splitIn s n.val k) 0 = false) : ∃ v, exec (.splitCount n f) s = .next v
    ∧ counted s v n.val R.splitInFlits 1 ∧ counted s v n.val R.splitStray 1 ∧ v.mem = s.mem
    ∧ (core v n.val).splitCnt = (core s n.val).splitCnt := by
  refine ⟨_, exec_splitCount hl n hs h2 hn h7, ?_⟩
  rw [splitCountFlit_invalid hk hb]
  refine ⟨counted_after _ (counted_to (splitTaken_counted s n.val f) (cr_cbump_ne _ 1 (by decide) (by decide) (by decide))),
    counted_after _ (counted_from (splitTaken_cr s n.val f (by decide) (by decide)) (counted_cbump ..)), ?_, ?_⟩
  · rw [after_mem, cbump_mem, splitTaken_mem]
  · rw [core_after, core_of_cores (cbump_cores ..), core_splitTaken]

variable (hb : bitAt (splitIn s n.val k) 0 = true) {c : Nat} (hc : c = splitCount s n.val k (fRStep f) + fValue f)
include hb hc

/-- A split count that its set expects is added to the set's counter. -/
theorem splitCount_within (h : c ≤ fld (splitIn s n.val k) 33 8) : ∃ v, exec (.splitCount n f) s = .next v
    ∧ counted s v n.val R.splitInFlits 1 ∧ v.mem = s.mem ∧ splitCount v n.val k (fRStep f) = c
    ∧ coreRegsKept s v n.val [R.splitInFlits] ∧ v.faults = s.faults := by
  refine ⟨_, exec_splitCount hl n hs h2 hn h7, ?_⟩
  rw [splitCountFlit_valid hk hc hb, if_neg (by omega)]
  have hregs := countNoted_coreRegs (splitTaken s n.val f) n.val k (fRStep f) c
  exact ⟨counted_after _ (counted_to (splitTaken_counted s n.val f) (cr_of_coreRegs hregs ..)),
    (after_mem ..).trans ((countNoted_mem ..).trans (splitTaken_mem ..)),
    (splitCount_of_cores (after_cores ..) ..).trans (splitCount_countNoted ..),
    coreRegsKept_after (coreRegsKept_trans (splitTaken_kept s n.val f) (coreRegsKept_of_eq hregs _ _)),
    (after_faults ..).trans ((countNoted_faults ..).trans (splitTaken_faults ..))⟩

/-- One count more than the set expects is the core's fault. -/
theorem splitCount_above (h : fld (splitIn s n.val k) 33 8 < c) : ∃ v, exec (.splitCount n f) s = .next v
    ∧ counted s v n.val R.splitInFlits 1 ∧ v.mem = s.mem ∧ splitCount v n.val k (fRStep f) = c
    ∧ cr v n.val R.coreFault = w64 (1 + (eventStep s n.val (fRStep f)).toNat * 2 ^ 32) := by
  refine ⟨_, exec_splitCount hl n hs h2 hn h7, ?_⟩
  rw [splitCountFlit_valid hk hc hb, if_pos h]
  generalize eventStep s n.val (fRStep f) = t
  have hcr (r : Nat) := (cr_after s _ n.val r).trans (cr_of_coreRegs
    (coreFault_coreRegs (countNoted (splitTaken s n.val f) n.val k (fRStep f) c) n.val 1 0x03 t.toNat) n.val r)
  have hregs := countNoted_coreRegs (splitTaken s n.val f) n.val k (fRStep f) c
  refine ⟨counted_to (splitTaken_counted s n.val f) ((hcr _).trans ?_), ?_, ?_, ?_⟩
  · exact (cr_cw_ne (countNoted ..) _ (by decide) (by decide) (.inr (by decide))).trans (cr_of_coreRegs hregs ..)
  · exact (after_mem ..).trans ((coreFault_mem ..).trans ((countNoted_mem ..).trans (splitTaken_mem ..)))
  · exact (splitCount_of_cores ((after_cores ..).trans (coreFault_cores ..)) ..).trans (splitCount_countNoted ..)
  · rw [hcr, cr_cw_self, Nat.mod_eq_of_lt t.isLt]

end

end

/-! ### Contributions (R75, R249, R250) -/

section
variable {s : State} {n q : Nat} {f : Flit}

theorem combine_held (hq : combOf s n (fRid f) = some q) (hh : (core s n).combHeld.contains (q, fRStep f % 2) = true) :
    combine s n f = qOverrun s n q := by
  unfold combine
  simp only [hq, hh, if_true]

/-- A contribution to a bank in use, of a queue that counts none, is added into its lane. -/
theorem combine_added (hq : combOf s n (fRid f) = some q) {a : Nat}
    (ha : a = combBank s n q (fRStep f % 2) + 4 * (fRid f - q))
    (hh : (core s n).combHeld.contains (q, fRStep f % 2) = false)
    (hb : bitAt (qw (stU s a 4 (ldU s a 4 + fValue f)) n q 1) 6 = false) :
    combine s n f = stU s a 4 (ldU s a 4 + fValue f) := by
  subst ha
  unfold combine
  simp only [hq, hh, hb, Bool.false_eq_true, if_false]

theorem qOverrun_fault (s : State) (n q : Nat) :
    cr (qOverrun s n q) n R.qFault = w64 (1 + q * 256 + (startStepOf s n).toNat * 2 ^ 32) := by
  have hcw (v : W64) : cr (noteQ (cw s n R.qFault v) n q 0 true) n R.qFault = v :=
    (cr_of_coreRegs (stU_coreRegs ..) ..).trans (cr_cw_self ..)
  have hstep (v : W64) : startStepOf (cw s n R.qFault v) n = startStepOf s n :=
    congrArg (fun w => BitVec.ofNat 32 (fld w 0 32)) (cr_cw_ne s v (by decide) (by decide) (.inr (by decide)))
  unfold qOverrun
  extract_lets u v
  split
  · exact (cr_of_coreRegs (raise_coreRegs ..) ..).trans (hcw _)
  · exact hcw _

/-- A write of memory leaves the bytes of an entry's word that it does not touch. -/
theorem qw_stU_apart (s : State) (n q k : Nat) {a v : Nat}
    (h : a + 4 ≤ qAddr s n q + 8 * k ∨ qAddr s n q + 8 * k + 8 ≤ a) : qw (stU s a 4 v) n q k = qw s n q k := by
  have ha : qAddr (stU s a 4 v) n q = qAddr s n q := by
    rw [qAddr, crF, cr_of_coreRegs (stU_coreRegs ..), qAddr, crF]
  rw [qw, ha, ldU_of_bytes fun x _ _ => ldB_stU_out _ _ _ _ _ (by omega), qw]

end

section
variable {s : State} (hl : live s = true) (n : CoreId) {f : Flit} (hs : stopped s n.val = false) (h2 : fType f = 2)
  (hn : nextLocal s n.val f = true)
include hl hs h2 hn

theorem exec_combineContribution (h4 : fRid f < 0x400) : exec (.combineContribution n f) s = .next (after s
    (if fRid f < 0x40 then combine (takeLocal s n.val f) n.val f else cbump (takeLocal s n.val f) n.val R.splitStray 1)) := by
  refine (rfl : exec _ s = execCombineContribution n f s).trans ((act_after _ hl).trans ?_)
  rw [if_pos ⟨h2, h4⟩, engineTakes_next _ hs hn]

/-- A reduction flit with a reserved RID is stray. -/
theorem combineContribution_stray (h40 : 0x40 ≤ fRid f) (h4 : fRid f < 0x400) : ∃ v,
    exec (.combineContribution n f) s = .next v ∧ counted s v n.val R.splitStray 1 ∧ v.mem = s.mem
      ∧ coreRegsKept s v n.val [R.splitStray] := by
  refine ⟨_, exec_combineContribution hl n hs h2 hn h4, ?_⟩
  rw [if_neg (by omega)]
  exact ⟨counted_after _ (counted_cbump (takeLocal s n.val f) ..), (after_mem ..).trans (cbump_mem ..),
    coreRegsKept_after (coreRegsKept_cbump (takeLocal s n.val f) _ _ (by decide) (by simp))⟩

section
variable (h40 : fRid f < 0x40) {q : Nat} (hq : combOf s n.val (fRid f) = some q)
include h40 hq

/-- A contribution to a held bank is an overrun. -/
theorem combineContribution_overrun (hh : (core s n.val).combHeld.contains (q, fRStep f % 2) = true) : ∃ v,
    exec (.combineContribution n f) s = .next v
      ∧ cr v n.val R.qFault = w64 (1 + q * 256 + (startStepOf s n.val).toNat * 2 ^ 32) := by
  have hq' : combOf (takeLocal s n.val f) n.val (fRid f) = some q := hq
  refine ⟨_, exec_combineContribution hl n hs h2 hn (by omega), ?_⟩
  rw [if_pos h40, combine_held hq' (by rwa [core_takeLocal_self]), cr_after, qOverrun_fault]
  rfl

theorem combineContribution_added {a : Nat} (ha : a = combBank s n.val q (fRStep f % 2) + 4 * (fRid f - q))
    (hap : a + 4 ≤ qAddr s n.val q + 8 ∨ qAddr s n.val q + 16 ≤ a)
    (hh : (core s n.val).combHeld.contains (q, fRStep f % 2) = false) (hb : bitAt (qw s n.val q 1) 6 = false) : ∃ v,
    exec (.combineContribution n f) s = .next v ∧ ldU v a 4 = (ldU s a 4 + fValue f) % 2 ^ 32
      ∧ (∀ y, (y < a ∨ a + 4 ≤ y) → ldB v y = ldB s y) ∧ v.coreRegs = s.coreRegs := by
  have hq' : combOf (takeLocal s n.val f) n.val (fRid f) = some q := hq
  have hb' : bitAt (qw (stU (takeLocal s n.val f) a 4 (ldU (takeLocal s n.val f) a 4 + fValue f)) n.val q 1) 6 = false := by
    rw [qw_stU_apart (takeLocal s n.val f) n.val q 1 hap]
    exact hb
  refine ⟨_, exec_combineContribution hl n hs h2 hn (by omega), ?_⟩
  rw [if_pos h40, combine_added hq' ha (by rwa [core_takeLocal_self]) hb']
  refine ⟨?_, fun y hy => ?_, ?_⟩
  · rw [ldU_of_mem (after_mem ..), ldU_stU_self]
    rfl
  · rw [ldB_after, ldB_stU_out _ _ _ _ _ hy]
    rfl
  · rw [after_coreRegs, stU_coreRegs]
    rfl

end

end

/-- Settles O36, row by row. A split count for no valid set is stray by the model's choice (log entry 90). -/
theorem otherIntakes : Obligations.OtherIntakes := by
  unfold Obligations.OtherIntakes
  intro n f s hl hs
  refine ⟨fun k hk => deferredIntake_row hl n hs hk,
    fun i e t m h2 hn h4 h7 hi he ht hm hload => splitValue_row hl n hs h2 hn h4 h7 hi ht (he ▸ hm) hload,
    fun h2 hn h4 h7 hi => splitValue_stray hl n hs h2 hn h4 h7 hi, fun k e c h2 hn h7 hk he hc => ?_,
    fun q a h2 hn h40 hq ha hap => ?_, fun h2 hn h40 h4 => combineContribution_stray hl n hs h2 hn h40 h4⟩
  · subst he
    cases hb : bitAt (splitIn s n.val k) 0 with
    | false =>
      obtain ⟨v, hv, hin, hstray, hmem, hcnt⟩ := splitCount_stray hl n hs h2 hn h7 hk hb
      exact ⟨v, hv, hin, hmem, nofun, nofun, nofun, fun _ => ⟨hstray, hcnt⟩⟩
    | true =>
      obtain hle | hlt := le_or_gt c (fld (splitIn s n.val k) 33 8)
      · obtain ⟨v, hv, hin, hmem, hcnt, hkept, hfaults⟩ := splitCount_within hl n hs h2 hn h7 hk hb hc hle
        exact ⟨v, hv, hin, hmem, fun _ => hcnt, fun _ h => absurd h (by omega), fun _ _ => ⟨hkept, hfaults⟩, nofun⟩
      · obtain ⟨v, hv, hin, hmem, hcnt, hfault⟩ := splitCount_above hl n hs h2 hn h7 hk hb hc hlt
        exact ⟨v, hv, hin, hmem, fun _ => hcnt, fun _ _ => hfault, fun _ h => absurd h (by omega), nofun⟩
  · cases hh : (core s n.val).combHeld.contains (q, fRStep f % 2) with
    | true =>
      obtain ⟨v, hv, hfault⟩ := combineContribution_overrun hl n hs h2 hn h40 hq hh
      exact ⟨v, hv, fun _ => hfault, nofun⟩
    | false =>
      cases hb : bitAt (qw s n.val q 1) 6 with
      | true => exact ⟨_, exec_combineContribution hl n hs h2 hn (by omega), nofun, fun _ => nofun⟩
      | false =>
        obtain ⟨v, hv, hadd⟩ := combineContribution_added hl n hs h2 hn h40 hq ha hap hh hb
        exact ⟨v, hv, nofun, fun _ _ => hadd⟩

end Sys2Proof.Machine
end

section
/-! SUPPORT. The rows of an event at the intake (R81 to R87, R152, R160): stray, deferred, unmatched, or taken into the slots. -/
namespace Sys2Proof.Machine

/-! ### Places of the deferral area -/

/-- A deferral area that is not full has a free place. -/
theorem deferral_free {l : List Nat} (h : l.length < 64) :
    ∃ k, ((List.range 64).find? fun k => !l.contains k) = some k ∧ k < 64 ∧ k ∉ l := by
  cases hf : (List.range 64).find? fun k => !l.contains k with
  | some k =>
    have hp := List.find?_some hf
    exact ⟨k, rfl, List.mem_range.1 (List.mem_of_find?_eq_some hf), by simpa using hp⟩
  | none =>
    have hsub : List.range 64 ⊆ l := fun k hk => by simpa using List.find?_eq_none.1 hf k hk
    have hlen := (List.nodup_range.subperm hsub).length_le
    rw [List.length_range] at hlen
    omega

/-- The event `f` stored in place `k` of the deferral area. -/
def deferStored (s : State) (n k : Nat) (f : Flit) : State :=
  upCore (stU s (deferAddr s n k) 8 f.toNat) n fun c => { c with deferred := c.deferred ++ [k] }

theorem deferEvent_eq {s : State} {n k : Nat} (f : Flit)
    (hk : ((List.range 64).find? fun k => !(core s n).deferred.contains k) = some k) :
    deferEvent s n f = noteDefer (cbump (deferStored s n k f) n R.intakeDeferred 1) n := by
  unfold deferEvent
  rw [hk]
  rfl

section
variable (s : State) (n k : Nat) (f : Flit)

theorem deferStored_mem : (deferStored s n k f).mem = (stU s (deferAddr s n k) 8 f.toNat).mem := upCore_mem ..

theorem deferStored_coreRegs : (deferStored s n k f).coreRegs = s.coreRegs := (upCore_coreRegs ..).trans (stU_coreRegs ..)

theorem core_deferStored :
    core (deferStored s n k f) n = { core s n with deferred := (core s n).deferred ++ [k] } := by
  rw [deferStored, core_upCore_self, core_of_cores (stU_cores ..)]

end

/-! ### Rows -/

section
variable {s : State} (hl : live s = true) (n : CoreId) {f : Flit} (h1 : fType f ≤ 1) (hn : nextLocal s n.val f = true)
  (hs : stopped s n.val = false) (hnd : nextDeferred s n.val = none)
include hl h1 hn hs hnd

theorem exec_eventIntake (hst : intakeStalled s n.val f = false) :
    exec (.eventIntake n f .none) s = .next (after s (acceptEvent (takeLocal s n.val f) n.val f)) := by
  refine (rfl : exec _ s = execEventIntake n f .none s).trans ((act_after _ hl).trans ?_)
  rw [if_neg (by simp [hst, hnd]; omega), engineTakes_next _ hs hn]
  rfl

/-- An event at a core without a job is stray, and no receipt. -/
theorem eventIntake_stray (ha : assigned s n.val = false) : ∃ v, exec (.eventIntake n f .none) s = .next v
    ∧ counted s v n.val R.intakeStray 1 ∧ (core v n.val).rx = (core s n.val).rx.erase f
    ∧ (core v n.val).recv = (core s n.val).recv ∧ v.mem = s.mem ∧ coreRegsKept s v n.val [R.intakeStray] := by
  have ha' : assigned (takeLocal s n.val f) n.val = false := ha
  have hcore : core (after s (cbump (takeLocal s n.val f) n.val R.intakeStray 1)) n.val = core (takeLocal s n.val f) n.val :=
    (core_after ..).trans (core_of_cores (cbump_cores ..) _)
  refine ⟨_, exec_eventIntake hl n h1 hn hs hnd (by simp [intakeStalled, ha]), ?_⟩
  rw [acceptEvent_stray ha', hcore, core_takeLocal_self]
  exact ⟨counted_after _ (counted_cbump (takeLocal s n.val f) ..), rfl, rfl, (after_mem ..).trans (cbump_mem ..),
    coreRegsKept_after (coreRegsKept_cbump (takeLocal s n.val f) _ _ (by decide) (by simp))⟩

variable (ha : assigned s n.val = true)
include ha

/-- An event that must wait goes into a free place of the deferral area. -/
theorem eventIntake_deferred (hd : mustDefer s n.val f = true) (hlen : (core s n.val).deferred.length < 64) :
    ∃ v k, exec (.eventIntake n f .none) s = .next v ∧ k < 64 ∧ k ∉ (core s n.val).deferred
      ∧ (core v n.val).deferred = (core s n.val).deferred ++ [k] ∧ ldU v (deferAddr s n.val k) 8 = f.toNat
      ∧ counted s v n.val R.intakeDeferred 1 ∧ (core v n.val).recv = (core s n.val).recv
      ∧ ∀ a, (a < deferAddr s n.val k ∨ deferAddr s n.val k + 8 ≤ a) → ldB v a = ldB s a := by
  obtain ⟨k, hk, hk64, hfree⟩ := deferral_free hlen
  have ha' : assigned (takeLocal s n.val f) n.val = true := ha
  have hcore : core (takeLocal s n.val f) n.val = { core s n.val with rx := (core s n.val).rx.erase f } :=
    core_takeLocal_self ..
  have hst : intakeStalled s n.val f = false := by simp [intakeStalled, hlen]
  refine ⟨_, k, exec_eventIntake hl n h1 hn hs hnd hst, hk64, hfree, ?_⟩
  rw [acceptEvent_waits ha' (by rwa [mustDefer_takeLocal]), deferEvent_eq f (k := k) (by rwa [hcore])]
  have hxm := deferStored_mem (takeLocal s n.val f) n.val k f
  have hxr (r : Nat) : cr (deferStored (takeLocal s n.val f) n.val k f) n.val r = cr s n.val r :=
    cr_of_coreRegs (t := deferStored (takeLocal s n.val f) n.val k f) (s := takeLocal s n.val f) (deferStored_coreRegs ..) n.val r
  have hxc := core_deferStored (takeLocal s n.val f) n.val k f
  generalize deferStored (takeLocal s n.val f) n.val k f = x at hxm hxr hxc
  have hvm : (after s (noteDefer (cbump x n.val R.intakeDeferred 1) n.val)).mem = x.mem :=
    (after_mem ..).trans ((noteDefer_mem ..).trans (cbump_mem ..))
  have hvc : core (after s (noteDefer (cbump x n.val R.intakeDeferred 1) n.val)) n.val = core x n.val :=
    (core_after ..).trans (core_of_cores ((noteDefer_cores ..).trans (cbump_cores ..)) _)
  rw [hvc, hxc, hcore]
  refine ⟨rfl, ?_, ?_, rfl, fun a h => ?_⟩
  · rw [ldU_of_mem (hvm.trans hxm)]
    exact (ldU_stU_self ..).trans (Nat.mod_eq_of_lt f.isLt)
  · exact counted_after _ (counted_to (counted_from (hxr _) (counted_cbump ..)) (noteDefer_cr _ _ (by decide) (by decide)))
  · rw [ldB_of_mem (hvm.trans hxm)]
    exact ldB_stU_out (takeLocal s n.val f) _ _ _ _ h

variable (hd : mustDefer s n.val f = false)
include hd

/-- An event that no matrix takes counts alone. -/
theorem eventIntake_unmatched
    (hm : ∀ m, matchDesc s n.val (fRow f) = some m → dWidth (descA s n.val m) = 3) :
    ∃ v, exec (.eventIntake n f .none) s = .next v ∧ counted s v n.val R.intakeEvents 1 ∧ counted s v n.val R.intakeNomatch 1
      ∧ Sparse.get (fun _ => 0) (core v n.val).recv (fStep f)
          = Sparse.get (fun _ => 0) (core s n.val).recv (fStep f) + 1 ∧ v.mem = s.mem
      ∧ coreRegsKept s v n.val [R.intakeEvents, R.intakeNomatch, R.intakeAnti] := by
  have ha' : assigned (takeLocal s n.val f) n.val = true := ha
  refine ⟨_, exec_eventIntake hl n h1 hn hs hnd (by simp [intakeStalled, hd]), ?_⟩
  rw [acceptEvent_unmatched ha' (by rwa [mustDefer_takeLocal]) hm, takeNone_eq]
  have hkept := eventCounted_kept (takeLocal s n.val f) n.val 1 f (r := R.intakeNomatch) (by decide)
  refine ⟨counted_after _ (eventCounted_events (takeLocal s n.val f) n.val 1 f (by decide) (by decide)),
    counted_after _ (eventCounted_counted (takeLocal s n.val f) n.val 1 f (by decide) (by decide) (by decide)), ?_, ?_,
    coreRegsKept_after hkept⟩
  · rw [core_after, countRecv_recv _ _ _ (fStep_lt f), core_of_cores (eventCounted_cores ..), core_takeLocal_self]
  · exact (after_mem ..).trans (eventCounted_mem ..)

end

/-! ### An event that a matrix takes -/

section
variable {p : State × Bool} (hp : p.2 = false) (n : Nat) (a : W64) (f : Flit)
include hp

theorem rowNoted_timely : rowNoted p n a f =
    countRecv (if dPlastic a then preAdd p.1 n (fRow f) (fStep f) (preAmount f a) else p.1) n (fStep f) 1 := by
  unfold rowNoted
  rw [hp]
  rfl

theorem rowNoted_coreRegs : (rowNoted p n a f).coreRegs = p.1.coreRegs := by
  rw [rowNoted_timely hp, countRecv, upCore_coreRegs]
  split <;> rfl

theorem rowNoted_mem : (rowNoted p n a f).mem = p.1.mem := by
  rw [rowNoted_timely hp, countRecv, upCore_mem]
  split <;> rfl

theorem rowNoted_rx : (core (rowNoted p n a f) n).rx = (core p.1 n).rx := by
  rw [rowNoted_timely hp, countRecv, core_upCore_self]
  split
  · rw [preAdd, core_upCore_self]
  · rfl

theorem rowNoted_recv : Sparse.get (fun _ => 0) (core (rowNoted p n a f) n).recv (fStep f)
    = Sparse.get (fun _ => 0) (core p.1 n).recv (fStep f) + 1 := by
  rw [rowNoted_timely hp, countRecv_recv _ _ _ (fStep_lt f)]
  split
  · rw [preAdd, core_upCore_self]
  · rfl

theorem rowNoted_pre (ha : dPlastic a = true) : Sparse.get (fun _ => 0) (core (rowNoted p n a f) n).pre (fRow f * 4 + fStep f)
    = wrap 16 (Sparse.get (fun _ => 0) (core p.1 n).pre (fRow f * 4 + fStep f) + preAmount f a) := by
  rw [rowNoted_timely hp, if_pos ha, countRecv, core_upCore_self, preAdd, core_upCore_self]
  exact (Sparse.get_set ..).trans (if_pos rfl)

end

theorem preAmount_signed (f : Flit) (a : W64) : preAmount f a =
    if fType f = 1 then (if fAnti f then -((signedX f a).natAbs : Int) else (signedX f a).natAbs)
    else (if fAnti f then -256 else 256) := by
  have habs : (signedX f a).natAbs = (intakeX f (dZp a)).natAbs := by
    unfold signedX
    split
    · exact Int.natAbs_neg _
    · rfl
  rw [habs, preAmount]
  split <;> split <;> rfl

/-- Event `f` taken from those that wait at core `n`, and counted as one for a matrix with descriptor `a`. -/
def eventMatched (s : State) (n : Nat) (a : W64) (f : Flit) : State :=
  eventCounted (takeLocal s n f) n R.intakeReads (dStride a / 32) f

section
variable (s : State) (n : Nat) (a : W64) (f : Flit)

theorem eventMatched_kept : coreRegsKept s (eventMatched s n a f) n [R.intakeEvents, R.intakeReads, R.intakeAnti] :=
  eventCounted_kept (takeLocal s n f) n _ f (by decide)

theorem eventMatched_cr (hn : n < 1024) {r : Nat} (hr : r < 0x8000) (h : r ∉ [R.intakeEvents, R.intakeReads, R.intakeAnti]) :
    cr (eventMatched s n a f) n r = cr s n r := eventMatched_kept s n a f n r hn hr (.inr h)

theorem eventMatched_mem : (eventMatched s n a f).mem = s.mem := eventCounted_mem ..

theorem core_eventMatched : core (eventMatched s n a f) n = { core s n with rx := (core s n).rx.erase f } :=
  (core_of_cores (eventCounted_cores ..) n).trans (core_takeLocal_self ..)

end

/-- The registers of a descriptor are no counters of the intake. -/
theorem matrixDesc_apart {m : Nat} (hm : m < 16) :
    (R.matrixDescA m < 0x8000 ∧ R.matrixDescA m ∉ [R.intakeEvents, R.intakeReads, R.intakeAnti])
      ∧ R.matrixDescB m < 0x8000 ∧ R.matrixDescB m ∉ [R.intakeEvents, R.intakeReads, R.intakeAnti] := by
  simp only [List.mem_cons, List.not_mem_nil, or_false]
  unfold R.matrixDescA R.matrixDescB R.intakeEvents R.intakeReads R.intakeAnti
  omega

/-- The descriptors are as before the counting. -/
theorem desc_eventMatched (s : State) {n m : Nat} (a : W64) (f : Flit) (hn : n < 1024) (hm : m < 16) :
    descA (eventMatched s n a f) n m = descA s n m ∧ descB (eventMatched s n a f) n m = descB s n m := by
  obtain ⟨⟨ha, ha'⟩, hb, hb'⟩ := matrixDesc_apart hm
  exact ⟨eventMatched_cr s n a f hn ha ha', eventMatched_cr s n a f hn hb hb'⟩

theorem weightAt_eventMatched (s : State) {n m : Nat} (a : W64) (f : Flit) (hn : n < 1024) (hm : m < 16) (r k : Nat) :
    weightAt (eventMatched s n a f) n m r k = weightAt s n m r k := by
  obtain ⟨ha, hb⟩ := desc_eventMatched s a f hn hm
  unfold weightAt
  rw [ha, hb]
  dsimp only
  rw [ldB_of_mem (eventMatched_mem s n a f)]

section
variable {s : State} {n m : Nat} {f : Flit} {e : BitVec 32} (hn : n < 1024) (hm : matchDesc s n (fRow f) = some m)
  (hb : dBase (descB s n m) + dRows (descA s n m) * dStride (descA s n m) ≤ 0x40000) (he : (core s n).loadedStep ≠ e)
include hn hm hb he

/-- The products of a matched event go into the slots of a step that no neuron has loaded. -/
theorem eventMatched_row : ∃ t,
    addRow n m (fRow f - dRowFirst (descA s n m)) (signedX f (descA s n m)) e (List.range (dCols (descA s n m)))
      (eventMatched s n (descA s n m) f) false = (t, false)
    ∧ RowAdded n m (fRow f - dRowFirst (descA s n m)) (signedX f (descA s n m)) e (List.range (dCols (descA s n m)))
        (eventMatched s n (descA s n m) f) t := by
  obtain ⟨hda, hdb⟩ := desc_eventMatched s (descA s n m) f hn (matchDesc_lt hm)
  have hrow := matchDesc_row hm
  obtain ⟨hadd, hlate⟩ := addRow_timely (n := n) (m := m) (r := fRow f - dRowFirst (descA s n m)) (x := signedX f (descA s n m))
    (e := e) (List.range (dCols (descA s n m))) (eventMatched s n (descA s n m) f) false List.nodup_range
    (by rwa [core_eventMatched]) fun k hk => by
      rw [hda, hdb]
      exact weight_within hb (by omega) (List.mem_range.1 hk)
  exact ⟨_, Prod.ext rfl hlate, hadd⟩

end

section
variable {s t : State} {n m r : Nat} {f : Flit} {x : Int} {e : BitVec 32} {a : W64} (hn : n < 1024) (hm : m < 16)
  (ha : a = descA s n m) (h : RowAdded n m r x e (List.range (dCols a)) (eventMatched s n a f) t)
include hn hm ha h

/-- What the added row leaves in a slot, from the state before the event. -/
theorem RowAdded.slot_matched {k : Nat} (hk : k < dCols a) (hc : dColFirst a + k < neurons s n) :
    slot t n (dColFirst a + k) e = slot s n (dColFirst a + k) e + BitVec.ofInt 32 (weightAt s n m r k * x) := by
  have hcfg : cr (eventMatched s n a f) n R.coreConfig = cr s n R.coreConfig :=
    eventMatched_cr s n a f hn (by decide) (by decide)
  have hda := (desc_eventMatched s a f hn hm).1
  have hs := h.slots k (List.mem_range.2 hk)
  rw [hda, ← ha, neurons_congr hcfg] at hs
  rw [hs hc, slot_of_bytes hcfg _ e fun y _ _ => ldB_of_mem (eventMatched_mem s n a f) y, weightAt_eventMatched s a f hn hm]

theorem RowAdded.others_matched {y : Nat} (hy : ∀ k, k < dCols a → dColFirst a + k < neurons s n →
    y < slotAddr s n (dColFirst a + k) e ∨ slotAddr s n (dColFirst a + k) e + 4 ≤ y) : ldB t y = ldB s y := by
  have hcfg : cr (eventMatched s n a f) n R.coreConfig = cr s n R.coreConfig :=
    eventMatched_cr s n a f hn (by decide) (by decide)
  have hda := (desc_eventMatched s a f hn hm).1
  have ho := h.others y
  simp only [hda, ← ha, neurons_congr hcfg, slotAddr_congr hcfg, List.mem_range] at ho
  exact (ho hy).trans (ldB_of_mem (eventMatched_mem s n a f) y)

end

section
variable {s : State} (hl : live s = true) (n : CoreId) {f : Flit} (h1 : fType f ≤ 1) (hn : nextLocal s n.val f = true)
  (hs : stopped s n.val = false) (hnd : nextDeferred s n.val = none) (ha : assigned s n.val = true)
  (hd : mustDefer s n.val f = false)
include hl h1 hn hs hnd ha hd

/-- An event that a matrix takes, for a step that no neuron has loaded: its products, counts, receipt and pre sum. -/
theorem eventIntake_matched {m : Nat} {a : W64} {e : BitVec 32} {x : Int} (hm : matchDesc s n.val (fRow f) = some m)
    (hda : a = descA s n.val m) (hw : dWidth a ≠ 3) (hb : dBase (descB s n.val m) + dRows a * dStride a ≤ 0x40000)
    (he : e = eventStep s n.val (fStep f) + BitVec.ofNat 32 (dDelay a)) (hload : (core s n.val).loadedStep ≠ e)
    (hx : x = signedX f a) : ∃ v, exec (.eventIntake n f .none) s = .next v ∧ counted s v n.val R.intakeEvents 1
      ∧ counted s v n.val R.intakeReads (dStride a / 32) ∧ (core v n.val).rx = (core s n.val).rx.erase f
      ∧ Sparse.get (fun _ => 0) (core v n.val).recv (fStep f) = Sparse.get (fun _ => 0) (core s n.val).recv (fStep f) + 1
      ∧ (∀ k, k < dCols a → dColFirst a + k < neurons s n.val → slot v n.val (dColFirst a + k) e
        = slot s n.val (dColFirst a + k) e + BitVec.ofInt 32 (weightAt s n.val m (fRow f - dRowFirst a) k * x))
      ∧ (∀ y, (∀ k, k < dCols a → dColFirst a + k < neurons s n.val →
          y < slotAddr s n.val (dColFirst a + k) e ∨ slotAddr s n.val (dColFirst a + k) e + 4 ≤ y) → ldB v y = ldB s y)
      ∧ (dPlastic a = true → Sparse.get (fun _ => 0) (core v n.val).pre (fRow f * 4 + fStep f)
          = wrap 16 (Sparse.get (fun _ => 0) (core s n.val).pre (fRow f * 4 + fStep f) + preAmount f a))
      ∧ coreRegsKept s v n.val [R.intakeEvents, R.intakeReads, R.intakeAnti, R.ovbLateEvents] := by
  have ha' : assigned (takeLocal s n.val f) n.val = true := ha
  have hm16 := matchDesc_lt hm
  obtain ⟨t, hrow, hadd⟩ := eventMatched_row n.isLt hm (hda ▸ hb) hload
  rw [← hda, ← hx] at hrow hadd
  have htake : takeIn (takeLocal s n.val f) n.val m f = rowNoted (t, false) n.val a f := by
    rw [takeIn_eq, ← hrow, hx, he, hda]
    rfl
  refine ⟨_, exec_eventIntake hl n h1 hn hs hnd (by simp [intakeStalled, hd]), ?_⟩
  rw [acceptEvent_matched ha' (by rwa [mustDefer_takeLocal]) hm (hda ▸ hw), htake]
  have hvr : (after s (rowNoted (t, false) n.val a f)).coreRegs = (eventMatched s n.val a f).coreRegs :=
    (after_coreRegs ..).trans ((rowNoted_coreRegs rfl ..).trans hadd.coreRegs)
  have hvm : (after s (rowNoted (t, false) n.val a f)).mem = t.mem := (after_mem ..).trans (rowNoted_mem rfl ..)
  have htc : core t n.val = { core s n.val with rx := (core s n.val).rx.erase f } :=
    (core_of_cores hadd.cores _).trans (core_eventMatched s n.val a f)
  have hcfg : cr (after s (rowNoted (t, false) n.val a f)) n.val R.coreConfig = cr t n.val R.coreConfig :=
    cr_of_coreRegs (hvr.trans hadd.coreRegs.symm) ..
  have hevents := eventCounted_events (takeLocal s n.val f) n.val (dStride a / 32) f (r := R.intakeReads) (by decide) (by decide)
  have hreads := eventCounted_counted (takeLocal s n.val f) n.val (dStride a / 32) f (r := R.intakeReads) (by decide) (by decide)
    (by decide)
  rw [core_after]
  refine ⟨counted_to hevents (cr_of_coreRegs hvr ..), counted_to hreads (cr_of_coreRegs hvr ..), ?_, ?_, fun k hk hc => ?_,
    fun y hy => ?_, fun hp => ?_, ?_⟩
  · rw [rowNoted_rx rfl, htc]
  · rw [rowNoted_recv rfl, htc]
  · rw [slot_of_bytes hcfg _ e fun y _ _ => ldB_of_mem hvm y]
    exact hadd.slot_matched n.isLt hm16 hda hk hc
  · rw [ldB_of_mem hvm]
    exact hadd.others_matched n.isLt hm16 hda hy
  · rw [rowNoted_pre rfl _ _ _ hp, htc]
  · exact coreRegsKept_mono (coreRegsKept_trans (eventMatched_kept s n.val a f) (coreRegsKept_of_eq hvr _ _)) (by simp)

end

/-- Settles O35, row by row: an event that no matrix takes counts in `INTAKE_EVENTS` too by the model's choice (log
entry 89). -/
theorem eventIntakeAddsProducts : Obligations.EventIntakeAddsProducts := by
  unfold Obligations.EventIntakeAddsProducts
  intro n f s hl h1 hn hs hnd
  refine ⟨fun ha => eventIntake_stray hl n h1 hn hs hnd ha,
    fun ha hd hlen => eventIntake_deferred hl n h1 hn hs hnd ha hd hlen,
    fun ha hd hm => eventIntake_unmatched hl n h1 hn hs hnd ha hd hm, ?_⟩
  intro m a e x ha hd hm hda hw hb he hload hx
  have h := eventIntake_matched hl n h1 hn hs hnd ha hd hm hda hw hb he hload hx
  rwa [preAmount_signed, ← show x = signedX f a from hx] at h

end Sys2Proof.Machine
end

section
/-! SUPPORT. One neuron instruction: its predicate, its cycles, and what the multiplying instructions and SRSHR write. -/
namespace Sys2Proof.Machine

/-- The rounded product of a word's two sources, each reduced to 16 bits first (R117, R118). -/
def roundedProduct (g : GroupCtx) (l : Lane) (w : Nat) : Int :=
  rs (decide (w / 2 ^ 8 % 2 = 1))
    (sat (readReg g l (w / 2 ^ 14 % 32)) 16 * sat (readReg g l (w / 2 ^ 9 % 32)) 16) (w / 8 % 32)

/-- A word's source a, divided by 2^SH and rounded by the hash word of stream `B` (R125). -/
def hashRounded (g : GroupCtx) (l : Lane) (w : Nat) : Int :=
  if w / 8 % 32 = 0 then readReg g l (w / 2 ^ 14 % 32)
  else sr (readReg g l (w / 2 ^ 14 % 32)) (w / 8 % 32) (neHash g l (w / 2 ^ 9 % 32))

section
variable {g : GroupCtx} {xin : Int} {l : Lane} {pc w d : Nat}

/-! ### The predicate and the cycles -/

theorem laneInstr_of_pred_false (h : w / 2 ^ 24 % 4 = 1 ∧ l.f = false ∨ w / 2 ^ 24 % 4 = 2 ∧ l.f = true) :
    laneInstr g xin l pc w = l := by
  obtain ⟨hp, hf⟩ | ⟨hp, hf⟩ := h
  · simp [-Nat.reducePow, laneInstr, hp, hf]
  · simp [-Nat.reducePow, laneInstr, hp, hf]

theorem laneInstr_of_pred_true
    (h : w / 2 ^ 24 % 4 = 0 ∨ (w / 2 ^ 24 % 4 = 1 ∧ l.f = true) ∨ (w / 2 ^ 24 % 4 = 2 ∧ l.f = false)) :
    laneInstr g xin l pc w = execInstr g xin l pc w := by
  obtain hp | ⟨hp, hf⟩ | ⟨hp, hf⟩ := h
  · simp [-Nat.reducePow, laneInstr, hp]
  · simp [-Nat.reducePow, laneInstr, hp, hf]
  · simp [-Nat.reducePow, laneInstr, hp, hf]

/-- The cycles of an instruction depend on its opcode alone, and so not on its predicate. -/
theorem instrCost_congr {w' : Nat} (h : w / 2 ^ 26 % 64 = w' / 2 ^ 26 % 64) (graded : Bool) :
    instrCost graded w = instrCost graded w' := by
  rw [instrCost, instrCost, h]

/-! ### A register write -/

/-- A write to an S or T register saturates to 16 bits. -/
theorem writeReg_of_lt (hd : d < 12) (x : Int) :
    writeReg l pc d x = { l with r := l.r.set d (sat x 16), arithSat := l.arithSat + b2n (satHit x 16) } := by
  simp [writeReg, writable, hd, show d ≠ 13 by omega]

/-- A write to A saturates to 32 bits. -/
theorem writeReg_accumulator (x : Int) :
    writeReg l pc 13 x = { l with r := l.r.set 13 (sat x 32), arithSat := l.arithSat + b2n (satHit x 32) } := by
  simp [writeReg, writable]

/-! ### Table 4-5, by opcode -/

theorem execInstr_mul (h : w / 2 ^ 26 % 64 = 0x0D) :
    execInstr g xin l pc w = writeReg l pc (w / 2 ^ 19 % 32) (roundedProduct g l w) := by
  simp only [execInstr, h, s16, roundedProduct]

theorem execInstr_mac (h : w / 2 ^ 26 % 64 = 0x0E) (hd : w / 2 ^ 19 % 32 = 13) :
    execInstr g xin l pc w = writeReg l pc 13 (l.r.getD 13 0 + roundedProduct g l w) := by
  simp only [execInstr, h, hd, s16, roundedProduct, if_true]

theorem execInstr_msu (h : w / 2 ^ 26 % 64 = 0x0F) (hd : w / 2 ^ 19 % 32 = 13) :
    execInstr g xin l pc w = writeReg l pc 13 (l.r.getD 13 0 - roundedProduct g l w) := by
  simp only [execInstr, h, hd, s16, roundedProduct, if_true]

theorem execInstr_srshr (h : w / 2 ^ 26 % 64 = 0x16) :
    execInstr g xin l pc w = writeReg l pc (w / 2 ^ 19 % 32) (hashRounded g l w) := by
  simp only [execInstr, h, hashRounded]

end

/-- Settles O60, by the value of the predicate field and then by opcode. A must-be-0 field that is set changes nothing, by
the model's choice (log entry 144). -/
theorem neuronInstructions : Obligations.NeuronInstructions := by
  unfold Obligations.NeuronInstructions
  rintro g xin l pc w d sh a b half rfl rfl rfl rfl rfl
  refine ⟨laneInstr_of_pred_false, fun graded w' h => instrCost_congr h graded, fun hp => ?_⟩
  rw [laneInstr_of_pred_true hp]
  refine ⟨fun hop hd => ?mul, fun hop hd => ?mac, fun hop hd => ?msu, fun x hop hd hx => ?srshr⟩
  case mul => exact (execInstr_mul hop).trans (writeReg_of_lt hd _)
  case mac => exact (execInstr_mac hop hd).trans (writeReg_accumulator _)
  case msu => exact (execInstr_msu hop hd).trans (writeReg_accumulator _)
  case srshr =>
    subst hx
    exact (execInstr_srshr hop).trans (writeReg_of_lt hd _)

end Sys2Proof.Machine
end

section
/-! SUPPORT. A rollback pass (R176 to R181): what it leaves of its core, and of everything else. -/
namespace Sys2Proof.Machine

/-- `t` comes from `s` by a part of a rollback pass of core `n`: it stores within the core, and the hub's registers, the step
that is loaded and the number of passes stay. -/
structure PassWork (n : Nat) (s t : State) : Prop where
  passes : cr t n R.ovbPasses = cr s n R.ovbPasses
  mem : ∀ a, (a < coreBase n ∨ coreBase n + 0x100000 ≤ a) → ldB t a = ldB s a
  hub : t.regs = s.regs
  loadedStep : (core t n).loadedStep = (core s n).loadedStep

namespace PassWork
variable {n : Nat}

theorem refl (s : State) : PassWork n s s := ⟨rfl, fun _ _ => rfl, rfl, rfl⟩

theorem trans {s t u : State} (h : PassWork n s t) (k : PassWork n t u) : PassWork n s u :=
  ⟨k.passes.trans h.passes, fun a ha => (k.mem a ha).trans (h.mem a ha), k.hub.trans h.hub, k.loadedStep.trans h.loadedStep⟩

theorem ite {s t u : State} {c : Prop} [Decidable c] (h : PassWork n s t) (k : PassWork n s u) :
    PassWork n s (if c then t else u) := by
  split
  · exact h
  · exact k

theorem foldl {α : Type} {f : State → α → State} : ∀ (l : List α) (s : State),
    (∀ t, ∀ x ∈ l, PassWork n t (f t x)) → PassWork n s (l.foldl f s)
  | [], s, _ => refl s
  | x :: l, s, hf => (hf s x (List.mem_cons_self ..)).trans (foldl l _ fun t y hy => hf t y (List.mem_cons_of_mem x hy))

theorem upCore (s : State) {f : Core → Core} (hf : ∀ c, (f c).loadedStep = c.loadedStep) : PassWork n s (upCore s n f) :=
  ⟨rfl, fun _ _ => rfl, rfl, by rw [core_upCore_self, hf]⟩

theorem cbump (s : State) {r : Nat} (k : Nat) (hr : r < 0x8000) (hne : R.ovbPasses ≠ r) : PassWork n s (cbump s n r k) :=
  ⟨cr_cbump_ne s k hr (by decide) hne, fun _ _ => rfl, rfl, rfl⟩

theorem stN (s : State) {a : Nat} {l : List Byte} (h1 : coreBase n ≤ a) (h2 : a + l.length ≤ coreBase n + 0x100000) :
    PassWork n s (stN s a l) := by
  refine ⟨?_, fun x hx => ldB_stN_out l s a x (by omega), ?_, ?_⟩ <;> rw [stN_frame] <;> rfl

end PassWork

section
variable (s : State) (n : Nat)

theorem countLanes_pass (ls : List Lane) : PassWork n s (countLanes s n ls) :=
  ((PassWork.cbump s _ (r := R.neArithSat) (by decide) (by decide)).trans (.cbump _ _ (r := R.neuSatFire) (by decide) (by decide))).trans
    (.cbump _ _ (r := R.neBadOp) (by decide) (by decide))

theorem pushEmit_pass (k at_ : Nat) (l : List Flit) : PassWork n s (pushEmit s n k at_ l) :=
  .ite (.refl s) (.upCore s fun _ => rfl)

/-- A dirty neuron's late sum is read and cleared, and joins what was retained. -/
theorem rerunLoad_pass {i : Nat} (t : BitVec 32) (h : i < 4096) : PassWork n s (rerunLoad s n i t).2 := by
  obtain ⟨h1, h2⟩ := slotAddr_within s n i t (by omega)
  unfold rerunLoad
  extract_lets r a b
  have ha : PassWork n s a := .stN s h1 (by rw [leBytes_length]; omega)
  have hb : PassWork n a b := .upCore a fun _ => rfl
  exact (ha.trans hb).trans (.ite (.cbump b 1 (by decide) (by decide)) (.refl b))

theorem rerunGroupLoad_pass (t : BitVec 32) : ∀ (l : List Nat) (s : State), (∀ i ∈ l, i < 4096) →
    PassWork n s (rerunGroupLoad n t l s).2 ∧ (rerunGroupLoad n t l s).1.map (·.1) = l
  | [], s, _ => ⟨.refl s, rfl⟩
  | i :: l, s, h => by
    obtain ⟨hw, hl⟩ := rerunGroupLoad_pass t l (rerunLoad s n i t).2 fun x hx => h x (List.mem_cons_of_mem i hx)
    exact ⟨(rerunLoad_pass s n t (h i (List.mem_cons_self ..))).trans hw, congrArg (i :: ·) hl⟩

/-- A changed decision is counted, and its anti-event and its new emission go into the emit buffer. -/
theorem revise_pass (q k : Nat) (t : BitVec 32) (g : GroupCtx) {l : Lane} (h : l.nid < 4096) :
    PassWork n s (revise n q k t g s l) := by
  have hb := stateBytes_length l.r
  unfold revise
  extract_lets old a first b c d
  have ha : PassWork n s a := .stN s (by unfold stateAddr; omega) (by simp only [stateAddr, Bool.false_eq_true, if_false]; omega)
  have hb : PassWork n a b := .cbump a 1 (by decide) (by decide)
  have hc : PassWork n b c := .ite (pushEmit_pass ..) (.refl b)
  have hd : PassWork n a d := .ite (.refl a) ((hb.trans hc).trans (.ite (pushEmit_pass ..) (.refl c)))
  exact (ha.trans hd).trans ((PassWork.cbump d 1 (by decide) (by decide)).trans (.upCore _ fun _ => rfl))

theorem reviseBehind_pass (t : BitVec 32) {b : Option Behind} (h : BehindWithin b) : PassWork n s (reviseBehind n t s b) := by
  cases b with
  | none => exact .refl s
  | some x => exact .foldl _ _ fun u l hl => revise_pass u n _ _ _ _ (h x rfl l hl)

theorem rerunExec_pass (q : Nat) (t : BitVec 32) (k : Nat) {l : List Nat} (hl : ∀ i ∈ l, i < 4096) :
    PassWork n s (rerunExec n q t s k l).1 ∧ BehindWithin (some (rerunExec n q t s k l).2) := by
  unfold rerunExec
  extract_lets g prog ld b ls c
  obtain ⟨hld, hlist⟩ := rerunGroupLoad_pass n t l s hl
  have hc : PassWork n b c := countLanes_pass b n ls
  refine ⟨(hld.trans hc).trans (.ite (.cbump c 1 (by decide) (by decide)) (.refl c)), ?_⟩
  rintro _ ⟨⟩ x hx
  obtain ⟨p, hp, rfl⟩ := List.mem_map.1 hx
  rw [runLane_nid]
  exact hl p.1 (hlist ▸ List.mem_map_of_mem hp)

end

/-! ### The flow of a pass -/

/-- A pass under way from `s`: its work so far, and the group behind. -/
structure FlowPass (n : Nat) (s : State) (x : Flow × Nat) : Prop where
  work : PassWork n s x.1.s
  behind : BehindWithin x.1.behind

section
variable {n : Nat} {s : State} {x : Flow × Nat} (t : BitVec 32)

theorem rerunGroup_flow (q : Nat) (h : FlowPass n s x) (k : Nat) : FlowPass n s (rerunGroup n q t x k) := by
  unfold rerunGroup
  extract_lets u g l y
  split
  · exact h
  · obtain ⟨hw, hb⟩ := rerunExec_pass u n q t k (l := l) fun i hi => groupNeurons_lt u n g k i (List.mem_of_mem_filter hi)
    exact ⟨(h.work.trans hw).trans (reviseBehind_pass _ n t h.behind), hb⟩

theorem rerunGroups_flow (q : Nat) : ∀ (l : List Nat) (x : Flow × Nat), FlowPass n s x →
    FlowPass n s (l.foldl (rerunGroup n q t) x)
  | [], _, h => h
  | k :: l, _, h => rerunGroups_flow q l _ (rerunGroup_flow t q h k)

/-- One population of a pass. -/
def rerunPop (n : Nat) (t : BitVec 32) (x : Flow × Nat) (q : Nat) : Flow × Nat :=
  let g := groupCtx x.1.s n q t
  if bitAt (g.w 4) 0 then (List.range (cdiv (fld (g.w 4) 13 12 + 1) 16)).foldl (rerunGroup n q t) x else x

theorem rerunPops_flow : ∀ (l : List Nat) (x : Flow × Nat), FlowPass n s x → FlowPass n s (l.foldl (rerunPop n t) x)
  | [], _, h => h
  | q :: l, x, h => rerunPops_flow l _ <| by
    unfold rerunPop
    dsimp only
    split
    · exact rerunGroups_flow t q _ _ h
    · exact h

end

/-- The groups of a pass, up to the write-back of the last. -/
def passFlow (s : State) (n : Nat) : Flow × Nat :=
  (List.range 16).foldl (rerunPop n (core s n).loadedStep) ({ s := s }, 8)

/-- The pass with its last group written back, before its counters. -/
def passWritten (s : State) (n : Nat) : State :=
  reviseBehind n (core s n).loadedStep (passFlow s n).1.s (passFlow s n).1.behind

theorem rollbackPass_eq (s : State) (n : Nat) : rollbackPass s n =
    upCore (cbump (cbump (passWritten s n) n R.ovbPasses 1) n R.ovbRerunCycles (passFlow s n).2) n
      fun c => { c with dirty := [] } := rfl

theorem passWritten_work (s : State) (n : Nat) : PassWork n s (passWritten s n) := by
  obtain ⟨hw, hb⟩ := rerunPops_flow (core s n).loadedStep (List.range 16) _
    (⟨.refl s, nofun⟩ : FlowPass n s ({ s := s }, 8))
  exact hw.trans (reviseBehind_pass _ n _ hb)

/-- No dirty neuron shows in `OVB_STATUS` where there is none (Table 7-4). -/
theorem ovbStatus_dirty_none {v : State} {n : Nat} (h : (core v n).dirty = []) : fld (ovbStatusRead v n) 16 13 = 0 := by
  have hbit (b : Bool) : b2n b ≤ 1 := by cases b <;> decide
  unfold ovbStatusRead
  extract_lets c hold
  rw [show c.dirty.length = 0 from congrArg List.length h, fld, w64, BitVec.toNat_ofNat, Nat.shiftRight_eq_div_pow]
  have h0 := hbit (crB v n R.ovbStatus 0)
  have h1 := hbit (ovbOn v n && rollbackPending v n)
  have h2 := hbit ((stalledOn v n).any fun e => e.kind ≠ 0)
  have h3 := hbit hold
  have h4 := hbit (c.opWait.any fun w => fld (qw v n w.q 1) 0 2 = 0 && extHeld v n w.q)
  omega

/-- What the whole pass leaves (R176, R181). -/
theorem rollbackPass_leaves (s : State) (n : Nat) : (core (rollbackPass s n) n).dirty = []
    ∧ counted s (rollbackPass s n) n R.ovbPasses 1
    ∧ (core (rollbackPass s n) n).loadedStep = (core s n).loadedStep
    ∧ (∀ a, (a < coreBase n ∨ coreBase n + 0x100000 ≤ a) → ldB (rollbackPass s n) a = ldB s a)
    ∧ (rollbackPass s n).regs = s.regs := by
  have hw := passWritten_work s n
  rw [rollbackPass_eq]
  generalize passWritten s n = w at hw
  generalize (passFlow s n).2 = cycles
  refine ⟨?_, ?_, ?_, fun a ha => ?_, ?_⟩
  · rw [core_upCore_self]
  · refine counted_from hw.passes (counted_to (counted_cbump w n R.ovbPasses 1) ?_)
    rw [cr_of_coreRegs (upCore_coreRegs ..), cr_cbump_ne _ _ (by decide) (by decide) (by decide)]
  · rw [core_upCore_self, core_of_cores ((cbump_cores ..).trans (cbump_cores ..))]
    exact hw.loadedStep
  · rw [ldB_of_mem (upCore_mem ..), ldB_of_mem (cbump_mem ..), ldB_of_mem (cbump_mem ..), hw.mem a ha]
  · rw [upCore_regs, cbump_regs, cbump_regs, hw.hub]

/-- The row of a pass: it runs where a dirty bit is set and the engine is free. -/
theorem rollbackPass_row {s : State} (hl : live s = true) (n : CoreId) (hs : stopped s n.val = false)
    (hd : (core s n.val).dirty ≠ []) (hu : updateStalled s n.val = false) :
    ∃ v, exec (.rollbackPass n .none) s = .next v ∧ (core v n.val).dirty = [] ∧ fld (ovbStatusRead v n.val) 16 13 = 0
      ∧ counted s v n.val R.ovbPasses 1 ∧ (core v n.val).loadedStep = (core s n.val).loadedStep
      ∧ (∀ a, (a < coreBase n.val ∨ coreBase n.val + 0x100000 ≤ a) → ldB v a = ldB s a) ∧ hubRegsKept s v [] := by
  have hexec : exec (.rollbackPass n .none) s = .next (after s (rollbackPass s n.val)) := by
    refine (rfl : exec _ s = execRollbackPass n .none s).trans ((act_after _ hl).trans ?_)
    rw [if_pos (by simp [hd, hu, hs])]
    rfl
  obtain ⟨hdirty, hcount, hstep, hmem, hhub⟩ := rollbackPass_leaves s n.val
  have hdirty' : (core (after s (rollbackPass s n.val)) n.val).dirty = [] := by rw [core_after, hdirty]
  refine ⟨_, hexec, hdirty', ovbStatus_dirty_none hdirty', counted_after s hcount, ?_, fun a ha => ?_,
    hubRegsKept_of_regs hhub []⟩
  · rw [core_after, hstep]
  · rw [ldB_after, hmem a ha]

end Sys2Proof.Machine
end

section
/-! SUPPORT. The registers that name the running plasticity, entry by entry, and what the end of a step's plasticity leaves
(R156, R157, R162, R165). -/
namespace Sys2Proof.Machine

/-! ### The entries of a step -/

/-- The counters that the entries of a step add to (Table 6-3). -/
def plasCounters : List Nat :=
  [R.plasWrites, R.plasClamped, R.plasRows, R.plasPreSat, R.plasModMissing, R.plasBadEntry]

theorem coreRegsKept_foldl {α : Type} {n : Nat} {regs : List Nat} {f : State → α → State}
    (hf : ∀ t x, coreRegsKept t (f t x) n regs) : ∀ (l : List α) (s : State), coreRegsKept s (l.foldl f s) n regs
  | [], _ => coreRegsKept_of_eq rfl n regs
  | x :: l, s => coreRegsKept_trans (hf s x) (coreRegsKept_foldl hf l (f s x))

section
variable {n : Nat}

theorem plasRow_regs (e : PlasEntry) (p : PlasPass) (hash : Nat → Nat) (off r : Nat) : ∀ (l : List Nat) (s : State),
    coreRegsKept s (plasRow n e p hash off r l s) n plasCounters
  | [], s => coreRegsKept_of_eq rfl n _
  | j :: l, s => by
    unfold plasRow
    dsimp only
    split
    · exact plasRow_regs e p hash off r l s
    next c clamped _ =>
      have hwrite (u : State) : coreRegsKept u (cbump u n R.plasWrites 1) n plasCounters :=
        coreRegsKept_cbump u n 1 (by decide) (by simp [plasCounters])
      have hclamp (u : State) : coreRegsKept u (if clamped then cbump u n R.plasClamped 1 else u) n plasCounters := by
        split
        · exact coreRegsKept_cbump u n 1 (by decide) (by simp [plasCounters])
        · exact coreRegsKept_of_eq rfl n _
      exact coreRegsKept_trans (coreRegsKept_trans (coreRegsKept_of_eq (stB_coreRegs ..) n _) (hwrite _))
        (coreRegsKept_trans (hclamp _) (plasRow_regs e p hash off r l _))

theorem plasTraces_coreRegs (e : PlasEntry) (p : PlasPass) (s : State) : (plasTraces n e p s).coreRegs = s.coreRegs := by
  have hput (base inc : Nat) (ds ms : List Nat) : ∀ (l : List Nat) (s : State), (l.foldl (fun s i =>
      stB s (scratch n ((base + i) % 0x8000)) (BitVec.ofNat 8 (traceInc (ds.getD i 0) inc (ms.getD i 0)))) s).coreRegs
      = s.coreRegs := fun l => by
    induction l with
    | nil => exact fun _ => rfl
    | cons i l ih => exact fun s => (ih _).trans (stB_coreRegs ..)
  unfold plasTraces
  dsimp only
  split <;> simp only [hput]

theorem plasEntryRun_regs (s : State) (t : BitVec 32) (e : PlasEntry) (v : Int) :
    coreRegsKept s (plasEntryRun s n t e v) n plasCounters := by
  unfold plasEntryRun
  extract_lets a p hash rows exceeds s1 s2 s3 s4 gone units
  have h1 : coreRegsKept s s1 n plasCounters := coreRegsKept_foldl (fun u r => plasRow_regs e p hash _ r _ u) rows s
  have h2 : coreRegsKept s1 s2 n plasCounters := coreRegsKept_of_eq (plasTraces_coreRegs e p s1) n _
  have h3 : coreRegsKept s2 s3 n plasCounters :=
    coreRegsKept_trans (coreRegsKept_cbump s2 n _ (by decide) (by simp [plasCounters]))
      (coreRegsKept_cbump _ n _ (by decide) (by simp [plasCounters]))
  have h4 : coreRegsKept s3 s4 n plasCounters := coreRegsKept_upCore _ n _ _
  exact coreRegsKept_trans (coreRegsKept_trans (coreRegsKept_trans (coreRegsKept_trans h1 h2) h3) h4)
    (coreRegsKept_upCore _ n _ _)

theorem modFor_regs (s : State) (t : BitVec 32) (e : PlasEntry) : coreRegsKept s (modFor s n t e).2 n plasCounters := by
  unfold modFor
  split
  · exact coreRegsKept_of_eq rfl n _
  · split
    · exact coreRegsKept_of_eq rfl n _
    · extract_lets a b
      have ha : coreRegsKept s a n plasCounters := coreRegsKept_cbump s n 1 (by decide) (by simp [plasCounters])
      have hb : b.coreRegs = a.coreRegs := by
        unfold b
        split
        · exact wr_coreRegs ..
        · rfl
      dsimp only
      exact coreRegsKept_trans (coreRegsKept_trans ha (coreRegsKept_of_eq hb n _)) (coreRegsKept_upCore _ n _ _)

/-- An entry that needs a modulator, or not, leaves the registers alone but for the counters. -/
theorem modulated_regs (s : State) (t : BitVec 32) (e : PlasEntry) (c : Prop) [Decidable c] :
    coreRegsKept s (if c then modFor s n t e else (some 1, s)).2 n plasCounters := by
  split
  · exact modFor_regs s t e
  · exact coreRegsKept_of_eq rfl n _

theorem modulated_none {s : State} {t : BitVec 32} {e : PlasEntry} {c : Prop} [Decidable c]
    (h : (if c then modFor s n t e else (some 1, s)).1 = none) : crF s n R.plasMod 32 32 ≠ t.toNat := by
  intro ht
  split at h
  · rw [modFor, if_pos ht] at h
    cases h
  · cases h

/-- `u` comes from `s` by entries of core `n`'s running plasticity: the modulator stays, and of `PLAS_STATUS` all but the
entry and the row. -/
structure EntryRun (n : Nat) (s u : State) : Prop where
  modulator : cr u n R.plasMod = cr s n R.plasMod
  status : ∀ i, (i < 4 ∨ 20 ≤ i) → crB u n R.plasStatus i = crB s n R.plasStatus i

namespace EntryRun

theorem trans {s t u : State} (h : EntryRun n s t) (k : EntryRun n t u) : EntryRun n s u :=
  ⟨k.modulator.trans h.modulator, fun i hi => (k.status i hi).trans (h.status i hi)⟩

theorem of_regs (hn : n < 1024) {s t : State} (h : coreRegsKept s t n plasCounters) : EntryRun n s t :=
  ⟨h n _ hn (by decide) (.inr (by decide)), fun i _ => congrArg (bitAt · i) (h n _ hn (by decide) (.inr (by decide)))⟩

theorem cwF (s : State) {lo w : Nat} (v : Nat) (h4 : 4 ≤ lo) (h20 : lo + w ≤ 20) : EntryRun n s (cwF s n R.plasStatus lo w v) := by
  refine ⟨cr_cw_ne s _ (by decide) (by decide) (.inr (by decide)), fun i hi => ?_⟩
  rw [crB, Machine.cwF, cr_cw_self, bitAt_putFld, if_neg (by omega)]
  rfl

variable {s u : State} (h : EntryRun n s u)
include h

theorem active : plasActive u n = plasActive s n := h.status 0 (.inl (by decide))
theorem waits : crB u n R.plasStatus 2 = crB s n R.plasStatus 2 := h.status 2 (.inl (by decide))
theorem run : plasRun u n = plasRun s n := congrArg (BitVec.ofNat 32) (fld_congr fun k _ => h.status (32 + k) (.inr (by omega)))

end EntryRun

/-- `PLAS_STATUS` names entry `k` as the one that runs. -/
def entryReached (s : State) (n k : Nat) : State :=
  cwF (upCore s n fun c => { c with plasNext := k }) n R.plasStatus 4 2 k

/-- The modulator of entry `k`, which needs none unless its rule is three-factor (R154, R156). -/
def entryMod (s : State) (n : Nat) (t : BitVec 32) (k : Nat) : Option Int × State :=
  if (plasEntry s n k).rule = 2 then modFor (entryReached s n k) n t (plasEntry s n k) else (some 1, entryReached s n k)

theorem entryReached_run (hn : n < 1024) (s : State) (k : Nat) : EntryRun n s (entryReached s n k) :=
  .trans (.of_regs hn (coreRegsKept_upCore s n _ _)) (.cwF _ _ (by decide) (by decide))

theorem entryMod_run (hn : n < 1024) (s : State) (t : BitVec 32) (k : Nat) : EntryRun n s (entryMod s n t k).2 :=
  (entryReached_run hn s k).trans (.of_regs hn (modulated_regs _ t _ _))

/-- An entry waits only where the modulator of another step stands in `PLAS_MOD` (R156). -/
theorem entryMod_none (hn : n < 1024) {s : State} {t : BitVec 32} {k : Nat} (h : (entryMod s n t k).1 = none) :
    crF s n R.plasMod 32 32 ≠ t.toNat := by
  rw [crF, ← (entryReached_run hn s k).modulator]
  exact modulated_none h

section
variable {s : State} {t : BitVec 32} {k : Nat} {l : List Nat}

theorem plasEntries_invalid (h : (plasEntry s n k).valid = false) :
    plasEntries n t (k :: l) s = plasEntries n t l (upCore s n fun c => { c with plasNext := k }) := by
  rw [plasEntries]
  exact if_pos (by rw [h]; decide)

variable (h : (plasEntry s n k).valid = true)
include h

theorem plasEntries_bad (hb : plasGood (entryReached s n k) n (plasEntry s n k) = false) : plasEntries n t (k :: l) s
    = plasEntries n t l (addPlasCycles (cbump (entryReached s n k) n R.plasBadEntry 1) n 1) := by
  have hb' : ¬ plasGood (entryReached s n k) n (plasEntry s n k) = true := by rw [hb]; decide
  rw [plasEntries]
  exact (if_neg (not_not.2 h)).trans (if_pos hb')

variable (hg : plasGood (entryReached s n k) n (plasEntry s n k) = true)
include hg

theorem plasEntries_waits (hm : (entryMod s n t k).1 = none) : plasEntries n t (k :: l) s
    = upCore (cwB (entryMod s n t k).2 n R.plasStatus 2 true) n fun c =>
        { c with pendingRows := rowsFrom (entryMod s n t k).2 n k } := by
  rw [plasEntries]
  refine (if_neg (not_not.2 h)).trans ((if_neg (not_not.2 hg)).trans ?_)
  change (match (entryMod s n t k).1 with | none => _ | some v => _) = _
  rw [hm]
  rfl

theorem plasEntries_runs {v : Int} (hm : (entryMod s n t k).1 = some v) : plasEntries n t (k :: l) s
    = plasEntries n t l (cwF (plasEntryRun (entryMod s n t k).2 n t (plasEntry s n k) v) n R.plasStatus 8 12
        ((entryRows (entryMod s n t k).2 n (plasEntry s n k)).getLast?.getD 0)) := by
  rw [plasEntries]
  refine (if_neg (not_not.2 h)).trans ((if_neg (not_not.2 hg)).trans ?_)
  change (match (entryMod s n t k).1 with | none => _ | some v => _) = _
  rw [hm]
  rfl

end

/-- The plasticity of a step at one more entry: it goes on past it, or waits there for a modulator that has not come. -/
theorem plasEntries_cons (hn : n < 1024) (t : BitVec 32) (k : Nat) (l : List Nat) (s : State) :
    (∃ u, EntryRun n s u ∧ plasEntries n t (k :: l) s = plasEntries n t l u)
    ∨ (crF s n R.plasMod 32 32 ≠ t.toNat ∧ ∃ u rows, EntryRun n s u ∧ plasEntries n t (k :: l) s
        = upCore (cwB u n R.plasStatus 2 true) n fun c => { c with pendingRows := rows }) := by
  have hreach := entryReached_run hn s k
  have hmod := entryMod_run hn s t k
  cases hv : (plasEntry s n k).valid
  case false => exact .inl ⟨_, .of_regs hn (coreRegsKept_upCore s n _ _), plasEntries_invalid hv⟩
  cases hg : plasGood (entryReached s n k) n (plasEntry s n k)
  case false =>
    have hbad : coreRegsKept (entryReached s n k) (addPlasCycles (cbump (entryReached s n k) n R.plasBadEntry 1) n 1) n
        plasCounters := coreRegsKept_trans (coreRegsKept_cbump (entryReached s n k) n (r := R.plasBadEntry) 1 (by decide)
          (by simp [plasCounters])) (coreRegsKept_upCore _ n _ _)
    exact .inl ⟨_, hreach.trans (.of_regs hn hbad), plasEntries_bad hv hg⟩
  cases hm : (entryMod s n t k).1 with
  | none => exact .inr ⟨entryMod_none hn hm, _, _, hmod, plasEntries_waits hv hg hm⟩
  | some v =>
    have hrun : EntryRun n s (plasEntryRun (entryMod s n t k).2 n t (plasEntry s n k) v) :=
      hmod.trans (.of_regs hn (plasEntryRun_regs _ t _ v))
    exact .inl ⟨_, hrun.trans (.cwF _ (lo := 8) (w := 12) _ (by decide) (by decide)), plasEntries_runs hv hg hm⟩

/-- However far the entries come, the step that runs is the same. -/
theorem plasEntries_run (hn : n < 1024) (t : BitVec 32) (l : List Nat) (s : State) :
    plasActive (plasEntries n t l s) n = plasActive s n ∧ plasRun (plasEntries n t l s) n = plasRun s n := by
  induction l generalizing s with
  | nil => exact ⟨rfl, rfl⟩
  | cons k l ih =>
    obtain ⟨u, hu, he⟩ | ⟨-, u, rows, hu, he⟩ := plasEntries_cons hn t k l s
    · rw [he, ← hu.active, ← hu.run]
      exact ih u
    · have hbit (i : Nat) (hi : i ≠ 2) : crB (upCore (cwB u n R.plasStatus 2 true) n fun c => { c with pendingRows := rows }) n
          R.plasStatus i = crB u n R.plasStatus i := by
        rw [crB, cr_of_coreRegs (upCore_coreRegs ..), cwB, cr_cw_self, putBit, if_pos rfl, bitAt_setBit,
          decide_eq_false (by omega), Bool.or_false]
        rfl
      rw [he, ← hu.active, ← hu.run]
      exact ⟨hbit 0 (by decide), congrArg (BitVec.ofNat 32) (fld_congr fun k _ => hbit (32 + k) (by omega))⟩

/-- With the modulator of its step in `PLAS_MOD`, no entry waits (R156). -/
theorem plasEntries_end (hn : n < 1024) {t : BitVec 32} (l : List Nat) (s : State) (h : crF s n R.plasMod 32 32 = t.toNat) :
    (core (plasEntries n t l s) n).plasNext = 4
      ∧ crB (plasEntries n t l s) n R.plasStatus 2 = crB s n R.plasStatus 2 := by
  induction l generalizing s with
  | nil =>
    refine ⟨?_, rfl⟩
    rw [plasEntries, core_upCore_self]
  | cons k l ih =>
    obtain ⟨u, hu, he⟩ | ⟨hne, -⟩ := plasEntries_cons hn t k l s
    · rw [he, ← hu.waits]
      exact ih u (by rw [crF, hu.modulator]; exact h)
    · exact absurd h hne

end

end Sys2Proof.Machine
end

section
/-! SUPPORT. What the end of a step's plasticity leaves, and the rows of the Plasticity Engine (R156, R157, R162, R165). The
cost and the records follow the model's log entries 103, 105 and 127. -/
namespace Sys2Proof.Machine

section
variable {n : Nat}

theorem cr_cw_other (s : State) {r r' : Nat} (v : W64) (hr : r < 0x8000) (hr' : r' < 0x8000) (h : r' ≠ r) :
    cr (cw s n r v) n r' = cr s n r' := cr_cw_ne s v hr hr' (.inr h)

/-! ### The end of a step's plasticity -/

/-- The step that ended and its cost stand in the registers. -/
def plasRecorded (s : State) (n refused : Nat) : State :=
  let t := cwF (cbump s n (R.bankConflict 4) refused) n R.plasStep 0 32 (plasRun s n).toNat
  cw t n R.plasCycles (w64 (((core t n).plasCost + refused) % 2 ^ 32))

/-- The engine is idle again, and its longest run is noted. -/
def plasIdled (s : State) (n refused : Nat) : State :=
  let t := cwB (plasRecorded s n refused) n R.plasStatus 0 false
  cw t n R.plasCyclesMax (w64 (max (crF t n R.plasCyclesMax 0 32) (crF t n R.plasCycles 0 32)))

/-- The records of step `t` are used up (R152). -/
def recordsUsed (t : BitVec 32) (c : Core) : Core :=
  { c with
    pre := Sparse.clear c.pre fun k => k % 4 = t.toNat % 4
    post := Sparse.clear c.post fun k => k % 2 = t.toNat % 2
    plasNext := 0, pendingRows := [], plasUnits := [] }

/-- The plasticity of the running step is complete, but for the hold of its snapshot. -/
def plasClosed (s : State) (n refused : Nat) : State := upCore (plasIdled s n refused) n (recordsUsed (plasRun s n))

theorem plasComplete_cases (s : State) (n refused : Nat) : plasComplete s n refused = plasClosed s n refused
    ∨ plasComplete s n refused = cwB (plasClosed s n refused) n R.plasStatus 3 true := by
  unfold plasComplete
  extract_lets t a b c d e
  split
  · split
    · exact .inr rfl
    · exact .inl rfl
  · exact .inl rfl

theorem plasClosed_coreRegs (s : State) (refused : Nat) : (plasClosed s n refused).coreRegs = (plasIdled s n refused).coreRegs :=
  upCore_coreRegs ..

theorem plasRecorded_status (s : State) (refused : Nat) : cr (plasRecorded s n refused) n R.plasStatus = cr s n R.plasStatus := by
  rw [plasRecorded, cr_cw_other _ _ (by decide) (by decide) (by decide), cwF,
    cr_cw_other _ _ (by decide) (by decide) (by decide), cr_cbump_ne _ _ (by decide) (by decide) (by decide)]

theorem plasRecorded_cycles (s : State) (refused : Nat) : crF (plasRecorded s n refused) n R.plasCycles 0 32
    = ((core s n).plasCost + refused) % 2 ^ 32 := by
  rw [crF, plasRecorded, cr_cw_self, fld_w64 _ _ (by decide), Nat.mod_mod,
    core_of_cores ((cwF_cores ..).trans (cbump_cores ..))]

theorem plasRecorded_step (s : State) (refused : Nat) :
    crF (plasRecorded s n refused) n R.plasStep 0 32 = (plasRun s n).toNat := by
  rw [crF, plasRecorded, cr_cw_other _ _ (by decide) (by decide) (by decide), cwF, cr_cw_self,
    fld_putFld_self _ _ (by decide), Nat.mod_eq_of_lt (plasRun s n).isLt]

theorem plasRecorded_counted (s : State) (refused : Nat) : counted s (plasRecorded s n refused) n (R.bankConflict 4) refused := by
  refine counted_to (counted_cbump s n _ refused) ?_
  rw [plasRecorded, cr_cw_other _ _ (by decide) (by decide) (by decide), cwF,
    cr_cw_other _ _ (by decide) (by decide) (by decide)]

theorem plasRecorded_max (s : State) (refused : Nat) : cr (plasRecorded s n refused) n R.plasCyclesMax = cr s n R.plasCyclesMax := by
  rw [plasRecorded, cr_cw_other _ _ (by decide) (by decide) (by decide), cwF,
    cr_cw_other _ _ (by decide) (by decide) (by decide), cr_cbump_ne _ _ (by decide) (by decide) (by decide)]

/-- The engine's going idle touches `PLAS_STATUS` and the longest run alone. -/
theorem plasIdled_cr (s : State) (refused : Nat) {r : Nat} (hr : r < 0x8000) (h1 : r ≠ R.plasStatus) (h2 : r ≠ R.plasCyclesMax) :
    cr (plasIdled s n refused) n r = cr (plasRecorded s n refused) n r := by
  unfold plasIdled
  extract_lets t
  rw [cr_cw_other _ _ (by decide) hr h2]
  exact cr_cw_other _ _ (by decide) hr h1

theorem plasIdled_status (s : State) (refused : Nat) :
    cr (plasIdled s n refused) n R.plasStatus = putBit (cr s n R.plasStatus) 0 false := by
  unfold plasIdled
  extract_lets t
  rw [cr_cw_other _ _ (by decide) (by decide) (by decide), ← plasRecorded_status s refused]
  exact cr_cw_self ..

theorem plasIdled_max (s : State) (refused : Nat) : crF (plasIdled s n refused) n R.plasCyclesMax 0 32
    = max (crF s n R.plasCyclesMax 0 32) (((core s n).plasCost + refused) % 2 ^ 32) := by
  have hmax : cr (cwB (plasRecorded s n refused) n R.plasStatus 0 false) n R.plasCyclesMax = cr s n R.plasCyclesMax :=
    (cr_cw_other _ _ (by decide) (by decide) (by decide)).trans (plasRecorded_max s refused)
  have hcycles : cr (cwB (plasRecorded s n refused) n R.plasStatus 0 false) n R.plasCycles
      = cr (plasRecorded s n refused) n R.plasCycles := cr_cw_other _ _ (by decide) (by decide) (by decide)
  unfold plasIdled
  extract_lets t
  rw [crF, cr_cw_self, fld_w64 _ _ (by decide), crF, crF, hmax, hcycles, ← crF, ← crF, plasRecorded_cycles]
  exact Nat.mod_eq_of_lt (max_lt (fld_lt ..) (Nat.mod_lt _ (by decide)))

theorem plasIdled_frame (s : State) (refused : Nat) : (plasIdled s n refused).mem = s.mem
    ∧ (plasIdled s n refused).regs = s.regs ∧ (plasIdled s n refused).cores = s.cores := by
  refine ⟨?_, ?_, ?_⟩ <;> simp [plasIdled, plasRecorded]

/-- A snapshot of the step that ended is held for streaming (R165). -/
theorem plasComplete_held {s : State} {k : Nat} (refused : Nat) (h : (core s n).snapshot = some (k, plasRun s n)) :
    plasComplete s n refused = cwB (plasClosed s n refused) n R.plasStatus 3 true := by
  unfold plasComplete
  extract_lets t a b c d e
  have hd : core d n = core s n := core_of_cores (plasIdled_frame s refused).2.2 n
  have he : (core e n).snapshot = some (k, t) :=
    (congrArg Core.snapshot (core_upCore_self d n _)).trans ((congrArg Core.snapshot hd).trans h)
  rw [he]
  exact if_pos rfl

/-- The registers in which the end of a step's plasticity shows. -/
def plasEndRegs : List Nat := [R.plasStep, R.plasStatus, R.plasCycles, R.plasCyclesMax, R.bankConflict 4]

theorem plasClosed_regsKept (s : State) (refused : Nat) : coreRegsKept s (plasClosed s n refused) n plasEndRegs := by
  have hcw (u : State) {r : Nat} (v : W64) (hr : r < 0x8000) (h : r ∈ plasEndRegs) : coreRegsKept u (cw u n r v) n plasEndRegs :=
    coreRegsKept_cw u n v hr h
  have hrec : coreRegsKept s (plasRecorded s n refused) n plasEndRegs :=
    coreRegsKept_trans (coreRegsKept_trans (coreRegsKept_cbump s n refused (by decide) (by decide))
      (hcw _ _ (by decide) (by decide))) (hcw _ _ (by decide) (by decide))
  exact coreRegsKept_trans (coreRegsKept_trans (coreRegsKept_trans hrec (hcw _ _ (by decide) (by decide)))
    (hcw _ _ (by decide) (by decide))) (coreRegsKept_upCore _ n _ _)

theorem plasClosed_cycles (s : State) (refused : Nat) :
    crF (plasClosed s n refused) n R.plasCycles 0 32 = ((core s n).plasCost + refused) % 2 ^ 32 := by
  rw [crF, cr_of_coreRegs (plasClosed_coreRegs ..), plasIdled_cr _ _ (by decide) (by decide) (by decide), ← crF,
    plasRecorded_cycles]

/-- What the end of core `n`'s running plasticity leaves of `s`. -/
structure PlasEnded (n refused : Nat) (s v : State) : Prop where
  step : plasStep v n = plasRun s n
  idle : plasActive v n = false
  run : plasRun v n = plasRun s n
  cycles : crF v n R.plasCycles 0 32 = ((core s n).plasCost + refused) % 2 ^ 32
  longest : crF v n R.plasCyclesMax 0 32 = max (crF s n R.plasCyclesMax 0 32) (crF v n R.plasCycles 0 32)
  refusals : counted s v n (R.bankConflict 4) refused
  used : core v n = recordsUsed (plasRun s n) (core s n)
  regs : coreRegsKept s v n plasEndRegs
  mem : v.mem = s.mem
  hub : v.regs = s.regs

namespace PlasEnded
variable {refused : Nat} {s : State}

theorem closed : PlasEnded n refused s (plasClosed s n refused) where
  step := by
    rw [plasStep, crF, cr_of_coreRegs (plasClosed_coreRegs ..), plasIdled_cr _ _ (by decide) (by decide) (by decide), ← crF,
      plasRecorded_step, BitVec.ofNat_toNat, BitVec.setWidth_eq]
  idle := by
    rw [plasActive, crB, cr_of_coreRegs (plasClosed_coreRegs ..), plasIdled_status, putBit, if_neg Bool.false_ne_true, bitAt_clrBit,
      decide_eq_true rfl, Bool.not_true, Bool.and_false]
  run := by
    rw [plasRun, crF, cr_of_coreRegs (plasClosed_coreRegs ..), plasIdled_status, putBit, if_neg Bool.false_ne_true]
    refine congrArg (BitVec.ofNat 32) (fld_congr fun k _ => ?_)
    rw [bitAt_clrBit, decide_eq_false (by omega), Bool.not_false, Bool.and_true]
  cycles := plasClosed_cycles s refused
  longest := by
    rw [plasClosed_cycles, crF, cr_of_coreRegs (plasClosed_coreRegs ..), ← crF, plasIdled_max]
  refusals := by
    refine counted_to (plasRecorded_counted s refused) ?_
    rw [cr_of_coreRegs (plasClosed_coreRegs ..), plasIdled_cr _ _ (by decide) (by decide) (by decide)]
  used := by rw [plasClosed, core_upCore_self, core_of_cores (plasIdled_frame s refused).2.2]
  regs := plasClosed_regsKept s refused
  mem := (upCore_mem ..).trans (plasIdled_frame s refused).1
  hub := (upCore_regs ..).trans (plasIdled_frame s refused).2.1

/-- The hold of a snapshot shows in bit 3 of `PLAS_STATUS` alone. -/
theorem held {v : State} (h : PlasEnded n refused s v) : PlasEnded n refused s (cwB v n R.plasStatus 3 true) := by
  have hother {r : Nat} (hr : r < 0x8000) (hne : r ≠ R.plasStatus) : cr (cwB v n R.plasStatus 3 true) n r = cr v n r :=
    cr_cw_other _ _ (by decide) hr hne
  have hbit (i : Nat) (hi : i ≠ 3) : crB (cwB v n R.plasStatus 3 true) n R.plasStatus i = crB v n R.plasStatus i := by
    rw [crB, cwB, cr_cw_self, putBit, if_pos rfl, bitAt_setBit, decide_eq_false (by omega), Bool.or_false]
    rfl
  have hcycles : crF (cwB v n R.plasStatus 3 true) n R.plasCycles 0 32 = crF v n R.plasCycles 0 32 :=
    congrArg (fld · 0 32) (hother (by decide) (by decide))
  exact {
    step := (congrArg (fun w => BitVec.ofNat 32 (fld w 0 32)) (hother (by decide) (by decide))).trans h.step
    idle := (hbit 0 (by decide)).trans h.idle
    run := (congrArg (BitVec.ofNat 32) (fld_congr fun k _ => hbit (32 + k) (by omega))).trans h.run
    cycles := hcycles.trans h.cycles
    longest := by rw [hcycles, ← h.longest]; exact congrArg (fld · 0 32) (hother (by decide) (by decide))
    refusals := counted_to h.refusals (hother (by decide) (by decide))
    used := (core_of_cores (cwB_cores ..) n).trans h.used
    regs := coreRegsKept_trans h.regs (coreRegsKept_cw v n _ (by decide) (by decide))
    mem := (cwB_mem ..).trans h.mem
    hub := (cwB_regs ..).trans h.hub }

theorem complete : PlasEnded n refused s (plasComplete s n refused) := by
  obtain h | h := plasComplete_cases s n refused <;> rw [h]
  · exact closed
  · exact closed.held

end PlasEnded

end

/-- The row of the end of a step's plasticity (R152, R157, R162, R165). -/
theorem plasticityComplete_row {s : State} (hl : live s = true) (n : CoreId) (hs : stopped s n.val = false) (refused : Nat)
    (hf : plasFinished s n.val = true) :
    ∃ v, exec (.plasticityComplete n refused) s = .next v ∧ plasStep v n.val = plasRun s n.val ∧ plasActive v n.val = false
      ∧ crF v n.val R.plasCycles 0 32 = ((core s n.val).plasCost + refused) % 2 ^ 32
      ∧ crF v n.val R.plasCyclesMax 0 32 = max (crF s n.val R.plasCyclesMax 0 32) (crF v n.val R.plasCycles 0 32)
      ∧ counted s v n.val (R.bankConflict 4) refused
      ∧ (∀ r, Sparse.get (fun _ => 0) (core v n.val).pre (r * 4 + (plasRun s n.val).toNat % 4) = 0)
      ∧ (∀ i, Sparse.get (fun _ => 0) (core v n.val).post (i * 2 + (plasRun s n.val).toNat % 2) = 0)
      ∧ (∀ k, (core s n.val).snapshot = some (k, plasRun s n.val) → crB v n.val R.plasStatus 3 = true)
      ∧ coreRegsKept s v n.val [R.plasStep, R.plasStatus, R.plasCycles, R.plasCyclesMax, R.bankConflict 4] ∧ v.mem = s.mem
      ∧ hubRegsKept s v [] := by
  have hexec : exec (.plasticityComplete n refused) s = .next (after s (plasComplete s n.val refused)) := by
    refine (rfl : exec _ s = execPlasticityComplete n refused s).trans ((act_after _ hl).trans ?_)
    rw [if_pos (by simp [hf, hs])]
  have he : PlasEnded n.val refused s (plasComplete s n.val refused) := .complete
  have hcr (r : Nat) : cr (after s (plasComplete s n.val refused)) n.val r = cr (plasComplete s n.val refused) n.val r :=
    cr_after ..
  refine ⟨_, hexec, ?_, ?_, ?_, ?_, counted_after s he.refusals, fun r => ?_, fun i => ?_, fun k hk => ?_,
    coreRegsKept_after he.regs, (after_mem ..).trans he.mem, hubRegsKept_of_regs he.hub []⟩
  · rw [plasStep, crF, hcr]; exact he.step
  · rw [plasActive, crB, hcr]; exact he.idle
  · rw [crF, hcr]; exact he.cycles
  · rw [crF, crF, crF, hcr, hcr]; exact he.longest
  · rw [core_after, he.used, recordsUsed, Sparse.get_clear, if_pos (by simp)]
  · rw [core_after, he.used, recordsUsed, Sparse.get_clear, if_pos (by simp)]
  · rw [crB, hcr, plasComplete_held refused hk, cwB, cr_cw_self, putBit, if_pos rfl, bitAt_setBit, decide_eq_true (by decide),
      Bool.or_true]

end Sys2Proof.Machine
end

section
/-! SUPPORT. A step's plasticity starts, and goes on once its modulator is there (R156, R157). -/
namespace Sys2Proof.Machine

section
variable {n : Nat}

/-! ### The start of a step's plasticity -/

/-- The word that `PLAS_STATUS` takes as the plasticity of step `t` starts. -/
theorem plasOpens_status (s : State) (t : BitVec 32) (rows : List Nat) (cost : Nat) :
    cr (plasOpens s n t rows cost) n R.plasStatus
      = w64 (1 + b2n (!((core s n).commitsHeld.erase t).isEmpty) * 2 + t.toNat * 2 ^ 32) := by
  rw [plasOpens, cr_of_coreRegs (upCore_coreRegs ..), cr_cw_self]

theorem plasOpens_active (s : State) (t : BitVec 32) (rows : List Nat) (cost : Nat) :
    plasActive (plasOpens s n t rows cost) n = true := by
  rw [plasActive, crB, plasOpens_status, bitAt, w64, BitVec.getLsbD_ofNat, Nat.testBit_zero]
  simp only [Nat.reducePow]
  exact (Bool.true_and _).trans (decide_eq_true (by omega))

theorem plasOpens_run (s : State) (t : BitVec 32) (rows : List Nat) (cost : Nat) : plasRun (plasOpens s n t rows cost) n = t := by
  have hheld : b2n (!((core s n).commitsHeld.erase t).isEmpty) ≤ 1 := by
    cases !((core s n).commitsHeld.erase t).isEmpty <;> decide
  have ht := t.isLt
  have hfld : fld (cr (plasOpens s n t rows cost) n R.plasStatus) 32 32 = t.toNat := by
    rw [plasOpens_status, fld, w64, BitVec.toNat_ofNat, Nat.shiftRight_eq_div_pow]
    omega
  rw [plasRun, crF, hfld, BitVec.ofNat_toNat, BitVec.setWidth_eq]

theorem plasOpens_cost (s : State) (t : BitVec 32) (rows : List Nat) (cost : Nat) :
    (core (plasOpens s n t rows cost) n).plasCost = cost := by
  rw [plasOpens, core_upCore_self]

theorem plasOpens_mem (s : State) (t : BitVec 32) (rows : List Nat) (cost : Nat) : (plasOpens s n t rows cost).mem = s.mem :=
  (upCore_mem ..).trans (cw_mem ..)

theorem plasStart_commitsHeld (hn : n < 1024) (s : State) (t : BitVec 32) :
    (core (plasStart s n t) n).commitsHeld = (core s n).commitsHeld.erase t := by
  have hnoted : (core (commitsNoted s n ((core s n).commitsHeld.erase t)) n).commitsHeld = (core s n).commitsHeld.erase t := by
    rw [commitsNoted, core_upCore_self]
  have hpart := congrArg (·.2.2.2.2.2) (plasStart_work hn s t).part
  exact hpart.trans hnoted

/-- Where an entry is valid, the start runs the entries (R157). -/
theorem plasStart_entries (hn : n < 1024) {s : State} (t : BitVec 32)
    (h : ((List.range 4).any fun k => (plasEntry s n k).valid) = true) :
    plasActive (plasStart s n t) n = true ∧ plasRun (plasStart s n t) n = t := by
  obtain ⟨hactive, hrun⟩ := plasEntries_run hn t [0, 1, 2, 3] (plasOpens s n t (rowsFrom s n 0) 8)
  rw [plasStart, if_pos h, plasBegin, hactive, hrun]
  exact ⟨plasOpens_active .., plasOpens_run ..⟩

/-- Where no entry is valid, the step is complete at once, at no cost (R157). -/
theorem plasStart_empty {s : State} (t : BitVec 32) (h : ((List.range 4).any fun k => (plasEntry s n k).valid) = false) :
    plasActive (plasStart s n t) n = false ∧ plasRun (plasStart s n t) n = t ∧ plasStep (plasStart s n t) n = t
      ∧ crF (plasStart s n t) n R.plasCycles 0 32 = 0 ∧ (plasStart s n t).mem = s.mem := by
  have he : PlasEnded n 0 (plasOpens s n t [] 0) (plasComplete (plasOpens s n t [] 0) n 0) := .complete
  rw [plasStart, if_neg (by rw [h]; decide)]
  refine ⟨he.idle, he.run.trans (plasOpens_run ..), he.step.trans (plasOpens_run ..), ?_, he.mem.trans (plasOpens_mem ..)⟩
  rw [he.cycles, plasOpens_cost, Nat.add_zero, Nat.zero_mod]

/-! ### The modulator that arrives -/

/-- The entry that waited has its modulator, and the cycles of the wait are noted. -/
def modTaken (s : State) (n cycles : Nat) : State := cwB (addPlasCycles s n cycles) n R.plasStatus 2 false

theorem modGo_eq (s : State) (n cycles : Nat) :
    ∃ l, modGo s n cycles = plasEntries n (plasRun s n) l (modTaken s n cycles) := ⟨_, rfl⟩

section
variable (s : State) (cycles : Nat)

theorem modTaken_status (i : Nat) :
    crB (modTaken s n cycles) n R.plasStatus i = (crB s n R.plasStatus i && !decide (i = 2)) := by
  rw [crB, modTaken, cwB, cr_cw_self, putBit, if_neg Bool.false_ne_true, bitAt_clrBit]
  rfl

theorem modTaken_run : plasRun (modTaken s n cycles) n = plasRun s n :=
  congrArg (BitVec.ofNat 32) (fld_congr fun k _ => by
    have hbit := modTaken_status (n := n) s cycles (32 + k)
    rwa [decide_eq_false (by omega), Bool.not_false, Bool.and_true] at hbit)

theorem modTaken_mod : cr (modTaken s n cycles) n R.plasMod = cr s n R.plasMod :=
  (cr_cw_other _ _ (by decide) (by decide) (by decide)).trans (cr_of_coreRegs (upCore_coreRegs ..) n _)

theorem modTaken_mem : (modTaken s n cycles).mem = s.mem := (cwB_mem ..).trans (upCore_mem ..)

end

/-- An entry that waited goes on with the modulator of its step, and so do the entries after it (R156). -/
theorem modGo_end (hn : n < 1024) {s : State} (h : modArrived s n = true) (cycles : Nat) :
    plasFinished (modGo s n cycles) n = true ∧ crB (modGo s n cycles) n R.plasStatus 2 = false
      ∧ plasRun (modGo s n cycles) n = plasRun s n
      ∧ ∀ a, (a < coreBase n ∨ coreBase n + 0x100000 ≤ a) → ldB (modGo s n cycles) a = ldB s a := by
  simp only [modArrived, Bool.and_eq_true, decide_eq_true_eq] at h
  obtain ⟨⟨hactive, -⟩, hmod⟩ := h
  have hmod' : crF (modTaken s n cycles) n R.plasMod 32 32 = (plasRun s n).toNat :=
    (congrArg (fld · 32 32) (modTaken_mod s cycles)).trans hmod
  obtain ⟨l, hgo⟩ := modGo_eq s n cycles
  obtain ⟨hnext, hwait⟩ := plasEntries_end hn l _ hmod'
  obtain ⟨hact, hstep⟩ := plasEntries_run hn (plasRun s n) l (modTaken s n cycles)
  rw [hgo]
  refine ⟨?_, ?_, hstep.trans (modTaken_run ..), fun a ha => ?_⟩
  · rw [plasFinished, hnext, hact, plasActive, modTaken_status, decide_eq_true rfl, Bool.and_true]
    exact (Bool.and_true _).trans hactive
  · rw [hwait, modTaken_status, decide_eq_true rfl, Bool.not_true, Bool.and_false]
  · rw [(plasEntries_work hn (plasRun s n) l _).mem a ha, ldB_of_mem (modTaken_mem ..)]

end

/-! ### The rows -/

/-- The row of a COMMIT held that starts (R157). -/
theorem plasticityHeldStart_row {s : State} (hl : live s = true) (n : CoreId) (hs : stopped s n.val = false) {t : BitVec 32}
    {r : List (BitVec 32)} (hc : (core s n.val).commitsHeld = t :: r) (hstep : plasStep s n.val = t - 1)
    (ha : plasActive s n.val = false) (h3 : crB s n.val R.plasStatus 3 = false) :
    ∃ v, exec (.plasticityHeldStart n .none) s = .next v ∧ plasRun v n.val = t ∧ (core v n.val).commitsHeld = r
      ∧ (((List.range 4).any fun k => (plasEntry s n.val k).valid) = true → plasActive v n.val = true)
      ∧ (((List.range 4).any fun k => (plasEntry s n.val k).valid) = false → plasActive v n.val = false
          ∧ plasStep v n.val = t ∧ crF v n.val R.plasCycles 0 32 = 0 ∧ v.mem = s.mem) := by
  have hexec : exec (.plasticityHeldStart n .none) s = .next (after s (plasStart s n.val t)) := by
    refine (rfl : exec _ s = execPlasticityHeldStart n .none s).trans ((act_after _ hl).trans ?_)
    rw [hc]
    dsimp only
    rw [if_pos (by simp [hstep, ha, h3, hs])]
    rfl
  have hcr (r : Nat) : cr (after s (plasStart s n.val t)) n.val r = cr (plasStart s n.val t) n.val r := cr_after ..
  have hrun : plasRun (after s (plasStart s n.val t)) n.val = plasRun (plasStart s n.val t) n.val := by
    rw [plasRun, crF, hcr]; rfl
  have hactive : plasActive (after s (plasStart s n.val t)) n.val = plasActive (plasStart s n.val t) n.val := by
    rw [plasActive, crB, hcr]; rfl
  refine ⟨_, hexec, ?_, ?_, fun hv => ?_, fun hv => ?_⟩
  · rw [hrun]
    cases hv : (List.range 4).any fun k => (plasEntry s n.val k).valid
    · exact (plasStart_empty t hv).2.1
    · exact (plasStart_entries n.isLt t hv).2
  · rw [core_after, plasStart_commitsHeld n.isLt, hc, List.erase_cons_head]
  · rw [hactive, (plasStart_entries n.isLt t hv).1]
  · obtain ⟨hidle, -, hdone, hcost, hmem⟩ := plasStart_empty t hv
    refine ⟨hactive.trans hidle, ?_, ?_, (after_mem ..).trans hmem⟩
    · rw [plasStep, crF, hcr]; exact hdone
    · rw [crF, hcr]; exact hcost

/-- The row of a modulator that arrives (R156). -/
theorem modWaitEnd_row {s : State} (hl : live s = true) (n : CoreId) (hs : stopped s n.val = false) (cycles : Nat)
    (h : modArrived s n.val = true) :
    ∃ v, exec (.modWaitEnd n cycles .none) s = .next v ∧ plasFinished v n.val = true ∧ crB v n.val R.plasStatus 2 = false
      ∧ plasRun v n.val = plasRun s n.val
      ∧ (∀ a, (a < coreBase n.val ∨ coreBase n.val + 0x100000 ≤ a) → ldB v a = ldB s a) := by
  have hexec : exec (.modWaitEnd n cycles .none) s = .next (after s (modGo s n.val cycles)) := by
    refine (rfl : exec _ s = execModWaitEnd n cycles .none s).trans ((act_after _ hl).trans ?_)
    rw [if_pos (by simp [h, hs])]
    rfl
  obtain ⟨hend, hwait, hrun, hmem⟩ := modGo_end n.isLt h cycles
  have hcr : cr (after s (modGo s n.val cycles)) n.val R.plasStatus = cr (modGo s n.val cycles) n.val R.plasStatus := cr_after ..
  refine ⟨_, hexec, ?_, ?_, ?_, fun a ha => ?_⟩
  · rw [plasFinished, core_after, plasActive, crB, hcr]; exact hend
  · rw [crB, hcr]; exact hwait
  · rw [plasRun, crF, hcr]; exact hrun
  · rw [ldB_after, hmem a ha]

/-- Settles O37: each row does its work on the core alone; the pass clears the dirty neurons it has revised, a start opens
`PLAS_STATUS` for its step, and an end closes it. -/
theorem rollbackAndPlasticity : Obligations.RollbackAndPlasticity := by
  unfold Obligations.RollbackAndPlasticity
  exact fun n s hl hs => ⟨rollbackPass_row hl n hs, fun t r => plasticityHeldStart_row hl n hs,
    modWaitEnd_row hl n hs, plasticityComplete_row hl n hs⟩

end Sys2Proof.Machine
end

section
/-! SUPPORT. What commands read before and after their record is taken, and what Chanter's read of a source leaves (R369). -/
namespace Sys2Proof.Machine

/-! ### Cores and jobs, before and after a command's record is taken -/

section
variable {s t : State} (hr : t.coreRegs = s.coreRegs) (hm : t.mem = s.mem)
include hr

theorem assigned_of_coreRegs (n : Nat) : assigned t n = assigned s n := congrArg (bitAt · 0) (cr_of_coreRegs hr n _)

theorem plasStep_of_coreRegs (n : Nat) : plasStep t n = plasStep s n := by rw [plasStep, crF, cr_of_coreRegs hr]; rfl

theorem coreLock_of_coreRegs (n : Nat) : coreLock t n = coreLock s n := by
  rw [coreLock, assigned_of_coreRegs hr, coreJob, crF, cr_of_coreRegs hr]
  rfl

theorem testLocks_of_coreRegs (c : Cmd) : testLocks t c = testLocks s c := by
  rw [testLocks, show coreLock t = coreLock s from funext (coreLock_of_coreRegs hr), ← testLocks]

include hm

/-- The trace arrays are read from the core's registers and memory. -/
theorem traceArrays_of_coreRegs (n : Nat) : traceArrays t n = traceArrays s n := by
  have hentry : plasEntry t n = plasEntry s n := funext fun k => by
    simp only [plasEntry, crF, cr_of_coreRegs hr, ldU_of_mem hm]
  have hrange : traceRanges t n = traceRanges s n := funext fun e => by
    simp only [traceRanges, descA, cr_of_coreRegs hr]
  rw [traceArrays, hrange, validEntries, hentry]
  rfl

theorem snapBlocks_of_coreRegs (n : Nat) (traces : Bool) : snapBlocks t n traces = snapBlocks s n traces := by
  rw [snapBlocks, traceArrays_of_coreRegs hr hm]
  rfl

theorem weightsRange_of_coreRegs (n : Nat) (traces : Bool) (o len : Nat) :
    weightsRange t n traces o len = weightsRange s n traces o len := by
  rw [weightsRange, traceArrays_of_coreRegs hr hm]
  rfl

end

theorem coresOf_takeFront (s : State) (src : Src) (j : Nat) : coresOf (takeFront s src) j = coresOf s j := by
  have hrect (lo n : Nat) : rdF (takeFront s src) (R.brthRect j) lo n = rdF s (R.brthRect j) lo n :=
    rdF_takeFront s src lo n (by unfold R.brthRect; omega)
  simp only [coresOf, jobState_takeFront, rectX0, rectY0, rectX1, rectY1, hrect]

theorem jobOf_takeFront (s : State) (src : Src) (j : Nat) : jobOf (takeFront s src) j = jobOf s j := by
  rw [jobOf, takeFront_jobs, ← jobOf]

theorem core_takeFront (s : State) (src : Src) (n : Nat) : core (takeFront s src) n = core s n :=
  core_of_cores (takeFront_cores ..) n

theorem bgCount_takeFront (s : State) (src : Src) : bgCount (takeFront s src) = bgCount s := by
  rw [bgCount, takeFront_runs, ← bgCount]

/-! ### The read of a source -/

/-- A read of source bytes leaves all but what the host has delivered, and the free choices taken. -/
def SourceRead (s v : State) : Prop := ∃ h f, v = { s with hostRd := h, free := f }

namespace SourceRead

theorem refl (s : State) : SourceRead s s := ⟨_, _, rfl⟩

theorem trans {s u v : State} (h : SourceRead s u) (k : SourceRead u v) : SourceRead s v := by
  obtain ⟨_, _, rfl⟩ := h
  obtain ⟨_, _, rfl⟩ := k
  exact ⟨_, _, rfl⟩

section
variable {s v : State} (h : SourceRead s v)
include h
theorem regs : v.regs = s.regs := by obtain ⟨_, _, rfl⟩ := h; rfl
theorem mem : v.mem = s.mem := by obtain ⟨_, _, rfl⟩ := h; rfl
theorem coreRegs : v.coreRegs = s.coreRegs := by obtain ⟨_, _, rfl⟩ := h; rfl
theorem mbox : v.mbox = s.mbox := by obtain ⟨_, _, rfl⟩ := h; rfl
theorem boot : v.boot = s.boot := by obtain ⟨_, _, rfl⟩ := h; rfl
theorem flash : v.flash = s.flash := by obtain ⟨_, _, rfl⟩ := h; rfl
theorem erased : v.erased = s.erased := by obtain ⟨_, _, rfl⟩ := h; rfl
theorem mesh : v.mesh = s.mesh := by obtain ⟨_, _, rfl⟩ := h; rfl
end

end SourceRead

theorem hostFetch_sourceRead (s : State) (p : Nat) : SourceRead s (hostFetch s p).2.2 := by
  unfold hostFetch
  split
  · exact ⟨_, _, rfl⟩
  · rw [freeBytes_frame]
    exact ⟨_, _, rfl⟩

/-- A check that finds its block good leaves the state alone. -/
theorem checkBlock_good_state {s : State} {d : List Byte} {tg : W64} {q : Nat} {job r : Option Nat}
    (h : (checkBlock s d tg q job r).1 = .good) : (checkBlock s d tg q job r).2 = s := by
  cases job with
  | none => exact checkBlock_good h
  | some j =>
    unfold checkBlock at h ⊢
    by_cases hp : bitAt tg 56 = true
    · rw [if_pos hp]
    rw [if_neg hp] at h ⊢
    by_cases hc : crc32c d ≠ fld tg 0 32 ∨ fld tg 40 16 ≠ q % 65536
    · rw [if_pos hc] at h
      cases r <;> cases h
    rw [if_neg hc] at h ⊢
    dsimp only at h ⊢
    split at h
    · rw [if_pos ‹_›]
    · cases h

theorem readBlock_sourceRead {s v : State} {a : Nat} {job : Option Nat} {d : List Byte}
    (h : readBlock s a job false = (.good d, v)) : SourceRead s v := by
  have hcheck : (match (checkAt s a job).1 with
      | .good => Access.good (ldN s (a / 256 * 256) 256) | .poisoned => .poisoned (ldN s (a / 256 * 256) 256),
      (checkAt s a job).2) = (Access.good d, v) → SourceRead s v := by
    intro hc
    cases hg : (checkAt s a job).1 with
    | good =>
      obtain rfl : (checkAt s a job).2 = v := (Prod.mk.inj hc).2
      rw [show (checkAt s a job).2 = s from checkBlock_good_state hg]
      exact .refl s
    | poisoned => rw [hg] at hc; cases (Prod.mk.inj hc).1
  unfold readBlock at h
  split at h
  · exact hcheck h
  · exact hcheck h
  · split at h
    next p _ =>
      obtain rfl : (hostFetch s p).2.2 = v := (Prod.mk.inj h).2
      exact hostFetch_sourceRead s p
    · cases h
  · cases h

theorem readSource_sourceRead {n : Nat} {s v : State} {a : Nat} {job : Option Nat} {l : List Byte}
    (h : readSource job n s a = (.data l, v)) : SourceRead s v := by
  induction n generalizing s a l v with
  | zero => cases h; exact .refl s
  | succ n ih =>
    unfold readSource at h
    split at h
    · cases h
    split at h
    next hb =>
      split at h
      next hr => cases h; exact (readBlock_sourceRead hb).trans (ih hr)
      next r hr => exact absurd h (hr l v)
    · cases h
    · cases h

/-! ### The answers that a range and a source lead to -/

theorem checkRange_ok {s : State} {a n : Nat} (word : Nat) (k : Ans) (ha : a % 256 = 0)
    (hm : firstUnmapped s a (cdiv n 256) = none) : checkRange s a n word k = k := by
  rw [checkRange, if_neg (not_not.2 ha), hm]

theorem withSource_data {s v : State} {job : Option Nat} {a n : Nat} {l : List Byte} (word : Nat)
    (k : List Byte → State → Ans) (ha : a % 256 = 0) (hm : firstUnmapped s a (cdiv n 256) = none)
    (hr : readSource job (cdiv n 256) s a = (.data l, v)) : withSource s job a n word k = k (l.take n) v := by
  rw [withSource, checkRange_ok word _ ha hm, hr]

end Sys2Proof.Machine
end

section
/-! SUPPORT. WEIGHTS_WRITE: the checked bytes go through port B of a core of a SUSPENDED job (R164, R384). -/
namespace Sys2Proof.Machine

theorem cdiv_blocks (k : Nat) : cdiv (k * 256) 256 = k := by
  unfold cdiv
  omega

theorem act_unlessHalted {s : State} {src : Src} {c : Cmd} {core : Cmd → Nat} (hc : cmdAt s src = some c)
    (hw : portWaits s (core c) = false) (eff : State → State) :
    act s (fun s => unlessHalted s src core eff) = act s eff := by
  have hrun : unlessHalted s src core eff = eff s := by
    rw [unlessHalted, hc]
    exact if_neg (by rw [hw]; decide)
  rw [act_eq, act_eq, hrun]

/-- Where WEIGHTS_WRITE puts its bytes: into the trace arrays, or into the plastic window (R384). -/
def weightsPlace (c : Cmd) : Nat :=
  if bitAt (c.c 1) 18 then scratch (c.f 1 8 10) (c.f 3 0 15) else coreBase (c.f 1 8 10) + 0x38000 + c.f 3 0 15

theorem weightsPlace_ge (c : Cmd) : coreBase 0 ≤ weightsPlace c := by
  have h : coreBase 0 ≤ coreBase (c.f 1 8 10) := by unfold coreBase; omega
  unfold weightsPlace scratch
  split <;> omega

/-- A store of whole bytes leaves the mailboxes and the registers. -/
theorem boxByte_stN {s v : State} {src : Src} {j : Bool} {x : Nat} (hv : SourceRead (takeFront s src) v) (a : Nat) (l : List Byte) :
    boxByte (stN v a l) src j x ↔ boxByte s src j x := by
  rw [boxByte_of_regs ((stN_mbox ..).trans hv.mbox) fun o _ => (rd_of_regs ((stN_regs ..).trans hv.regs) o), boxByte_takeFront]

section
variable {src : Src} {s v : State} {c : Cmd} {l : List Byte}

theorem weightsWriteBody_ends {j : Nat} (hj : breathOf s (c.f 1 0 8) = some j)
    (hstate : jobState s j = 4) (hcore : c.f 1 8 10 ∈ coresOf s j) (hisland : island s (c.f 1 8 10) < 2)
    (hrange : weightsRange s (c.f 1 8 10) (bitAt (c.c 1) 18) (c.f 3 0 15) (c.f 3 16 16 * 256) = true)
    (ha : (c.c 2).toNat % 256 = 0) (hm : firstUnmapped (takeFront s src) (c.c 2).toNat (c.f 3 16 16) = none)
    (hr : readSource (some (c.f 1 0 8)) (c.f 3 16 16) (takeFront s src) (c.c 2).toNat = (.data l, v))
    (hlen : l.length = 256 * c.f 3 16 16) : weightsWriteBody c (takeFront s src)
      = .ends (stN v (weightsPlace c) l) 0 0 [] (c.digestChange 1 (jobTarget v j)) := by
  have hv := readSource_sourceRead hr
  have hblocks := cdiv_blocks (c.f 3 16 16)
  have hwake : wakeIsland v (c.f 1 8 10) = v := wakeIsland_awake (by
    rw [island, crF, cr_of_coreRegs (hv.coreRegs.trans (takeFront_coreRegs ..))]
    exact hisland)
  rw [weightsWriteBody, onJob_of ((breathOf_takeFront ..).trans hj)]
  dsimp only
  rw [jobState_takeFront, coresOf_takeFront, weightsRange_of_coreRegs (takeFront_coreRegs ..) (takeFront_mem ..),
    if_neg (not_not.2 hstate), if_neg (not_not.2 (List.contains_iff_mem.2 hcore)), if_neg (not_not.2 hrange),
    withSource_data 2 _ ha (by rwa [hblocks]) (by rw [hblocks]; exact hr), hwake, List.take_of_length_le (by omega)]
  rfl

theorem weightsWrite_row {j : Nat} (hl : live s = true)
    (hs : starts s src 0x0402 [low 18, low 63, low 31] (c1Job c) c) (hw : portWaits s (c.f 1 8 10) = false)
    (hj : breathOf s (c.f 1 0 8) = some j) (hstate : jobState s j = 4) (hcore : c.f 1 8 10 ∈ coresOf s j)
    (hisland : island s (c.f 1 8 10) < 2)
    (hrange : weightsRange s (c.f 1 8 10) (bitAt (c.c 1) 18) (c.f 3 0 15) (c.f 3 16 16 * 256) = true)
    (ha : (c.c 2).toNat % 256 = 0) (hm : firstUnmapped (takeFront s src) (c.c 2).toNat (c.f 3 16 16) = none)
    (hr : readSource (some (c.f 1 0 8)) (c.f 3 16 16) (takeFront s src) (c.c 2).toNat = (.data l, v))
    (hlen : l.length = 256 * c.f 3 16 16) :
    ∃ t, exec (.weightsWrite src) s = .next t ∧ completed s t src c 0 0 [] true
      ∧ (∀ i, i < c.f 3 16 16 * 256 → ldB t (weightsPlace c + i) = l.getD i 0)
      ∧ (∀ x, (x < weightsPlace c ∨ weightsPlace c + c.f 3 16 16 * 256 ≤ x) → ¬ boxByte s src true x → ldB t x = ldB s x)
      ∧ t.coreRegs = s.coreRegs := by
  have hv := readSource_sourceRead hr
  have hbody := weightsWriteBody_ends hj hstate hcore hisland hrange ha hm hr hlen
  have hexec : exec (.weightsWrite src) s
      = .next (ended s src c (stN v (weightsPlace c) l) [] (c.digestChange 1 (jobTarget v j))) :=
    (rfl : exec _ s = execWeightsWrite src s).trans ((act_unlessHalted hs.1 hw _).trans (act_ends (locks := c1Job) hl hs hbody))
  have hge := weightsPlace_ge c
  refine ⟨_, hexec, ended_completed ?_, fun i hi => ?_, fun x hx hbox => ?_, ?_⟩
  · rw [stN_mbox, hv.mbox, takeFront_journalSeq]
  · rw [ldB_ended_core (by omega), ldB_stN_in _ _ _ _ (by omega)]
  · rw [ldB_ended (fun k => hbox ((boxByte_stN hv ..).1 k)), ldB_stN_out _ _ _ _ (by omega), ldB_of_mem hv.mem, ldB_takeFront]
  · rw [ended_coreRegs, stN_coreRegs, hv.coreRegs, takeFront_coreRegs]

end

end Sys2Proof.Machine
end

section
/-! SUPPORT. FW_UPDATE_BEGIN and FW_UPDATE_WRITE (R447): the slot erased, the source bytes in the flash. -/
namespace Sys2Proof.Machine

/-! ### The flash -/

theorem flashB_of_flash {s t : State} (hf : t.flash = s.flash) (he : t.erased = s.erased) (a : Nat) : flashB t a = flashB s a := by
  rw [flashB, hf, he, ← flashB]

theorem flashB_set (s : State) (a : Nat) (b : Byte) (x : Nat) :
    flashB { s with flash := Sparse.set (fun _ => none) s.flash a (some b) } x = if x = a then b else flashB s x := by
  unfold flashB
  dsimp only
  rw [Sparse.get_set]
  by_cases hx : x = a
  · rw [if_pos hx, if_pos hx]
  · rw [if_neg hx, if_neg hx]

theorem flashB_flashWrite_out : ∀ (l : List Byte) (s : State) (a x : Nat), x < a ∨ a + l.length ≤ x →
    flashB (flashWrite s a l) x = flashB s x
  | [], _, _, _, _ => rfl
  | b :: r, s, a, x, h => by
    rw [List.length_cons] at h
    rw [flashWrite, flashB_flashWrite_out r _ _ _ (by omega), flashB_set, if_neg (by omega)]

theorem flashB_flashWrite_in : ∀ (l : List Byte) (s : State) (a i : Nat), i < l.length →
    flashB (flashWrite s a l) (a + i) = l.getD i 0
  | [], _, _, _, h => absurd h (Nat.not_lt_zero _)
  | b :: r, s, a, 0, _ => by
    rw [flashWrite, flashB_flashWrite_out _ _ _ _ (by omega), flashB_set, if_pos (by omega)]
    rfl
  | b :: r, s, a, i + 1, h => by
    rw [List.length_cons] at h
    rw [flashWrite, show a + (i + 1) = a + 1 + i by omega, flashB_flashWrite_in r _ _ _ (by omega)]
    rfl

theorem flashWrite_frame : ∀ (l : List Byte) (s : State) (a : Nat), flashWrite s a l = { s with flash := (flashWrite s a l).flash }
  | [], _, _ => rfl
  | _ :: r, _, a => flashWrite_frame r _ (a + 1)

/-- An erased slot reads as ones (R440). -/
theorem flashB_eraseSlot_in (s : State) {k a : Nat} (h1 : fwBase k ≤ a) (h2 : a < fwBase k + fwSize) :
    flashB (eraseSlot s k) a = 0xFF := by
  have hin : (fwBase k ≤ a && a < fwBase k + fwSize) = true := by simp [h1, h2]
  have hany : ((k :: s.erased).eraseDups.any fun k => fwBase k ≤ a && a < fwBase k + fwSize) = true :=
    List.any_eq_true.2 ⟨k, List.mem_eraseDups.2 (List.mem_cons_self ..), hin⟩
  unfold flashB eraseSlot
  dsimp only
  rw [Sparse.get_clear, if_pos hin]
  exact if_pos hany

/-- The erasure of a slot leaves the rest of the flash. -/
theorem flashB_eraseSlot_out (s : State) {k a : Nat} (h : a < fwBase k ∨ fwBase k + fwSize ≤ a) :
    flashB (eraseSlot s k) a = flashB s a := by
  have hout : (fwBase k ≤ a && a < fwBase k + fwSize) = false := by
    simp only [Bool.and_eq_false_iff, decide_eq_false_iff_not]
    omega
  have hany : ((k :: s.erased).eraseDups.any fun k => fwBase k ≤ a && a < fwBase k + fwSize)
      = s.erased.any fun k => fwBase k ≤ a && a < fwBase k + fwSize := by
    rw [Bool.eq_iff_iff, List.any_eq_true, List.any_eq_true]
    refine ⟨fun ⟨q, hq, hp⟩ => ⟨q, ?_, hp⟩, fun ⟨q, hq, hp⟩ => ⟨q, List.mem_eraseDups.2 (List.mem_cons_of_mem _ hq), hp⟩⟩
    obtain rfl | hmem := List.mem_cons.1 (List.mem_eraseDups.1 hq)
    · rw [hout] at hp
      cases hp
    · exact hmem
  unfold flashB eraseSlot
  dsimp only
  rw [Sparse.get_clear, hout, if_neg Bool.false_ne_true, hany]

/-! ### A firmware command that completes -/

/-- What a firmware command from `src` that ends in `v` leaves, its completion written and the interrupts settled. -/
def firmwareEnded (s : State) (src : Src) (c : Cmd) (v : State) (ch : Option Change) : State :=
  settle s (keepQueue s (keepTime s (keepPins s (complete v src c.opcode c.tag c.digest 0 0 [] ch) true)))

section
variable {s : State} {src : Src} {op : Nat} {masks : List Nat} {locks : Cmd → List Lock} {c : Cmd} {v : State}
  {ch : Option Change}

theorem actFirmware_ends {body : Cmd → State → Ans} (hl : serves s = true) (h : starts s src op masks (locks c) c)
    (hb : body c (takeFront s src) = .ends v 0 0 [] ch) :
    actFirmware s (serve op masks locks body src) = .next (firmwareEnded s src c v ch) := by
  rw [actFirmware, if_pos hl, serve_starts h, hb, runCmd_ends h, firmwareEnded]

theorem firmwareEnded_coreRegs : (firmwareEnded s src c v ch).coreRegs = v.coreRegs :=
  (settle_coreRegs ..).trans (complete_coreRegs v src c.opcode c.tag c.digest 0 0 [] ch)

theorem firmwareEnded_boot : (firmwareEnded s src c v ch).boot = v.boot :=
  (settle_boot ..).trans (complete_boot v src c.opcode c.tag c.digest 0 0 [] ch)

theorem firmwareEnded_flash : (firmwareEnded s src c v ch).flash = v.flash :=
  (settle_flash ..).trans (complete_flash v src c.opcode c.tag c.digest 0 0 [] ch)

theorem firmwareEnded_erased : (firmwareEnded s src c v ch).erased = v.erased :=
  (settle_erased ..).trans (complete_erased v src c.opcode c.tag c.digest 0 0 [] ch)

theorem flashB_firmwareEnded (a : Nat) : flashB (firmwareEnded s src c v ch) a = flashB v a :=
  flashB_of_flash firmwareEnded_flash firmwareEnded_erased a

theorem firmwareEnded_completed (hq : v.mbox.journalSeq = s.mbox.journalSeq) :
    completed s (firmwareEnded s src c v ch) src c 0 0 [] ch.isSome := completed_of hq (settle_mbox ..)

/-- Beside its completion it changes no register and no byte of memory that its effect keeps. -/
theorem firmwareEnded_boxFrame (hr : v.regs = (takeFront s src).regs) (hm : v.mem = s.mem)
    (hq : v.mbox = (takeFront s src).mbox) : boxFrame s (firmwareEnded s src c v ch) src ch.isSome [] fun _ => False := by
  refine ⟨fun o _ hbox hp => ?_, fun a _ hbox => ?_⟩
  · have hset : rd (firmwareEnded s src c v ch) o = rd (complete v src c.opcode c.tag c.digest 0 0 [] ch) o := rd_settle _ _ hp
    rw [hset, rd_complete_ne _ _ _ _ _ _ _ _ _ _ hbox, rd_of_regs hr, rd_takeFront_ne _ _ _ hbox]
  · have hset : ldB (firmwareEnded s src c v ch) a = ldB (complete v src c.opcode c.tag c.digest 0 0 [] ch) a := ldB_settle ..
    rw [hset, ldB_complete, ldB_of_mem hm]
    rwa [boxByte_of_regs hq fun o _ => rd_of_regs hr o, boxByte_takeFront]

end

/-! ### The two commands -/

theorem inactive_takeFront (s : State) (src : Src) : inactive (takeFront s src) = inactive s := by
  rw [inactive, takeFront_boot, ← inactive]

/-- What FW_UPDATE_BEGIN leaves of the state it starts from (R447). -/
def fwBegun (s : State) (n : Nat) : State :=
  { eraseSlot s (inactive s) with boot := { s.boot with expect := some n } }

section
variable {src : Src} {s : State} {c : Cmd} (hl : serves s = true)
include hl

theorem fwUpdateBegin_row (hs : starts s src 0x0C03 [low 31] [.firmware] c) (hn : c.f 1 0 32 ≤ fwSize) :
    ∃ t, exec (.fwUpdateBegin src) s = .next t ∧ completed s t src c 0 0 [] true
      ∧ t.boot = { s.boot with expect := some (c.f 1 0 32) }
      ∧ (∀ a, fwBase (inactive s) ≤ a → a < fwBase (inactive s) + fwSize → flashB t a = 0xFF)
      ∧ (∀ a, (a < fwBase (inactive s) ∨ fwBase (inactive s) + fwSize ≤ a) → flashB t a = flashB s a)
      ∧ t.coreRegs = s.coreRegs ∧ boxFrame s t src true [] (fun _ => False) := by
  have hbody : fwBeginBody c (takeFront s src) = .ends (fwBegun (takeFront s src) (c.f 1 0 32)) 0 0 []
      (c.digestChange 9 (inactive (takeFront s src))) := if_neg (Nat.not_lt.2 hn)
  have hflash (a : Nat) : flashB (eraseSlot (takeFront s src) (inactive s)) a = flashB (eraseSlot s (inactive s)) a :=
    flashB_of_flash (by rw [eraseSlot, takeFront_flash]; rfl) (by rw [eraseSlot, takeFront_erased]; rfl) a
  have hbegun (a : Nat) : flashB (fwBegun (takeFront s src) (c.f 1 0 32)) a = flashB (eraseSlot s (inactive s)) a := by
    rw [← hflash, ← inactive_takeFront s src]
    rfl
  refine ⟨_, (rfl : exec _ s = execFwUpdateBegin src s).trans (actFirmware_ends (locks := fwLock) hl hs hbody),
    firmwareEnded_completed (takeFront_journalSeq ..), ?_, fun a h1 h2 => ?_, fun a h => ?_, ?_,
    firmwareEnded_boxFrame rfl (takeFront_mem ..) rfl⟩
  · rw [firmwareEnded_boot, fwBegun, takeFront_boot]
  · rw [flashB_firmwareEnded, hbegun, flashB_eraseSlot_in _ h1 h2]
  · rw [flashB_firmwareEnded, hbegun, flashB_eraseSlot_out _ h]
  · rw [firmwareEnded_coreRegs]
    exact takeFront_coreRegs ..

theorem fwUpdateWrite_row {b : Nat} {v : State} {l : List Byte}
    (hs : starts s src 0x0C04 [low 63, low 31, low 31] [.firmware] c) (hb : s.boot.expect = some b)
    (hfit : c.f 2 0 32 + c.f 3 0 32 ≤ b) (ha : (c.c 1).toNat % 256 = 0)
    (hm : firstUnmapped (takeFront s src) (c.c 1).toNat (cdiv (c.f 3 0 32) 256) = none)
    (hr : readSource none (cdiv (c.f 3 0 32) 256) (takeFront s src) (c.c 1).toNat = (.data l, v)) (hlen : c.f 3 0 32 ≤ l.length) :
    ∃ t, exec (.fwUpdateWrite src) s = .next t ∧ completed s t src c 0 0 [] true ∧ t.boot = s.boot
      ∧ (∀ i, i < c.f 3 0 32 → flashB t (fwBase (inactive s) + c.f 2 0 32 + i) = l.getD i 0)
      ∧ (∀ a, (a < fwBase (inactive s) + c.f 2 0 32 ∨ fwBase (inactive s) + c.f 2 0 32 + c.f 3 0 32 ≤ a) →
          flashB t a = flashB s a)
      ∧ t.coreRegs = s.coreRegs := by
  have hv := readSource_sourceRead hr
  have hslot : inactive v = inactive s := by rw [inactive, hv.boot, takeFront_boot, ← inactive]
  have hbody : fwWriteBody c (takeFront s src) = .ends
      (flashWrite v (fwBase (inactive s) + c.f 2 0 32) (l.take (c.f 3 0 32))) 0 0 [] (c.digestChange 9 (inactive s)) := by
    rw [fwWriteBody, takeFront_boot, hb]
    dsimp only
    rw [if_neg (by omega), if_neg (by omega), withSource_data 1 _ ha hm hr, hslot]
  have htake : (l.take (c.f 3 0 32)).length = c.f 3 0 32 := List.length_take_of_le hlen
  have hframe := flashWrite_frame (l.take (c.f 3 0 32)) v (fwBase (inactive s) + c.f 2 0 32)
  have hsame (a : Nat) : flashB v a = flashB s a :=
    flashB_of_flash (hv.flash.trans (takeFront_flash ..)) (hv.erased.trans (takeFront_erased ..)) a
  refine ⟨_, (rfl : exec _ s = execFwUpdateWrite src s).trans (actFirmware_ends (locks := fwLock) hl hs hbody),
    firmwareEnded_completed ?_, ?_, fun i hi => ?_, fun a h => ?_, ?_⟩
  · rw [hframe]
    exact (congrArg Mbox.journalSeq hv.mbox).trans (takeFront_journalSeq ..)
  · rw [firmwareEnded_boot, hframe]
    exact hv.boot.trans (takeFront_boot ..)
  · rw [flashB_firmwareEnded, flashB_flashWrite_in _ _ _ _ (by omega), List.getD_eq_getElem?_getD, List.getElem?_take_of_lt hi,
      ← List.getD_eq_getElem?_getD]
  · rw [flashB_firmwareEnded, flashB_flashWrite_out _ _ _ _ (by omega), hsame]
  · rw [firmwareEnded_coreRegs, hframe]
    exact hv.coreRegs.trans (takeFront_coreRegs ..)

end

/-- Settles O25: the source is read by blocks and checked, and leaves nothing but what the host delivered; the store of its
bytes is then the whole effect, in the core's memory or in the flash. -/
theorem checkedCopies : Obligations.CheckedCopies := by
  unfold Obligations.CheckedCopies
  intro src s v c l
  refine ⟨fun j a hl hs hw hj hstate hcore hisland hrange hsrc hm hr hlen hplace => ?_, fun hl => fwUpdateBegin_row hl,
    fun b hl => fwUpdateWrite_row hl⟩
  obtain rfl : a = weightsPlace c := hplace
  exact weightsWrite_row hl hs hw hj hstate hcore hisland hrange hsrc hm hr hlen

end Sys2Proof.Machine
end

section
/-! SUPPORT. Commands that go on: what each leaves as it begins (R165, R382, R388, R405, R413). -/
namespace Sys2Proof.Machine

/-! ### What a command's record, once taken, leaves of the mailboxes -/

theorem noteBell_relay (s : State) (ci : Nat) :
    (noteBell s ci).mbox.relayTo = s.mbox.relayTo ∧ (noteBell s ci).mbox.present = s.mbox.present := by
  unfold noteBell
  split
  · dsimp only
    split
    · split <;> exact ⟨rfl, rfl⟩
    · exact ⟨rfl, rfl⟩
  · exact ⟨rfl, rfl⟩

theorem takeFront_relay (s : State) (src : Src) :
    (takeFront s src).mbox.relayTo = s.mbox.relayTo ∧ (takeFront s src).mbox.present = s.mbox.present := by
  unfold takeFront
  split
  · dsimp only
    split
    · exact noteBell_relay s _
    · exact ⟨rfl, rfl⟩
  · exact ⟨rfl, rfl⟩

/-! ### A command that begins -/

section
variable {s v : State} {src : Src} {op : Nat} {masks : List Nat} {locks : Cmd → List Lock} {c : Cmd}
  {body : Cmd → State → Ans} {bg : Bool} {ls : List Lock} {aux : List Nat}

/-- A command that goes on: its effect `v`, but for the mailboxes, where it is put among those that run. -/
theorem act_begins_after (hl : live s = true) (hs : starts s src op masks (locks c) c)
    (hb : body c (takeFront s src) = .runs v bg ls aux)
    (hm : ∃ l, v.mbox = { (takeFront s src).mbox with relayTo := l }) :
    ∃ b, act s (serve op masks locks body src) = .next (after s { v with mbox := b })
      ∧ begun s (after s { v with mbox := b }) src c bg ls aux ∧ b.relayTo = v.mbox.relayTo := by
  have hrun : ∃ b, runCmd c (.runs v bg ls aux) = { v with mbox := b }
      ∧ b.runs = v.mbox.runs ++ [⟨v.mbox.nextRun, c.src, c.words, c.digest, bg, ls, aux⟩]
      ∧ b.nextRun = v.mbox.nextRun + 1 ∧ b.kept = v.mbox.kept ∧ b.relayTo = v.mbox.relayTo := by
    unfold runCmd
    dsimp only
    split <;> exact ⟨_, rfl, rfl, rfl, rfl, rfl⟩
  obtain ⟨b, he, hruns, hnext, hkept, hrelay⟩ := hrun
  obtain ⟨l, hm⟩ := hm
  refine ⟨b, (act_after _ hl).trans (by rw [serve_starts hs, hb, he]), ⟨?_, ?_, ?_⟩, hrelay⟩
  · rw [after_mbox, hruns, hm, takeFront_runs, takeFront_nextRun, cmdAt_src hs.1]
  · rw [after_mbox, hnext, hm, takeFront_nextRun]
  · rw [after_mbox, hkept, hm, takeFront_kept]

theorem rd_begun {b : Mbox} {o : Nat} (h : o ≠ R.msixPba) : rd (after s { v with mbox := b }) o = rd v o := rd_after _ _ h

/-- Beside the mailboxes, a command that begins changes the registers and bytes that its effect changes. -/
theorem begun_boxFrame {regs : List Nat} {b : Mbox} (hr : ∀ o, o ∉ regs → rd v o = rd (takeFront s src) o)
    (hm : v.mem = (takeFront s src).mem) : boxFrame s (after s { v with mbox := b }) src false regs fun _ => False := by
  refine ⟨fun o ho hbox hp => ?_, fun a _ _ => ?_⟩
  · rw [rd_begun hp, hr o ho, rd_takeFront_ne _ _ _ hbox]
  · rw [ldB_after]
    exact ldB_of_mem (hm.trans (takeFront_mem ..)) a

end

/-! ### A job that is asked to suspend -/

theorem ckptBusy_takeFront (s : State) (src : Src) (j : Nat) : ckptBusy (takeFront s src) j = ckptBusy s j := by
  simp only [ckptBusy, jobOf_takeFront, brth_takeFront]

theorem askSuspend_regs (s : State) (j why : Nat) : BreathRegs [R.brthStatus j] s (askSuspend s j why) :=
  ((BreathRegs.refl _ s).setBrth _ _).wr _ (by simp)

theorem askSuspend_asked (s : State) (j why : Nat) :
    (brth (askSuspend s j why) j).asked = (brth s j).asked ++ [why] := by
  have hset : brth (askSuspend s j why) j = brth (setBrth s j { brth s j with asked := (brth s j).asked ++ [why] }) j :=
    brth_of_breaths (setB_breaths ..) j
  rw [hset, brth_setBrth_self]

theorem suspendPending_askSuspend (s : State) (j why : Nat) : suspendPending (askSuspend s j why) j = true :=
  (rdB_setB_self ..).trans (by simp)

theorem jobOf_setJob_self (s : State) (j : Nat) (k : Job) : jobOf (setJob s j k) j = k := by
  rw [jobOf, setJob, Sparse.get_set, if_pos rfl]

section
variable {src : Src} {s : State} {c : Cmd} (hl : live s = true)
include hl

/-- CHECKPOINT of a running job (R66, R405). -/
theorem checkpoint_begins {j : Nat} (hs : starts s src 0x0301 [low 7] (c1Job c) c) (hj : breathOf s (c.f 1 0 8) = some j)
    (hstate : jobState s j = 3) (hbg : bgCount s < 4) (hbusy : ckptBusy s j = false) :
    ∃ t, exec (.checkpoint src) s = .next t ∧ begun s t src c true (c1Job c) []
      ∧ suspendPending t j = true ∧ (brth t j).asked = (brth s j).asked ++ [3]
      ∧ boxFrame s t src false [R.brthStatus j] (fun _ => False) ∧ t.coreRegs = s.coreRegs := by
  have hbody : checkpointBody c (takeFront s src) = .runs (askSuspend (takeFront s src) j 3) true (c1Job c) [] := by
    rw [checkpointBody, onJob_of ((breathOf_takeFront ..).trans hj)]
    dsimp only
    rw [jobState_takeFront, ckptBusy_takeFront, bgCount_takeFront, if_neg (by rw [hbusy]; decide),
      if_neg (fun h => h.1 hstate), if_neg (by omega), if_pos hstate, c1Job]
  have hframe := askSuspend_regs (takeFront s src) j 3
  obtain ⟨b, hact, hbegun, -⟩ := act_begins_after (locks := c1Job) hl hs hbody ⟨_, hframe.mbox⟩
  refine ⟨_, (rfl : exec _ s = execCheckpoint src s).trans hact, hbegun, ?_, ?_, begun_boxFrame hframe.rd hframe.mem, ?_⟩
  · rw [suspendPending, rdB, rd_begun (by unfold R.brthStatus R.msixPba; omega)]
    exact suspendPending_askSuspend ..
  · rw [brth_of_breaths (after_breaths ..), ← brth_takeFront s src, ← askSuspend_asked]
    rfl
  · rw [after_coreRegs]
    exact hframe.coreRegs.trans (takeFront_coreRegs ..)

/-- CHECKPOINT of a job that has a checkpoint, or a test, under way (R405). -/
theorem checkpoint_busy {j : Nat} (hs : starts s src 0x0301 [low 7] (c1Job c) c) (hj : breathOf s (c.f 1 0 8) = some j)
    (hbusy : ckptBusy s j = true) : ∃ t, exec (.checkpoint src) s = .next t ∧ rejects s t src c 0x14 0 := by
  have hbody : checkpointBody c (takeFront s src) = .fail (takeFront s src) 0x14 0 := by
    rw [checkpointBody, onJob_of ((breathOf_takeFront ..).trans hj)]
    dsimp only
    rw [ckptBusy_takeFront, if_pos hbusy]
  exact act_fails (locks := c1Job) hl hs hbody

/-- FIELD_TEST of a running job (R413). -/
theorem fieldTest_job_begins {j : Nat} (hs : starts s src 0x0A01 [0xFFFFF01FF] (testLocks s c) c)
    (hbit : bitAt (c.c 1) 0 = true) (hj : breathOf s (c.f 1 1 8) = some j) (hstate : jobState s j = 3) (hbg : bgCount s < 4)
    (hbusy : ckptBusy s j = false) :
    ∃ t, exec (.fieldTest src) s = .next t ∧ begun s t src c true [.job (c.f 1 1 8)] [] ∧ suspendPending t j = true
      ∧ (jobOf t j).testWanted = true ∧ boxFrame s t src false [R.brthStatus j] (fun _ => False) := by
  have hbody : fieldTestBody c (takeFront s src) = .runs (askSuspend (setJob (takeFront s src) j
      { jobOf (takeFront s src) j with testWanted := true }) j 5) true [.job (c.f 1 1 8)] [] := by
    rw [fieldTestBody, bgCount_takeFront, if_neg (by omega), if_pos hbit, onJob_of ((breathOf_takeFront ..).trans hj)]
    dsimp only
    rw [jobState_takeFront, ckptBusy_takeFront, if_neg (fun h => h.1 hstate), if_neg (by rw [hbusy]; decide), if_pos hstate]
  generalize hu : setJob (takeFront s src) j { jobOf (takeFront s src) j with testWanted := true } = u at hbody
  have hframe := askSuspend_regs u j 5
  have hmbox : (askSuspend u j 5).mbox = (takeFront s src).mbox := hframe.mbox.trans (by rw [← hu, setJob_mbox])
  obtain ⟨b, hact, hbegun, -⟩ := act_begins_after (locks := testLocks s) hl hs hbody ⟨_, hmbox⟩
  refine ⟨_, (rfl : exec _ s = execFieldTest src s).trans hact, hbegun, ?_, ?_,
    begun_boxFrame (fun o ho => (hframe.rd o ho).trans ?_) (hframe.mem.trans ?_)⟩
  · rw [suspendPending, rdB, rd_begun (by unfold R.brthStatus R.msixPba; omega)]
    exact suspendPending_askSuspend ..
  · have hjobs : (after s { askSuspend u j 5 with mbox := b }).jobs = u.jobs := after_jobs ..
    rw [jobOf, hjobs, ← jobOf, ← hu, jobOf_setJob_self]
  · rw [← hu]; rfl
  · rw [← hu, setJob_mem]

end

end Sys2Proof.Machine
end

section
/-! SUPPORT. Cores that go under test or are asked for a snapshot, changes that ask for a drain, and relayed entries, as their
commands begin (R165, R382, R388, R413). -/
namespace Sys2Proof.Machine

/-! ### One change made to several cores -/

/-- A change of one core that is the same made twice, made to each core of a list. -/
theorem core_foldl_upCore {f : Core → Core} (hf : ∀ k, f (f k) = f k) (n : Nat) : ∀ (l : List Nat) (s : State),
    core (l.foldl (fun s m => upCore s m f) s) n = if n ∈ l then f (core s n) else core s n
  | [], _ => rfl
  | m :: l, s => by
    rw [List.foldl_cons, core_foldl_upCore hf n l]
    by_cases hm : n = m
    · subst hm
      rw [core_upCore_self, hf, ite_self, if_pos (List.mem_cons_self ..)]
    · rw [core_upCore_ne s f hm]
      simp only [List.mem_cons, hm, false_or]

theorem foldl_upCore_frame (f : Core → Core) : ∀ (l : List Nat) (s : State),
    ∃ cs, l.foldl (fun s m => upCore s m f) s = { s with cores := cs }
  | [], _ => ⟨_, rfl⟩
  | m :: l, s => foldl_upCore_frame f l (upCore s m f)

/-- A core under test. -/
def underTest (k : Core) : Core := { k with testing := true }

/-- A core asked for its snapshot of step `q` by running command `id` (R165). -/
def snapshotAsked (id : Nat) (q : BitVec 32) (k : Core) : Core := { k with snapshot := some (id, q), snapDone := false }

/-- In a running job the snapshots are asked for, and no core holds one yet. -/
theorem wantSnapshot_running {s : State} {j : Nat} (h : jobState s j = 3) (id : Nat) (q : BitVec 32) :
    wantSnapshot s j id q = (coresOf s j).foldl (fun s m => upCore s m (snapshotAsked id q)) s := by
  have hfold (l : List Nat) : ∀ s : State, jobState s j = 3 → l.foldl (fun s n =>
      let s := upCore s n fun c => { c with snapshot := some (id, q), snapDone := false }
      if jobState s j = 4 ∧ plasStep s n = q then cwB s n R.plasStatus 3 true else s) s
      = l.foldl (fun s m => upCore s m (snapshotAsked id q)) s := by
    induction l with
    | nil => exact fun _ _ => rfl
    | cons n l ih =>
      intro s hs
      have hsame : jobState (upCore s n (snapshotAsked id q)) j = 3 := hs
      have hfirst : (if jobState (upCore s n (snapshotAsked id q)) j = 4 ∧ plasStep (upCore s n (snapshotAsked id q)) n = q
          then cwB (upCore s n (snapshotAsked id q)) n R.plasStatus 3 true else upCore s n (snapshotAsked id q))
          = upCore s n (snapshotAsked id q) := if_neg fun hk => absurd (hsame.symm.trans hk.1) (by decide)
      rw [List.foldl_cons, List.foldl_cons, ← ih _ hsame]
      exact congrArg (l.foldl _) hfirst
  exact hfold _ s h

theorem inJob_takeFront (s : State) (src : Src) (n : Nat) : inJob (takeFront s src) n = inJob s n := by
  simp only [inJob, coresOf_takeFront]

theorem idleCore_takeFront (s : State) (src : Src) (n : Nat) : idleCore (takeFront s src) n = idleCore s n := by
  rw [idleCore, assigned_of_coreRegs (takeFront_coreRegs ..), inJob_takeFront, ← idleCore]

theorem passed_takeFront (s : State) (src : Src) (j n : Nat) (q : BitVec 32) :
    passed (takeFront s src) j n q = passed s j n q := by
  rw [passed, plasStep_of_coreRegs (takeFront_coreRegs ..), jobState_takeFront, ← passed]

/-! ### The package tree, before and after a command's record is taken -/

theorem peerRole_takeFront (s : State) (src : Src) : peerRole (takeFront s src) = peerRole s :=
  congrArg (fld · 0 2) (rd_takeFront s src (by unfold inMailbox; decide))

theorem peerPort_takeFront (s : State) (src : Src) (k : Nat) : peerPort (takeFront s src) k = peerPort s k := by
  have hid : pkgId (takeFront s src) = pkgId s := congrArg (fld · 0 4) (rd_takeFront s src (by unfold inMailbox; decide))
  have hport (p : Nat) : portInUse (takeFront s src) p = portInUse s p :=
    congrArg (bitAt · (4 + p)) (rd_takeFront s src (by unfold inMailbox; decide))
  simp only [peerPort, peerRole_takeFront, hid, hport]

theorem stateOf_peer_takeFront (s : State) (src : Src) (p : Fin 4) :
    stateOf (takeFront s src) (.peer p) = stateOf s (.peer p) :=
  congrArg (fld · 0 2) (rd_takeFront s src (by unfold inMailbox R.peerStatus; omega))

/-! ### The commands -/

/-- A change list that names used words of few jobs asks for their drain (R382). -/
theorem tableChangeBody_runs {src : Src} {s v : State} {c : Cmd} {l : List Byte} {list : List (Nat × W64)}
    (hn : c.f 2 0 13 ≠ 0) (hle : c.f 2 0 13 ≤ 4096) (hbg : bgCount s < 4) (ha : (c.c 1).toNat % 256 = 0)
    (hm : firstUnmapped (takeFront s src) (c.c 1).toNat (cdiv (16 * c.f 2 0 13) 256) = none)
    (hr : readSource none (cdiv (16 * c.f 2 0 13) 256) (takeFront s src) (c.c 1).toNat = (.data l, v))
    (hlist : changeList (c.f 2 0 13) (l.take (16 * c.f 2 0 13)) = list) (hgood : badChange v list = none)
    (hfew : (changeUsers v list).length ≤ 4) :
    tableChangeBody c (takeFront s src) = .runs (requestDrain v (changeUsers v list) (some v.mbox.nextRun)) true
      ((changeUsers v list).map fun j => .job (jobId v j)) (list.flatMap fun e => [e.1, e.2.toNat]) := by
  have hsize : ¬ (c.f 2 0 13 = 0 ∨ c.f 2 0 13 > 4096) := by omega
  rw [tableChangeBody]
  dsimp only
  rw [bgCount_takeFront, if_neg hsize, if_neg (by omega), withSource_data 1 _ ha hm hr, hlist, hgood]
  dsimp only
  rw [if_neg (by omega)]

section
variable {src : Src} {s : State} {c : Cmd} (hl : live s = true)
include hl

/-- FIELD_TEST of idle cores (R413). -/
theorem fieldTest_idle_begins (hs : starts s src 0x0A01 [0xFFFFF01FF] (testLocks s c) c) (hbit : bitAt (c.c 1) 0 = false)
    (hbg : bgCount s < 4) (hne : testRange c ≠ [])
    (hidle : ∀ n ∈ testRange c, idleCore s n = true ∧ (core s n).testing = false) :
    ∃ t, exec (.fieldTest src) s = .next t ∧ begun s t src c true (testLocks s c) (testRange c)
      ∧ (∀ n, core t n = if n ∈ testRange c then { core s n with testing := true } else core s n)
      ∧ boxFrame s t src false [] (fun _ => False) := by
  have hfind : ((testRange c).find? fun n => !idleCore (takeFront s src) n) = none :=
    List.find?_eq_none.2 fun n hn => by rw [idleCore_takeFront, (hidle n hn).1]; decide
  have hany : ¬ ((testRange c).any fun n => (core (takeFront s src) n).testing) = true := by
    rw [List.any_eq_true]
    rintro ⟨n, hn, ht⟩
    rw [core_takeFront, (hidle n hn).2] at ht
    cases ht
  have hempty : ¬ (testRange c).isEmpty = true := fun h => hne (List.isEmpty_iff.1 h)
  have hbody : fieldTestBody c (takeFront s src) = .runs ((testRange c).foldl (fun s n => upCore s n underTest) (takeFront s src))
      true (testLocks s c) (testRange c) := by
    rw [fieldTestBody, bgCount_takeFront, if_neg (by omega), if_neg (by rw [hbit]; decide)]
    dsimp only
    rw [if_neg hempty, hfind]
    dsimp only
    rw [if_neg hany, testLocks_of_coreRegs (takeFront_coreRegs ..)]
    rfl
  have hcores (n : Nat) := core_foldl_upCore (f := underTest) (fun _ => rfl) n (testRange c) (takeFront s src)
  obtain ⟨cs, hv⟩ := foldl_upCore_frame underTest (testRange c) (takeFront s src)
  rw [hv] at hbody hcores
  obtain ⟨b, hact, hbegun, -⟩ := act_begins_after (locks := testLocks s) hl hs hbody ⟨_, rfl⟩
  refine ⟨_, (rfl : exec _ s = execFieldTest src s).trans hact, hbegun, fun n => ?_, begun_boxFrame (fun _ _ => rfl) rfl⟩
  rw [core_after, ← core_takeFront s src]
  exact hcores n

/-- WEIGHTS_READ of a running job (R165). -/
theorem weightsRead_begins {j : Nat} (hs : starts s src 0x0401 [low 8, low 31, low 63, low 31] [] c)
    (hj : breathOf s (c.f 1 0 8) = some j) (hstate : jobState s j = 3) (hbg : bgCount s < 4)
    (hcores : ∀ n ∈ coresOf s j, (core s n).snapshot = none ∧ passed s j n (BitVec.ofNat 32 (c.f 2 0 32)) = false)
    (hroom : ((coresOf s j).map fun m => snapBlocks s m (bitAt (c.c 1) 8)).sum * 256 ≤ c.f 4 0 32)
    (ha : (c.c 3).toNat % 256 = 0)
    (hm : firstUnmapped (takeFront s src) (c.c 3).toNat
      (cdiv (((coresOf s j).map fun m => snapBlocks s m (bitAt (c.c 1) 8)).sum * 256) 256) = none) :
    ∃ t, exec (.weightsRead src) s = .next t ∧ begun s t src c true [] [j]
      ∧ (∀ n ∈ coresOf s j, (core t n).snapshot = some (s.mbox.nextRun, BitVec.ofNat 32 (c.f 2 0 32))
          ∧ (core t n).snapDone = false)
      ∧ t.coreRegs = s.coreRegs ∧ boxFrame s t src false [] (fun _ => False) := by
  generalize hq : BitVec.ofNat 32 (c.f 2 0 32) = q at hcores
  have hany : ¬ ((coresOf s j).any fun m => (core (takeFront s src) m).snapshot.isSome) = true := by
    rw [List.any_eq_true]
    rintro ⟨n, hn, h⟩
    rw [core_takeFront, (hcores n hn).1] at h
    cases h
  have hfind : ((coresOf s j).find? fun m => passed (takeFront s src) j m q) = none :=
    List.find?_eq_none.2 fun n hn => by rw [passed_takeFront, (hcores n hn).2]; decide
  have hblocks : (fun m => snapBlocks (takeFront s src) m (bitAt (c.c 1) 8)) = fun m => snapBlocks s m (bitAt (c.c 1) 8) :=
    funext fun m => snapBlocks_of_coreRegs (takeFront_coreRegs ..) (takeFront_mem ..) m _
  have hbody : weightsReadBody c (takeFront s src) = .runs ((coresOf s j).foldl
      (fun t m => upCore t m (snapshotAsked s.mbox.nextRun q)) (takeFront s src)) true [] [j] := by
    rw [weightsReadBody, onJob_of ((breathOf_takeFront ..).trans hj)]
    dsimp only
    rw [jobState_takeFront, coresOf_takeFront, bgCount_takeFront, hq, hblocks, if_neg (fun h => h.1 hstate),
      if_neg (not_or.2 ⟨by omega, hany⟩), hfind]
    dsimp only
    rw [if_neg (by omega), checkRange_ok 3 _ ha hm, takeFront_nextRun,
      wantSnapshot_running ((jobState_takeFront ..).trans hstate), coresOf_takeFront]
  have hcore (n : Nat) := core_foldl_upCore (f := snapshotAsked s.mbox.nextRun q) (fun _ => rfl) n (coresOf s j) (takeFront s src)
  obtain ⟨cs, hv⟩ := foldl_upCore_frame (snapshotAsked s.mbox.nextRun q) (coresOf s j) (takeFront s src)
  rw [hv] at hbody hcore
  obtain ⟨b, hact, hbegun, -⟩ := act_begins_after (locks := fun _ => []) hl hs hbody ⟨_, rfl⟩
  refine ⟨_, (rfl : exec _ s = execWeightsRead src s).trans hact, hbegun, fun n hn => ?_,
    (after_coreRegs ..).trans (takeFront_coreRegs ..), begun_boxFrame (fun _ _ => rfl) rfl⟩
  have hn' := (hcore n).trans (if_pos hn)
  have hafter : core (after s { takeFront s src with cores := cs, mbox := b }) n
      = snapshotAsked s.mbox.nextRun q (core (takeFront s src) n) := (core_after ..).trans hn'
  rw [hafter]
  exact ⟨rfl, rfl⟩

/-- TABLE_CHANGE (R382). -/
theorem tableChange_begins {l : List Byte} {v : State} (hs : starts s src 0x010B [adr, low 12] (changeLocks s c) c)
    (hn : c.f 2 0 13 ≠ 0) (hle : c.f 2 0 13 ≤ 4096) (hbg : bgCount s < 4) (ha : (c.c 1).toNat % 256 = 0)
    (hm : firstUnmapped (takeFront s src) (c.c 1).toNat (cdiv (16 * c.f 2 0 13) 256) = none)
    (hr : readSource none (cdiv (16 * c.f 2 0 13) 256) (takeFront s src) (c.c 1).toNat = (.data l, v))
    (hgood : badChange v (changeList (c.f 2 0 13) (l.take (16 * c.f 2 0 13))) = none)
    (hfew : (changeUsers v (changeList (c.f 2 0 13) (l.take (16 * c.f 2 0 13)))).length ≤ 4) :
    ∃ t, exec (.tableChange src) s = .next t ∧ t.mem = v.mem
      ∧ t.mbox.runs.length = s.mbox.runs.length + 1
      ∧ t.mesh.drains = s.mesh.drains ++
        [⟨changeUsers v (changeList (c.f 2 0 13) (l.take (16 * c.f 2 0 13))), some s.mbox.nextRun, none, (none, false)⟩] := by
  have hv := readSource_sourceRead hr
  have hbody := tableChangeBody_runs hn hle hbg ha hm hr rfl hgood hfew
  have hmesh : v.mesh.drains = s.mesh.drains := by rw [hv.mesh, takeFront_mesh]
  have hnext : v.mbox.nextRun = s.mbox.nextRun := by rw [hv.mbox, takeFront_nextRun]
  obtain ⟨b, hact, hbegun, -⟩ := act_begins_after (locks := changeLocks s) hl hs hbody ⟨_, hv.mbox⟩
  refine ⟨_, (rfl : exec _ s = execTableChange src s).trans hact, after_mem .., ?_, ?_⟩
  · rw [hbegun.1, List.length_append, List.length_singleton]
  · rw [after_mesh, ← hmesh, ← hnext, requestDrain, setDrains]

/-- HIER_RELAY of an entry to a worker whose link is up (R388). -/
theorem hierRelay_begins {l : List Byte} {v : State} {q : Nat} (hs : starts s src 0x0E03 [low 3, low 63, low 63] [] c)
    (hrole : peerRole s = 1) (hp : c.f 1 0 4 ≠ 0) (hpresent : s.mbox.present.getLsbD (c.f 1 0 4) = true)
    (hport : peerPort s (c.f 1 0 4) = some q) (hup : stateOf s (.peer (Fin.ofNat 4 q)) ≠ 3)
    (ha : (c.c 2).toNat % 256 = 0) (ha' : (c.c 3).toNat % 256 = 0)
    (hm : firstUnmapped (takeFront s src) (c.c 2).toNat (cdiv 64 256) = none)
    (hm' : firstUnmapped v (c.c 3).toNat (cdiv 64 256) = none)
    (hr : readSource none (cdiv 64 256) (takeFront s src) (c.c 2).toNat = (.data l, v)) :
    ∃ t, exec (.hierRelay src) s = .next t ∧ begun s t src c false [] []
      ∧ t.mbox.relayTo = (s.mbox.nextRun, c.f 1 0 4, wordsOf 8 (l.take 64)) :: s.mbox.relayTo := by
  have hv := readSource_sourceRead hr
  have hup' : ¬ (stateOf (takeFront s src) (.peer (Fin.ofNat 4 q)) == 3) = true := by
    rw [stateOf_peer_takeFront, beq_iff_eq]
    exact hup
  have hbody : hierRelayBody c (takeFront s src) = .runs { v with mbox := { v.mbox with
      relayTo := (v.mbox.nextRun, c.f 1 0 4, wordsOf 8 (l.take 64)) :: v.mbox.relayTo } } false [] [] := by
    rw [hierRelayBody]
    dsimp only
    rw [peerRole_takeFront, (takeFront_relay s src).2, peerPort_takeFront, hport, if_neg (not_not.2 hrole),
      if_neg (by simp [hp, hpresent])]
    dsimp only
    rw [if_neg hup', withSource_data 2 _ ha hm hr, checkRange_ok 3 _ ha' hm']
  obtain ⟨b, hact, hbegun, hrelay⟩ := act_begins_after (locks := fun _ => []) hl hs hbody ⟨_, by rw [hv.mbox]⟩
  refine ⟨_, (rfl : exec _ s = execHierRelay src s).trans hact, hbegun, ?_⟩
  rw [after_mbox, hrelay, hv.mbox, takeFront_nextRun, (takeFront_relay s src).1]

end

/-- Settles O21: each command's checks pass on the state from which its record is taken as they do before, its effect is
small, and it joins the commands that run. -/
theorem waitingCommandsBegin : Obligations.WaitingCommandsBegin := by
  unfold Obligations.WaitingCommandsBegin
  exact fun src s c hl => ⟨fun j => checkpoint_begins hl, fun j => checkpoint_busy hl, fun j => fieldTest_job_begins hl,
    fieldTest_idle_begins hl, fun j => weightsRead_begins hl, fun l v => tableChange_begins hl,
    fun l v q => hierRelay_begins hl⟩

end Sys2Proof.Machine
end

section
/-! SUPPORT. The states of links: where each stands, and what leaves them all alone (R219, R220, R360). -/
namespace Sys2Proof.Machine

/-! ### Faults and failed conditions (R402, R468) -/

/-- `t` differs from `s` in the registers, the bookkeeping and the faults of the breaths alone. -/
structure BreathWork (s t : State) : Prop where
  only : ∃ r b f, t = { s with regs := r, breaths := b, faults := f }
  rd : ∀ o, o < 0x40000 ∨ 0x50000 ≤ o → rd t o = rd s o

namespace BreathWork

theorem refl (s : State) : BreathWork s s := ⟨⟨_, _, _, rfl⟩, fun _ _ => rfl⟩

theorem trans {s t u : State} (h : BreathWork s t) (k : BreathWork t u) : BreathWork s u where
  only := by
    obtain ⟨_, _, _, rfl⟩ := h.only
    obtain ⟨r, b, f, rfl⟩ := k.only
    exact ⟨r, b, f, rfl⟩
  rd o ho := (k.rd o ho).trans (h.rd o ho)

theorem ite {s t u : State} {c : Prop} [Decidable c] (h : BreathWork s t) (k : BreathWork s u) :
    BreathWork s (if c then t else u) := by
  split
  · exact h
  · exact k

/-- The same work done for each of several breaths. -/
theorem foldl {f : State → Nat → State} (hf : ∀ s j, j < 64 → BreathWork s (f s j)) :
    ∀ (l : List Nat) (s : State), (∀ j ∈ l, j < 64) → BreathWork s (l.foldl f s)
  | [], s, _ => .refl s
  | j :: r, s, h => (hf s j (h j (by simp))).trans (foldl hf r _ fun i hi => h i (by simp [hi]))

theorem all {f : State → Nat → State} (hf : ∀ s j, j < 64 → BreathWork s (f s j)) (s : State) :
    BreathWork s ((List.range 64).foldl f s) := foldl hf _ s fun _ h => List.mem_range.1 h

theorem mesh {s t : State} (h : BreathWork s t) : t.mesh = s.mesh := by obtain ⟨_, _, _, rfl⟩ := h.only; rfl

end BreathWork

theorem condRegs_area {j o : Nat} (hj : j < 64) (ho : o < 0x40000 ∨ 0x50000 ≤ o) : o ∉ condRegs j := by
  simp only [condRegs, R.l0Cond, R.l0StepsOut, R.jobEvent, List.mem_cons, List.not_mem_nil, or_false]
  omega

theorem failCond_work {j : Nat} (s : State) (bit : Nat) (hj : j < 64) : BreathWork s (failCond s j bit) := by
  refine ⟨?_, fun o ho => rd_failCond_ne _ _ _ (condRegs_area hj ho)⟩
  obtain ⟨r, b, h⟩ := failCond_frame s j bit
  exact ⟨r, b, _, h⟩

theorem failL0_work {j : Nat} (s : State) (bit : Nat) (hj : j < 64) : BreathWork s (failL0 s j bit) :=
  .ite (failCond_work s bit hj) (.refl s)

theorem setBrthState_work {j : Nat} (s : State) (v : Nat) (hj : j < 64) : BreathWork s (setBrthState s j v) :=
  ⟨⟨_, _, _, rfl⟩, fun o ho => rd_wrF_ne _ _ _ _ (by unfold R.brthStatus; omega)⟩

theorem raise_work {j : Nat} (s : State) (code step : Nat) (hj : j < 64) : BreathWork s (raise s j code step) := by
  have hf : BreathWork s { s with faults := s.faults ++ [(⟨j, code, step % 2 ^ 32⟩ : Raised)] } :=
    ⟨⟨_, _, _, rfl⟩, fun _ _ => rfl⟩
  unfold raise
  extract_lets st t
  split
  · exact (hf.trans (setBrthState_work t 4 hj)).trans (failL0_work _ 4 hj)
  · exact .refl s

/-- A condition that fails for every breath that a test finds. -/
theorem failCondAll_work (c : State → Nat → Bool) (bit : Nat) (s : State) :
    BreathWork s ((List.range 64).foldl (fun s j => if c s j then failCond s j bit else s) s) :=
  BreathWork.all (fun s _ hj => .ite (failCond_work s bit hj) (.refl s)) s

theorem failRetry_work (s : State) (node o : Nat) : BreathWork s (failRetry s node o) :=
  failCondAll_work (fun s j => brthL0 s j && usesLink s j node o) 2 s

theorem failLink_work (s : State) : ∀ l : LinkId, BreathWork s (failLink s l)
  | .mesh node out => failRetry_work s (nodeIx node) (portIx out)
  | .peer p => failCondAll_work (fun s j => brthL0 s j && farSide s j p.val) 2 s

/-! ### Where a link's state stands -/

/-- The register that holds the state of a link (Tables 8-15, 8-16, 13-12). -/
def stateReg : LinkId → Nat
  | .mesh (.router n) _ => R.rtrStatus n.val
  | .mesh (.hub p) _ => R.hubportStatus p.val
  | .peer p => R.peerStatus p.val

/-- The place of the state in its register. -/
def stateLo : LinkId → Nat
  | .mesh (.router _) out => 2 * portIx out
  | _ => 0

/-- The offsets at which states of links stand. -/
def isStateReg (o : Nat) : Prop :=
  (0x100000 ≤ o ∧ o % 0x200 = 8) ∨ (0x50060 ≤ o ∧ o < 0x50160) ∨ (0x5040 ≤ o ∧ o < 0x5140 ∧ o % 0x40 = 0)

theorem stateReg_isStateReg (l : LinkId) : isStateReg (stateReg l) := by
  unfold isStateReg stateReg
  cases l with
  | mesh node out =>
    cases node with
    | router n => left; simp only [R.rtrStatus]; omega
    | hub p => right; left; simp only [R.hubportStatus]; omega
  | peer p => right; right; simp only [R.peerStatus]; omega

theorem portIx_le (o : Port) : portIx o ≤ 4 := by cases o <;> decide

theorem stateLo_place (l : LinkId) : stateLo l + 2 ≤ 64 ∧ stateLo l % 2 = 0 := by
  unfold stateLo
  split
  · rename_i out
    have := portIx_le out
    omega
  · exact ⟨by decide, rfl⟩

theorem stateOf_eq (s : State) (l : LinkId) : stateOf s l = rdF s (stateReg l) (stateLo l) 2 := by
  cases l with
  | mesh node out =>
    cases node with
    | router n => exact if_neg (by simp [nodeIx])
    | hub p => simp [stateOf, linkState, nodeIx, stateReg, stateLo]
  | peer p => rfl

theorem setStateOf_eq (s : State) (l : LinkId) (v : Nat) : setStateOf s l v = wrF s (stateReg l) (stateLo l) 2 v := by
  cases l with
  | mesh node out =>
    cases node with
    | router n => exact if_neg (by simp [nodeIx])
    | hub p => simp [setStateOf, setLinkState, nodeIx, stateReg, stateLo]
  | peer p => rfl

theorem stateOf_setStateOf_self (s : State) (l : LinkId) {v : Nat} (hv : v < 4) : stateOf (setStateOf s l v) l = v := by
  rw [stateOf_eq, setStateOf_eq, rdF, wrF, rd_wr_self, fld_putFld_self _ _ (stateLo_place l).1]
  exact Nat.mod_eq_of_lt hv

theorem stateOf_of_rd {s t : State} (h : ∀ o, isStateReg o → rd t o = rd s o) (l : LinkId) : stateOf t l = stateOf s l := by
  rw [stateOf_eq, stateOf_eq, rdF, rdF, h _ (stateReg_isStateReg l)]

/-- A link that goes DOWN takes no other one up. -/
theorem stateOf_setStateOf_down {s : State} {l l' : LinkId} (h : stateOf s l' = 3) : stateOf (setStateOf s l 3) l' = 3 := by
  have hl := stateLo_place l
  have hl' := stateLo_place l'
  rw [stateOf_eq] at h ⊢
  rw [setStateOf_eq]
  by_cases hr : stateReg l' = stateReg l
  · rw [hr] at h ⊢
    rw [rdF, wrF, rd_wr_self]
    by_cases hlo : stateLo l' = stateLo l
    · rw [hlo, fld_putFld_self _ _ hl.1]
      rfl
    · rw [fld_putFld_apart _ _ (by omega)]
      exact h
  · rw [rdF, rd_wrF_ne _ _ _ _ hr]
    exact h

theorem stateOf_bump (s : State) {o : Nat} (k : Nat) (l : LinkId) (h : ¬ isStateReg o) : stateOf (bump s o k) l = stateOf s l :=
  stateOf_of_rd (fun _ hx => rd_bump_ne _ _ (by rintro rfl; exact h hx)) l

theorem stateOf_setB (s : State) {o : Nat} (i : Nat) (l : LinkId) (h : ¬ isStateReg o) : stateOf (setB s o i) l = stateOf s l :=
  stateOf_of_rd (fun _ hx => rd_setB_ne _ _ (by rintro rfl; exact h hx)) l

theorem stateOf_setLink (s : State) (k : Nat) (h : Link) (l : LinkId) : stateOf (setLink s k h) l = stateOf s l :=
  stateOf_of_rd (fun _ _ => rfl) l

theorem BreathWork.stateOf {s t : State} (h : BreathWork s t) (l : LinkId) : stateOf t l = Machine.stateOf s l :=
  stateOf_of_rd (fun o ho => h.rd o (by unfold isStateReg at ho; omega)) l

theorem EntryOnly.stateOf {s t : State} (h : EntryOnly s t) (l : LinkId) : stateOf t l = Machine.stateOf s l :=
  stateOf_of_rd (fun o ho => h.rd o (by unfold isStateReg at ho; unfold entryReg R.hubDrain R.meshMisaddrHub; omega)) l

theorem stateOf_after (s u : State) (l : LinkId) : stateOf (after s u) l = stateOf u l :=
  stateOf_of_rd (fun o ho => rd_after _ _ (by unfold isStateReg at ho; unfold R.msixPba; omega)) l

/-- `PEER_STATUS.TRAINED` stands apart from the states of links, which a write of bit 2 leaves alone. -/
theorem stateOf_trainedBit {s t : State} {p : Nat} (h : ∀ o, o ≠ R.peerStatus p → rd t o = rd s o)
    (hb : ∀ k, k ≠ 2 → bitAt (rd t (R.peerStatus p)) k = bitAt (rd s (R.peerStatus p)) k) (l : LinkId) :
    stateOf t l = stateOf s l := by
  rw [stateOf_eq, stateOf_eq, rdF, rdF]
  by_cases hr : stateReg l = R.peerStatus p
  · have hlo : stateLo l = 0 := by
      cases l with
      | mesh node out =>
        cases node with
        | router n =>
          have hs := stateReg_isStateReg (.mesh (.router n) out)
          simp only [stateReg, R.rtrStatus, R.peerStatus] at hr
          omega
        | hub q => rfl
      | peer q => rfl
    rw [hr, hlo]
    exact fld_congr fun k hk => by simpa using hb k (by omega)
  · rw [h _ hr]

theorem stateOf_setTrained (s : State) (p : Nat) (l : LinkId) :
    stateOf (setB s (R.peerStatus p) 2) l = stateOf s l :=
  stateOf_trainedBit (fun _ h => rd_setB_ne _ _ h) (fun k hk => by rw [setB, rd_wr_self]; simp [hk]) l

theorem stateOf_clrTrained (s : State) (p : Nat) (l : LinkId) :
    stateOf (clrB s (R.peerStatus p) 2) l = stateOf s l :=
  stateOf_trainedBit (fun _ h => rd_wr_ne h) (fun k hk => by rw [rd_wr_self]; simp [hk]) l

/-! ### The tables of links -/

theorem link_setLink (s : State) (k k' : Nat) (h : Link) : link (setLink s k h) k' = if k' = k then h else link s k' :=
  Sparse.get_set ..

@[simp] theorem link_setLink_self (s : State) (k : Nat) (h : Link) : link (setLink s k h) k = h := by simp [link_setLink]

theorem link_of_mesh {s t : State} (h : t.mesh = s.mesh) (k : Nat) : link t k = link s k := by rw [link, link, h]

theorem link_of_links {s t : State} (h : t.mesh.links = s.mesh.links) (k : Nat) : link t k = link s k := by rw [link, link, h]

theorem setStateOf_mesh (s : State) (l : LinkId) (v : Nat) : (setStateOf s l v).mesh = s.mesh := by
  rw [setStateOf_eq]; rfl

end Sys2Proof.Machine
end

section
/-! SUPPORT. What retrains, replays and falls of links leave (R214, R219, R220, R360). -/
namespace Sys2Proof.Machine

/-! ### What the work on a link can change -/

/-- The hub registers of peer ports, of breaths, of the mesh and of the routers. -/
def linkArea (o : Nat) : Prop := (0x5000 ≤ o ∧ o < 0x6000) ∨ (0x40000 ≤ o ∧ o < 0x51000) ∨ 0x100000 ≤ o

/-- `t` differs from `s` in such registers, in the mesh, in what the breaths note and in what the balls show alone. -/
structure LinkWork (s t : State) : Prop where
  only : ∃ r m b f o, t = { s with regs := r, mesh := m, breaths := b, faults := f, outs := o }
  rd : ∀ o, ¬ linkArea o → rd t o = rd s o

namespace LinkWork

theorem refl (s : State) : LinkWork s s := ⟨⟨_, _, _, _, _, rfl⟩, fun _ _ => rfl⟩

theorem trans {s t u : State} (h : LinkWork s t) (k : LinkWork t u) : LinkWork s u where
  only := by
    obtain ⟨_, _, _, _, _, rfl⟩ := h.only
    obtain ⟨r, m, b, f, o, rfl⟩ := k.only
    exact ⟨r, m, b, f, o, rfl⟩
  rd o ho := (k.rd o ho).trans (h.rd o ho)

theorem ite {s t u : State} {c : Prop} [Decidable c] (h : LinkWork s t) (k : LinkWork s u) :
    LinkWork s (if c then t else u) := by
  split
  · exact h
  · exact k

section
variable {s t : State} (h : LinkWork s t)
include h
theorem mem : t.mem = s.mem := by obtain ⟨_, _, _, _, _, rfl⟩ := h.only; rfl
theorem coreRegs : t.coreRegs = s.coreRegs := by obtain ⟨_, _, _, _, _, rfl⟩ := h.only; rfl
theorem chip : t.chip = s.chip := by obtain ⟨_, _, _, _, _, rfl⟩ := h.only; rfl
theorem boot : t.boot = s.boot := by obtain ⟨_, _, _, _, _, rfl⟩ := h.only; rfl
theorem tags : t.tags = s.tags := by obtain ⟨_, _, _, _, _, rfl⟩ := h.only; rfl
theorem time : t.time = s.time := by obtain ⟨_, _, _, _, _, rfl⟩ := h.only; rfl
end

end LinkWork

theorem BreathWork.linkWork {s t : State} (h : BreathWork s t) : LinkWork s t where
  only := by obtain ⟨r, b, f, e⟩ := h.only; exact ⟨r, _, b, f, _, e⟩
  rd o ho := h.rd o (by unfold linkArea at ho; omega)

theorem EntryOnly.linkWork {s t : State} (h : EntryOnly s t) : LinkWork s t where
  only := by obtain ⟨r, m, e⟩ := h.only; exact ⟨r, m, _, _, _, e⟩
  rd o ho := h.rd o (by unfold linkArea at ho; unfold entryReg R.hubDrain R.meshMisaddrHub; omega)

theorem wr_linkWork (s : State) {o : Nat} (v : W64) (h : linkArea o) : LinkWork s (wr s o v) :=
  ⟨⟨_, _, _, _, _, rfl⟩, fun _ hx => rd_wr_ne (by rintro rfl; exact hx h)⟩

theorem setLink_linkWork (s : State) (k : Nat) (h : Link) : LinkWork s (setLink s k h) := (setLink_entry s k h).linkWork

theorem setStateOf_linkWork (s : State) (l : LinkId) (v : Nat) : LinkWork s (setStateOf s l v) := by
  have hl := stateReg_isStateReg l
  rw [setStateOf_eq]
  exact wr_linkWork _ _ (by unfold isStateReg at hl; unfold linkArea; omega)

theorem flushPeer_linkWork {p : Nat} (k : Nat) (s : State) (hp : p < 4) : LinkWork s (flushPeer p k s) := by
  have hput (t : State) (pkg : Nat) (f : Flit) (l : List (Nat × Flit)) : LinkWork t (putPeer (setPeerQueue t p l) p pkg f) := by
    have hset (h : Link) (o : Outs) : LinkWork t { setLink (setPeerQueue t p l) (10000 + p) h with outs := o } :=
      ⟨⟨_, _, _, _, _, rfl⟩, fun _ _ => rfl⟩
    unfold putPeer
    exact (hset ..).trans (wr_linkWork _ _ (by unfold linkArea R.peerFramesTx; omega))
  induction k generalizing s with
  | zero => exact .refl s
  | succ k ih =>
    unfold flushPeer
    extract_lets l pick
    cases pick with
    | none => exact .refl s
    | some x => exact (hput ..).trans (ih _)

/-! ### A retrain (R219, R360) -/

/-- What a link's retrain leaves: RETRAIN, with the replays and the discards that count for it at 0. -/
structure Retrained (s t : State) (l : LinkId) : Prop where
  work : LinkWork s t
  state : stateOf t l = 2
  link : link t (linkOf l) = { link s (linkOf l) with run := 0, disc := 0 }

theorem retrainCounter_area (node : Node) (out : Port) : linkArea (R.linkRetrains (nodeIx node) (portIx out)) := by
  unfold linkArea R.linkRetrains; omega

theorem retrain_retrained {s : State} {l : LinkId} (h : stateOf s l ≤ 1) : Retrained s (retrain s l) l := by
  cases l with
  | mesh node out =>
    have hlt : ¬ 2 ≤ linkState s (nodeIx node) (portIx out) := Nat.not_le.2 (Nat.lt_succ_of_le h)
    rw [retrain, startRetrain, if_neg hlt]
    extract_lets x t u
    have hu : LinkWork t u := .ite (wr_linkWork _ _ (retrainCounter_area node out)) (.refl t)
    have hum : u.mesh = t.mesh := by simp only [u]; split <;> rfl
    have hw := failRetry_work (setStateOf u (.mesh node out) 2) (nodeIx node) (portIx out)
    refine ⟨(((setLink_linkWork ..).trans hu).trans (setStateOf_linkWork ..)).trans hw.linkWork, ?_, ?_⟩
    · exact (hw.stateOf _).trans (stateOf_setStateOf_self _ _ (by decide))
    · exact (link_of_mesh (hw.mesh.trans ((setStateOf_mesh ..).trans hum)) _).trans (link_setLink_self ..)
  | peer p =>
    have hlt : ¬ rdF s (R.peerStatus p.val) 0 2 ≥ 2 := Nat.not_le.2 (Nat.lt_succ_of_le h)
    rw [retrain]
    dsimp only
    rw [if_neg hlt]
    have hc : ¬ isStateReg (R.peerRetrains p.val) ∧ linkArea (R.peerRetrains p.val) := by
      unfold isStateReg linkArea R.peerRetrains; omega
    have hw (t : State) := failLink_work t (.peer p)
    refine ⟨(((setLink_linkWork ..).trans (setStateOf_linkWork ..)).trans (wr_linkWork _ _ hc.2)).trans (hw _).linkWork, ?_, ?_⟩
    · rw [(hw _).stateOf, stateOf_bump _ _ _ hc.1, stateOf_setStateOf_self _ _ (by decide)]
    · rw [link_of_mesh (hw _).mesh]
      exact link_setLink_self ..

/-! ### A replay (R214, R215, R359) -/

/-- The counter of a link's replays. -/
def replayReg : LinkId → Nat
  | .mesh (.router n) out => R.linkReplays n.val (portIx out)
  | .mesh (.hub p) _ => R.hubportReplays p.val
  | .peer p => R.peerReplays p.val

theorem replayReg_place (l : LinkId) : ¬ isStateReg (replayReg l) ∧ linkArea (replayReg l) := by
  unfold isStateReg linkArea replayReg
  cases l with
  | mesh node out =>
    have := portIx_le out
    cases node with
    | router n => simp only [R.linkReplays]; omega
    | hub p => simp only [R.hubportReplays]; omega
  | peer p => simp only [R.peerReplays]; omega

/-- The state in which a replay has been counted. -/
def replayNoted (s : State) (l : LinkId) : State :=
  setLink (bump s (replayReg l) 1) (linkOf l)
    { link s (linkOf l) with run := (link s (linkOf l)).run + 1, window := (link s (linkOf l)).window + 1 }

theorem replayed_eq (s : State) (l : LinkId) : replayed s l =
    if (link s (linkOf l)).run + 1 ≥ 8 then retrain (replayNoted s l) l else replayNoted s l := by
  cases l with
  | mesh node out =>
    cases node with
    | router n =>
      have hn : ¬ nodeIx (.router n) ≥ 1024 := by simp [nodeIx]
      simp only [replayed, countReplay, if_neg hn]
      rfl
    | hub p =>
      have hn : nodeIx (.hub p) ≥ 1024 := by simp [nodeIx]
      have hp : nodeIx (.hub p) - 1024 = p.val := by simp [nodeIx]
      simp only [replayed, countReplay, if_pos hn, hp]
      rfl
  | peer p => rfl

/-- What a replay leaves: one more in its window, and the eighth in a row without progress retrains the link. -/
structure Replayed (s t : State) (l : LinkId) : Prop where
  work : LinkWork s t
  state : stateOf t l = if 8 ≤ (link s (linkOf l)).run + 1 then 2 else stateOf s l
  window : (link t (linkOf l)).window = (link s (linkOf l)).window + 1
  replay : (link t (linkOf l)).replay = (link s (linkOf l)).replay
  run : (link s (linkOf l)).run + 1 < 8 → (link t (linkOf l)).run = (link s (linkOf l)).run + 1

theorem replayNoted_state (s : State) (l : LinkId) : stateOf (replayNoted s l) l = stateOf s l := by
  rw [replayNoted, stateOf_setLink, stateOf_bump _ _ _ (replayReg_place l).1]

theorem replayNoted_link (s : State) (l : LinkId) : link (replayNoted s l) (linkOf l) =
    { link s (linkOf l) with run := (link s (linkOf l)).run + 1, window := (link s (linkOf l)).window + 1 } :=
  link_setLink_self ..

theorem replayNoted_work (s : State) (l : LinkId) : LinkWork s (replayNoted s l) :=
  (wr_linkWork _ _ (replayReg_place l).2).trans (setLink_linkWork ..)

/-- A link that is UP or DEGRADED replays. -/
theorem replayed_replayed {s : State} {l : LinkId} (h : (link s (linkOf l)).run + 1 < 8 ∨ stateOf s l ≤ 1) :
    Replayed s (replayed s l) l := by
  rw [replayed_eq]
  by_cases h8 : (link s (linkOf l)).run + 1 ≥ 8
  · have hr := retrain_retrained (s := replayNoted s l) (l := l) (by rw [replayNoted_state]; omega)
    rw [if_pos h8]
    refine ⟨(replayNoted_work s l).trans hr.work, ?_, ?_, ?_, fun hlt => absurd h8 (Nat.not_le.2 hlt)⟩
    · rw [hr.state, if_pos h8]
    · rw [hr.link, replayNoted_link]
    · rw [hr.link, replayNoted_link]
  · rw [if_neg h8]
    exact ⟨replayNoted_work s l, by rw [replayNoted_state, if_neg h8], by rw [replayNoted_link], by rw [replayNoted_link],
      fun _ => by rw [replayNoted_link]⟩

/-! ### A fall (R220, R360) -/

/-- The alarm bit `i` of the links of the mesh, or of the peer ports. -/
def linkAlarm (s : State) (i : Nat) : LinkId → Bool
  | .mesh _ _ => rdB s R.meshAlarm i
  | .peer _ => rdB s R.peerAlarm i

/-- What the fall of a link leaves: it is DOWN, with its alarm, and the state of no other link has moved. -/
structure Fallen (s t : State) (l : LinkId) : Prop where
  work : LinkWork s t
  states : ∀ l', stateOf t l' = stateOf (setStateOf s l 3) l'
  alarm : linkAlarm t 1 l = true

theorem countDrops_entry (node : Nat) {o : Nat} (h : o < 8) {α : Type} : ∀ (l : List α) (s : State),
    EntryOnly s (l.foldl (fun s _ => countDrop s node o) s)
  | [], s => .refl s
  | _ :: r, s => (countDrop_entry s node h).trans (countDrops_entry node h r _)

theorem EntryOnly.foldl {α : Type} {f : State → α → State} (hf : ∀ s x, EntryOnly s (f s x)) :
    ∀ (l : List α) (s : State), EntryOnly s (l.foldl f s)
  | [], s => .refl s
  | x :: r, s => (hf s x).trans (EntryOnly.foldl hf r _)

/-- A fault of every job that a test finds. -/
theorem raiseAll_work (c : State → Nat → Bool) (code : Nat) (s : State) : BreathWork s
    ((List.range 64).foldl (fun s j => if c s j then raise s j code (brth s j).started.toNat else s) s) :=
  BreathWork.all (fun s _ hj => .ite (raise_work s code _ hj) (.refl s)) s

/-- The flits of a link that goes DOWN leave their buffers before its jobs fault. -/
theorem linkDown_parts (s : State) (node : Nat) {o : Nat} (h : o < 8) :
    ∃ u, EntryOnly (setB (setLinkState s node o 3) R.meshAlarm 1) u ∧ BreathWork u (linkDown s node o) := by
  have hdrop (p q : Nat) (s : State) (x : Held) : EntryOnly s
      (if x.outs = [o] then freeSlot (countDrop s node o) node p q else countDrop s node o) :=
    .ite ((countDrop_entry s node h).trans (freeSlot_entry ..)) (countDrop_entry s node h)
  have hport (p : Nat) (s : State) (q : Nat) := (EntryOnly.foldl (hdrop p q) ((buf s node p q).filter fun h => h.outs.contains o) s).trans
    (setBuf_entry _ node p q (((buf s node p q).map fun h => { h with outs := h.outs.erase o }).filter fun h =>
      !(h.outs.isEmpty && !(fType h.f = 7 || fType h.f = 8))))
  unfold linkDown
  extract_lets t l u v w
  have huv : EntryOnly u v := setLink_entry ..
  have hvw : EntryOnly v w :=
    EntryOnly.foldl (fun s p => EntryOnly.foldl (fun s q => hport p s q) (List.range 5) s) (List.range 5) v
  exact ⟨w, ((countDrops_entry node h l.replay t).trans huv).trans hvw, raiseAll_work (fun s j => usesLink s j node o) 0x0C w⟩

/-- The registers of peer port `p` once it has gone DOWN. -/
def peerDown (s : State) (p : Fin 4) : State :=
  bump (setB (clrB (setStateOf s (.peer p) 3) (R.peerStatus p.val) 2) R.peerAlarm 1) (R.peerDownDrops p.val)
    ((link s (linkOf (.peer p))).replay.length + (Sparse.get (fun _ => []) s.mesh.peerQ p.val).length)

/-- What waits at a peer port that goes DOWN is dropped. -/
def peerEmptied (s : State) (p : Fin 4) : State :=
  setPeerQueue (setLink s (linkOf (.peer p)) { link s (linkOf (.peer p)) with replay := [], run := 0, fails := 0 }) p.val []

theorem peerEmptied_linkWork (s : State) (p : Fin 4) : LinkWork s (peerEmptied s p) := ⟨⟨_, _, _, _, _, rfl⟩, fun _ _ => rfl⟩

theorem rd_peerEmptied (s : State) (p : Fin 4) (o : Nat) : rd (peerEmptied s p) o = rd s o := rfl

/-- The registers of a peer port that falls are written before what waits there is dropped and its jobs fault. -/
theorem fall_peer (s : State) (p : Fin 4) :
    BreathWork (peerEmptied (failLink (peerDown s p) (.peer p)) p) (fall s (.peer p)) :=
  raiseAll_work (fun s j => farSide s j p.val) 0x0D (peerEmptied (failLink (peerDown s p) (.peer p)) p)

theorem fall_fallen (s : State) (l : LinkId) : Fallen s (fall s l) l := by
  cases l with
  | mesh node out =>
    have ho : portIx out < 8 := Nat.lt_of_le_of_lt (portIx_le out) (by decide)
    obtain ⟨u, hu, hw⟩ := linkDown_parts s (nodeIx node) ho
    have hset : setLinkState s (nodeIx node) (portIx out) 3 = setStateOf s (.mesh node out) 3 := rfl
    have ha : ¬ isStateReg R.meshAlarm ∧ linkArea R.meshAlarm := by unfold isStateReg linkArea R.meshAlarm; omega
    have halarm : LinkWork (setStateOf s (.mesh node out) 3) (setB (setStateOf s (.mesh node out) 3) R.meshAlarm 1) :=
      wr_linkWork _ _ ha.2
    rw [hset] at hu
    rw [fall]
    refine ⟨(((setStateOf_linkWork ..).trans halarm).trans hu.linkWork).trans hw.linkWork, fun l' => ?_, ?_⟩
    · rw [hw.stateOf, hu.stateOf, stateOf_setB _ _ _ ha.1]
    · rw [linkAlarm, rdB, hw.rd _ (by decide), hu.rd _ (by unfold entryReg R.meshAlarm R.hubDrain R.meshMisaddrHub; omega),
        ← rdB, rdB_setB_self]
      simp
  | peer p =>
    have ha : ¬ isStateReg R.peerAlarm ∧ linkArea R.peerAlarm := by unfold isStateReg linkArea R.peerAlarm; omega
    have hd : ¬ isStateReg (R.peerDownDrops p.val) ∧ linkArea (R.peerDownDrops p.val) := by
      unfold isStateReg linkArea R.peerDownDrops; omega
    have hne : R.peerAlarm ≠ R.peerDownDrops p.val := by unfold R.peerAlarm R.peerDownDrops; omega
    have hstat : linkArea (R.peerStatus p.val) := by unfold linkArea R.peerStatus; omega
    have hdown : LinkWork s (peerDown s p) :=
      (((setStateOf_linkWork ..).trans (wr_linkWork _ _ hstat)).trans (wr_linkWork _ _ ha.2)).trans (wr_linkWork _ _ hd.2)
    have hfail := failLink_work (peerDown s p) (.peer p)
    have hw := fall_peer s p
    have hempty := peerEmptied_linkWork (failLink (peerDown s p) (.peer p)) p
    refine ⟨((hdown.trans hfail.linkWork).trans hempty).trans hw.linkWork, fun l' => ?_, ?_⟩
    · rw [hw.stateOf, stateOf_of_rd (fun o _ => rd_peerEmptied _ p o), hfail.stateOf, peerDown, stateOf_bump _ _ _ hd.1,
        stateOf_setB _ _ _ ha.1, stateOf_clrTrained]
    · rw [linkAlarm, rdB, hw.rd _ (by decide), rd_peerEmptied, hfail.rd _ (by decide), peerDown, rd_bump_ne _ _ hne, ← rdB,
        rdB_setB_self]
      simp

theorem Fallen.down {s t : State} {l : LinkId} (h : Fallen s t l) : stateOf t l = 3 := by
  rw [h.states, stateOf_setStateOf_self _ _ (by decide)]

theorem Fallen.stays {s t : State} {l l' : LinkId} (h : Fallen s t l) (hl : stateOf s l' = 3) : stateOf t l' = 3 := by
  rw [h.states, stateOf_setStateOf_down hl]

/-- Chanter's journal entry of a fall moves no register. -/
theorem goesDown_regs (s : State) (l : LinkId) : (goesDown s l).regs = (fall s l).regs := journal_regs ..

theorem goesDown_down (s : State) (l : LinkId) : stateOf (goesDown s l) l = 3 :=
  (stateOf_of_rd (fun o _ => rd_of_regs (goesDown_regs s l) o) l).trans (fall_fallen s l).down

/-! ### A retrain that ends (R219, R220, R360) -/

theorem resyncLink_linkWork (s : State) : ∀ l : LinkId, LinkWork s (resyncLink s l)
  | .mesh _ _ => setLink_linkWork ..
  | .peer p => (setLink_linkWork s _ _).trans (flushPeer_linkWork _ _ p.isLt)

theorem trained_linkWork (s : State) : ∀ l : LinkId, LinkWork s (trained s l)
  | .mesh node out => setStateOf_linkWork s (.mesh node out) 0
  | .peer p => (setStateOf_linkWork ..).trans (wr_linkWork _ _ (by unfold linkArea R.peerStatus; omega))

/-- A link that has trained is UP. -/
theorem trained_up (s : State) : ∀ l : LinkId, stateOf (trained s l) l = 0
  | .mesh node out => stateOf_setStateOf_self s (.mesh node out) (v := 0) (by decide)
  | .peer p => (stateOf_setTrained _ p.val _).trans (stateOf_setStateOf_self _ _ (by decide))

theorem trained_mesh (s : State) : ∀ l : LinkId, (trained s l).mesh = s.mesh
  | .mesh node out => setStateOf_mesh s (.mesh node out) 0
  | .peer p => setStateOf_mesh s (.peer p) 0

theorem trained_peer (s : State) (p : Fin 4) : rdB (trained s (.peer p)) (R.peerStatus p.val) 2 = true := by
  rw [trained, rdB_setB_self]
  simp

theorem retrainEnd_up {s : State} {l : LinkId} (h : stateOf s l = 2) : retrainEnd s l true = trained (resyncLink s l) l := by
  rw [retrainEnd, if_neg (not_not.2 h), if_pos rfl]

end Sys2Proof.Machine
end

section
/-! SUPPORT. POWER_STATE and LINK_RETRAIN (R220, R360, R420). -/
namespace Sys2Proof.Machine

/-! ### POWER_STATE -/

theorem pwrStateCode_takeFront (s : State) (src : Src) : pwrStateCode (takeFront s src) = pwrStateCode s := by
  unfold pwrStateCode bgCount
  rw [takeFront_chip, takeFront_runs]
  simp only [jobState_takeFront]

theorem dmaState_takeFront (s : State) (src : Src) (e : Nat) : dmaState (takeFront s src) e = dmaState s e :=
  rdF_takeFront s src 0 2 (by unfold R.dmaStatus; omega)

theorem padHold_takeFront (s : State) (src : Src) : padHold (takeFront s src) = padHold s :=
  congrArg (bitAt · 3) (rd_takeFront s src (by unfold inMailbox; decide))

/-- The package may not enter P-STANDBY: it is not in P-IDLE, a DMA engine is busy, or its pads are held (R420). -/
def standbyRefused (s : State) : Prop := pwrStateCode s ≠ 1 ∨ (∃ e, e < 8 ∧ dmaState s e = 1) ∨ padHold s = true

theorem standbyRefused_iff (s : State) :
    (decide (pwrStateCode s ≠ 1) || (List.range 8).any (fun e => dmaState s e = 1) || padHold s) = true ↔ standbyRefused s := by
  simp [standbyRefused, or_assoc]

/-- The state in which the entry into P-STANDBY has been accepted. -/
def standbyAccepted (s : State) (src : Src) : State :=
  { takeFront s src with chip := { s.chip with standbyAsked := true } }

theorem rd_standbyAccepted (s : State) (src : Src) (o : Nat) : rd (standbyAccepted s src) o = rd (takeFront s src) o := rfl
theorem ldB_standbyAccepted (s : State) (src : Src) (a : Nat) : ldB (standbyAccepted s src) a = ldB s a := ldB_takeFront ..
theorem standbyAccepted_journalSeq (s : State) (src : Src) : (standbyAccepted s src).mbox.journalSeq = s.mbox.journalSeq :=
  takeFront_journalSeq s src
theorem standbyAccepted_coreRegs (s : State) (src : Src) : (standbyAccepted s src).coreRegs = s.coreRegs :=
  takeFront_coreRegs s src

theorem chip_after (s u : State) : (after s u).chip = { u.chip with
    phase := s.chip.phase, refclk := s.chip.refclk, perst := s.chip.perst, tapIr := s.chip.tapIr, tapDr := s.chip.tapDr } :=
  settle_chip ..

section
variable {s : State} {src : Src} {c : Cmd}

theorem rejects_coreRegs {t : State} {st dt : Nat} (h : rejects s t src c st dt) : t.coreRegs = s.coreRegs := by
  obtain ⟨-, -, h⟩ := h
  rw [h]

theorem readsOnly_coreRegs {t : State} {p : List W64} (h : readsOnly s t src c p) : t.coreRegs = s.coreRegs := by
  obtain ⟨-, -, h⟩ := h
  rw [h]

theorem powerStateBody_code (h : c.f 1 0 2 = 3) : powerStateBody c (takeFront s src) = .fail (takeFront s src) 0x11 1 := if_pos h

theorem powerStateBody_confirms (h : c.f 1 0 2 < 2) (hc : c.f 1 0 2 = pwrStateCode s) :
    powerStateBody c (takeFront s src) = .reads (takeFront s src) [] := by
  simp only [powerStateBody, pwrStateCode_takeFront]
  rw [if_neg (by omega), if_pos h, if_pos hc.symm]

theorem powerStateBody_differs (h : c.f 1 0 2 < 2) (hc : c.f 1 0 2 ≠ pwrStateCode s) :
    powerStateBody c (takeFront s src) = .fail (takeFront s src) 0x12 (pwrStateCode s) := by
  simp only [powerStateBody, pwrStateCode_takeFront]
  rw [if_neg (by omega), if_pos h, if_neg (Ne.symm hc)]
  rfl

theorem powerStateBody_standby (h : c.f 1 0 2 = 2) (hr : ¬ standbyRefused s) : powerStateBody c (takeFront s src) =
    .ends (standbyAccepted s src) 0 0 [] (valueChange 10 0 1 1 2) := by
  simp only [powerStateBody, pwrStateCode_takeFront, dmaState_takeFront, padHold_takeFront, takeFront_chip]
  rw [if_neg (by omega), if_neg (by omega), if_neg (mt (standbyRefused_iff s).1 hr), standbyAccepted]

theorem powerStateBody_refused (h : c.f 1 0 2 = 2) (hr : standbyRefused s) :
    powerStateBody c (takeFront s src) = .fail (takeFront s src) 0x12 (pwrStateCode s) := by
  simp only [powerStateBody, pwrStateCode_takeFront, dmaState_takeFront, padHold_takeFront, takeFront_chip]
  rw [if_neg (by omega), if_neg (by omega), if_pos ((standbyRefused_iff s).2 hr)]
  rfl

theorem boxFrame_journalled {t : State} {j : Bool} {regs : List Nat} {bytes : Nat → Prop} (h : boxFrame s t src j regs bytes) :
    boxFrame s t src true regs bytes := ⟨h.1, fun a hb hn => h.2 a hb fun k => hn (boxByte_mono k)⟩

end

/-! ### LINK_RETRAIN -/

theorem stateOf_complete (s : State) (src : Src) (op tag d st dt : Nat) (p : List W64) (ch : Option Change) (l : LinkId) :
    stateOf (complete s src op tag d st dt p ch) l = stateOf s l :=
  stateOf_of_rd (fun o ho => rd_complete _ _ _ _ _ _ _ _ _ (by unfold isStateReg at ho; unfold inMailbox; omega)) l

/-- The retrain of a link starts from UP. -/
theorem retrained_fromUp (s : State) (l : LinkId) : Retrained (setStateOf s l 0) (retrain (setStateOf s l 0) l) l :=
  retrain_retrained (by rw [stateOf_setStateOf_self _ _ (by decide)]; decide)

section
variable {c : Cmd} {l : LinkId} (h : retrainLink c = some l) (s : State)
include h

theorem linkRetrainBody_up : ∃ v ch, linkRetrainBody true c s = .ends v 0 0 [w64 0] ch ∧ stateOf v l = 0 := by
  have hup : stateOf (retrainEnd (retrain (setStateOf s l 0) l) l true) l = 0 := by
    rw [retrainEnd_up (retrained_fromUp s l).state, trained_up]
  unfold linkRetrainBody
  rw [h]
  dsimp only
  rw [if_pos rfl, hup]
  exact ⟨_, _, rfl, hup⟩

theorem linkRetrainBody_down : ∃ v, linkRetrainBody false c s = .ends v 0x1B 0 [w64 3] none ∧ stateOf v l = 3 := by
  unfold linkRetrainBody
  rw [h]
  dsimp only
  rw [if_neg (by decide)]
  split
  · have hd : stateOf (setStateOf (retrain (setStateOf s l 0) l) l 3) l = 3 := stateOf_setStateOf_self _ _ (by decide)
    exact ⟨_, by rw [hd], hd⟩
  · have hd := goesDown_down (retrain (setStateOf s l 0) l) l
    exact ⟨_, by rw [hd], hd⟩

end

/-! ### The rows -/

section
variable {s : State} {src : Src} {c : Cmd} (hl : live s = true)
include hl

theorem powerState_row (hs : starts s src 0x0005 [low 1] [] c) : ∃ t, exec (.powerState src) s = .next t
    ∧ t.coreRegs = s.coreRegs
    ∧ boxFrame s t src true [] (fun _ => False)
    ∧ (c.f 1 0 2 < 2 → c.f 1 0 2 = pwrStateCode s → readsOnly s t src c [])
    ∧ (c.f 1 0 2 < 2 → c.f 1 0 2 ≠ pwrStateCode s → rejects s t src c 0x12 (pwrStateCode s))
    ∧ (c.f 1 0 2 = 3 → rejects s t src c 0x11 1)
    ∧ (c.f 1 0 2 = 2 → ¬ standbyRefused s →
        completed s t src c 0 0 [] true ∧ t.chip = { s.chip with standbyAsked := true })
    ∧ (c.f 1 0 2 = 2 → standbyRefused s → rejects s t src c 0x12 (pwrStateCode s)) := by
  have hv : c.f 1 0 2 < 4 := fld_lt _ 0 2
  have hexec : exec (.powerState src) s = act s (serve 0x0005 [low 1] (fun _ => []) powerStateBody src) := rfl
  have hfail {st dt : Nat} (hb : powerStateBody c (takeFront s src) = .fail (takeFront s src) st dt) :
      ∃ t, exec (.powerState src) s = .next t ∧ t.coreRegs = s.coreRegs ∧ boxFrame s t src true [] (fun _ => False)
        ∧ rejects s t src c st dt := by
    obtain ⟨t, ht, hr⟩ := act_fails hl (locks := fun _ => []) hs hb
    exact ⟨t, hexec.trans ht, rejects_coreRegs hr, boxFrame_journalled hr.2.1, hr⟩
  rcases (by omega : c.f 1 0 2 < 2 ∨ c.f 1 0 2 = 2 ∨ c.f 1 0 2 = 3) with h | h | h
  · by_cases hc : c.f 1 0 2 = pwrStateCode s
    · obtain ⟨t, ht, hr⟩ := act_reads hl (locks := fun _ => []) hs (powerStateBody_confirms h hc)
      exact ⟨t, hexec.trans ht, readsOnly_coreRegs hr, boxFrame_journalled hr.2.1, fun _ _ => hr,
        fun _ hn => absurd hc hn, by omega, by omega, by omega⟩
    · obtain ⟨t, ht, hcr, hf, hr⟩ := hfail (powerStateBody_differs h hc)
      exact ⟨t, ht, hcr, hf, fun _ hn => absurd hn hc, fun _ _ => hr, by omega, by omega, by omega⟩
  · by_cases hsb : standbyRefused s
    · obtain ⟨t, ht, hcr, hf, hr⟩ := hfail (powerStateBody_refused h hsb)
      exact ⟨t, ht, hcr, hf, by omega, by omega, by omega, fun _ hn => absurd hsb hn, fun _ _ => hr⟩
    · have hb := powerStateBody_standby (src := src) h hsb
      have hq := standbyAccepted_journalSeq s src
      refine ⟨_, hexec.trans (act_ends hl (locks := fun _ => []) hs hb), ?_, ?_, by omega, by omega, by omega,
        fun _ _ => ⟨ended_completed hq, ?_⟩, fun _ hr => absurd hr hsb⟩
      · rw [ended_coreRegs, standbyAccepted_coreRegs]
      · exact boxFrame_of (fun o _ => rd_standbyAccepted s src o) (by simp) (fun a _ => ldB_standbyAccepted s src a) hq rfl
      · rw [ended, chip_after, complete_chip]
        rfl
  · obtain ⟨t, ht, hcr, hf, hr⟩ := hfail (powerStateBody_code h)
    exact ⟨t, ht, hcr, hf, by omega, by omega, fun _ => hr, by omega, by omega⟩

theorem linkRetrain_named {l : LinkId} (hs : starts s src 0x0006 [low 14] [] c) (h : retrainLink c = some l) :
    (∃ t, exec (.linkRetrain src true) s = .next t ∧ stateOf t l = 0 ∧ answeredOk t src c [w64 0])
    ∧ ∃ t q, exec (.linkRetrain src false) s = .next t ∧ stateOf t l = 3
      ∧ keptLast t src = some ⟨c.tag, c.digest, cplWords c.opcode c.tag 0x1B false 0 q [w64 3]⟩ := by
  have hexec (up : Bool) : exec (.linkRetrain src up) s =
      .next (after s (runCmd c (linkRetrainBody up c (takeFront s src)))) :=
    (act_after _ hl).trans (by rw [serve_starts (locks := fun _ => []) hs])
  constructor
  · obtain ⟨v, ch, hb, hv⟩ := linkRetrainBody_up h (takeFront s src)
    refine ⟨ended s src c v [w64 0] ch, (hexec true).trans (by rw [hb, runCmd_ends hs, ended]), ?_, ended_answeredOk ..⟩
    rw [ended, stateOf_after, stateOf_complete, hv]
  · obtain ⟨v, hb, hv⟩ := linkRetrainBody_down h (takeFront s src)
    refine ⟨_, seqOf v none, (hexec false).trans (by rw [hb, runCmd_ends hs]), ?_, ?_⟩
    · rw [stateOf_after, stateOf_complete, hv]
    · exact (congrArg (fun m : Mbox => (Sparse.get (fun _ => []) m.kept (srcRecord src)).head?) (after_mbox s _)).trans
        (lastKept_complete v src c.opcode c.tag c.digest 0x1B 0 _ none)

theorem linkRetrain_unnamed (hs : starts s src 0x0006 [low 14] [] c) (h : retrainLink c = none) (up : Bool) :
    ∃ t, exec (.linkRetrain src up) s = .next t ∧ rejects s t src c 0x11 1 := by
  refine act_fails hl (locks := fun _ => []) hs ?_
  unfold linkRetrainBody
  rw [h]
  rfl

end

/-- Settles O26: each value of POWER_STATE by its own case, and of a link that is named the retrain that starts from UP and
ends up or DOWN. -/
theorem powerAndLinks : Obligations.PowerAndLinks := by
  unfold Obligations.PowerAndLinks
  intro src s c hl
  refine ⟨fun hs => ?_, fun l hs h => linkRetrain_named hl hs h, fun hs h up => linkRetrain_unnamed hl hs h up⟩
  obtain ⟨t, ht, hcr, hf, hreads, hdiff, hcode, hstandby, hrefused⟩ := powerState_row hl hs
  refine ⟨t, ht, hcr, hf, hreads, hdiff, hcode, fun h h1 he hp => hstandby h ?_, fun h hr => hrefused h hr⟩
  rintro (hn | ⟨e, hlt, hb⟩ | hp')
  · exact hn h1
  · exact he e hlt hb
  · simp [hp] at hp'

end Sys2Proof.Machine
end

section
/-! SUPPORT. Lane words and control words of links (R211 to R216, R219). -/
namespace Sys2Proof.Machine

/-! ### The control word that answers (R213, R214) -/

/-- The numbers below 8 of `n` counters, of three bits each, leave what stands above them alone. -/
theorem digits_lt (g : Nat → Nat) (n : Nat) : ((List.range n).map fun q => g q % 8 * 2 ^ (3 * q)).sum < 2 ^ (3 * n) := by
  induction n with
  | zero => simp
  | succ n ih =>
    have h8 : 2 ^ (3 * (n + 1)) = 8 * 2 ^ (3 * n) := by rw [Nat.mul_add, pow_add]; omega
    have hd : g n % 8 * 2 ^ (3 * n) ≤ 7 * 2 ^ (3 * n) := Nat.mul_le_mul_right _ (by omega)
    rw [List.range_succ, List.map_append, List.sum_append, h8]
    simp only [List.map_cons, List.map_nil, List.sum_cons, List.sum_nil]
    omega

/-- A control word's number, from its fields (Table 8-11). -/
theorem toNat_controlBits {lane : Nat} (hl : lane < 2) (ack : Nat) (nak : Bool) (freed : List Nat) : ∃ r c, r < 2 ^ 15 ∧ c < 64
    ∧ (controlBits lane ack nak freed).toNat = (lane * 2 ^ 24 + ack % 256 * 2 ^ 16 + b2n nak * 2 ^ 15 + r) * 64 + c := by
  have hr := digits_lt (fun q => freed.getD q 0) 5
  have hn : b2n nak ≤ 1 := by cases nak <;> decide
  unfold controlBits
  extract_lets body
  have hb : body < 2 ^ 25 := by simp only [body]; omega
  have hc := (Config.controlCheck (BitVec.ofNat 25 body)).isLt
  refine ⟨_, (Config.controlCheck (BitVec.ofNat 25 body)).toNat, hr, hc, ?_⟩
  rw [BitVec.toNat_ofNat, Nat.mod_eq_of_lt (by omega)]

/-- A NAK of the next position: its LANE, and the SEQ of the position before it on that lane. -/
theorem controlOut_nak (l : Link) : (controlOut l true).toNat / 2 ^ 22 = l.expect % 2 * 256 + (l.expect + 510) / 2 % 256
    ∧ bitAt ((controlOut l true).setWidth 64) 21 = true := by
  have he : controlOut l true = controlBits (l.expect % 2) ((l.expect + 512 - 2) / 2) true l.freed := by simp [controlOut]
  obtain ⟨r, c, hr, hc, hv⟩ := toNat_controlBits (Nat.mod_lt l.expect (by decide)) ((l.expect + 512 - 2) / 2) true l.freed
  have h1 : b2n true = 1 := rfl
  have h510 : l.expect + 512 - 2 = l.expect + 510 := rfl
  rw [h1] at hv
  rw [he, h510]
  rw [h510] at hv
  norm_num only at hr hc hv ⊢
  constructor
  · rw [hv]; omega
  · rw [bitAt, BitVec.getLsbD_setWidth, BitVec.getLsbD, hv, Nat.testBit_eq_decide_div_mod_eq]
    simp only [Nat.reduceLT, decide_true, Bool.true_and, decide_eq_true_eq]
    omega

/-! ### Lane words (R211, R212, R214, R216) -/

/-- The state in which a corrected lane word has been counted. -/
def laneCounted (s : State) (node p : Nat) : LaneWord → State
  | .good _ _ true => if node ≥ 1024 then bump s (R.hubportCorrected (node - 1024)) 1 else bump s (R.linkCorrected node p) 1
  | _ => s

theorem laneCounted_frame (s : State) (node p : Nat) (w : LaneWord) :
    laneCounted s node p w = { s with regs := (laneCounted s node p w).regs } := by
  have hite (b : Prop) [Decidable b] (x y : Nat) : (if b then bump s x 1 else bump s y 1) =
      { s with regs := (if b then bump s x 1 else bump s y 1).regs } := by split <;> rfl
  cases w with
  | bad => rfl
  | good _ _ c => cases c with
    | true => exact hite ..
    | false => rfl

theorem laneWord_eq {s : State} {node p k : Nat} (lane : Bool) (w : LaneWord) (hk : inLink node p = some k) :
    laneWord s node p lane w = setLink (laneCounted s node p w) k (laneAccept (link s k) lane w) := by
  have hm : link (laneCounted s node p w) k = link s k := link_of_mesh (congrArg State.mesh (laneCounted_frame ..)) k
  rw [← hm]
  unfold laneWord
  rw [hk]
  cases w with
  | bad => rfl
  | good _ _ c => cases c <;> rfl

/-- A link that asks for a replay asks once. -/
theorem laneAccept_bad (l : Link) (lane : Bool) :
    laneAccept l lane .bad = if l.nak then l else { l with ctl := controlOut l true, nak := true } := by
  rw [laneAccept, withControl, if_pos rfl]

section
variable {s : State} (hl : live s = true) {node : Node} {p : Port} {k : Nat} (hk : inLink (nodeIx node) (portIx p) = some k)
include hl hk

theorem exec_laneWordReceive (lane : Bool) (w : LaneWord) : exec (.laneWordReceive node p lane w) s =
    .next (after s (setLink (laneCounted s (nodeIx node) (portIx p) w) k (laneAccept (link s k) lane w))) := by
  rw [← laneWord_eq lane w hk]
  exact act_after (fun s => laneWord s (nodeIx node) (portIx p) lane w) hl

theorem laneWord_bad (lane : Bool) : ∃ v, exec (.laneWordReceive node p lane .bad) s = .next v
    ∧ link v k = (if (link s k).nak then link s k else { link s k with ctl := controlOut (link s k) true, nak := true })
    ∧ ((link s k).nak = false → (link v k).ctl.toNat / 2 ^ 22
        = (link s k).expect % 2 * 256 + ((link s k).expect + 510) / 2 % 256 ∧ bitAt ((link v k).ctl.setWidth 64) 21 = true)
    ∧ v.coreRegs = s.coreRegs ∧ hubRegsKept s v [] := by
  have hlink : link (after s (setLink (laneCounted s (nodeIx node) (portIx p) .bad) k (laneAccept (link s k) lane .bad))) k =
      if (link s k).nak then link s k else { link s k with ctl := controlOut (link s k) true, nak := true } := by
    rw [link_of_mesh (after_mesh ..), link_setLink_self, laneAccept_bad]
  refine ⟨_, exec_laneWordReceive hl hk lane .bad, hlink, fun hn => ?_, after_coreRegs .., hubRegsKept_of_regs rfl _⟩
  rw [hn, if_neg Bool.false_ne_true] at hlink
  have hctl := congrArg Link.ctl hlink
  rw [hctl]
  exact controlOut_nak (link s k)

theorem laneWord_good (lane : Bool) (seq : BitVec 12) (payload : BitVec 64) (c : Bool) {a : Link}
    (ha : a = { link s k with expect := (link s k).expect + 1, run := 0, rx := (link s k).rx ++ [payload], nak := false,
                              nakTaken := false }) :
    ∃ v, exec (.laneWordReceive node p lane (.good seq payload c)) s = .next v
    ∧ link v k = (if fType payload ≠ 0xF ∧ b2n lane = (link s k).expect % 2 ∧ seq.toNat = (link s k).expect / 2 % 256
        then { a with ctl := controlOut a false, ctlLane := !a.ctlLane } else link s k)
    ∧ (c = false → hubRegsKept s v []) ∧ v.mem = s.mem ∧ v.coreRegs = s.coreRegs := by
  subst ha
  have hf := laneCounted_frame s (nodeIx node) (portIx p) (.good seq payload c)
  refine ⟨_, exec_laneWordReceive hl hk lane (.good seq payload c), ?_, ?_, ?_, ?_⟩
  · exact (link_of_mesh (after_mesh ..) k).trans (link_setLink_self ..)
  · rintro rfl
    exact hubRegsKept_of_regs rfl _
  · rw [after_mem]
    exact (congrArg State.mem hf : _)
  · rw [after_coreRegs]
    exact (congrArg State.coreRegs hf : _)

end

/-! ### Control words (R213 to R215) -/

/-- The link is a peer port's. -/
def isPeerLink : LinkId → Bool
  | .peer _ => true
  | _ => false

/-- A control word moves a sender's credits alone, before its acknowledgement. -/
theorem takeCredits_frame (h : Link) (w : W64) : ∃ u e, takeCredits h w = { h with used := u, seen := e } := by
  unfold takeCredits
  generalize List.range 5 = l
  induction l generalizing h with
  | nil => exact ⟨_, _, rfl⟩
  | cons q l ih =>
    obtain ⟨u, e, hu⟩ := ih { h with
      used := h.used.set q (h.used.getD q 0 - (fld w (6 + 3 * q) 3 + 8 - h.seen.getD q 0) % 8), seen := h.seen.set q (fld w (6 + 3 * q) 3) }
    exact ⟨u, e, hu⟩

/-- A link as a good control word leaves it. -/
def linkAnswered (h : Link) (l : LinkId) (w : W64) : Link :=
  { takeCredits h w with replay := afterAck (isPeerLink l) h w, disc := 0, nakTaken := bitAt w 21 }

def controlTaken (s : State) (l : LinkId) (w : W64) : State := setLink s (linkOf l) (linkAnswered (link s (linkOf l)) l w)

theorem controlWord_eq {s t : State} {l : LinkId} {w : W64}
    (ht : (if bitAt w 21 then replayed (controlTaken s l w) l else controlTaken s l w) = t)
    (hq : ∀ p, l = .peer p → peerQueue t p.val = []) : controlWord s l w = t := by
  cases l with
  | mesh node out => exact ht
  | peer p =>
    have h0 : flushPeer p.val (peerQueue t p.val).length t = t := by rw [hq p rfl]; rfl
    rw [← h0, ← ht]
    rfl

section
variable {s : State} (hl : live s = true) {l : LinkId} (he : linkExists l = true)
include hl he

theorem exec_controlWord_good (word : BitVec 31) : exec (.controlWordReceive l word true) s =
    .next (after s (controlWord s l (word.setWidth 64))) := by
  refine (act_after (fun s => takeControl s l (word.setWidth 64) true) hl).trans ?_
  rw [takeControl, if_neg (by simp [he]), if_pos rfl]

theorem controlWord_ack {w : W64} {word : BitVec 31} (hw : w = word.setWidth 64)
    (hq : ∀ p, l = .peer p → peerQueue s p.val = []) (hn : bitAt w 21 = false) :
    ∃ v, exec (.controlWordReceive l word true) s = .next v
      ∧ link v (linkOf l) = { takeCredits (link s (linkOf l)) w with
          replay := afterAck (isPeerLink l) (link s (linkOf l)) w, disc := 0, nakTaken := false }
      ∧ v.mem = s.mem ∧ v.coreRegs = s.coreRegs ∧ hubRegsKept s v [] := by
  have ht : controlWord s l w = controlTaken s l w := controlWord_eq (by rw [hn, if_neg Bool.false_ne_true]) hq
  refine ⟨_, exec_controlWord_good hl he word, ?_, ?_, ?_, ?_⟩ <;> rw [← hw, ht]
  · rw [link_of_mesh (after_mesh ..), controlTaken, link_setLink_self, linkAnswered, hn]
  · exact after_mem ..
  · exact after_coreRegs ..
  · exact hubRegsKept_of_regs rfl _

theorem controlWord_nak {w : W64} {word : BitVec 31} (hw : w = word.setWidth 64) (hn : bitAt w 21 = true)
    (hr : (link s (linkOf l)).run + 1 < 8) (hq : ∀ p, l = .peer p → peerQueue s p.val = []) :
    ∃ v, exec (.controlWordReceive l word true) s = .next v ∧ (link v (linkOf l)).run = (link s (linkOf l)).run + 1
      ∧ (link v (linkOf l)).window = (link s (linkOf l)).window + 1 ∧ stateOf v l = stateOf s l := by
  obtain ⟨u, e, hc⟩ := takeCredits_frame (link s (linkOf l)) w
  have hlink : link (controlTaken s l w) (linkOf l) = linkAnswered (link s (linkOf l)) l w := link_setLink_self ..
  have hrun : (linkAnswered (link s (linkOf l)) l w).run = (link s (linkOf l)).run := by rw [linkAnswered, hc]
  have hwin : (linkAnswered (link s (linkOf l)) l w).window = (link s (linkOf l)).window := by rw [linkAnswered, hc]
  have ht : controlWord s l w = replayNoted (controlTaken s l w) l := by
    refine controlWord_eq ?_ hq
    rw [if_pos hn, replayed_eq, hlink, if_neg (by omega)]
  refine ⟨_, exec_controlWord_good hl he word, ?_, ?_, ?_⟩ <;> rw [← hw, ht]
  · rw [link_of_mesh (after_mesh ..), replayNoted_link, hlink, hrun]
  · rw [link_of_mesh (after_mesh ..), replayNoted_link, hlink, hwin]
  · rw [stateOf_after, replayNoted_state, controlTaken, stateOf_setLink]

/-! ### Control words that are discarded (R213, R219) -/

omit hl he in
/-- The counter of discarded control words moves, where the link has one. -/
theorem discard_counted (s : State) (l : LinkId) : ∃ u, LinkWork s u ∧ u.mesh = s.mesh ∧ (∀ l', stateOf u l' = stateOf s l')
    ∧ (match l with
      | .mesh (.router n) _ => bump s (R.linkCtrlDiscards n.val) 1
      | _ => s) = u := by
  have hself : LinkWork s s ∧ s.mesh = s.mesh ∧ ∀ l', stateOf s l' = stateOf s l' := ⟨.refl s, rfl, fun _ => rfl⟩
  cases l with
  | peer p => exact ⟨s, hself.1, rfl, fun _ => rfl, rfl⟩
  | mesh node out =>
    cases node with
    | hub p => exact ⟨s, hself.1, rfl, fun _ => rfl, rfl⟩
    | router n =>
      have hr : ¬ isStateReg (R.linkCtrlDiscards n.val) ∧ linkArea (R.linkCtrlDiscards n.val) := by
        unfold isStateReg linkArea R.linkCtrlDiscards; omega
      exact ⟨_, wr_linkWork _ _ hr.2, rfl, fun l' => stateOf_bump _ _ _ hr.1, rfl⟩

theorem controlWord_bad (word : BitVec 31) : ∃ u, LinkWork s u
    ∧ link u (linkOf l) = { link s (linkOf l) with disc := (link s (linkOf l)).disc + 1 } ∧ stateOf u l = stateOf s l
    ∧ exec (.controlWordReceive l word false) s =
      .next (after s (if (link s (linkOf l)).disc + 1 ≥ 3 then retrain u l else u)) := by
  obtain ⟨u, hu, hm, hs, he'⟩ := discard_counted
    (setLink s (linkOf l) { link s (linkOf l) with disc := (link s (linkOf l)).disc + 1 }) l
  refine ⟨u, (setLink_linkWork ..).trans hu, ?_, ?_, ?_⟩
  · rw [link_of_mesh hm, link_setLink_self]
  · rw [hs, stateOf_setLink]
  · refine (act_after (fun s => takeControl s l (word.setWidth 64) false) hl).trans ?_
    rw [takeControl, if_neg (by simp [he]), if_neg Bool.false_ne_true]
    subst he'
    rfl

theorem controlWord_discarded (word : BitVec 31) (hd : (link s (linkOf l)).disc + 1 < 3) :
    ∃ v, exec (.controlWordReceive l word false) s = .next v
      ∧ link v (linkOf l) = { link s (linkOf l) with disc := (link s (linkOf l)).disc + 1 } ∧ stateOf v l = stateOf s l := by
  obtain ⟨u, -, hlink, hs, he'⟩ := controlWord_bad hl he word
  rw [if_neg (by omega)] at he'
  exact ⟨_, he', (link_of_mesh (after_mesh ..) _).trans hlink, (stateOf_after ..).trans hs⟩

theorem controlWord_retrains (word : BitVec 31) (hd : 3 ≤ (link s (linkOf l)).disc + 1) (h1 : stateOf s l ≤ 1) :
    ∃ v, exec (.controlWordReceive l word false) s = .next v ∧ stateOf v l = 2 := by
  obtain ⟨u, -, -, hs, he'⟩ := controlWord_bad hl he word
  rw [if_pos hd] at he'
  exact ⟨_, he', (stateOf_after ..).trans (retrain_retrained (by rwa [hs])).state⟩

end

end Sys2Proof.Machine
end

section
/-! SUPPORT. The timeouts, windows and retrains of links (R215, R217 to R220, R358 to R360). -/
namespace Sys2Proof.Machine

theorem BreathWork.link {s t : State} (h : BreathWork s t) (k : Nat) : link t k = Machine.link s k := link_of_mesh h.mesh k

/-! ### Timeouts (R215) -/

section
variable {s : State} (hl : live s = true) {l : LinkId} (he : linkExists l = true) (hr : (link s (linkOf l)).replay ≠ [])
  (h1 : stateOf s l ≤ 1)
include hl he hr h1

theorem replayTimeout_counts (merged : Bool) (hm : merged = true → (link s (linkOf l)).nakTaken = false) :
    ∃ v, exec (.replayTimeout l merged) s = .next v ∧ (link v (linkOf l)).window = (link s (linkOf l)).window + 1
      ∧ (link v (linkOf l)).replay = (link s (linkOf l)).replay
      ∧ stateOf v l = (if 8 ≤ (link s (linkOf l)).run + 1 then 2 else stateOf s l) ∧ v.mem = s.mem ∧ v.coreRegs = s.coreRegs := by
  have ht : replayTimeout s l merged = failLink (replayed s l) l := by
    rw [replayTimeout, if_neg (by simp [he, hr, h1]), if_neg (fun h => by simp [hm h.1] at h)]
  have hrep := replayed_replayed (s := s) (l := l) (.inr h1)
  have hw := failLink_work (replayed s l) l
  have hlw := hrep.work.trans hw.linkWork
  refine ⟨_, act_after (fun s => replayTimeout s l merged) hl, ?_, ?_, ?_, ?_, ?_⟩ <;> rw [ht]
  · rw [link_of_mesh (after_mesh ..), hw.link, hrep.window]
  · rw [link_of_mesh (after_mesh ..), hw.link, hrep.replay]
  · rw [stateOf_after, hw.stateOf, hrep.state]
  · exact (after_mem ..).trans hlw.mem
  · exact (after_coreRegs ..).trans hlw.coreRegs

/-- A timeout that comes with the NAK of its cycle has been counted by it. -/
theorem replayTimeout_merged (hn : (link s (linkOf l)).nakTaken = true) : ∃ v, exec (.replayTimeout l true) s = .next v
    ∧ link v (linkOf l) = { link s (linkOf l) with nakTaken := false } ∧ hubRegsKept s v [] ∧ v.mem = s.mem
    ∧ v.coreRegs = s.coreRegs := by
  have ht : replayTimeout s l true = setLink s (linkOf l) { link s (linkOf l) with nakTaken := false } := by
    rw [replayTimeout, if_neg (by simp [he, hr, h1]), if_pos ⟨rfl, hn⟩]
  refine ⟨_, act_after (fun s => replayTimeout s l true) hl, ?_, ?_, ?_, ?_⟩ <;> rw [ht]
  · exact (link_of_mesh (after_mesh ..) _).trans (link_setLink_self ..)
  · exact hubRegsKept_of_regs rfl _
  · exact after_mem ..
  · exact after_coreRegs ..

end

/-! ### Health (R218, R358) -/

/-- What a link leaves that goes over its budget. -/
structure Degraded (s t : State) (l : LinkId) : Prop where
  work : LinkWork s t
  mesh : t.mesh = s.mesh
  state : stateOf t l = if stateOf s l = 0 then 1 else stateOf s l
  alarm : linkAlarm t 0 l = true

theorem degrade_degraded (s : State) (l : LinkId) : Degraded s (degrade s l) l := by
  have hset (t : State) (ht : t = if stateOf s l = 0 then setStateOf s l 1 else s) : LinkWork s t ∧ t.mesh = s.mesh
      ∧ stateOf t l = if stateOf s l = 0 then 1 else stateOf s l := by
    subst ht
    split
    · exact ⟨setStateOf_linkWork .., setStateOf_mesh .., stateOf_setStateOf_self _ _ (by decide)⟩
    · exact ⟨.refl s, rfl, rfl⟩
  unfold degrade
  extract_lets t
  obtain ⟨hw, hm, hs⟩ := hset t rfl
  cases l with
  | mesh node out =>
    have ha : ¬ isStateReg R.meshAlarm ∧ linkArea R.meshAlarm := by unfold isStateReg linkArea R.meshAlarm; omega
    have hd : ¬ isStateReg R.meshLastDegraded ∧ linkArea R.meshLastDegraded := by
      unfold isStateReg linkArea R.meshLastDegraded; omega
    have hf := failLink_work (wr (setB t R.meshAlarm 0) R.meshLastDegraded (w64 (nowNs t))) (.mesh node out)
    refine ⟨((hw.trans (wr_linkWork _ _ ha.2)).trans (wr_linkWork _ _ hd.2)).trans hf.linkWork, hf.mesh.trans hm, ?_, ?_⟩
    · rw [hf.stateOf, stateOf_of_rd (fun o ho => rd_wr_ne (by rintro rfl; exact hd.1 ho)), stateOf_setB _ _ _ ha.1, hs]
    · rw [linkAlarm, rdB, hf.rd _ (by decide), rd_wr_ne (by decide), ← rdB, rdB_setB_self]
      simp
  | peer p =>
    have ha : ¬ isStateReg R.peerAlarm ∧ linkArea R.peerAlarm := by unfold isStateReg linkArea R.peerAlarm; omega
    have hf := failLink_work (setB t R.peerAlarm 0) (.peer p)
    refine ⟨(hw.trans (wr_linkWork _ _ ha.2)).trans hf.linkWork, hf.mesh.trans hm, ?_, ?_⟩
    · rw [hf.stateOf, stateOf_setB _ _ _ ha.1, hs]
    · rw [linkAlarm, rdB, hf.rd _ (by decide), ← rdB, rdB_setB_self]
      simp

/-- A link within its budget at the end of a window. -/
theorem recovered (s : State) (l : LinkId) (t : State) (ht : t = if stateOf s l = 1 then setStateOf s l 0 else s) :
    LinkWork s t ∧ t.mesh = s.mesh ∧ stateOf t l = if stateOf s l = 1 then 0 else stateOf s l := by
  subst ht
  split
  · exact ⟨setStateOf_linkWork .., setStateOf_mesh .., stateOf_setStateOf_self _ _ (by decide)⟩
  · exact ⟨.refl s, rfl, rfl⟩

theorem windowEnd_parts (s : State) (l : LinkId) : LinkWork s (windowEnd s l)
    ∧ link (windowEnd s l) (linkOf l) = { link s (linkOf l) with window := 0 }
    ∧ stateOf (windowEnd s l) l = (if retryBudget s l < (link s (linkOf l)).window
        then (if stateOf s l = 0 then 1 else stateOf s l) else if stateOf s l = 1 then 0 else stateOf s l)
    ∧ (retryBudget s l < (link s (linkOf l)).window → linkAlarm (windowEnd s l) 0 l = true) := by
  unfold windowEnd
  extract_lets k h u
  have hlink : link u k = { h with window := 0 } := link_setLink_self ..
  have hw : LinkWork s u := setLink_linkWork ..
  have hs : stateOf u l = stateOf s l := stateOf_setLink ..
  have hb : retryBudget u l = retryBudget s l := by cases l <;> rfl
  by_cases hov : retryBudget s l < h.window
  · have hd := degrade_degraded u l
    rw [if_pos (by rw [hb]; exact hov), if_pos hov]
    exact ⟨hw.trans hd.work, (link_of_mesh hd.mesh k).trans hlink, by rw [hd.state, hs], fun _ => hd.alarm⟩
  · obtain ⟨hr, hm, ht⟩ := recovered u l _ rfl
    rw [if_neg (by rw [hb]; exact hov), if_neg hov]
    exact ⟨hw.trans hr, (link_of_mesh hm k).trans hlink, by rw [ht, hs], fun h => absurd h hov⟩

section
variable {s : State} (hl : live s = true) {l : LinkId} (he : linkExists l = true)
include hl he

theorem retryWindowEnd_row : ∃ v, exec (.retryWindowEnd l) s = .next v ∧ (link v (linkOf l)).window = 0
    ∧ stateOf v l = (if retryBudget s l < (link s (linkOf l)).window then (if stateOf s l = 0 then 1 else stateOf s l)
        else if stateOf s l = 1 then 0 else stateOf s l)
    ∧ (retryBudget s l < (link s (linkOf l)).window → linkAlarm v 0 l = true) ∧ v.mem = s.mem ∧ v.coreRegs = s.coreRegs := by
  obtain ⟨hw, hlink, hs, ha⟩ := windowEnd_parts s l
  have ht : (if linkExists l then windowEnd s l else s) = windowEnd s l := if_pos he
  refine ⟨_, act_after (fun s => if linkExists l then windowEnd s l else s) hl, ?_, ?_, ?_, ?_, ?_⟩ <;> rw [ht]
  · rw [link_of_mesh (after_mesh ..), hlink]
  · rw [stateOf_after, hs]
  · intro h
    rw [← ha h]
    cases l with
    | mesh _ _ => exact congrArg (bitAt · 0) (rd_after _ _ (by decide))
    | peer _ => exact congrArg (bitAt · 0) (rd_after _ _ (by decide))
  · exact (after_mem ..).trans hw.mem
  · exact (after_coreRegs ..).trans hw.coreRegs

/-! ### Retrains (R219, R220, R360) -/

theorem exec_linkRetrainEnd (up : Bool) : exec (.linkRetrainEnd l up) s = .next (after s (retrainEnd s l up)) := by
  have ht : (if linkExists l then retrainEnd s l up else s) = retrainEnd s l up := if_pos he
  rw [← ht]
  exact act_after (fun s => if linkExists l then retrainEnd s l up else s) hl

theorem laneLockLoss_row (hi : isLigature l = true) (h1 : stateOf s l ≤ 1) : ∃ v, exec (.laneLockLoss l) s = .next v
    ∧ stateOf v l = 2 ∧ v.mem = s.mem := by
  have hr := retrain_retrained h1
  have ht : (if linkExists l && isLigature l then retrain s l else s) = retrain s l := if_pos (by simp [he, hi])
  refine ⟨_, act_after (fun s => if linkExists l && isLigature l then retrain s l else s) hl, ?_, ?_⟩ <;> rw [ht]
  · rw [stateOf_after, hr.state]
  · exact (after_mem ..).trans hr.work.mem

variable (h2 : stateOf s l = 2)
include h2

theorem linkRetrainEnd_up : ∃ v, exec (.linkRetrainEnd l true) s = .next v ∧ stateOf v l = 0 ∧ v.mem = s.mem
    ∧ (∀ p, l = .peer p → rdB v (R.peerStatus p.val) 2 = true)
    ∧ (∀ node out, l = .mesh node out → (link v (linkOf l)).next = (link s (linkOf l)).next
      ∧ (link v (linkOf l)).expect = ((((link s (linkOf l)).replay.filter fun r => r.1 ≥ (link s (linkOf l)).expect).head?.map
          fun r => r.1).getD (link s (linkOf l)).next)) := by
  have hw := (resyncLink_linkWork s l).trans (trained_linkWork (resyncLink s l) l)
  refine ⟨_, exec_linkRetrainEnd hl he true, ?_, ?_, ?_, ?_⟩ <;> rw [retrainEnd_up h2]
  · rw [stateOf_after, trained_up]
  · exact (after_mem ..).trans hw.mem
  · rintro p rfl
    rw [← trained_peer (resyncLink s (.peer p)) p]
    exact congrArg (bitAt · 2) (rd_after _ _ (by unfold R.peerStatus R.msixPba; omega))
  · rintro node out rfl
    rw [link_of_mesh (after_mesh ..), link_of_mesh (trained_mesh ..)]
    have hk : link (resyncLink s (.mesh node out)) (linkOf (.mesh node out)) = _ := link_setLink_self ..
    rw [hk]
    exact ⟨rfl, rfl⟩

/-- The first two failures of a retrain try again. -/
theorem linkRetrainEnd_again (hf : (link s (linkOf l)).fails + 1 < 3) : ∃ v, exec (.linkRetrainEnd l false) s = .next v
    ∧ stateOf v l = 2 ∧ (link v (linkOf l)).fails = (link s (linkOf l)).fails + 1 ∧ v.mem = s.mem := by
  have hcount (t : State) (c : Nat) (hc : ¬ isStateReg c) : stateOf (bump t c 1) l = stateOf t l := stateOf_bump _ _ _ hc
  refine ⟨_, exec_linkRetrainEnd hl he false, ?_⟩
  rw [retrainEnd, if_neg (not_not.2 h2), if_neg Bool.false_ne_true]
  dsimp only
  rw [if_neg (by omega)]
  generalize hu : setLink s (linkOf l) { link s (linkOf l) with fails := (link s (linkOf l)).fails + 1 } = u
  have hlink : link u (linkOf l) = { link s (linkOf l) with fails := (link s (linkOf l)).fails + 1 } := by
    rw [← hu, link_setLink_self]
  have hs : stateOf u l = 2 := by rw [← hu, stateOf_setLink, h2]
  have hm : u.mem = s.mem := by rw [← hu]; rfl
  have hdone (v : State) (hvs : stateOf v l = stateOf u l) (hvl : v.mesh = u.mesh) (hvm : v.mem = u.mem) :
      stateOf (after s v) l = 2 ∧ (link (after s v) (linkOf l)).fails = (link s (linkOf l)).fails + 1
        ∧ (after s v).mem = s.mem :=
    ⟨by rw [stateOf_after, hvs, hs], by rw [link_of_mesh (after_mesh ..), link_of_mesh hvl, hlink],
      (after_mem ..).trans (hvm.trans hm)⟩
  cases l with
  | peer p => exact hdone _ (hcount _ _ (by unfold isStateReg R.peerRetrains; omega)) rfl rfl
  | mesh node out =>
    cases node with
    | hub p => exact hdone _ rfl rfl rfl
    | router n => exact hdone _ (hcount _ _ (by have := portIx_le out; unfold isStateReg R.linkRetrains; omega)) rfl rfl

theorem linkRetrainEnd_down (hf : 3 ≤ (link s (linkOf l)).fails + 1) : ∃ v, exec (.linkRetrainEnd l false) s = .next v
    ∧ stateOf v l = 3 ∧ linkAlarm v 1 l = true := by
  have ht : retrainEnd s l false = goesDown s l := by
    rw [retrainEnd, if_neg (not_not.2 h2), if_neg Bool.false_ne_true]
    exact if_pos hf
  refine ⟨_, exec_linkRetrainEnd hl he false, ?_, ?_⟩ <;> rw [ht]
  · rw [stateOf_after, goesDown_down]
  · rw [← (fall_fallen s l).alarm]
    cases l with
    | mesh _ _ => exact congrArg (bitAt · 1) ((rd_after _ _ (by decide)).trans (rd_of_regs (goesDown_regs ..) _))
    | peer _ => exact congrArg (bitAt · 1) ((rd_after _ _ (by decide)).trans (rd_of_regs (goesDown_regs ..) _))

end

/-! ### A forced recalibration (R217) -/

theorem l0Breath_lt {s : State} {j : Nat} (h : l0Breath s = some j) : j < 64 := List.mem_range.1 (List.mem_of_find?_eq_some h)

theorem recalForced_row {s : State} (hl : live s = true) {l : LinkId} {j : Nat} (hj : l0Breath s = some j) (hi : isLigature l = true)
    (hp : onJobPath s j l = true) : ∃ v, exec (.recalForced l) s = .next v ∧ rdB v R.pwrAlarm 5 = true
      ∧ rd v R.pwrRecalForced = w64 (satAdd 32 (rd s R.pwrRecalForced).toNat 1) ∧ v.mem = s.mem := by
  have hw := failCond_work (setB (bump s R.pwrRecalForced 1) R.pwrAlarm 5) 5 (l0Breath_lt hj)
  have hm : (failCond (setB (bump s R.pwrRecalForced 1) R.pwrAlarm 5) j 5).mem = s.mem := hw.linkWork.mem
  have heff : exec (.recalForced l) s = .next (after s (failCond (setB (bump s R.pwrRecalForced 1) R.pwrAlarm 5) j 5)) := by
    refine (act_after (fun s => match l0Breath s with
      | some j => if isLigature l ∧ onJobPath s j l then failCond (setB (bump s R.pwrRecalForced 1) R.pwrAlarm 5) j 5 else s
      | none => s) hl).trans ?_
    rw [hj]
    dsimp only
    rw [if_pos ⟨hi, hp⟩]
  refine ⟨_, heff, ?_, ?_, (after_mem ..).trans hm⟩
  · rw [rdB_after _ _ _ (by decide), rdB, hw.rd _ (by decide), ← rdB, rdB_setB_self]
    simp
  · rw [rd_after _ _ (by decide), hw.rd _ (by decide), rd_setB_ne _ _ (by decide), rd_bump_self]

end Sys2Proof.Machine
end

section
/-! SUPPORT. Frames of peers (R211, R359, R361, R363). -/
namespace Sys2Proof.Machine

/-! ### What a frame that goes on leaves alone -/

/-- The receiving sides of the peer links and the counters of frames received are the same. -/
structure InputsKept (s t : State) : Prop where
  link : ∀ k, 10100 ≤ k → link t k = link s k
  rd : ∀ p, p < 4 → rd t (R.peerFramesRx p) = rd s (R.peerFramesRx p)

namespace InputsKept

theorem refl (s : State) : InputsKept s s := ⟨fun _ _ => rfl, fun _ _ => rfl⟩

theorem trans {s t u : State} (h : InputsKept s t) (k : InputsKept t u) : InputsKept s u :=
  ⟨fun x hx => (k.link x hx).trans (h.link x hx), fun p hp => (k.rd p hp).trans (h.rd p hp)⟩

theorem of_parts {s t : State} (hr : t.regs = s.regs) (hm : t.mesh.links = s.mesh.links) : InputsKept s t :=
  ⟨fun k _ => link_of_links hm k, fun _ _ => rd_of_regs hr _⟩

theorem ite {s t u : State} {c : Prop} [Decidable c] (h : InputsKept s t) (k : InputsKept s u) :
    InputsKept s (if c then t else u) := by
  split
  · exact h
  · exact k

end InputsKept

theorem bump_inputs (s : State) {o : Nat} (n : Nat) (h : o % 0x40 ≠ 0x10) : InputsKept s (bump s o n) :=
  ⟨fun _ _ => rfl, fun _ _ => rd_bump_ne _ _ (by unfold R.peerFramesRx; omega)⟩

theorem EntryOnly.inputs {s t : State} (h : EntryOnly s t) (hm : t.mesh.links = s.mesh.links) : InputsKept s t :=
  ⟨fun k _ => link_of_links hm k,
    fun _ _ => h.rd _ (by unfold entryReg R.hubDrain R.meshMisaddrHub R.peerFramesRx; omega)⟩

/-! ### Frames that go on to a peer -/

theorem putPeer_inputs (s : State) {p : Nat} (pkg : Nat) (f : Flit) (hp : p < 60) : InputsKept s (putPeer s p pkg f) := by
  have hlink (l : Link) (o : Outs) : InputsKept s { setLink s (10000 + p) l with outs := o } :=
    ⟨fun k hk => (link_setLink s _ k l).trans (if_neg (by omega)), fun _ _ => rfl⟩
  unfold putPeer
  exact (hlink ..).trans (bump_inputs _ _ (by unfold R.peerFramesTx; omega))

theorem setPeerQueue_inputs (s : State) (p : Nat) (l : List (Nat × Flit)) : InputsKept s (setPeerQueue s p l) := .of_parts rfl rfl

theorem flushPeer_inputs {p : Nat} (hp : p < 60) : ∀ (k : Nat) (s : State), InputsKept s (flushPeer p k s)
  | 0, s => .refl s
  | k + 1, s => by
    unfold flushPeer
    extract_lets l pick
    cases pick with
    | none => exact .refl s
    | some x => exact ((setPeerQueue_inputs ..).trans (putPeer_inputs _ _ _ hp)).trans (flushPeer_inputs hp k _)

theorem peerSend_inputs (s : State) (pkg : Nat) (f : Flit) : InputsKept s (peerSend s pkg f) := by
  unfold peerSend
  extract_lets t
  split
  · exact bump_inputs _ _ (by decide)
  · rename_i p hp
    exact .ite (bump_inputs _ _ (by decide)) (.ite (bump_inputs _ _ (by unfold R.peerDownDrops; omega))
      ((setPeerQueue_inputs ..).trans (flushPeer_inputs (peerPort_lt hp) _ _)))

/-! ### Frames that enter the mesh -/

theorem Enters.links {s t : State} {p : Nat} {f : Flit} (h : Enters s t (1024 + p) f) : t.mesh.links = s.mesh.links := by
  obtain rfl | ⟨q, x, rfl⟩ | ⟨q, x, y, _, _, rfl⟩ := h
  · rfl
  · rw [pushHeld, noteDrain_mesh']; rfl
  · rfl

theorem enterOffer_links (s : State) (o : Offer) (cyc : Nat) {p : Nat} (hn : o.node = 1024 + p) :
    (enterOffer s o cyc).mesh.links = s.mesh.links := by
  unfold enterOffer
  rw [hn]
  refine (enter_enters ..).links.trans ?_
  split <;> rfl

theorem pump_links (p : Nat) : ∀ (k : Nat) (s : State), (pump (1024 + p) k s).mesh.links = s.mesh.links
  | 0, _ => rfl
  | k + 1, s => by
    rw [pump]
    split
    · rename_i o ho
      exact (pump_links p k _).trans (enterOffer_links s o 0 (nextOffer_node _ _ _ _ _ ho))
    · rfl

theorem hubInject_links (s : State) (p src : Nat) (f : Flit) : (hubInject s p src f).mesh.links = s.mesh.links := by
  unfold hubInject
  split
  · rfl
  · exact pump_links ..

theorem shapeTo_inputs (s : State) (n cyc : Nat) : InputsKept s (shapeTo s n cyc) :=
  .ite (.refl s) (.of_parts rfl rfl)

theorem peerTakeIn_inputs (s : State) (p : Nat) {f : Flit} (h : fType f ≠ 3) : InputsKept s (peerTakeIn s p f) := by
  unfold peerTakeIn
  dsimp only
  rw [if_neg h]
  exact .ite ((shapeTo_inputs ..).trans ((hubInject_entry ..).inputs (hubInject_links ..))) (bump_inputs _ _ (by decide))

/-! ### The frames' rows -/

theorem rd_setLink (s : State) (k : Nat) (l : Link) (o : Nat) : rd (setLink s k l) o = rd s o := rfl

section
variable {s : State} (hl : live s = true) {p : Fin 4} (hup : rdF s (R.peerStatus p.val) 0 2 ≤ 1)
include hl hup

theorem exec_peerFrame (fr : Frame) : exec (.peerFrame p fr) s = .next (after s (peerFrame s p.val fr)) := by
  have ht : (if rdF s (R.peerStatus p.val) 0 2 ≤ 1 then peerFrame s p.val fr else s) = peerFrame s p.val fr := if_pos hup
  rw [← ht]
  exact act_after (fun s => if rdF s (R.peerStatus p.val) 0 2 ≤ 1 then peerFrame s p.val fr else s) hl

theorem peerFrame_corrupt {fr : Frame} (hc : crc16 (beBytes 10 (fr.toNat / 65536)) ≠ fr.toNat % 65536) :
    ∃ v, exec (.peerFrame p fr) s = .next v
      ∧ link v (peerIn p.val) = (if (link s (peerIn p.val)).nak then link s (peerIn p.val)
          else { link s (peerIn p.val) with
            ctl := controlBits 0 ((link s (peerIn p.val)).expect + 255) true (link s (peerIn p.val)).freed, nak := true })
      ∧ rd v (R.peerCrcErr p.val) = w64 (satAdd 32 (rd s (R.peerCrcErr p.val)).toNat 1) ∧ v.mem = s.mem := by
  have ht : peerFrame s p.val fr = setLink (bump s (R.peerCrcErr p.val) 1) (peerIn p.val)
      (if (link s (peerIn p.val)).nak then link s (peerIn p.val) else peerControl (link s (peerIn p.val)) true) := by
    rw [peerFrame]
    dsimp only
    rw [if_pos hc]
  refine ⟨_, exec_peerFrame hl hup fr, ?_, ?_, ?_⟩ <;> rw [ht]
  · rw [link_of_mesh (after_mesh ..), link_setLink_self, peerControl]
  · have hne : R.peerCrcErr p.val ≠ R.msixPba := by unfold R.peerCrcErr R.msixPba; omega
    rw [rd_after _ _ hne, rd_setLink, rd_bump_self]
  · exact after_mem ..

variable {fr : Frame} (hc : crc16 (beBytes 10 (fr.toNat / 65536)) = fr.toNat % 65536)
  (hf : fType (w64 (fr.toNat / 2 ^ 32)) ≠ 0xF)
include hc hf

theorem peerFrame_late (hseq : fr.toNat / 65536 % 4096 ≠ (link s (peerIn p.val)).expect % 4096) :
    exec (.peerFrame p fr) s = .next s := by
  have ht : peerFrame s p.val fr = s := by
    rw [peerFrame]
    dsimp only
    rw [if_neg (not_not.2 hc), if_neg hf, if_pos hseq]
  rw [exec_peerFrame hl hup, ht, after_self]

omit hl hup hc hf in
/-- The link and the counter of port `p` once a frame to package `pkg` has been accepted in its turn. -/
theorem peerFrame_accepts (s : State) (p : Fin 4) (pkg : Nat) (x : Link) (u v : State) (hu : u = setLink s (peerIn p.val) x)
    (hv : v = if pkg = pkgId u ∨ (peerPort u pkg).isSome then bump u (R.peerFramesRx p.val) 1 else u) :
    link v (peerIn p.val) = x ∧ pkgId v = pkgId s ∧ peerPort v pkg = peerPort s pkg
      ∧ (pkg = pkgId s ∨ (peerPort s pkg).isSome = true →
          rd v (R.peerFramesRx p.val) = w64 (satAdd 32 (rd s (R.peerFramesRx p.val)).toNat 1))
      ∧ rd v R.peerNoRoute = rd s R.peerNoRoute := by
  have hlu : link u (peerIn p.val) = x := by rw [hu, link_setLink_self]
  have hru : ∀ o, rd u o = rd s o := by subst hu; exact fun _ => rfl
  have hvm : v.mesh = u.mesh := by subst hv; split <;> rfl
  have hvr : ∀ o, o ≠ R.peerFramesRx p.val → rd v o = rd s o := by
    intro o ho
    rw [hv]
    exact rd_ite ((rd_bump_ne _ _ ho).trans (hru o)) (hru o)
  have hne : R.pkgId ≠ R.peerFramesRx p.val ∧ R.peerTree ≠ R.peerFramesRx p.val ∧ R.peerNoRoute ≠ R.peerFramesRx p.val := by
    unfold R.pkgId R.peerTree R.peerNoRoute R.peerFramesRx; omega
  have hport (t : State) (hi : rd t R.pkgId = rd s R.pkgId) (htr : rd t R.peerTree = rd s R.peerTree) :
      pkgId t = pkgId s ∧ peerPort t pkg = peerPort s pkg := by
    have hid : pkgId t = pkgId s := by rw [pkgId, rdF, hi, pkgId, rdF]
    have hrole : peerRole t = peerRole s := by rw [peerRole, rdF, htr, peerRole, rdF]
    have huse : portInUse t = portInUse s := funext fun q => by rw [portInUse, rdB, htr, portInUse, rdB]
    exact ⟨hid, by rw [peerPort, hid, hrole, huse, peerPort]⟩
  obtain ⟨hui, hup⟩ := hport u (hru _) (hru _)
  obtain ⟨hvi, hvp⟩ := hport v (hvr _ hne.1) (hvr _ hne.2.1)
  refine ⟨by rw [link_of_mesh hvm, hlu], hvi, hvp, fun h => ?_, hvr _ hne.2.2⟩
  rw [hv, if_pos (by rwa [hui, hup]), rd_bump_self, hru]

theorem peerFrame_accepted {pkg : Nat} (hpkg : pkg = fr.toNat / 2 ^ 28 % 16)
    (hseq : fr.toNat / 65536 % 4096 = (link s (peerIn p.val)).expect % 4096)
    (hd : pkg ≠ pkgId s ∨ fType (w64 (fr.toNat / 2 ^ 32)) ≠ 3) : ∃ v, exec (.peerFrame p fr) s = .next v
      ∧ (link v (peerIn p.val)).expect = (link s (peerIn p.val)).expect + 1
      ∧ (pkg = pkgId s ∨ (peerPort s pkg).isSome = true →
          rd v (R.peerFramesRx p.val) = w64 (satAdd 32 (rd s (R.peerFramesRx p.val)).toNat 1))
      ∧ (pkg ≠ pkgId s → peerPort s pkg = none → rd v R.peerNoRoute = w64 (satAdd 32 (rd s R.peerNoRoute).toNat 1)) := by
  refine ⟨_, exec_peerFrame hl hup fr, ?_⟩
  rw [peerFrame]
  dsimp only
  rw [if_neg (not_not.2 hc), if_neg hf, if_neg (not_not.2 hseq), ← hpkg]
  generalize hx : peerControl _ false = x
  generalize hu : setLink s (peerIn p.val) x = u
  generalize hv : (if pkg = pkgId u ∨ (peerPort u pkg).isSome then bump u (R.peerFramesRx p.val) 1 else u) = v
  obtain ⟨hlink, hid, hport, hrx, hno⟩ := peerFrame_accepts s p pkg x u v hu.symm hv.symm
  have hin : InputsKept v (if pkg = pkgId v then peerTakeIn v p.val (w64 (fr.toNat / 2 ^ 32))
      else peerSend v pkg (w64 (fr.toNat / 2 ^ 32))) := by
    split
    · rename_i he
      exact peerTakeIn_inputs _ _ (hd.resolve_left (not_not.2 (he.trans hid)))
    · exact peerSend_inputs ..
  refine ⟨?_, fun h => ?_, fun hne hnone => ?_⟩
  · rw [link_of_mesh (after_mesh ..), hin.link (peerIn p.val) (Nat.le_add_right ..), hlink, ← hx, peerControl]
  · rw [rd_after _ _ (by unfold R.peerFramesRx R.msixPba; omega), hin.rd _ p.isLt, hrx h]
  · rw [rd_after _ _ (by decide), if_neg (by rwa [hid]), peerSend, hport, hnone]
    rw [← hno]
    exact rd_bump_self ..

end

end Sys2Proof.Machine
end

section
/-! The links carry on (O47). -/
namespace Sys2Proof.Machine

/-- Settles O47: each event of a link, by the row that says what it leaves. -/
theorem linksCarryOn : Obligations.LinksCarryOn := by
  unfold Obligations.LinksCarryOn
  intro s hl
  refine ⟨fun node p lane k hk => ⟨laneWord_bad hl hk lane, ?_⟩, ?_, ?_, ?_, ?_, ?_⟩
  · rintro seq payload c a ha
    exact laneWord_good hl hk lane seq payload c ha
  · rintro l word h w he rfl hw
    refine ⟨fun hq hn => ?_, controlWord_nak hl he hw, controlWord_discarded hl he word, controlWord_retrains hl he word⟩
    have hack := controlWord_ack hl he hw hq hn
    cases l <;> exact hack
  · rintro l h he rfl
    refine ⟨fun merged hr h1 => replayTimeout_counts hl he hr h1 merged, replayTimeout_merged hl he, ?_, fun h2 => ⟨?_, ?_, ?_⟩,
      laneLockLoss_row hl he⟩
    · have hrow := retryWindowEnd_row hl he
      cases l <;> exact hrow
    · exact linkRetrainEnd_up hl he h2
    · exact linkRetrainEnd_again hl he h2
    · intro hf
      have hrow := linkRetrainEnd_down hl he h2 hf
      cases l <;> exact hrow
  · exact fun l => act_self (eff := fun s => s) hl rfl
  · exact fun l j hj => recalForced_row hl hj
  · rintro p fr h hup rfl
    exact ⟨peerFrame_corrupt hl hup, fun hc hf => ⟨peerFrame_late hl hup hc hf, peerFrame_accepted hl hup hc hf rfl⟩⟩

end Sys2Proof.Machine
end

section
/-! The deadlock detector and the 1 µs tick (O40). -/
namespace Sys2Proof.Machine

/-! ### A sample of the detector (R265) -/

/-- `t` differs from `s` in the quiet counts alone. -/
structure Sampled (s t : State) : Prop where
  only : ∃ r, t = { s with regs := r }
  rd : ∀ o, o ∉ (List.range 64).map R.dlQuiet → rd t o = rd s o

namespace Sampled

theorem refl (s : State) : Sampled s s := ⟨⟨_, rfl⟩, fun _ _ => rfl⟩

theorem trans {s t u : State} (h : Sampled s t) (k : Sampled t u) : Sampled s u where
  only := by
    obtain ⟨_, rfl⟩ := h.only
    obtain ⟨r, rfl⟩ := k.only
    exact ⟨r, rfl⟩
  rd o ho := (k.rd o ho).trans (h.rd o ho)

theorem wr (s : State) {j : Nat} (v : W64) (hj : j < 64) : Sampled s (wr s (R.dlQuiet j) v) :=
  ⟨⟨_, rfl⟩, fun _ ho => rd_wr_ne (by rintro rfl; exact ho (List.mem_map.2 ⟨j, List.mem_range.2 hj, rfl⟩))⟩

theorem parts {s t : State} (h : Sampled s t) : t.cores = s.cores ∧ t.coreRegs = s.coreRegs ∧ t.mesh = s.mesh ∧ t.mem = s.mem := by
  obtain ⟨_, rfl⟩ := h.only
  exact ⟨rfl, rfl, rfl, rfl⟩

/-- The breaths' registers lie below the quiet counts. -/
theorem low {s t : State} (h : Sampled s t) {o : Nat} (ho : o < 0x51000) : Machine.rd t o = Machine.rd s o := by
  refine h.rd o fun hm => ?_
  obtain ⟨j, -, rfl⟩ := List.mem_map.1 hm
  unfold R.dlQuiet at ho
  omega

end Sampled

/-- The quiet count of breath `j` after a sample of it. -/
def quietNext (s : State) (j : Nat) : Nat :=
  if (coresOf s j).isEmpty || haltHold s j || brthState s j = 3 then rdF s (R.dlQuiet j) 0 32
  else if (coresOf s j).any fun n => s.mesh.moved.contains n then 0
  else if (brthState s j = 1 || brthState s j = 2) && (coresOf s j).any (coreWaits s) then min (rdF s (R.dlQuiet j) 0 32 + 1) 0xFFFFFFFF
  else rdF s (R.dlQuiet j) 0 32

theorem quietSample_sampled (s : State) {j : Nat} (hj : j < 64) : Sampled s (quietSample s j)
    ∧ rdF (quietSample s j) (R.dlQuiet j) 0 32 = quietNext s j
    ∧ ∀ i, i ≠ j → rd (quietSample s j) (R.dlQuiet i) = rd s (R.dlQuiet i) := by
  have hput (v : Nat) (hv : v < 2 ^ 32) : Sampled s (wrF s (R.dlQuiet j) 0 32 v) ∧ rdF (wrF s (R.dlQuiet j) 0 32 v) (R.dlQuiet j) 0 32 = v
      ∧ ∀ i, i ≠ j → rd (wrF s (R.dlQuiet j) 0 32 v) (R.dlQuiet i) = rd s (R.dlQuiet i) := by
    refine ⟨.wr s _ hj, ?_, fun i hi => rd_wrF_ne _ _ _ _ (by unfold R.dlQuiet; omega)⟩
    rw [rdF, wrF, rd_wr_self, fld_putFld_self _ _ (by decide), Nat.mod_eq_of_lt hv]
  have hsame : Sampled s s ∧ rdF s (R.dlQuiet j) 0 32 = rdF s (R.dlQuiet j) 0 32
      ∧ ∀ i, i ≠ j → rd s (R.dlQuiet i) = rd s (R.dlQuiet i) :=
    ⟨.refl s, rfl, fun _ _ => rfl⟩
  unfold quietSample quietNext
  extract_lets l
  split
  · exact hsame
  split
  · exact hput 0 (by decide)
  split
  · exact hput _ (by omega)
  · exact hsame

/-- A sample of one breath does not change what another's sample finds. -/
theorem Sampled.quietNext {s t : State} (h : Sampled s t) {j : Nat} (hj : j < 64)
    (hq : Machine.rd t (R.dlQuiet j) = Machine.rd s (R.dlQuiet j)) :
    quietNext t j = Machine.quietNext s j := by
  obtain ⟨hcores, hregs, hmesh, -⟩ := h.parts
  have hrect : coresOf t j = coresOf s j := by
    rw [coresOf, coresOf, jobState, rectX0, rectY0, rectX1, rectY1, rdF, rdF, rdF, rdF, rdF, h.low (by unfold R.jobState; omega),
      h.low (by unfold R.brthRect; omega)]
    rfl
  have hhold : haltHold t j = haltHold s j := by rw [haltHold, rdB, h.low (by unfold R.brthStatus; omega)]; rfl
  have hstate : brthState t j = brthState s j := by rw [brthState, rdF, h.low (by unfold R.brthStatus; omega)]; rfl
  have hwaits : coreWaits t = coreWaits s := funext fun n => by
    have hc : core t n = core s n := core_of_cores hcores n
    have hw : waiting t n = waiting s n := funext fun e => by rw [waiting, crB, cr, hregs]; rfl
    rw [coreWaits, hc, hw]
    rfl
  rw [Machine.quietNext, hrect, hhold, hstate, hwaits, hmesh, rdF, hq]
  rfl

theorem samples (s : State) : ∀ n, n ≤ 64 → Sampled s ((List.range n).foldl quietSample s)
    ∧ (∀ j, j < n → rdF ((List.range n).foldl quietSample s) (R.dlQuiet j) 0 32 = quietNext s j)
    ∧ ∀ j, n ≤ j → rd ((List.range n).foldl quietSample s) (R.dlQuiet j) = rd s (R.dlQuiet j)
  | 0, _ => ⟨.refl s, fun _ h => absurd h (Nat.not_lt_zero _), fun _ _ => rfl⟩
  | n + 1, hn => by
    obtain ⟨hs, hdone, hrest⟩ := samples s n (by omega)
    rw [List.range_succ, List.foldl_append, List.foldl_cons, List.foldl_nil]
    generalize (List.range n).foldl quietSample s = t at hs hdone hrest
    obtain ⟨hs', hself, hother⟩ := quietSample_sampled t (show n < 64 by omega)
    refine ⟨hs.trans hs', fun j hj => ?_, fun j hj => (hother j (by omega)).trans (hrest j (by omega))⟩
    by_cases he : j = n
    · subst he
      rw [hself, hs.quietNext (by omega) (hrest j (Nat.le_refl j))]
    · rw [rdF, hother j he, ← rdF, hdone j (by omega)]

theorem deadlockSample_row {s : State} (hl : live s = true) : ∃ v, exec .deadlockSample s = .next v
    ∧ v.mesh = { s.mesh with moved := [] } ∧ v.mem = s.mem ∧ v.coreRegs = s.coreRegs
    ∧ hubRegsKept s v ((List.range 64).map R.dlQuiet) ∧ ∀ j, j < 64 → rdF v (R.dlQuiet j) 0 32 = quietNext s j := by
  obtain ⟨hs, hdone, -⟩ := samples s 64 (Nat.le_refl _)
  have heff : exec .deadlockSample s = .next (after s { (List.range 64).foldl quietSample s with
      mesh := { ((List.range 64).foldl quietSample s).mesh with moved := [] } }) :=
    act_after (fun s => { (List.range 64).foldl quietSample s with
      mesh := { ((List.range 64).foldl quietSample s).mesh with moved := [] } }) hl
  generalize (List.range 64).foldl quietSample s = t at hs hdone heff
  obtain ⟨-, hregs, hmesh, hmem⟩ := hs.parts
  refine ⟨_, heff, ?_, ?_, ?_, ?_, fun j hj => ?_⟩
  · rw [after_mesh, hmesh]
  · rw [after_mem, hmem]
  · rw [after_coreRegs, hregs]
  · exact hubRegsKept_after fun o ho => hs.rd o ho
  · rw [rdF_after _ _ _ _ (by unfold R.dlQuiet R.msixPba; omega), ← hdone j hj]
    rfl

/-- What a sample finds of a breath whose cores are bound, neither held nor suspended. -/
theorem quietNext_of_bound {s : State} {j : Nat} (hc : coresOf s j ≠ []) (hh : haltHold s j = false) (hs : brthState s j ≠ 3) :
    quietNext s j = (if ∃ n ∈ coresOf s j, n ∈ s.mesh.moved then 0
      else if (brthState s j = 1 ∨ brthState s j = 2) ∧ ∃ n ∈ coresOf s j, coreWaits s n = true
      then min (rdF s (R.dlQuiet j) 0 32 + 1) 0xFFFFFFFF else rdF s (R.dlQuiet j) 0 32) := by
  simp [quietNext, hc, hh, hs]

/-! ### The fault of a quiet count (R265, R266) -/

theorem deadlock_row {s : State} (hl : live s = true) {j : BreathId} (hrun : brthState s j.val = 1 ∨ brthState s j.val = 2)
    (hw : quietWindow s j.val ≤ rdF s (R.dlQuiet j.val) 0 32) (hb : rdB s (R.dlQuiet j.val) 32 = false) :
    ∃ v, exec (.deadlock j) s = .next v ∧ rdB v (R.dlQuiet j.val) 32 = true
      ∧ (jobState s j.val = 3 → brthState v j.val = 4 ∧ (⟨j.val, 6, (brth s j.val).started.toNat⟩ : Raised) ∈ v.faults)
      ∧ v.mem = s.mem ∧ v.coreRegs = s.coreRegs := by
  have hj : j.val < 64 := j.isLt
  have hq : R.dlQuiet j.val ≠ R.msixPba := by unfold R.dlQuiet R.msixPba; omega
  have ht : exec (.deadlock j) s = .next (after s (raise (setB s (R.dlQuiet j.val) 32) j.val 6 (brth s j.val).started.toNat)) := by
    refine (act_after (fun s => if (brthState s j.val = 1 || brthState s j.val = 2)
      && rdF s (R.dlQuiet j.val) 0 32 ≥ quietWindow s j.val && !rdB s (R.dlQuiet j.val) 32
      then raise (setB s (R.dlQuiet j.val) 32) j.val 0x06 (brth s j.val).started.toNat else s) hl).trans ?_
    rw [if_pos (by simpa [hb, hw] using hrun)]
  have hwork := raise_work (setB s (R.dlQuiet j.val) 32) 6 (brth s j.val).started.toNat hj
  refine ⟨_, ht, ?_, fun h3 => ?_, (after_mem ..).trans hwork.linkWork.mem, (after_coreRegs ..).trans hwork.linkWork.coreRegs⟩
  · rw [rdB_after _ _ _ hq, rdB, hwork.rd _ (.inr (by unfold R.dlQuiet; omega)), ← rdB, rdB_setB_self]
    simp
  · have h3' : jobState (setB s (R.dlQuiet j.val) 32) j.val = 3 := by
      rw [← h3]
      exact congrArg (fld · 0 8) (rd_setB_ne _ _ (by unfold R.jobState R.dlQuiet; omega))
    obtain ⟨hf, hst, -⟩ := raise_running h3' 6 (brth s j.val).started.toNat
    rw [Nat.mod_eq_of_lt (brth s j.val).started.isLt] at hf
    refine ⟨?_, ?_⟩
    · rw [← hst]
      exact rdF_after _ _ _ _ (by unfold R.brthStatus R.msixPba; omega)
    · rw [after_faults]
      exact hf

end Sys2Proof.Machine
end

section
/-! The 1 µs tick (O40, R205, R222, R263, R293). -/
namespace Sys2Proof.Machine

/-! ### What the shapers and the sweeps of a tick leave -/

/-- `t` differs from `s` in registers, in the mesh and in the free values alone, and no breath's state has moved. -/
structure TickWork (s t : State) : Prop where
  only : ∃ r m f, t = { s with regs := r, mesh := m, free := f }
  state : ∀ j, j < 64 → brthState t j = brthState s j

namespace TickWork

theorem refl (s : State) : TickWork s s := ⟨⟨_, _, _, rfl⟩, fun _ _ => rfl⟩

theorem trans {s t u : State} (h : TickWork s t) (k : TickWork t u) : TickWork s u where
  only := by
    obtain ⟨_, _, _, rfl⟩ := h.only
    obtain ⟨r, m, f, rfl⟩ := k.only
    exact ⟨r, m, f, rfl⟩
  state j hj := (k.state j hj).trans (h.state j hj)

theorem of_regs {s t : State} (h : ∃ m f, t = { s with mesh := m, free := f }) : TickWork s t := by
  obtain ⟨m, f, rfl⟩ := h
  exact ⟨⟨_, _, _, rfl⟩, fun _ _ => rfl⟩

theorem wr (s : State) {o : Nat} (v : W64) (h : ∀ j, j < 64 → o ≠ R.brthStatus j) : TickWork s (wr s o v) :=
  ⟨⟨_, _, _, rfl⟩, fun j hj => congrArg (fld · 0 3) (rd_wr_ne (Ne.symm (h j hj)))⟩

end TickWork

/-- A step of a tick that moves no core's shaper rate. -/
structure RatesKept (s t : State) : Prop extends TickWork s t where
  rate : ∀ n, n < 1024 → shapeRate t n = shapeRate s n

namespace RatesKept

theorem refl (s : State) : RatesKept s s := ⟨.refl s, fun _ _ => rfl⟩

theorem trans {s t u : State} (h : RatesKept s t) (k : RatesKept t u) : RatesKept s u :=
  ⟨h.toTickWork.trans k.toTickWork, fun n hn => (k.rate n hn).trans (h.rate n hn)⟩

theorem ite {s t u : State} {c : Prop} [Decidable c] (h : RatesKept s t) (k : RatesKept s u) :
    RatesKept s (if c then t else u) := by
  split
  · exact h
  · exact k

theorem foldl {α : Type} {f : State → α → State} (hf : ∀ s x, RatesKept s (f s x)) :
    ∀ (l : List α) (s : State), RatesKept s (l.foldl f s)
  | [], s => .refl s
  | x :: r, s => (hf s x).trans (foldl hf r _)

end RatesKept

theorem shapeRate_core (s : State) {n : Nat} (h : n < 1024) : shapeRate s n = fld (rd s (R.rtrShaper n)) 0 7 := if_pos h

theorem RatesKept.of_regs {s t : State} (h : ∃ m f, t = { s with mesh := m, free := f }) : RatesKept s t := by
  refine ⟨.of_regs h, fun n hn => ?_⟩
  obtain ⟨m, f, rfl⟩ := h
  rw [shapeRate_core _ hn, shapeRate_core _ hn]
  rfl

/-- A register that is no breath's status and no router's shaper. -/
def noRate (o : Nat) : Prop := (∀ j, j < 64 → o ≠ R.brthStatus j) ∧ ∀ n, o ≠ R.rtrShaper n

theorem RatesKept.wr (s : State) {o : Nat} (v : W64) (h : noRate o) : RatesKept s (wr s o v) := by
  refine ⟨.wr s v h.1, fun n hn => ?_⟩
  rw [shapeRate_core _ hn, shapeRate_core _ hn, rd_wr_ne (Ne.symm (h.2 n))]

/-! ### The shapers of a tick (R205) -/

theorem shapeTo_rates (s : State) (n cyc : Nat) : RatesKept s (shapeTo s n cyc) := .ite (.refl s) (.of_regs ⟨_, _, rfl⟩)

theorem rtrShaper_status (n : Nat) : ∀ j, j < 64 → R.rtrShaper n ≠ R.brthStatus j := by
  intro j hj; unfold R.rtrShaper R.brthStatus; omega

theorem tokensTo_rates (s : State) (n cyc : Nat) : RatesKept s (tokensTo s n cyc) := by
  have hput (v : Nat) : RatesKept s (wrF s (R.rtrShaper n) 8 3 v) := by
    refine ⟨.wr s _ (rtrShaper_status n), fun m hm => ?_⟩
    rw [shapeRate_core _ hm, shapeRate_core _ hm]
    by_cases h : R.rtrShaper m = R.rtrShaper n
    · rw [h, wrF, rd_wr_self, fld_putFld_apart _ _ (.inl (by decide))]
    · rw [rd_wrF_ne _ _ _ _ h]
  unfold tokensTo
  exact (hput _).trans (.of_regs ⟨_, _, rfl⟩)

/-- A shaper at `r` rises by a step, to 64 at most. -/
def raisedRate (step r : Nat) : Nat := min (r + step) 64

/-- A core's shaper that is below 64 rises. -/
def riseCore (step : Nat) (s : State) (n : Nat) : State :=
  if shapeRate s n < 64 then setShapeRate s n (raisedRate step (shapeRate s n)) else s

theorem riseCore_parts (step : Nat) (s : State) {n : Nat} (hn : n < 1024) : TickWork s (riseCore step s n)
    ∧ shapeRate (riseCore step s n) n = (if shapeRate s n < 64 then raisedRate step (shapeRate s n) else shapeRate s n)
    ∧ ∀ m, m < 1024 → m ≠ n → shapeRate (riseCore step s n) m = shapeRate s m := by
  unfold riseCore
  split
  · have hset (r : Nat) : setShapeRate s n r = wr s (R.rtrShaper n) (putFld (rd s (R.rtrShaper n)) 0 7 r) := if_pos hn
    rw [hset]
    refine ⟨.wr s _ (rtrShaper_status n), ?_, fun m hm hne => ?_⟩
    · rw [shapeRate_core _ hn, rd_wr_self, fld_putFld_self _ _ (by decide), Nat.mod_eq_of_lt (by unfold raisedRate; omega)]
    · rw [shapeRate_core _ hm, shapeRate_core _ hm, rd_wr_ne (by unfold R.rtrShaper; omega)]
  · exact ⟨.refl s, rfl, fun _ _ _ => rfl⟩

theorem riseCores (step : Nat) (s : State) : ∀ k, k ≤ 1024 → TickWork s ((List.range k).foldl (riseCore step) s)
    ∧ (∀ n, n < k → shapeRate ((List.range k).foldl (riseCore step) s) n =
        if shapeRate s n < 64 then raisedRate step (shapeRate s n) else shapeRate s n)
    ∧ ∀ n, n < 1024 → k ≤ n → shapeRate ((List.range k).foldl (riseCore step) s) n = shapeRate s n
  | 0, _ => ⟨.refl s, fun _ h => absurd h (Nat.not_lt_zero _), fun _ _ _ => rfl⟩
  | k + 1, hk => by
    obtain ⟨hw, hdone, hrest⟩ := riseCores step s k (by omega)
    rw [List.range_succ, List.foldl_append, List.foldl_cons, List.foldl_nil]
    generalize (List.range k).foldl (riseCore step) s = t at hw hdone hrest
    obtain ⟨hw', hself, hother⟩ := riseCore_parts step t (show k < 1024 by omega)
    refine ⟨hw.trans hw', fun n hn => ?_, fun n hn hkn => ?_⟩
    · by_cases he : n = k
      · subst he
        rw [hself, hrest n (by omega) (Nat.le_refl n)]
      · rw [hother n (by omega) he, hdone n (by omega)]
    · rw [hother n hn (by omega), hrest n hn (by omega)]

theorem setShapeRate_hub (s : State) {src : Nat} (r : Nat) (h : 1024 ≤ src) : RatesKept s (setShapeRate s src r) := by
  have hmp : src < 0x500 → noRate (R.mpShaper (src - 0x400)) := by
    intro h5
    unfold noRate R.mpShaper R.brthStatus R.rtrShaper
    exact ⟨fun j hj => by omega, fun n => by omega⟩
  have hpeer : src < 0x62C → noRate (R.peerShaper (src - 0x628)) := by
    intro h6
    unfold noRate R.peerShaper R.brthStatus R.rtrShaper
    exact ⟨fun j hj => by omega, fun n => by omega⟩
  unfold setShapeRate
  rw [if_neg (by omega)]
  extract_lets h0 t
  have ht : RatesKept s t := .of_regs ⟨_, _, rfl⟩
  split
  · rename_i h5
    exact ht.trans (.wr _ _ (hmp h5))
  split
  · rename_i h6
    exact ht.trans (.wr _ _ (hpeer (by simpa using And.right (by simpa using h6))))
  · exact ht

theorem shapeTick_parts (s : State) (at_ : List (Nat × Nat)) : TickWork s (shapeTick s at_)
    ∧ ∀ n, n < 1024 → shapeRate (shapeTick s at_) n =
      if shapeRate s n < 64 then min (shapeRate s n + rdF s R.meshShape 0 8) 64 else shapeRate s n := by
  have hat (s : State) (e : Nat × Nat) :
      RatesKept s (if e.1 < 1024 then tokensTo (shapeTo s e.1 e.2) e.1 e.2 else shapeTo s e.1 e.2) :=
    .ite ((shapeTo_rates ..).trans (tokensTo_rates ..)) (shapeTo_rates ..)
  have hhub (step : Nat) (s : State) (e : Nat × Shaper) : RatesKept s
      (if e.1 ≥ 1024 && e.2.slow > 0 then setShapeRate s e.1 (min (shapeRate s e.1 + step) 64) else s) := by
    split
    · rename_i h
      exact setShapeRate_hub _ _ (by simpa using And.left (by simpa using h))
    · exact .refl s
  unfold shapeTick
  extract_lets step up t u
  have ht : RatesKept s t := .foldl hat ..
  obtain ⟨hw, hdone, -⟩ := riseCores step t 1024 (Nat.le_refl _)
  have hu : u = (List.range 1024).foldl (riseCore step) t := rfl
  rw [← hu] at hw hdone
  have hv := RatesKept.foldl (hhub step) u.mesh.shapers u
  refine ⟨(ht.toTickWork.trans hw).trans hv.toTickWork, fun n hn => (hv.rate n hn).trans ?_⟩
  rw [hdone n hn, ht.rate n hn]
  rfl

/-! ### The sweeps of a tick (R222) -/

theorem drain_noRate (n : Nat) : noRate (R.rtrDrain n) := by
  unfold noRate R.rtrDrain R.brthStatus R.rtrShaper
  exact ⟨fun j hj => by omega, fun n => by omega⟩

theorem hubDrain_noRate : noRate R.hubDrain := by
  unfold noRate R.hubDrain R.brthStatus R.rtrShaper
  exact ⟨fun j hj => by omega, fun n => by omega⟩

theorem noteAllDrain_rates (s : State) : RatesKept s (noteAllDrain s) := by
  have hhub (s : State) : RatesKept s (noteHub s) := .ite (.wr _ _ hubDrain_noRate) (.refl s)
  unfold noteAllDrain
  exact .ite ((RatesKept.foldl (fun s n => .wr s _ (drain_noRate n)) _ s).trans (hhub _)) (.refl s)

theorem clearDrainBits_rates (s : State) : RatesKept s (clearDrainBits s) := by
  have hrd (o : Nat) (h : o ≠ R.hubDrain) (hm : o < 0x100000 ∨ o % 0x200 ≠ 0x18) : rd (clearDrainBits s) o = rd s o := by
    unfold rd clearDrainBits
    rw [Sparse.get_clear, if_neg]
    simp only [Bool.or_eq_true, decide_eq_true_eq, Bool.and_eq_true]
    omega
  have hb (j : Nat) (hj : j < 64) : rd (clearDrainBits s) (R.brthStatus j) = rd s (R.brthStatus j) :=
    hrd _ (by unfold R.brthStatus R.hubDrain; omega) (by unfold R.brthStatus; omega)
  have hn (n : Nat) : rd (clearDrainBits s) (R.rtrShaper n) = rd s (R.rtrShaper n) :=
    hrd _ (by unfold R.rtrShaper R.hubDrain; omega) (by unfold R.rtrShaper; omega)
  refine ⟨⟨⟨_, _, _, rfl⟩, fun j hj => congrArg (fld · 0 3) (hb j hj)⟩, fun n h => ?_⟩
  rw [shapeRate_core _ h, shapeRate_core _ h, hn]

theorem addSweeps_rates (s : State) (k : Nat) : RatesKept s (addSweeps s k) := .wr _ _ (by
  unfold noRate R.meshDrainStatus R.brthStatus R.rtrShaper
  exact ⟨fun j hj => by omega, fun n => by omega⟩)

theorem sweepTick_rates (s : State) : RatesKept s (sweepTick s) := by
  unfold sweepTick
  split
  · extract_lets b v k t
    have hv : RatesKept s v.2 := .of_regs ⟨_, _, rfl⟩
    have ht : RatesKept v.2 t := ((addSweeps_rates ..).trans (clearDrainBits_rates _)).trans (noteAllDrain_rates _)
    exact .ite (.refl s) (.ite hv (hv.trans (ht.trans (.of_regs ⟨_, _, rfl⟩))))
  · exact .refl s

/-! ### The waits of a tick (R263) -/

/-- `t` differs from `s` in core registers alone. -/
def CoreRegsOnly (s t : State) : Prop := ∃ r, t = { s with coreRegs := r }

theorem CoreRegsOnly.refl (s : State) : CoreRegsOnly s s := ⟨_, rfl⟩

theorem CoreRegsOnly.trans {s t u : State} (h : CoreRegsOnly s t) (k : CoreRegsOnly t u) : CoreRegsOnly s u := by
  obtain ⟨_, rfl⟩ := h
  obtain ⟨r, rfl⟩ := k
  exact ⟨r, rfl⟩

/-- A tick of the waits of core `n`: what it leaves of the core registers. -/
structure WaitTicked (s t : State) (n : Nat) : Prop where
  only : CoreRegsOnly s t
  others : ∀ m r, m ≠ n → r < 0x8000 → cr t m r = cr s m r
  config : cr t n R.coreConfig = cr s n R.coreConfig

namespace WaitTicked

theorem refl (s : State) (n : Nat) : WaitTicked s s n := ⟨.refl s, fun _ _ _ _ => rfl, rfl⟩

theorem trans {s t u : State} {n : Nat} (h : WaitTicked s t n) (k : WaitTicked t u n) : WaitTicked s u n :=
  ⟨h.only.trans k.only, fun m r hm hr => (k.others m r hm hr).trans (h.others m r hm hr), k.config.trans h.config⟩

theorem ite {s t u : State} {n : Nat} {c : Prop} [Decidable c] (h : WaitTicked s t n) (k : WaitTicked s u n) :
    WaitTicked s (if c then t else u) n := by
  split
  · exact h
  · exact k

theorem cw (s : State) (n : Nat) {r : Nat} (v : W64) (hr : r < 0x8000) (hc : R.coreConfig ≠ r) : WaitTicked s (cw s n r v) n :=
  ⟨⟨_, rfl⟩, fun _ _ hm hr' => cr_cw_ne s v hr hr' (.inl hm), cr_cw_ne s v hr (by decide) (.inr hc)⟩

end WaitTicked

theorem waitState_place {e : Nat} (h : e < 6) : R.waitState e < 0x8000
    ∧ R.coreConfig ≠ R.waitState e ∧ R.waitState e ≠ R.lendParkedUs := by
  unfold R.waitState R.coreConfig R.lendParkedUs; omega

/-- A tick of the wait of one engine leaves the waits of the others. -/
theorem waitTick_parts (n : Nat) (s : State) {e : Nat} (he : e < 6) : WaitTicked s (waitTick n s e) n
    ∧ ∀ e', e' < 6 → e' ≠ e → cr (waitTick n s e) n (R.waitState e') = cr s n (R.waitState e') := by
  obtain ⟨hw, hc, -⟩ := waitState_place he
  have hpark (s : State) : WaitTicked s (if crB s n (R.waitState e) 6 then cbump s n R.lendParkedUs 1 else s) n :=
    .ite (.cw s n _ (by decide) (by decide)) (.refl s n)
  have hpark' (s : State) (e' : Nat) (h : e' < 6) : cr (if crB s n (R.waitState e) 6 then cbump s n R.lendParkedUs 1 else s) n
      (R.waitState e') = cr s n (R.waitState e') := by
    obtain ⟨hw', -, hl⟩ := waitState_place h
    split
    · exact cr_cbump_ne _ _ (by decide) hw' hl
    · rfl
  have hkey (e' : Nat) (h : e' ≠ e) : R.waitState e' ≠ R.waitState e := by unfold R.waitState; omega
  unfold waitTick
  extract_lets w t
  split
  · exact ⟨.refl s n, fun _ _ _ => rfl⟩
  split
  · refine ⟨(hpark s).trans (.cw _ _ _ hw hc), fun e' he' hne => ?_⟩
    rw [← hpark' s e' he']
    exact cr_cw_ne _ _ hw (waitState_place he').1 (.inr (hkey e' hne))
  · exact ⟨hpark s, fun e' he' _ => hpark' s e' he'⟩

/-- A limited wait that no suspend and no halt freezes is a microsecond shorter after a tick. -/
theorem waitTick_shortens {n : Nat} {s : State} {e : Nat} (he : e < 6) (hw : waiting s n e = true)
    (h0 : crF s n (R.waitState e) 40 24 > 0) (hfrom : Sparse.get (fun _ => 0) (core s n).waitFrom e % 2 = 1) (hf : frozen s n = false) :
    crF (waitTick n s e) n (R.waitState e) 40 24 + 1 = crF s n (R.waitState e) 40 24 := by
  have hpark (t : State) (ht : t = if crB s n (R.waitState e) 6 then cbump s n R.lendParkedUs 1 else s) :
      t.cores = s.cores ∧ (∀ j, brthState t j = brthState s j) ∧ cr t n (R.waitState e) = cr s n (R.waitState e)
        ∧ cr t n R.coreConfig = cr s n R.coreConfig := by
    obtain ⟨hr, -, hl⟩ := waitState_place he
    have hcw (r : Nat) (v : W64) : (cw s n r v).cores = s.cores ∧ ∀ j, brthState (cw s n r v) j = brthState s j :=
      ⟨rfl, fun _ => rfl⟩
    by_cases hb : crB s n (R.waitState e) 6 = true
    · rw [ht, if_pos hb]
      exact ⟨(hcw ..).1, (hcw ..).2, cr_cbump_ne _ _ (by decide) hr hl, cr_cbump_ne _ _ (by decide) (by decide) (by decide)⟩
    · rw [ht, if_neg hb]
      exact ⟨rfl, fun _ => rfl, rfl, rfl⟩
  unfold waitTick
  extract_lets w t
  obtain ⟨hcores, hbrth, hcr, hcfg⟩ := hpark t rfl
  have hc : core t n = core s n := core_of_cores hcores n
  have hfld : crF t n w 40 24 = crF s n w 40 24 := congrArg (fld · 40 24) hcr
  have hfz : frozen t n = false := by
    rw [← hf, frozen, frozen, hc, assigned, crB, hcfg, coreBreath, crF, hcfg, hbrth]
    rfl
  rw [if_neg (by simp [hw]), if_pos ⟨by rw [hc]; exact hfrom, by rw [hfld]; exact h0, by simp [hfz]⟩]
  have hlt : crF s n w 40 24 < 2 ^ 24 := fld_lt ..
  rw [crF, cwF, cr_cw_self, fld_putFld_self _ _ (by decide), hfld, Nat.mod_eq_of_lt (by omega)]
  exact Nat.sub_add_cancel h0

end Sys2Proof.Machine
end

section
/-! The waits of a tick over the cores, and the deadlock detector's and the tick's rows (O40). -/
namespace Sys2Proof.Machine

/-! ### The waits over engines and cores -/

/-- The wait of engine `e` of core `n` and the core's configuration are the same, and all but core registers. -/
structure WaitKept (s t : State) (n e : Nat) : Prop where
  only : CoreRegsOnly s t
  wait : cr t n (R.waitState e) = cr s n (R.waitState e)
  config : cr t n R.coreConfig = cr s n R.coreConfig

namespace WaitKept
variable {s t u : State} {n e : Nat}

theorem refl (s : State) (n e : Nat) : WaitKept s s n e := ⟨.refl s, rfl, rfl⟩

theorem trans (h : WaitKept s t n e) (k : WaitKept t u n e) : WaitKept s u n e :=
  ⟨h.only.trans k.only, k.wait.trans h.wait, k.config.trans h.config⟩

theorem foldl {α : Type} {f : State → α → State} : ∀ (l : List α) (s : State), (∀ s, ∀ x ∈ l, WaitKept s (f s x) n e) →
    WaitKept s (l.foldl f s) n e
  | [], s, _ => .refl s n e
  | x :: r, s, h => (h s x List.mem_cons_self).trans (foldl r _ fun s y hy => h s y (List.mem_cons_of_mem _ hy))

theorem cores (h : WaitKept s t n e) : t.cores = s.cores := by obtain ⟨_, rfl⟩ := h.only; rfl

theorem frozen (h : WaitKept s t n e) : frozen t n = Machine.frozen s n := by
  have hb (j : Nat) : brthState t j = brthState s j := by obtain ⟨_, rfl⟩ := h.only; rfl
  rw [Machine.frozen, Machine.frozen, core_of_cores h.cores, assigned, crB, h.config, coreBreath, crF, h.config, hb]
  rfl

end WaitKept

theorem waitTick_other (s : State) {n e e' : Nat} (he : e < 6) (he' : e' < 6) (h : e ≠ e') : WaitKept s (waitTick n s e') n e := by
  obtain ⟨hw, hkeep⟩ := waitTick_parts n s he'
  exact ⟨hw.only, hkeep e he h, hw.config⟩

theorem waitTick_otherCore (s : State) {n m e e' : Nat} (he : e < 6) (he' : e' < 6) (h : n ≠ m) : WaitKept s (waitTick m s e') n e := by
  obtain ⟨hw, -⟩ := waitTick_parts m s he'
  exact ⟨hw.only, hw.others n _ h (waitState_place he).1, hw.others n _ h (by decide)⟩

/-- The waits of one entry of the cores, over a microsecond. -/
def coreTick (s : State) (c : Nat × Core) : State :=
  if c.2.waitFrom.isEmpty then s else (List.range 6).foldl (waitTick c.1) s

theorem coreTick_otherCore (s : State) (c : Nat × Core) {n e : Nat} (he : e < 6) (h : n ≠ c.1) : WaitKept s (coreTick s c) n e := by
  unfold coreTick
  split
  · exact .refl s n e
  · exact .foldl _ _ fun s e' he' => waitTick_otherCore s he (List.mem_range.1 he') h

/-- Over the entries of the cores only core registers move. -/
theorem coreTicks_only : ∀ (l : List (Nat × Core)) (s : State), CoreRegsOnly s (l.foldl coreTick s)
  | [], s => .refl s
  | c :: r, s => by
    have hother : c.1 + 1 ≠ c.1 := Nat.succ_ne_self _
    exact (coreTick_otherCore s c (e := 0) (by decide) hother).only.trans (coreTicks_only r _)

/-- What a map does not give by default stands in it. -/
theorem Sparse.mem_of_get_ne {α : Type} {d : Nat → α} {k : Nat} :
    ∀ {m : Sparse α}, Sparse.get d m k ≠ d k → (k, Sparse.get d m k) ∈ m
  | [], h => absurd rfl h
  | (a, v) :: r, h => by
    rw [Sparse.get] at h ⊢
    split
    · rename_i hk
      subst hk
      exact List.mem_cons_self
    · rename_i hk
      rw [if_neg hk] at h
      exact List.mem_cons_of_mem _ (mem_of_get_ne h)

section
variable {s : State} {n e : Nat} (he : e < 6) (hw : waiting s n e = true) (h0 : crF s n (R.waitState e) 40 24 > 0)
  (hfrom : Sparse.get (fun _ => 0) (core s n).waitFrom e % 2 = 1) (hf : frozen s n = false)
include he hw h0 hfrom hf

/-- What has ticked before leaves the wait as it stood. -/
theorem waitTick_shortens_later {t : State} (hk : WaitKept s t n e) :
    crF (waitTick n t e) n (R.waitState e) 40 24 + 1 = crF s n (R.waitState e) 40 24 := by
  have hcr : crF t n (R.waitState e) 40 24 = crF s n (R.waitState e) 40 24 := congrArg (fld · 40 24) hk.wait
  have hwt : waiting t n e = true := (congrArg (bitAt · 5) hk.wait).trans hw
  rw [waitTick_shortens he hwt (by rwa [hcr]) (by rwa [core_of_cores hk.cores]) (by rwa [hk.frozen]), hcr]

theorem coreTick_shortens {t : State} (hk : WaitKept s t n e) :
    crF (coreTick t (n, core s n)) n (R.waitState e) 40 24 + 1 = crF s n (R.waitState e) 40 24 := by
  have hne : ¬ (core s n).waitFrom.isEmpty = true := by
    intro h
    rw [List.isEmpty_iff.1 h] at hfrom
    simp [Sparse.get] at hfrom
  obtain ⟨a, b, hab⟩ := List.append_of_mem (List.mem_range.2 he)
  have hnd : (a ++ e :: b).Nodup := hab ▸ List.nodup_range
  have hlt : ∀ x ∈ a ++ e :: b, x < 6 := fun x hx => List.mem_range.1 (hab ▸ hx)
  have hnot : e ∉ a ++ b := (List.nodup_middle.1 hnd).notMem
  have hpre : WaitKept t (a.foldl (waitTick n) t) n e := .foldl _ _ fun s x hx =>
    waitTick_other s he (hlt x (List.mem_append_left _ hx)) (by rintro rfl; exact hnot (List.mem_append_left _ hx))
  have hpost (u : State) : WaitKept u (b.foldl (waitTick n) u) n e := .foldl _ _ fun s x hx =>
    waitTick_other s he (hlt x (List.mem_append_right _ (List.mem_cons_of_mem _ hx)))
      (by rintro rfl; exact hnot (List.mem_append_right _ hx))
  rw [coreTick, if_neg hne, hab, List.foldl_append, List.foldl_cons]
  rw [← waitTick_shortens_later he hw h0 hfrom hf (hk.trans hpre)]
  exact congrArg (fld · 40 24 + 1) (hpost _).wait

theorem coreTicks_shorten (hnd : (s.cores.map (·.1)).Nodup) :
    crF (s.cores.foldl coreTick s) n (R.waitState e) 40 24 + 1 = crF s n (R.waitState e) 40 24 := by
  have hmem : (n, core s n) ∈ s.cores := Sparse.mem_of_get_ne fun h => by
    rw [core, h] at hfrom
    simp [Sparse.get] at hfrom
  obtain ⟨a, b, hab⟩ := List.append_of_mem hmem
  rw [hab, List.map_append, List.map_cons] at hnd
  have hnot : n ∉ a.map (·.1) ++ b.map (·.1) := (List.nodup_middle.1 hnd).notMem
  have hpre : WaitKept s (a.foldl coreTick s) n e := .foldl _ _ fun s c hc => coreTick_otherCore s c he
    (by rintro rfl; exact hnot (List.mem_append_left _ (List.mem_map.2 ⟨c, hc, rfl⟩)))
  have hpost (u : State) : WaitKept u (b.foldl coreTick u) n e := .foldl _ _ fun s c hc => coreTick_otherCore s c he
    (by rintro rfl; exact hnot (List.mem_append_right _ (List.mem_map.2 ⟨c, hc, rfl⟩)))
  rw [hab, List.foldl_append, List.foldl_cons, ← coreTick_shortens he hw h0 hfrom hf hpre]
  exact congrArg (fld · 40 24 + 1) (hpost _).wait

end

/-! ### The tick's row (R205, R263, R293) -/

/-- The chip has noted the tick. -/
def tickNoted (s : State) : State := { s with chip := { s.chip with lastTick := nowNs s / 1000 } }

theorem tickNoted_regs (s : State) : (tickNoted s).regs = s.regs := rfl

/-- The state as the cores' waits of the tick find it. -/
def waitsFound (s : State) (at_ : List (Nat × Nat)) : State := sweepTick (shapeTick (tickNoted s) at_)

theorem microTick_eq (s : State) (at_ : List (Nat × Nat)) :
    microTick s at_ = (waitsFound s at_).cores.foldl coreTick (waitsFound s at_) := rfl

/-- The waits find the chip, the memory and the cores as they were, and the cores' shapers risen. -/
structure Found (s t : State) : Prop where
  tick : t.chip.lastTick = nowNs s / 1000
  mem : t.mem = s.mem
  cores : t.cores = s.cores
  coreRegs : t.coreRegs = s.coreRegs
  state : ∀ j, j < 64 → brthState t j = brthState s j
  rate : ∀ n, n < 1024 → shapeRate t n =
    if shapeRate s n < 64 then min (shapeRate s n + rdF s R.meshShape 0 8) 64 else shapeRate s n

theorem waitsFound_found (s : State) (at_ : List (Nat × Nat)) : Found s (waitsFound s at_) := by
  obtain ⟨hw, hrate⟩ := shapeTick_parts (tickNoted s) at_
  have hs := sweepTick_rates (shapeTick (tickNoted s) at_)
  have hfound : TickWork (tickNoted s) (waitsFound s at_) := hw.trans hs.toTickWork
  have hrd (o : Nat) : rd (tickNoted s) o = rd s o := rd_of_regs (tickNoted_regs s) o
  obtain ⟨r, m, f, he⟩ := hfound.only
  refine ⟨by rw [he, tickNoted], by rw [he, tickNoted], by rw [he, tickNoted], by rw [he, tickNoted], fun j hj => ?_, fun n hn => ?_⟩
  · rw [hfound.state j hj, brthState, rdF, hrd, brthState, rdF]
  · rw [waitsFound, hs.rate n hn, hrate n hn, shapeRate_core _ hn, shapeRate_core _ hn, hrd, rdF, hrd, rdF]

theorem Found.frozen {s t : State} (h : Found s t) (n : Nat) : frozen t n = Machine.frozen s n := by
  have hcr : cr t n R.coreConfig = cr s n R.coreConfig := cr_of_coreRegs h.coreRegs ..
  have hb : coreBreath s n < 64 := fld_lt ..
  have hj : coreBreath t n = coreBreath s n := congrArg (fld · 16 6) hcr
  have ha : assigned t n = assigned s n := congrArg (bitAt · 0) hcr
  rw [Machine.frozen, Machine.frozen, core_of_cores h.cores, ha, hj, h.state _ hb]

theorem exec_deviceTimeTick {s : State} (hl : live s = true) (at_ : List (Nat × Nat)) (hd : tickDue s = true) :
    exec (.deviceTimeTick at_) s = .next (after s (microTick s at_)) := by
  have ht : (if tickDue s then microTick s at_ else s) = microTick s at_ := if_pos hd
  have heff : exec (.deviceTimeTick at_) s = .next (after s (if tickDue s then microTick s at_ else s)) :=
    act_after (fun s => if tickDue s then microTick s at_ else s) hl
  rw [heff, ht]

section
variable {s t : State} (hf : Found s t)
include hf

theorem coreTicks_rate {n : Nat} (hn : n < 1024) : shapeRate (after s (t.cores.foldl coreTick t)) n =
    if shapeRate s n < 64 then min (shapeRate s n + rdF s R.meshShape 0 8) 64 else shapeRate s n := by
  obtain ⟨r, ho⟩ := coreTicks_only t.cores t
  rw [← hf.rate n hn, shapeRate_core _ hn, shapeRate_core _ hn, rd_after _ _ (by unfold R.rtrShaper R.msixPba; omega), ho]
  rfl

theorem coreTicks_kept : (after s (t.cores.foldl coreTick t)).chip.lastTick = nowNs s / 1000
    ∧ (after s (t.cores.foldl coreTick t)).mem = s.mem := by
  obtain ⟨r, ho⟩ := coreTicks_only t.cores t
  rw [chip_after, after_mem, ho]
  exact ⟨hf.tick, hf.mem⟩

theorem coreTicks_wait (hnd : (s.cores.map (·.1)).Nodup) {n e : Nat} (he : e < 6) (hw : waiting s n e = true)
    (h0 : crF s n (R.waitState e) 40 24 > 0) (hfrom : Sparse.get (fun _ => 0) (core s n).waitFrom e % 2 = 1) (hfz : frozen s n = false) :
    crF (after s (t.cores.foldl coreTick t)) n (R.waitState e) 40 24 + 1 = crF s n (R.waitState e) 40 24 := by
  have hcr : cr t n (R.waitState e) = cr s n (R.waitState e) := cr_of_coreRegs hf.coreRegs ..
  have hfld : crF t n (R.waitState e) 40 24 = crF s n (R.waitState e) 40 24 := congrArg (fld · 40 24) hcr
  have hwt : waiting t n e = true := (congrArg (bitAt · 5) hcr).trans hw
  rw [← hfld, ← coreTicks_shorten he hwt (by rwa [hfld]) (by rwa [core_of_cores hf.cores]) (by rwa [hf.frozen]) (by rwa [hf.cores]),
    crF, cr_after, crF]

end

theorem deviceTimeTick_row {s : State} (hl : live s = true) (at_ : List (Nat × Nat)) (hd : tickDue s = true)
    (hnd : (s.cores.map (·.1)).Nodup) : ∃ v, exec (.deviceTimeTick at_) s = .next v ∧ v.chip.lastTick = nowNs s / 1000
      ∧ v.mem = s.mem
      ∧ (∀ n, n < 1024 → shapeRate v n = if shapeRate s n < 64 then min (shapeRate s n + rdF s R.meshShape 0 8) 64 else shapeRate s n)
      ∧ (∀ n e, n < 1024 → e < 6 → waiting s n e = true → crF s n (R.waitState e) 40 24 > 0 →
        Sparse.get (fun _ => 0) (core s n).waitFrom e % 2 = 1 → frozen s n = false → (core s n).halted = false →
        crF v n (R.waitState e) 40 24 + 1 = crF s n (R.waitState e) 40 24) := by
  have hf := waitsFound_found s at_
  obtain ⟨htick, hmem⟩ := coreTicks_kept hf
  exact ⟨_, (exec_deviceTimeTick hl at_ hd).trans (by rw [microTick_eq]), htick, hmem, fun n hn => coreTicks_rate hf hn,
    fun n e _ he hw h0 hfrom hfz _ => coreTicks_wait hf hnd he hw h0 hfrom hfz⟩

/-- Settles O40: a sample of the deadlock detector, its fault and the 1 µs tick, by the row of each. -/
theorem deadlockAndTicks : Obligations.DeadlockAndTicks := by
  unfold Obligations.DeadlockAndTicks
  intro s hl
  refine ⟨?_, fun j hrun hw hb => deadlock_row hl hrun hw hb, fun at_ hd hnd => deviceTimeTick_row hl at_ hd hnd⟩
  obtain ⟨v, he, hmesh, hmem, hcr, hregs, hq⟩ := deadlockSample_row hl
  refine ⟨v, he, hmesh, hmem, hcr, hregs, fun j hj hc hh hs => ?_⟩
  rw [hq j hj, quietNext_of_bound hc hh hs]

end Sys2Proof.Machine
end

section
/-! The blowing of rollback fuses (O56, R446). -/
namespace Sys2Proof.Machine

/-! ### Fuses -/

/-- The number of fuses blown. -/
def blown (f : BitVec 64) : Nat := ((List.range 64).filter fun i => f.getLsbD i).length

theorem rollback_eq (s : State) : rollback s = blown s.boot.fuses := rfl

/-- The fuses with fuse `i` blown too. -/
def blowOne (f : BitVec 64) (i : Nat) : BitVec 64 := f ||| BitVec.ofNat 64 (2 ^ i)

theorem getLsbD_blowOne (f : BitVec 64) {i x : Nat} (hx : x < 64) : (blowOne f i).getLsbD x = (f.getLsbD x || decide (i = x)) := by
  rw [blowOne, BitVec.getLsbD_or, BitVec.getLsbD_ofNat, Nat.testBit_two_pow, decide_eq_true hx, Bool.true_and]

theorem blown_blowOne {f : BitVec 64} {i : Nat} (hi : i < 64) (h : f.getLsbD i = false) : blown (blowOne f i) = blown f + 1 := by
  obtain ⟨a, b, hab⟩ := List.append_of_mem (List.mem_range.2 hi)
  have hnd : (a ++ i :: b).Nodup := hab ▸ List.nodup_range
  have hnot : i ∉ a ++ b := (List.nodup_middle.1 hnd).notMem
  have hsame : ∀ x ∈ a ++ b, (blowOne f i).getLsbD x = f.getLsbD x := by
    intro x hx
    have hlt : x < 64 := List.mem_range.1 (hab ▸ by
      rcases List.mem_append.1 hx with h | h
      · exact List.mem_append_left _ h
      · exact List.mem_append_right _ (List.mem_cons_of_mem _ h))
    have hne : i ≠ x := by rintro rfl; exact hnot hx
    rw [getLsbD_blowOne _ hlt, decide_eq_false hne, Bool.or_false]
  have hself : (blowOne f i).getLsbD i = true := by rw [getLsbD_blowOne _ hi]; simp
  have ha : a.filter (fun x => (blowOne f i).getLsbD x) = a.filter fun x => f.getLsbD x :=
    List.filter_congr fun x hx => hsame x (List.mem_append_left _ hx)
  have hb : b.filter (fun x => (blowOne f i).getLsbD x) = b.filter fun x => f.getLsbD x :=
    List.filter_congr fun x hx => hsame x (List.mem_append_right _ hx)
  rw [blown, blown, hab, List.filter_append, List.filter_append, List.filter_cons, List.filter_cons, ha, hb, hself, h]
  simp only [if_true, Bool.false_eq_true, if_false, List.length_append, List.length_cons]
  omega

/-- What the blowing of `n` fuses leaves: the lowest ones that were whole are blown, and no other. -/
structure Blown (f g : BitVec 64) (n : Nat) : Prop where
  count : blown g = blown f + n
  kept : ∀ x, x < 64 → f.getLsbD x = true → g.getLsbD x = true
  lowest : ∀ i k, i < 64 → k < i → g.getLsbD i = true → f.getLsbD i = false → g.getLsbD k = true

theorem blow_blown : ∀ (n : Nat) (f : BitVec 64), blown f + n ≤ 64 → Blown f (blow f n) n
  | 0, f, _ => ⟨rfl, fun _ _ h => h, fun i k _ _ hg hf => by rw [blow, hf] at hg; cases hg⟩
  | n + 1, f, h => by
    rw [blow]
    cases hw : (List.range 64).find? fun i => !f.getLsbD i with
    | none =>
      have hall : ∀ x ∈ List.range 64, f.getLsbD x = true := by simpa using List.find?_eq_none.1 hw
      have hfull : blown f = 64 := by rw [blown, List.filter_eq_self.2 hall, List.length_range]
      omega
    | some i =>
      obtain ⟨hwhole, hi, hbelow⟩ : f.getLsbD i = false ∧ i < 64 ∧ ∀ x, x < i → f.getLsbD x = true := by
        simpa [List.find?_range_eq_some] using hw
      have hone := blown_blowOne hi hwhole
      obtain ⟨hcount, hkept, hlow⟩ := blow_blown n (blowOne f i) (by omega)
      refine ⟨hcount.trans (by omega), fun x hx hf => hkept x hx ?_, fun y k hy hk hg hf => ?_⟩
      · rw [getLsbD_blowOne _ hx, hf, Bool.true_or]
      · by_cases he : i = y
        · refine hkept k (by omega) ?_
          rw [getLsbD_blowOne _ (by omega), hbelow k (by omega), Bool.true_or]
        · exact hlow y k hy hk hg (by rw [getLsbD_blowOne _ hy, hf, decide_eq_false he, Bool.or_false])

/-! ### The row -/

section
variable {s : State} (hl : live s = true)
include hl

theorem exec_rollbackFuseBlow (u : State) (hu : u = if rollback s < s.boot.svn then blowFuses s else s) :
    exec .rollbackFuseBlow s = .next (settle s (keepQueue s (keepTime s (keepPins s u true)))) := by
  subst hu
  have h : exec .rollbackFuseBlow s = actStore s fun s => if rollback s < s.boot.svn then blowFuses s else s := rfl
  rw [h, actStore, if_pos hl]

/-- A counter that is not lower stays. -/
theorem rollbackFuseBlow_stays (h : s.boot.svn ≤ rollback s) : exec .rollbackFuseBlow s = .next s := by
  rw [exec_rollbackFuseBlow hl s (by rw [if_neg (by omega)])]
  exact congrArg Host.Outcome.next (settle_self s)

omit hl in
/-- The fuses blown, before Chanter's journal entry. -/
def fusesBlown (s : State) : State :=
  (freshValue { s with boot := { s.boot with fuses := blow s.boot.fuses (s.boot.svn - rollback s) } }).2

omit hl in
theorem blowFuses_journals (s : State) : ∃ code ch, blowFuses s = journal (fusesBlown s) 0xFF03 3 0 0 code ch := ⟨_, _, rfl⟩

omit hl in
/-- What is read of the state once the fuses' effect `u` has settled. -/
theorem fuse_settled (s u : State) (t : State) (ht : t = settle s (keepQueue s (keepTime s (keepPins s u true)))) :
    t.boot = u.boot ∧ t.mbox = u.mbox ∧ t.flash = u.flash ∧ t.coreRegs = u.coreRegs ∧ t.mem = u.mem := by
  subst ht
  rw [settle_boot, settle_mbox, settle_flash, settle_coreRegs, settle_mem]
  exact ⟨rfl, rfl, rfl, rfl, rfl⟩

theorem rollbackFuseBlow_blows (h : rollback s < s.boot.svn) (h64 : s.boot.svn ≤ 64) : ∃ t, exec .rollbackFuseBlow s = .next t
    ∧ rollback t = s.boot.svn
    ∧ (∀ i k, i < 64 → k < i → t.boot.fuses.getLsbD i = true → s.boot.fuses.getLsbD i = false → t.boot.fuses.getLsbD k = true)
    ∧ t.boot.svn = s.boot.svn ∧ noted s t true ∧ bytesKept s t 0 0 ∧ t.flash = s.flash ∧ t.coreRegs = s.coreRegs := by
  have hb := blow_blown (s.boot.svn - rollback s) s.boot.fuses (by rw [← rollback_eq]; omega)
  obtain ⟨code, ch, hj⟩ := blowFuses_journals s
  have hcount : blown (blow s.boot.fuses (s.boot.svn - rollback s)) = s.boot.svn := by rw [hb.count, ← rollback_eq]; omega
  obtain ⟨hboot, hmbox, hflash, hcr, hmem⟩ := fuse_settled s (blowFuses s) _ rfl
  have heff := exec_rollbackFuseBlow hl (blowFuses s) (by rw [if_pos h])
  generalize settle s (keepQueue s (keepTime s (keepPins s (blowFuses s) true))) = t at heff hboot hmbox hflash hcr hmem
  rw [hj] at hboot hmbox hflash hcr hmem
  rw [journal_boot] at hboot
  rw [journal_flash] at hflash
  rw [journal_coreRegs] at hcr
  refine ⟨t, heff, ?_, ?_, ?_, ?_, ?_, hflash, hcr⟩
  · rw [rollback_eq, hboot]
    exact hcount
  · rw [hboot]
    exact hb.lowest
  · rw [hboot]
    rfl
  · rw [noted, hmbox, journal_seq, if_pos rfl]
    rfl
  · intro x _ hx
    have hld : ldB t x = ldB (journal (fusesBlown s) 0xFF03 3 0 0 code ch) x := by rw [ldB, hmem, ldB]
    exact hld.trans (ldB_journal (fusesBlown s) _ _ _ _ _ _ _ hx)

end

end Sys2Proof.Machine
end

section
/-! The boot after a reset (O56, R220, R360, R436, R437, R444, R445). -/
namespace Sys2Proof.Machine

/-! ### Links that do not come up (R220, R360) -/

/-- What the training of links leaves alone; memory too, where no firmware runs that journals. -/
structure Training (s t : State) : Prop where
  chip : t.chip = s.chip
  boot : t.boot = s.boot
  tags : t.tags = s.tags
  time : t.time = s.time
  rd : ∀ o, ¬ linkArea o → rd t o = rd s o
  mem : s.chip.phase ≠ .running → t.mem = s.mem

namespace Training

theorem refl (s : State) : Training s s := ⟨rfl, rfl, rfl, rfl, fun _ _ => rfl, fun _ => rfl⟩

theorem trans {s t u : State} (h : Training s t) (k : Training t u) : Training s u :=
  ⟨k.chip.trans h.chip, k.boot.trans h.boot, k.tags.trans h.tags, k.time.trans h.time, fun o ho => (k.rd o ho).trans (h.rd o ho),
    fun hp => (k.mem (by rwa [h.chip])).trans (h.mem hp)⟩

end Training

theorem LinkWork.training {s t : State} (h : LinkWork s t) : Training s t := ⟨h.chip, h.boot, h.tags, h.time, h.rd, fun _ => h.mem⟩

/-- A link of `down`, as the training leaves it. -/
def trainFails (s : State) (l : LinkId) : State :=
  if stateOf s l = 3 then s else if s.chip.phase = .running then goesDown s l else fall s l

theorem trainFails_parts (s : State) (l : LinkId) : Training s (trainFails s l) ∧ stateOf (trainFails s l) l = 3
    ∧ ∀ l', stateOf s l' = 3 → stateOf (trainFails s l) l' = 3 := by
  have hf := fall_fallen s l
  have hrd (o : Nat) : rd (goesDown s l) o = rd (fall s l) o := rd_of_regs (goesDown_regs s l) o
  have hst (l' : LinkId) : stateOf (goesDown s l) l' = stateOf (fall s l) l' := stateOf_of_rd (fun o _ => hrd o) l'
  unfold trainFails
  split
  · rename_i h
    exact ⟨.refl s, h, fun _ h => h⟩
  split
  · rename_i hp
    refine ⟨⟨?_, ?_, ?_, ?_, fun o ho => (hrd o).trans (hf.work.rd o ho), fun h => absurd hp h⟩, goesDown_down s l,
      fun l' h => (hst l').trans (hf.stays h)⟩
    · exact (journal_chip ..).trans hf.work.chip
    · exact (journal_boot ..).trans hf.work.boot
    · exact (journal_tags ..).trans hf.work.tags
    · exact (journal_time ..).trans hf.work.time
  · exact ⟨hf.work.training, hf.down, fun _ h => hf.stays h⟩

theorem trainFails_all : ∀ (down : List LinkId) (s : State), Training s (down.foldl trainFails s)
    ∧ (∀ l', stateOf s l' = 3 → stateOf (down.foldl trainFails s) l' = 3) ∧ ∀ l ∈ down, stateOf (down.foldl trainFails s) l = 3
  | [], s => ⟨.refl s, fun _ h => h, fun _ h => absurd h List.not_mem_nil⟩
  | l :: r, s => by
    obtain ⟨ht, hl, hstay⟩ := trainFails_parts s l
    obtain ⟨ht', hstay', hr⟩ := trainFails_all r (trainFails s l)
    refine ⟨ht.trans ht', fun l' h => hstay' l' (hstay l' h), fun x hx => ?_⟩
    rcases List.mem_cons.1 hx with rfl | hx
    · exact hstay' _ hl
    · exact hr x hx

/-- The peer ports have trained, before those that fail fall. -/
def portsTrained (s : State) : State := (List.range 4).foldl (fun s p => setB s (R.peerStatus p) 2) s

theorem portsTrained_linkWork (s : State) : LinkWork s (portsTrained s) := by
  have hset (l : List Nat) (s : State) (hl : ∀ p ∈ l, p < 4) : LinkWork s (l.foldl (fun s p => setB s (R.peerStatus p) 2) s) := by
    induction l generalizing s with
    | nil => exact .refl s
    | cons p l ih =>
      have hp := hl p List.mem_cons_self
      have hset : LinkWork s (setB s (R.peerStatus p) 2) := wr_linkWork _ _ (by unfold linkArea R.peerStatus; omega)
      exact hset.trans (ih _ fun q hq => hl q (List.mem_cons_of_mem _ hq))
  exact hset _ s fun p hp => List.mem_range.1 hp

theorem trainAll_eq (s : State) (down : List LinkId) : trainAll s down = (down.filter linkExists).foldl trainFails (portsTrained s) := rfl

theorem trainAll_parts (s : State) (down : List LinkId) : Training s (trainAll s down)
    ∧ (down = [] → (trainAll s down).mem = s.mem) ∧ ∀ l ∈ down, linkExists l = true → stateOf (trainAll s down) l = 3 := by
  obtain ⟨ht, -, hdown⟩ := trainFails_all (down.filter linkExists) (portsTrained s)
  have hp := portsTrained_linkWork s
  rw [trainAll_eq]
  refine ⟨hp.training.trans ht, ?_, fun l hl he => hdown l (List.mem_filter.2 ⟨hl, he⟩)⟩
  rintro rfl
  exact hp.mem

/-! ### Boot (R436, R444, R445) -/

theorem mbStatus_inj {m n : Nat} (h : R.mbStatus m = R.mbStatus n) : m = n := by unfold R.mbStatus at h; omega

/-- The mailboxes served are those of the list. -/
theorem serveBoxes_parts : ∀ (l : List Nat) (s : State), (∃ r, serveBoxes s l = { s with regs := r })
    ∧ (∀ m, m ∈ l ∨ rdB s (R.mbStatus m) 0 = true → rdB (serveBoxes s l) (R.mbStatus m) 0 = true)
    ∧ ∀ m, m ∉ l → rd (serveBoxes s l) (R.mbStatus m) = rd s (R.mbStatus m)
  | [], s => ⟨⟨_, rfl⟩, fun m h => h.resolve_left List.not_mem_nil, fun _ _ => rfl⟩
  | n :: l, s => by
    obtain ⟨⟨r, hr⟩, hon, hoff⟩ := serveBoxes_parts l (setB s (R.mbStatus n) 0)
    have he : serveBoxes s (n :: l) = serveBoxes (setB s (R.mbStatus n) 0) l := rfl
    have hset (m : Nat) (h : m = n ∨ rdB s (R.mbStatus m) 0 = true) : rdB (setB s (R.mbStatus n) 0) (R.mbStatus m) 0 = true := by
      by_cases hm : m = n
      · subst hm
        rw [rdB_setB_self]
        simp
      · rw [rdB, rd_setB_ne _ _ fun h => hm (mbStatus_inj h)]
        exact h.resolve_left hm
    rw [he]
    refine ⟨⟨r, hr⟩, fun m hm => ?_, fun m hm => ?_⟩
    · rcases hm with hm | hm
      · rcases List.mem_cons.1 hm with rfl | hm
        · exact hon _ (.inr (hset _ (.inl rfl)))
        · exact hon m (.inl hm)
      · exact hon m (.inr (hset m (.inr hm)))
    · rw [List.mem_cons, not_or] at hm
      rw [hoff m hm.2, rd_setB_ne _ _ fun h => hm.1 (mbStatus_inj h)]

/-- The state once DDR5 and the tree have been found, before the mailboxes are served. -/
theorem discovered_frame (s : State) : ∃ r m, discoverTree (configureDdr s) = { s with regs := r, mbox := m } := by
  have hwr (s : State) (a b c : Nat) (x y z : W64) : ∃ r, wr (wr (wr s a x) b y) c z = { s with regs := r } := ⟨_, rfl⟩
  have hbox (s : State) (a b : Nat) (x y : W64) (m : Mbox) :
      ∃ r m', { wr (wr s a x) b y with mbox := m } = { s with regs := r, mbox := m' } :=
    ⟨_, _, rfl⟩
  have hd : ∃ r, configureDdr s = { s with regs := r } := hwr ..
  have ht (s : State) : ∃ r m, discoverTree s = { s with regs := r, mbox := m } := hbox ..
  obtain ⟨r, hr⟩ := hd
  rw [hr]
  exact ht _

/-- What a boot from slot `k` leaves. -/
structure Booted (s t : State) (k : Nat) (fallback : Bool) : Prop where
  phase : t.chip.phase = .running
  perst : t.chip.perst = s.chip.perst
  boot : t.boot = { s.boot with
    slot := k, fallback := fallback, version := fwVersion s k, svn := fwSvn s k, meas := fwMeasure s k, expect := none }
  served : ∀ m, m < 8 → rdB t (R.mbStatus m) 0 = true
  mem : t.mem = s.mem
  tags : t.tags = s.tags
  time : t.time = s.time

/-- The state as the boot from a slot finds it, before DDR5 and the tree. -/
def slotChosen (s : State) (k : Nat) (fallback : Bool) : State :=
  { s with
    boot := { s.boot with
      slot := k, fallback := fallback, version := fwVersion s k, svn := fwSvn s k, meas := fwMeasure s k, expect := none }
    chip := { s.chip with phase := .running, lastTick := nowNs s / 1000 }
    power := { s.power with patrolFrom := nowNs s } }

theorem bootSlot_booted (s : State) (k : Nat) (fallback : Bool) : Booted s (bootSlot s k fallback) k fallback := by
  have hb : bootSlot s k fallback = serveBoxes (discoverTree (configureDdr (slotChosen s k fallback))) (List.range 8) := rfl
  obtain ⟨r, m, hd⟩ := discovered_frame (slotChosen s k fallback)
  obtain ⟨⟨r', hs⟩, hon, -⟩ := serveBoxes_parts (List.range 8) (discoverTree (configureDdr (slotChosen s k fallback)))
  refine ⟨?_, ?_, ?_, fun m hm => ?_, ?_, ?_, ?_⟩ <;> rw [hb]
  case refine_4 => exact hon m (.inl (List.mem_range.2 hm))
  all_goals rw [hs, hd]; rfl

/-- What a boot into recovery leaves. -/
structure Recovers (s t : State) : Prop where
  phase : t.chip.phase = .recovery
  served : rdB t (R.mbStatus 0) 0 = true ∧ rdB t (R.mbStatus 7) 0 = true
  others : ∀ m, 0 < m → m < 7 → rd t (R.mbStatus m) = rd s (R.mbStatus m)
  mem : t.mem = s.mem
  fuses : t.boot.fuses = s.boot.fuses

theorem recovery_recovers (s : State) : Recovers s (recovery s) := by
  have hr : ∃ u, recovery s = serveBoxes u [0, 7] ∧ u.chip.phase = .recovery ∧ u.regs = s.regs ∧ u.mem = s.mem
      ∧ u.boot.fuses = s.boot.fuses := ⟨_, rfl, rfl, rfl, rfl, rfl⟩
  obtain ⟨u, hu, hp, hregs, hm, hf⟩ := hr
  obtain ⟨⟨r, hs⟩, hon, hoff⟩ := serveBoxes_parts [0, 7] u
  rw [hu]
  refine ⟨by rw [hs]; exact hp, ⟨hon 0 (.inl (by decide)), hon 7 (.inl (by decide))⟩, fun m h0 h7 => ?_, by rw [hs]; exact hm,
    by rw [hs]; exact hf⟩
  rw [hoff m (by simp only [List.mem_cons, List.not_mem_nil, or_false]; omega), rd_of_regs hregs]

end Sys2Proof.Machine
end

section
/-! The rows of the boot (O56). -/
namespace Sys2Proof.Machine

/-! ### The slots -/

theorem namedSlot_lt (s : State) : namedSlot s < 2 := by
  unfold namedSlot
  split
  · exact Nat.mod_lt _ (by decide)
  · decide

theorem bootUp_named {s : State} (h : verifySlot s (namedSlot s) = .good) : bootUp s = bootSlot s (namedSlot s) false := if_pos h

theorem bootUp_other {s : State} (h : verifySlot s (namedSlot s) ≠ .good) (ho : verifySlot s (1 - namedSlot s) = .good) :
    bootUp s = bootSlot s (1 - namedSlot s) true := (if_neg h).trans (if_pos ho)

theorem bootUp_neither {s : State} (h : verifySlot s (namedSlot s) ≠ .good) (ho : verifySlot s (1 - namedSlot s) ≠ .good) :
    bootUp s = recovery s := (if_neg h).trans (if_neg ho)

/-- The slot that verifies boots, and falls back where it is not the one named. -/
theorem bootUp_boots {s : State} {b : Nat} (h : verifySlot s b = .good)
    (hb : b = namedSlot s ∨ (b = 1 - namedSlot s ∧ verifySlot s (namedSlot s) ≠ .good)) :
    bootUp s = bootSlot s b (decide (b ≠ namedSlot s)) := by
  rcases hb with rfl | ⟨rfl, hk⟩
  · rw [bootUp_named h]
    simp
  · have hlt := namedSlot_lt s
    rw [bootUp_other hk h, decide_eq_true (by omega)]

/-! ### The rows -/

/-- The event that ends a reset, and the state as the boot finds it. -/
def Releases (c : Instr) (s v : State) (down : List LinkId) : Prop :=
  (c = .coldResetRelease down ∧ s.chip.phase = .coldHeld ∧ s.power.hot = false ∧ v = s)
    ∨ (c = .perstDeassertion down ∧ s.chip.phase = .warmHeld ∧ s.chip.perst = true
      ∧ v = { s with chip := { s.chip with perst := false } })

/-- A state in which a boot's effect has settled. -/
def bootSettled (s u : State) : State := settle s (keepQueue s u)

section
variable {c : Instr} {s v : State} {down : List LinkId} (hr : Releases c s v down)
include hr

theorem Releases.chip : ∃ ch, v = { s with chip := ch } := by
  rcases hr with ⟨-, -, -, rfl⟩ | ⟨-, -, -, rfl⟩
  · exact ⟨_, rfl⟩
  · exact ⟨_, rfl⟩

theorem Releases.exec (hclk : s.chip.refclk = true) : exec c s = .next (bootSettled s (trainAll (bootUp v) down)) := by
  rcases hr with ⟨rfl, hp, hh, rfl⟩ | ⟨rfl, hp, hpin, rfl⟩
  · have hx : Machine.exec (.coldResetRelease down) v = .next (settle v (keepQueue v
        (if v.chip.phase = .coldHeld ∧ v.chip.refclk ∧ ¬ v.power.hot then trainAll (bootUp v) down else v))) := rfl
    rw [hx, if_pos ⟨hp, hclk, by simp [hh]⟩, bootSettled]
  · have hx : Machine.exec (.perstDeassertion down) s = .next (settle s (keepQueue s
        (if s.chip.perst ∧ s.chip.phase = .warmHeld ∧ s.chip.refclk
          then trainAll (bootUp { s with chip := { s.chip with perst := false } }) down
          else { s with chip := { s.chip with perst := false } }))) := rfl
    rw [hx, if_pos ⟨hpin, hp, hclk⟩, bootSettled]

end

/-- What is read of the state once a boot has settled. -/
theorem bootSettled_reads (s u : State) : (bootSettled s u).chip = u.chip ∧ (bootSettled s u).boot = u.boot
    ∧ (bootSettled s u).mem = u.mem ∧ (bootSettled s u).tags = u.tags ∧ (bootSettled s u).time = u.time := by
  rw [bootSettled, settle_chip, settle_boot, settle_mem, settle_tags, settle_time]
  exact ⟨rfl, rfl, rfl, rfl, rfl⟩

theorem rd_bootSettled (s u : State) {o : Nat} (h : o ≠ R.msixPba) : rd (bootSettled s u) o = rd u o := rd_settle _ _ h

theorem stateOf_bootSettled (s u : State) (l : LinkId) : stateOf (bootSettled s u) l = stateOf u l :=
  stateOf_of_rd (fun _ ho => rd_bootSettled s u (by rintro rfl; revert ho; unfold isStateReg R.msixPba; omega)) l

theorem mbStatus_place {m : Nat} (h : m < 8) : ¬ linkArea (R.mbStatus m) ∧ R.mbStatus m ≠ R.msixPba := by
  unfold linkArea R.mbStatus R.msixPba; omega

section
variable {c : Instr} {s v : State} {down : List LinkId} (hclk : s.chip.refclk = true) (hr : Releases c s v down)
include hclk hr

theorem release_boots {b : Nat} (hg : verifySlot s b = .good)
    (hb : b = namedSlot s ∨ (b = 1 - namedSlot s ∧ verifySlot s (namedSlot s) ≠ .good)) :
    ∃ t, exec c s = .next t ∧ t.chip.phase = .running ∧ t.chip.perst = v.chip.perst ∧ t.boot.slot = b
      ∧ t.boot.fallback = decide (b ≠ namedSlot s) ∧ t.boot.svn = fwSvn s b ∧ t.boot.version = fwVersion s b
      ∧ t.boot.meas = fwMeasure s b ∧ t.boot.fuses = s.boot.fuses ∧ (∀ m, m < 8 → rdB t (R.mbStatus m) 0 = true)
      ∧ (down = [] → t.mem = s.mem) ∧ t.tags = s.tags ∧ t.time = s.time
      ∧ ∀ l ∈ down, linkExists l = true → stateOf t l = 3 := by
  have hx := hr.exec hclk
  obtain ⟨ch, hv⟩ := hr.chip
  have hup : bootUp v = bootSlot v b (decide (b ≠ namedSlot s)) := by
    subst hv
    exact bootUp_boots (s := { s with chip := ch }) hg hb
  have hbt := bootSlot_booted v b (decide (b ≠ namedSlot s))
  rw [← hup] at hbt
  obtain ⟨ht, hm, hd⟩ := trainAll_parts (bootUp v) down
  obtain ⟨hchip, hboot, hmem, htags, htime⟩ := bootSettled_reads s (trainAll (bootUp v) down)
  have hbs : (bootSettled s (trainAll (bootUp v) down)).boot = _ := hboot.trans (ht.boot.trans hbt.boot)
  subst hv
  refine ⟨_, hx, ?_, ?_, by rw [hbs], by rw [hbs], by rw [hbs]; rfl, by rw [hbs]; rfl, by rw [hbs]; rfl, by rw [hbs], fun m hm8 => ?_,
    fun h => ?_, ?_, ?_, fun l hl he => (stateOf_bootSettled ..).trans (hd l hl he)⟩
  · rw [hchip, ht.chip, hbt.phase]
  · rw [hchip, ht.chip, hbt.perst]
  · obtain ⟨ha, hp⟩ := mbStatus_place hm8
    rw [rdB, rd_bootSettled _ _ hp, ht.rd _ ha]
    exact hbt.served m hm8
  · rw [hmem, hm h, hbt.mem]
  · rw [htags, ht.tags, hbt.tags]
  · rw [htime, ht.time, hbt.time]

theorem release_recovers (hk : verifySlot s (namedSlot s) ≠ .good) (ho : verifySlot s (1 - namedSlot s) ≠ .good) :
    ∃ t, exec c s = .next t ∧ t.chip.phase = .recovery ∧ rdB t (R.mbStatus 0) 0 = true ∧ rdB t (R.mbStatus 7) 0 = true
      ∧ (∀ m, 0 < m → m < 7 → rd t (R.mbStatus m) = rd s (R.mbStatus m)) ∧ t.mem = s.mem
      ∧ t.boot.fuses = s.boot.fuses ∧ ∀ l ∈ down, linkExists l = true → stateOf t l = 3 := by
  have hx := hr.exec hclk
  obtain ⟨ch, hv⟩ := hr.chip
  have hup : bootUp v = recovery v := by
    subst hv
    exact bootUp_neither (s := { s with chip := ch }) hk ho
  have hrec := recovery_recovers v
  rw [← hup] at hrec
  obtain ⟨ht, -, hd⟩ := trainAll_parts (bootUp v) down
  obtain ⟨hchip, hboot, hmem, -, -⟩ := bootSettled_reads s (trainAll (bootUp v) down)
  have hread (m : Nat) (h : m < 8) : rd (bootSettled s (trainAll (bootUp v) down)) (R.mbStatus m) = rd (bootUp v) (R.mbStatus m) := by
    obtain ⟨ha, hp⟩ := mbStatus_place h
    rw [rd_bootSettled _ _ hp, ht.rd _ ha]
  obtain ⟨h0, h7⟩ := hrec.served
  have hrv (o : Nat) : rd v o = rd s o := by subst hv; rfl
  have hmv : v.mem = s.mem ∧ v.boot = s.boot := by subst hv; exact ⟨rfl, rfl⟩
  refine ⟨_, hx, ?_, ?_, ?_, fun m hm0 hm7 => ?_, ?_, ?_, fun l hl he => (stateOf_bootSettled ..).trans (hd l hl he)⟩
  · rw [hchip, ht.chip, hrec.phase]
  · rw [rdB, hread 0 (by decide)]
    exact h0
  · rw [rdB, hread 7 (by decide)]
    exact h7
  · rw [hread m (by omega), hrec.others m hm0 hm7, hrv]
  · rw [hmem, ht.mem (by rw [hrec.phase]; decide), hrec.mem, hmv.1]
  · rw [hboot, ht.boot, hrec.fuses, hmv.2]

end

/-- Settles O56: the releases of a reset, by the slots that verify, and the blowing of fuses, by the counter. -/
theorem bootAndFuses : Obligations.BootAndFuses := by
  unfold Obligations.BootAndFuses
  refine ⟨?_, fun s hl => ⟨rollbackFuseBlow_blows hl, rollbackFuseBlow_stays hl⟩⟩
  rintro c s v k down hclk rfl hr
  exact ⟨fun b hg hb => release_boots hclk hr hg hb, release_recovers hclk hr⟩

end Sys2Proof.Machine
end

section
/-! SUPPORT. A circuit's teardown that the hub sends (R207): it waits at its hub port, or lies in the port's circuit buffer. -/
namespace Sys2Proof.Machine

/-! ### A teardown -/

/-- A CIRCUIT_TEARDOWN for one core of the mesh, of the circuit with label `l` (Table 8-5). -/
structure Teardown (f : Flit) (l : Nat) : Prop where
  type : fType f = 8
  mc : fMc f = false
  dx : fDx f < 32
  label : fLabel f = l

namespace Teardown
variable {f : Flit} {l : Nat} (h : Teardown f l)
include h

theorem creditQueue : creditQueue f = 4 := by simp [Machine.creditQueue, h.type]

theorem unmerged (g : Flit) : mergeable f g = false := by simp [mergeable, h.type]

theorem addressed : ¬ ((misaddressed f || fDx f = 63) = true ∧ fType f ≠ 9) := by
  have := h.dx
  simp [misaddressed, h.mc]
  omega

end Teardown

/-- The flit lies in the circuit buffer of a hub port's local port. -/
def CircHeld (s : State) (p : Nat) (f : Flit) : Prop := ∃ h ∈ buf s (1024 + p) 4 4, h.f = f

/-- What enters behind it leaves a buffered teardown in place. -/
theorem Enters.keepsTeardown {s t : State} {p l : Nat} {f g : Flit} (h : Enters s t (1024 + p) g) (hf : Teardown f l)
    (hb : CircHeld s p f) : CircHeld t p f := by
  obtain ⟨x, hx, rfl⟩ := hb
  cases h with
  | dropped h => exact ⟨x, h ▸ hx, rfl⟩
  | placed q y h =>
    refine ⟨x, ?_, rfl⟩
    rw [h, buf_pushHeld]
    split
    · rename_i h4
      exact List.mem_append_left _ (h4 ▸ hx)
    · exact hx
  | merged q y z hl hm h =>
    refine ⟨x, ?_, rfl⟩
    rw [h, buf_setBuf]
    split
    · rename_i h4
      subst h4
      have hne : x ≠ y := by
        rintro rfl
        exact Bool.false_ne_true ((hf.unmerged _).symm.trans hm)
      rw [← List.dropLast_append_getLast? _ hl] at hx
      exact List.mem_append_left _ ((List.mem_append.1 hx).resolve_right fun h => hne (List.mem_singleton.1 h))
    · exact hx

/-- A teardown that enters finds its circuit, and is buffered. -/
theorem enter_circHeld {s : State} {p l : Nat} {f : Flit} (cyc : Nat) (hf : Teardown f l)
    (hc : (circMatch s (1024 + p) 4 l).isSome = true) : CircHeld (enter s (1024 + p) 4 f cyc) p f := by
  obtain ⟨k, hk⟩ := Option.isSome_iff_exists.1 hc
  have he : enter s (1024 + p) 4 f cyc = pushHeld s (1024 + p) 4 4 ⟨f, [], cyc, fLabel f⟩ := by
    unfold enter
    simp only [hf.type, hf.label, hk, Nat.reduceLeDiff, false_and, if_false, Nat.reduceEqDiff, if_true]
  rw [he]
  exact ⟨_, by rw [buf_pushHeld, if_pos rfl]; exact List.mem_append_right _ (List.mem_singleton_self _), rfl⟩

/-- A teardown that source `src` has sent at hub port `p` waits there or lies in the port's circuit buffer. -/
def TeardownWaits (s : State) (p src : Nat) (f : Flit) : Prop :=
  (⟨1024 + p, src, f⟩ : Offer) ∈ s.mesh.offers ∨ CircHeld s p f

/-- The state in which an offer has left the list finds the circuits as they were. -/
theorem enterOffer_found (s : State) (o : Offer) (cyc : Nat) {p : Nat} (hn : o.node = 1024 + p) :
    ∃ u, enterOffer s o cyc = enter u (1024 + p) 4 o.f cyc ∧ u.mesh.offers = s.mesh.offers.erase o
      ∧ u.mesh.bufs = s.mesh.bufs ∧ u.mesh.hubCirc = s.mesh.hubCirc := by
  unfold enterOffer
  rw [hn]
  refine ⟨_, rfl, ?_, ?_, ?_⟩ <;> split <;> rfl

theorem enterOffer_teardownWaits {s : State} {o : Offer} (cyc : Nat) {p src l : Nat} {f : Flit} (hn : o.node = 1024 + p)
    (hf : Teardown f l) (hc : (circMatch s (1024 + p) 4 l).isSome = true) (hw : TeardownWaits s p src f) :
    TeardownWaits (enterOffer s o cyc) p src f := by
  obtain ⟨u, he, ho, hb, hcirc⟩ := enterOffer_found s o cyc hn
  have hE := enter_enters u p o.f cyc
  rw [he]
  rcases hw with hw | ⟨x, hx, rfl⟩
  · by_cases h : o = ⟨1024 + p, src, f⟩
    · subst h
      refine .inr (enter_circHeld cyc hf ?_)
      rw [(circuitsKept_hub (Nat.le_add_right ..) hcirc).circMatch]
      exact hc
    · left
      rw [hE.offers, ho]
      exact (List.mem_erase_of_ne (Ne.symm h)).2 hw
  · refine .inr (hE.keepsTeardown hf ⟨x, ?_, rfl⟩)
    rwa [buf, hb]

theorem pump_teardownWaits {p src l : Nat} {f : Flit} (hf : Teardown f l) : ∀ (k : Nat) (s : State),
    (circMatch s (1024 + p) 4 l).isSome = true → TeardownWaits s p src f → TeardownWaits (pump (1024 + p) k s) p src f
  | 0, _, _, hw => hw
  | k + 1, s, hc, hw => by
    rw [pump]
    split
    · rename_i o ho
      have hn := nextOffer_node _ _ _ _ _ ho
      refine pump_teardownWaits hf k _ ?_ (enterOffer_teardownWaits 0 hn hf hc hw)
      rw [((enterOffer_entry s o 0).circuits _).circMatch]
      exact hc
    · exact hw

theorem hubInject_teardownWaits {s : State} {p src l : Nat} {f : Flit} (hf : Teardown f l)
    (hc : (circMatch s (1024 + p) 4 l).isSome = true) : TeardownWaits (hubInject s p src f) p src f := by
  rw [hubInject, if_neg hf.addressed]
  exact pump_teardownWaits hf _ (offered s ⟨1024 + p, src, f⟩) hc (.inl (by simp [offered]))

/-- A teardown's flit, from its fields. -/
theorem teardown_mkHead {dx dy r c q : Nat} (hx : dx < 32) (hy : dy < 32) (hr : r < 16) (hc : c < 8) (hq : q < 2 ^ 35) :
    Teardown (w64 (mkHead 8 3 false dx dy + r * 2 ^ 41 + c * 2 ^ 38 + c * 2 ^ 35 + q)) c := by
  have hx' : dx < 64 := by omega
  have hlow : dy * 2 ^ 45 + r * 2 ^ 41 + c * 2 ^ 38 + c * 2 ^ 35 + q < 2 ^ 50 := by omega
  have hN : (w64 (mkHead 8 3 false dx dy + r * 2 ^ 41 + c * 2 ^ 38 + c * 2 ^ 35 + q)).toNat =
      10088063165309911040 + dx * 2 ^ 50 + (dy * 2 ^ 45 + r * 2 ^ 41 + c * 2 ^ 38 + c * 2 ^ 35 + q) := by
    have he : mkHead 8 3 false dx dy + r * 2 ^ 41 + c * 2 ^ 38 + c * 2 ^ 35 + q =
        10088063165309911040 + dx * 2 ^ 50 + (dy * 2 ^ 45 + r * 2 ^ 41 + c * 2 ^ 38 + c * 2 ^ 35 + q) := by
      rw [mkHead, show b2n false = 0 from rfl, Nat.mod_eq_of_lt hx', Nat.mod_eq_of_lt hy]
      omega
    rw [he]
    exact (BitVec.toNat_ofNat ..).trans (Nat.mod_eq_of_lt (by omega))
  have hlabel : (dy * 2 ^ 45 + r * 2 ^ 41 + c * 2 ^ 38 + c * 2 ^ 35 + q) / 2 ^ 35 % 8 = c := by omega
  generalize hL : dy * 2 ^ 45 + r * 2 ^ 41 + c * 2 ^ 38 + c * 2 ^ 35 + q = low at hlow hN hlabel
  generalize w64 (mkHead 8 3 false dx dy + r * 2 ^ 41 + c * 2 ^ 38 + c * 2 ^ 35 + q) = f at hN
  have ht : fType f = 8 := by
    rw [fType, ff, fld_eq_div, hN, show (10088063165309911040 + dx * 2 ^ 50 + low) / 2 ^ 60 = 8 by omega]
    rfl
  refine ⟨ht, ?_, ?_, ?_⟩
  · rw [fMc, bitAt, ← BitVec.testBit_toNat, hN, Nat.testBit_eq_decide_div_mod_eq, decide_eq_false_iff_not,
      show (10088063165309911040 + dx * 2 ^ 50 + low) / 2 ^ 56 = 140 by omega]
    decide
  · rw [fDx, ff, fld_eq_div, hN, show (10088063165309911040 + dx * 2 ^ 50 + low) / 2 ^ 50 = 8960 + dx by omega]
    clear hN hlow hlabel hL
    omega
  · rw [fLabel, ht, if_neg (by decide), ff, fld_eq_div, hN]
    exact (by omega : _ = low / 2 ^ 35 % 8).trans hlabel

/-- The teardown of an engine's circuit to core `n`. -/
theorem dmaSetup_teardown (s : State) {e : Nat} (n : Nat) (he : e < 8) : Teardown (dmaSetup s e n 8) (dmaCircuit s e) :=
  teardown_mkHead (Nat.mod_lt _ (by decide)) (Nat.mod_lt _ (by decide)) (fld_lt _ _ 4) (fld_lt _ _ 3) (by omega)

end Sys2Proof.Machine
end

section
/-! How a hub DMA engine stops, and how it takes a core's answers (O50, R207, R245, R254, R334). -/
namespace Sys2Proof.Machine

/-! ### The end of a transfer -/

/-- What the end of a transfer leaves: its state, and what its interrupt shows. -/
structure DmaEnds (s t : State) (e st : Nat) : Prop where
  mem : t.mem = s.mem
  tags : t.tags = s.tags
  coreRegs : t.coreRegs = s.coreRegs
  offers : t.mesh.offers = s.mesh.offers
  bufs : t.mesh.bufs = s.mesh.bufs
  rd : ∀ o, o ≠ R.dmaStatus e → o ≠ R.msixPba → rd t o = rd s o
  status : Machine.rd t (R.dmaStatus e) = putFld (Machine.rd s (R.dmaStatus e)) 0 2 st

/-- The engine's state field has been written, and its run forgotten. -/
def dmaClosed (s : State) (e st : Nat) : State := setDmaRun (wrF s (R.dmaStatus e) 0 2 st) e {}

theorem dmaEnd_eq (s : State) (e st : Nat) : dmaEnd s e st =
    if rdB (dmaClosed s e st) (R.dmaCtrl e) 17 then sendMsix (dmaClosed s e st) (rdF (dmaClosed s e st) (R.dmaCtrl e) 18 6)
    else dmaClosed s e st := rfl

theorem dmaStatus_msixPba {e : Nat} : R.dmaStatus e ≠ R.msixPba := by unfold R.dmaStatus R.msixPba; omega

theorem rd_setDmaRun (s : State) (e : Nat) (r : DmaRun) (o : Nat) : rd (setDmaRun s e r) o = rd s o := rfl

theorem dmaClosed_ends (s : State) (e st : Nat) : DmaEnds s (dmaClosed s e st) e st := by
  refine ⟨rfl, rfl, rfl, rfl, rfl, fun o h _ => ?_, ?_⟩
  · rw [dmaClosed, rd_setDmaRun, rd_wrF_ne _ _ _ _ h]
  · rw [dmaClosed, rd_setDmaRun, wrF, rd_wr_self]

theorem dmaEnd_ends (s : State) (e st : Nat) : DmaEnds s (dmaEnd s e st) e st := by
  have hc := dmaClosed_ends s e st
  rw [dmaEnd_eq]
  split
  · obtain ⟨r, o, hf⟩ : ∃ r o, sendMsix (dmaClosed s e st) (rdF (dmaClosed s e st) (R.dmaCtrl e) 18 6) =
        { dmaClosed s e st with regs := r, outs := o } := ⟨_, _, sendMsix_frame ..⟩
    refine ⟨?_, ?_, ?_, ?_, ?_, fun o ho hp => (rd_sendMsix _ _ hp).trans (hc.rd o ho hp),
      (rd_sendMsix _ _ dmaStatus_msixPba).trans hc.status⟩
    all_goals rw [hf]
    · exact hc.mem
    · exact hc.tags
    · exact hc.coreRegs
    · exact hc.offers
    · exact hc.bufs
  · exact hc

theorem DmaEnds.state {s t : State} {e st : Nat} (h : DmaEnds s t e st) (hst : st < 4) : dmaState t e = st := by
  rw [dmaState, rdF, h.status, fld_putFld_self _ _ (by decide)]
  exact Nat.mod_eq_of_lt hst

/-- A field of the status above the state. -/
theorem DmaEnds.field {s t : State} {e st lo n : Nat} (h : DmaEnds s t e st) (hlo : 2 ≤ lo) :
    rdF t (R.dmaStatus e) lo n = rdF s (R.dmaStatus e) lo n := by
  rw [rdF, h.status, fld_putFld_apart _ _ (.inr hlo), rdF]

theorem dmaState_after (s u : State) (e : Nat) : dmaState (after s u) e = dmaState u e := rdF_after _ _ _ _ dmaStatus_msixPba

/-! ### A fault of a transfer (R334) -/

/-- What a fault of a transfer leaves. -/
structure DmaFaults (s t : State) (e fault a : Nat) : Prop where
  mem : t.mem = s.mem
  coreRegs : t.coreRegs = s.coreRegs
  offers : t.mesh.offers = s.mesh.offers
  bufs : t.mesh.bufs = s.mesh.bufs
  state : dmaState t e = 3
  code : rdF t (R.dmaStatus e) 4 4 = fault
  addr : Machine.rd t (R.dmaFaultAddr e) = w64 a
  unchecked : dmaChecks s e = false → t.tags = s.tags ∧ ∀ o, o ≠ R.dmaStatus e → o ≠ R.dmaFaultAddr e → o ≠ R.msixPba →
    rd t o = rd s o

theorem raiseJob_work (s : State) (id code : Nat) : BreathWork s (raiseJob s id code) := by
  unfold raiseJob
  split
  · rename_i j hj
    exact raise_work s _ _ (List.mem_range.1 (List.mem_of_find?_eq_some hj))
  · exact .refl s

theorem dmaJobCode_frame (s : State) (fault : Nat) : ∃ f, (dmaJobCode s fault).2 = { s with free := f } := by
  unfold dmaJobCode
  split
  · exact ⟨_, rfl⟩
  split
  · exact ⟨_, rfl⟩
  split <;> exact ⟨_, rfl⟩

/-- The engine's fault has been noted, and with `CHECK_JOB` its job has faulted. -/
def dmaNoted (s : State) (e fault a : Nat) : State := wr (wrF s (R.dmaStatus e) 4 4 fault) (R.dmaFaultAddr e) (w64 (a % 2 ^ 48))

def dmaJobFaults (s : State) (e fault : Nat) : State :=
  if dmaChecks s e then raiseJob (dmaJobCode s fault).2 (dmaJob s e) (dmaJobCode s fault).1 else s

theorem dmaFault_eq (s : State) (e fault a : Nat) : dmaFault s e fault a = dmaEnd (dmaJobFaults (dmaNoted s e fault a) e fault) e 3 := rfl

theorem dmaJobFaults_parts (s : State) (e fault : Nat) : (dmaJobFaults s e fault).mem = s.mem
    ∧ (dmaJobFaults s e fault).coreRegs = s.coreRegs ∧ (dmaJobFaults s e fault).mesh = s.mesh
    ∧ (∀ o, o < 0x40000 ∨ 0x50000 ≤ o → rd (dmaJobFaults s e fault) o = rd s o)
    ∧ (dmaChecks s e = false → dmaJobFaults s e fault = s) := by
  obtain ⟨f, hf⟩ := dmaJobCode_frame s fault
  unfold dmaJobFaults
  split
  · rename_i hc
    have hw := raiseJob_work (dmaJobCode s fault).2 (dmaJob s e) (dmaJobCode s fault).1
    rw [hf] at hw ⊢
    exact ⟨hw.linkWork.mem, hw.linkWork.coreRegs, hw.mesh, hw.rd, fun h => absurd (hc.symm.trans h) (by decide)⟩
  · exact ⟨rfl, rfl, rfl, fun _ _ => rfl, fun _ => rfl⟩

theorem dmaFault_faults (s : State) (e : Nat) {fault a : Nat} (hf : fault < 16) (ha : a < 2 ^ 48) :
    DmaFaults s (dmaFault s e fault a) e fault a := by
  obtain ⟨hmem, hcr, hmesh, hrd, hun⟩ := dmaJobFaults_parts (dmaNoted s e fault a) e fault
  have he := dmaEnd_ends (dmaJobFaults (dmaNoted s e fault a) e fault) e 3
  have hst : R.dmaStatus e ≠ R.dmaFaultAddr e := by unfold R.dmaStatus R.dmaFaultAddr; omega
  have hctl : R.dmaCtrl e ≠ R.dmaFaultAddr e ∧ R.dmaCtrl e ≠ R.dmaStatus e := by
    unfold R.dmaCtrl R.dmaStatus R.dmaFaultAddr; omega
  have hnoted : rd (dmaNoted s e fault a) (R.dmaStatus e) = putFld (rd s (R.dmaStatus e)) 4 4 fault := by
    rw [dmaNoted, rd_wr_ne hst, wrF, rd_wr_self]
  have hchk : dmaChecks (dmaNoted s e fault a) e = dmaChecks s e := by
    rw [dmaChecks, rdB, dmaNoted, rd_wr_ne hctl.1, rd_wrF_ne _ _ _ _ hctl.2, dmaChecks, rdB]
  rw [dmaFault_eq]
  refine ⟨he.mem.trans hmem, he.coreRegs.trans hcr, he.offers.trans (by rw [hmesh]; rfl), he.bufs.trans (by rw [hmesh]; rfl),
    he.state (by decide), ?_, ?_, fun h => ?_⟩
  · rw [he.field (by decide), rdF, hrd _ (.inr (by unfold R.dmaStatus; omega)), hnoted, fld_putFld_self _ _ (by decide)]
    exact Nat.mod_eq_of_lt hf
  · rw [he.rd _ (Ne.symm hst) (by unfold R.dmaFaultAddr R.msixPba; omega), hrd _ (.inr (by unfold R.dmaFaultAddr; omega)), dmaNoted,
      rd_wr_self, Nat.mod_eq_of_lt ha]
  · rw [hun (hchk.trans h)] at he ⊢
    exact ⟨he.tags, fun o h1 h2 h3 => by rw [he.rd o h1 h3, dmaNoted, rd_wr_ne h2, rd_wrF_ne _ _ _ _ h1]⟩

/-! ### The ends of streams and of copies to a core (R207, R334) -/

section
variable {s : State} (hl : live s = true) {e : DmaId}
include hl

theorem exec_dmaDone (errs : List MemErr) : exec (.dmaDone e errs) s = .next (after s (dmaDone s e.val errs)) :=
  act_after (fun s => dmaDone s e.val errs) hl

theorem dmaDone_ended {errs : List MemErr} (h : dmaDone s e.val errs = dmaEnd s e.val 2) : ∃ t, exec (.dmaDone e errs) s = .next t
    ∧ dmaState t e.val = 2 ∧ hubRegsKept s t [R.dmaStatus e.val] ∧ t.mem = s.mem ∧ t.coreRegs = s.coreRegs := by
  have he := dmaEnd_ends s e.val 2
  refine ⟨_, exec_dmaDone hl errs, ?_, fun o ho hp => ?_, ?_, ?_⟩ <;> rw [h]
  · rw [dmaState_after, he.state (by decide)]
  · rw [rd_after _ _ hp, he.rd o (by simpa using ho) hp]
  · rw [after_mem, he.mem]
  · rw [after_coreRegs, he.coreRegs]

theorem dmaDone_waits {errs : List MemErr} (h : dmaDone s e.val errs = s) : exec (.dmaDone e errs) s = .next s := by
  rw [exec_dmaDone hl, h, after_self]

end

section
variable {s : State} {e : DmaId} (hb : dmaState s e.val = 1)
include hb

theorem dmaDone_receives (errs : List MemErr) (hr : dmaReceives s e.val = true) : dmaDone s e.val errs =
    if rdF s (R.dmaStatus e.val) 32 32 ≥ dmaBlocks s e.val then dmaEnd s e.val 2 else s := by
  rw [dmaDone, if_neg (not_not.2 hb), if_pos hr]

theorem dmaDone_toCore (errs : List MemErr) (hr : dmaReceives s e.val = false) {n : Nat} (hc : dmaCore s e.val = some n) :
    dmaDone s e.val errs = if (dmaRunOf s e.val).phase = 3 ∨ dmaBlocks s e.val = 0 then dmaEnd s e.val 2 else s := by
  rw [dmaDone, if_neg (not_not.2 hb), if_neg (by simp [hr]), if_pos (by simp [hc])]

end

/-! ### A core's answers (R207, R245, R254) -/

/-- The state in which engine `e` finds an answer that its hub port held: the answer taken, and kept as a response where it is one. -/
structure AnswerFound (s t : State) : Prop where
  only : ∃ m, t = { s with mesh := m }
  offers : t.mesh.offers = s.mesh.offers
  bufs : t.mesh.bufs = s.mesh.bufs
  hubCirc : t.mesh.hubCirc = s.mesh.hubCirc
  links : t.mesh.links = s.mesh.links
  dmas : t.mesh.dmas = s.mesh.dmas

/-- The answer leaves the hub port's list. -/
def answerTaken (s : State) (f : Flit) : State := { s with mesh := { s.mesh with hubRx := s.mesh.hubRx.erase f } }

theorem answerTaken_found (s : State) (f : Flit) : AnswerFound s (answerTaken s f) := ⟨⟨_, rfl⟩, rfl, rfl, rfl, rfl, rfl⟩
theorem replyTaken_found (s : State) (f : Flit) : AnswerFound s (replyTaken s f) := ⟨⟨_, rfl⟩, rfl, rfl, rfl, rfl, rfl⟩

section
variable {s : State} (hl : live s = true) (e : DmaId) {f : Flit} (hs : isStatus f = true) (hf : f ∈ s.mesh.hubRx)
include hl hs hf

theorem exec_ctrlResp_dma (hcode : 0x20 ≤ fCode f) :
    exec (.ctrlResp (.dma e) f) s = .next (after s (dmaAnswer (replyTaken s f) e.val (fSrc f) (fCode f))) := by
  have ht : fType f = 0xB := by
    rw [isStatus, Bool.and_eq_true, decide_eq_true_eq] at hs
    exact hs.1
  have hact := act_after (fun s => if fType f ≠ 0xB then s else takeHub s f fun s =>
    let rq := if bitAt f 44 then ff f 32 4 else ff f 40 4
    let s := { s with mesh := { s.mesh with resp := Sparse.set (fun _ => 0) s.mesh.resp rq f } }
    if isStatus f ∧ fCode f ≥ 0x20 then dmaAnswer s e.val (fSrc f) (fCode f) else s) hl
  rw [if_neg (not_not.2 ht), takeHub_mem hf] at hact
  dsimp only at hact
  have hcond : isStatus f = true ∧ fCode f ≥ 0x20 := ⟨hs, hcode⟩
  rw [if_pos hcond] at hact
  exact (rfl : exec _ s = execCtrlResp (.dma e) f s).trans hact

theorem exec_nackReceived_dma (hn : isNack (fCode f) = true) :
    exec (.nackReceived (.dma e) f) s = .next (after s (dmaAnswer (answerTaken s f) e.val (fSrc f) (fCode f))) := by
  have hact := act_after (fun s => if ¬ (isStatus f ∧ isNack (fCode f)) then s else
    takeHub s f fun s => dmaAnswer s e.val (fSrc f) (fCode f)) hl
  rw [if_neg (not_not.2 ⟨hs, hn⟩), takeHub_mem hf] at hact
  exact (rfl : exec _ s = execNackReceived (.dma e) f s).trans hact

end

namespace AnswerFound
variable {s t : State} (h : AnswerFound s t)
include h

theorem reads (e : Nat) : dmaState t e = dmaState s e ∧ dmaCore t e = dmaCore s e ∧ dmaRunOf t e = dmaRunOf s e
    ∧ (∀ o lo n, rdF t o lo n = rdF s o lo n) := by
  have hd := h.dmas
  obtain ⟨m, rfl⟩ := h.only
  exact ⟨rfl, rfl, by rw [dmaRunOf, hd, dmaRunOf], fun _ _ _ => rfl⟩

theorem kept : t.mem = s.mem ∧ t.coreRegs = s.coreRegs ∧ t.regs = s.regs ∧ t.time = s.time := by
  obtain ⟨m, rfl⟩ := h.only
  exact ⟨rfl, rfl, rfl, rfl⟩

end AnswerFound

/-- The answer of a core that engine `e` awaits. -/
theorem dmaAnswer_awaited {s : State} {e n : Nat} (hb : dmaState s e = 1) (hc : dmaCore s e = some n) (hp : (dmaRunOf s e).phase ≠ 0)
    {code : Nat} (hne : code ≠ 0x30) : dmaAnswer s e n code =
      if 0x31 ≤ code ∧ code ≤ 0x34 then dmaFault (dmaSend e n [dmaSetup s e n 8] s) e 4 (rdF s (R.dmaDst e) 0 48)
      else if code = 0x11 then setDmaRun s e { dmaRunOf s e with busy := some (timeAdd (nowNs s) 2000) }
      else if code = 0x20 then setDmaRun s e { dmaRunOf s e with phase := 3 }
      else if code = 0x21 then dmaFault s e 5 (rdF s (R.dmaDst e) 0 48)
      else s := by
  rw [dmaAnswer]
  dsimp only
  rw [if_neg (by simp [hb, hc, hp]), if_neg hne]

theorem dmaRunOf_set (s : State) (e : Nat) (r : DmaRun) : dmaRunOf (setDmaRun s e r) e = r :=
  (Sparse.get_set ..).trans (if_pos rfl)

theorem dmaRunOf_after (s u : State) (e : Nat) : dmaRunOf (after s u) e = dmaRunOf u e := by rw [dmaRunOf, after_mesh, dmaRunOf]

section
variable {s : State} (hl : live s = true) {e : DmaId} (hb : dmaState s e.val = 1) {n : Nat} (hc : dmaCore s e.val = some n)
  (hp : (dmaRunOf s e.val).phase ≠ 0) {f : Flit} (hs : isStatus f = true) (hsrc : fSrc f = n) (hf : f ∈ s.mesh.hubRx)
include hl hb hc hp hs hsrc hf

omit hl hs hf in
theorem dmaAnswer_found {t : State} (ht : AnswerFound s t) (hne : fCode f ≠ 0x30) : dmaAnswer t e.val (fSrc f) (fCode f) =
    if 0x31 ≤ fCode f ∧ fCode f ≤ 0x34 then dmaFault (dmaSend e.val n [dmaSetup t e.val n 8] t) e.val 4 (rdF s (R.dmaDst e.val) 0 48)
    else if fCode f = 0x11 then setDmaRun t e.val { dmaRunOf s e.val with busy := some (timeAdd (nowNs s) 2000) }
    else if fCode f = 0x20 then setDmaRun t e.val { dmaRunOf s e.val with phase := 3 }
    else if fCode f = 0x21 then dmaFault t e.val 5 (rdF s (R.dmaDst e.val) 0 48)
    else t := by
  obtain ⟨hst, hco, hrun, hfld⟩ := ht.reads e.val
  obtain ⟨-, -, -, htime⟩ := ht.kept
  rw [hsrc, dmaAnswer_awaited (hst.trans hb) (hco.trans hc) (by rwa [hrun]) hne, hrun, hfld, nowNs, htime, nowNs]

theorem ctrlResp_done (h : fCode f = 0x20) : ∃ t, exec (.ctrlResp (.dma e) f) s = .next t ∧ (dmaRunOf t e.val).phase = 3
    ∧ t.mem = s.mem ∧ t.coreRegs = s.coreRegs := by
  have ht := replyTaken_found s f
  have ha := dmaAnswer_found hb hc hp hsrc ht (by omega)
  rw [if_neg (by omega), if_neg (by omega), if_pos h] at ha
  obtain ⟨hmem, hcr, -, -⟩ := ht.kept
  refine ⟨_, exec_ctrlResp_dma hl e hs hf (by omega), ?_, ?_, ?_⟩ <;> rw [ha]
  · rw [dmaRunOf_after, dmaRunOf_set]
  · exact (after_mem ..).trans hmem
  · exact (after_coreRegs ..).trans hcr

theorem nackReceived_busy (h : fCode f = 0x11) : ∃ t, exec (.nackReceived (.dma e) f) s = .next t
    ∧ (dmaRunOf t e.val).busy = some (timeAdd (nowNs s) 2000) ∧ t.mem = s.mem ∧ t.coreRegs = s.coreRegs := by
  have ht := answerTaken_found s f
  have ha := dmaAnswer_found hb hc hp hsrc ht (by omega)
  rw [if_neg (by omega), if_pos h] at ha
  obtain ⟨hmem, hcr, -, -⟩ := ht.kept
  refine ⟨_, exec_nackReceived_dma hl e hs hf (by rw [h]; decide), ?_, ?_, ?_⟩ <;> rw [ha]
  · rw [dmaRunOf_after, dmaRunOf_set]
  · exact (after_mem ..).trans hmem
  · exact (after_coreRegs ..).trans hcr

theorem ctrlResp_broken (h : fCode f = 0x21) : ∃ t, exec (.ctrlResp (.dma e) f) s = .next t ∧ dmaState t e.val = 3
    ∧ rdF t (R.dmaStatus e.val) 4 4 = 5 ∧ rd t (R.dmaFaultAddr e.val) = w64 (rdF s (R.dmaDst e.val) 0 48) ∧ t.mem = s.mem := by
  have ht := replyTaken_found s f
  have ha := dmaAnswer_found hb hc hp hsrc ht (by omega)
  rw [if_neg (by omega), if_neg (by omega), if_neg (by omega), if_pos h] at ha
  have hd := dmaFault_faults (replyTaken s f) e.val (fault := 5) (a := rdF s (R.dmaDst e.val) 0 48) (by decide) (fld_lt ..)
  refine ⟨_, exec_ctrlResp_dma hl e hs hf (by omega), ?_, ?_, ?_, ?_⟩ <;> rw [ha]
  · rw [dmaState_after, hd.state]
  · rw [rdF_after _ _ _ _ dmaStatus_msixPba, hd.code]
  · rw [rd_after _ _ (by unfold R.dmaFaultAddr R.msixPba; omega), hd.addr]
  · exact (after_mem ..).trans (hd.mem.trans ht.kept.1)

/-- A refused circuit is torn down, and the engine faults. -/
theorem ctrlResp_refused (h1 : 0x31 ≤ fCode f) (h2 : fCode f ≤ 0x34) : ∃ t, exec (.ctrlResp (.dma e) f) s = .next t
    ∧ dmaState t e.val = 3 ∧ rdF t (R.dmaStatus e.val) 4 4 = 4
    ∧ rd t (R.dmaFaultAddr e.val) = w64 (rdF s (R.dmaDst e.val) 0 48) ∧ t.mem = s.mem
    ∧ ((circMatch s (1024 + n / 32) 4 (dmaCircuit s e.val)).isSome = true →
        hubSent s t (n / 32) (0x600 + e.val) (dmaSetup s e.val n 8)) := by
  have ht := replyTaken_found s f
  have ha := dmaAnswer_found hb hc hp hsrc ht (by omega)
  have hd := dmaFault_faults (dmaSend e.val n [dmaSetup (replyTaken s f) e.val n 8] (replyTaken s f)) e.val (fault := 4)
    (a := rdF s (R.dmaDst e.val) 0 48) (by decide) (fld_lt ..)
  have hsend : EntryOnly (replyTaken s f) (dmaSend e.val n [dmaSetup (replyTaken s f) e.val n 8] (replyTaken s f)) := hubInject_entry ..
  have hsetup : dmaSetup (replyTaken s f) e.val n 8 = dmaSetup s e.val n 8 := rfl
  rw [if_pos ⟨h1, h2⟩] at ha
  refine ⟨_, exec_ctrlResp_dma hl e hs hf (by omega), ?_, ?_, ?_, ?_, fun hm _ => ?_⟩ <;> rw [ha]
  · rw [dmaState_after, hd.state]
  · rw [rdF_after _ _ _ _ dmaStatus_msixPba, hd.code]
  · rw [rd_after _ _ (by unfold R.dmaFaultAddr R.msixPba; omega), hd.addr]
  · exact (after_mem ..).trans (hd.mem.trans (hsend.mem.trans ht.kept.1))
  · have htd := dmaSetup_teardown s n e.isLt
    have hcirc : (circMatch (replyTaken s f) (1024 + n / 32) 4 (dmaCircuit s e.val)).isSome = true := by
      rw [(circuitsKept_hub (Nat.le_add_right ..) ht.hubCirc).circMatch]
      exact hm
    have hw : TeardownWaits (dmaSend e.val n [dmaSetup (replyTaken s f) e.val n 8] (replyTaken s f)) (n / 32) (0x600 + e.val)
        (dmaSetup s e.val n 8) := hubInject_teardownWaits htd hcirc
    rw [htd.creditQueue, buf, after_mesh, hd.offers, hd.bufs]
    exact hw

end

end Sys2Proof.Machine
end

section
/-! SUPPORT. Blocks of DDR5: their region and flag, their check, and the errors that their reads meet (R313, R314, R322, R324). -/
namespace Sys2Proof.Machine

/-! ### Blocks of DDR5 -/

/-- The block at `a` lies in DDR5 data. -/
structure DdrBlock (s : State) (a : Nat) : Prop where
  whole : a % 256 = 0
  inData : a + 256 ≤ ddrEnd s
  inDevice : a + 256 ≤ hubSram

theorem ddrBlock_of {s : State} {a : Nat} (h : inDdr s a 1) : DdrBlock s a := by
  obtain ⟨h0, h1, h2⟩ := h
  exact ⟨h0, h1, h2⟩

namespace DdrBlock
variable {s : State} {a : Nat} (h : DdrBlock s a)
include h

theorem region : regionOf s a = .ddr := by
  have h1 := h.inData
  have h2 := h.inDevice
  have hlow : a < 0x001000000000 := by unfold hubSram at h2; omega
  have hdata : a < (rd s R.ddrDataEnd).toNat := by unfold ddrEnd at h1; omega
  rw [regionOf, if_pos hlow, if_pos hdata]

theorem tagged : isTagged s a = true := by simp [isTagged, h.region]

theorem granule : granuleOf s a = some (a / 65536) := by rw [granuleOf, h.region]

theorem flag : flagAt s a = flagOf s (a / 65536) := by rw [flagAt, h.granule]

theorem base : a / 256 * 256 = a := by have := h.whole; omega

end DdrBlock

/-! ### What errors and checks leave (R314, R322, R324) -/

/-- `t` differs from `s` in registers of the memory's errors, and in bytes and tags of the data alone. -/
structure ErrorWork (s t : State) : Prop where
  coreRegs : t.coreRegs = s.coreRegs
  rd : ∀ o, o < 0x80018 ∨ 0x80200 ≤ o → rd t o = rd s o
  high : ∀ x, hubSram ≤ x → ldB t x = ldB s x

namespace ErrorWork

theorem refl (s : State) : ErrorWork s s := ⟨rfl, fun _ _ => rfl, fun _ _ => rfl⟩

theorem trans {s t u : State} (h : ErrorWork s t) (k : ErrorWork t u) : ErrorWork s u :=
  ⟨k.coreRegs.trans h.coreRegs, fun o ho => (k.rd o ho).trans (h.rd o ho), fun x hx => (k.high x hx).trans (h.high x hx)⟩

section
variable {s t : State} (h : ErrorWork s t)
include h

theorem ddrBlock {a : Nat} (hb : DdrBlock s a) : DdrBlock t a := by
  obtain ⟨h0, h1, h2⟩ := hb
  exact ⟨h0, by rwa [ddrEnd, h.rd _ (.inl (by decide))], h2⟩

theorem flagOf (g : Nat) : flagOf t g = Machine.flagOf s g := by
  rw [Machine.flagOf, h.high _ (by unfold hubSram; omega), Machine.flagOf]

theorem flagAt {a : Nat} (hb : DdrBlock s a) : flagAt t a = Machine.flagAt s a := by
  rw [(h.ddrBlock hb).flag, hb.flag, h.flagOf]

/-- The engines' registers stand as they did. -/
theorem engine {o : Nat} (ho : 0x81000 ≤ o) : Machine.rd t o = Machine.rd s o := h.rd o (.inr (by omega))

end

end ErrorWork

/-- The registers of a failed check. -/
def checkRegs : List Nat := [R.tagCheckFail, R.memAlarm, R.poisonSet] ++ errLogRegs

/-- What a check leaves: data, and all but tags and its own registers. -/
structure Checked (s t : State) : Prop where
  only : ∃ r g, t = { s with regs := r, tags := g }
  rd : ∀ o, o ∉ checkRegs → rd t o = rd s o

theorem Checked.refl (s : State) : Checked s s := ⟨⟨_, _, rfl⟩, fun _ _ => rfl⟩

theorem Checked.mem {s t : State} (h : Checked s t) : t.mem = s.mem := by obtain ⟨_, _, rfl⟩ := h.only; rfl

theorem Checked.errorWork {s t : State} (h : Checked s t) : ErrorWork s t := by
  refine ⟨by obtain ⟨_, _, rfl⟩ := h.only; rfl, fun o ho => h.rd o ?_, fun x _ => ldB_of_mem h.mem x⟩
  simp only [checkRegs, errLogRegs, R.tagCheckFail, R.memAlarm, R.poisonSet, R.errLogAddr, R.errLogInfo, R.errLogTime, List.cons_append,
    List.nil_append, List.mem_cons, List.not_mem_nil, or_false, not_or]
  omega

theorem errLog_only (s : State) (a source : Nat) (job : Option Nat) : ∃ r, errLog s a source job = { s with regs := r } := ⟨_, rfl⟩

theorem checkAt_checked (s : State) (a : Nat) (job : Option Nat) : Checked s (checkAt s a job).2 := by
  have hfail : Checked s (setB (bump s R.tagCheckFail 1) R.memAlarm 3) := by
    refine ⟨⟨_, _, rfl⟩, fun o ho => ?_⟩
    simp only [checkRegs, List.cons_append, List.mem_cons, not_or] at ho
    rw [rd_setB_ne _ _ ho.2.1, rd_bump_ne _ _ ho.1]
  have hpoison (t : State) (b : Nat) (j : Option Nat) : Checked t (errLog (poisonBlock t b) b 5 j) := by
    obtain ⟨r, hr⟩ := errLog_only (poisonBlock t b) b 5 j
    refine ⟨⟨r, (poisonBlock t b).tags, by rw [hr]; rfl⟩, fun o ho => ?_⟩
    simp only [checkRegs, List.cons_append, List.nil_append, List.mem_cons, not_or] at ho
    obtain ⟨-, -, hp, hlog⟩ := ho
    rw [rd_errLog_ne _ _ _ _ hlog, poisonBlock, rd_bump_ne _ _ hp]
    rfl
  have hboth (t u : State) (h : Checked s t) (k : Checked t u) : Checked s u := by
    obtain ⟨_, _, rfl⟩ := h.only
    obtain ⟨r, g, rfl⟩ := k.only
    exact ⟨⟨r, g, rfl⟩, fun o ho => (k.rd o ho).trans (h.rd o ho)⟩
  unfold checkAt checkBlock
  split
  · exact .refl s
  split
  · exact hboth _ _ hfail (hpoison _ _ _)
  split
  · split
    · exact .refl s
    · exact hfail
  · exact .refl s

/-- A poisoned tag needs no other check. -/
theorem checkAt_poisoned {s : State} {a : Nat} (h : bitAt (tagAt s a) 56 = true) (job : Option Nat) : checkAt s a job = (.poisoned, s) := by
  unfold checkAt checkBlock
  exact if_pos h

theorem checkAt_good {s : State} {a : Nat} {job : Option Nat} (h : (checkAt s a job).1 = .good) : (checkAt s a job).2 = s :=
  checkBlock_good_state h

/-! ### Errors that a read of one block meets (R314) -/

section
variable {s : State} {a : Nat} (hb : DdrBlock s a)
include hb

theorem errMet_block (bad : Bool) : errMet s a 256 ⟨a, bad⟩ = true ∧ errBlock s a = a := by
  have h1 := hb.inData
  have h0 := hb.whole
  have he : errBlock s a = a := by
    unfold errBlock
    dsimp only
    rw [if_pos (by omega), hb.base]
  rw [errMet, hb.tagged, if_pos rfl, he, hb.base]
  simp

/-- What the code of a DDR5 block reports. -/
def ddrMet (s : State) (a : Nat) (bad : Bool) : State := if bad then ddrLost s a a false 0 else ddrCorrected s a false

theorem meetErrs_block (bad : Bool) : meetErrs s [⟨a, bad⟩] a 256 = ddrMet s a bad := by
  obtain ⟨hm, he⟩ := errMet_block hb bad
  have h1 := hb.inData
  have hf : [(⟨a, bad⟩ : MemErr)].filter (errMet s a 256) = [⟨a, bad⟩] := by rw [List.filter_cons, if_pos hm, List.filter_nil]
  rw [meetErrs, hf, List.foldl_cons, List.foldl_nil, memErr]
  dsimp only
  rw [if_pos (by omega), he, decide_eq_false (by omega)]
  rfl

theorem ddrLost_errorWork : ErrorWork s (ddrLost s a a false 0) := by
  have hk := beatChannel_lt s a false
  refine ⟨ddrLost_coreRegs .., fun o ho => rd_ddrLost_ne _ _ _ _ _ ?_, fun x hx => ?_⟩
  · simp only [beatRegs, errLogRegs, R.poisonSet, R.ddrUe, R.memAlarm, R.errLogAddr, R.errLogInfo, R.errLogTime, List.cons_append,
      List.nil_append, List.mem_cons, List.not_mem_nil, or_false, not_or]
    omega
  · have hm : (ddrLost s a a false 0).mem = (beatGone s a a false).mem := by rw [ddrLost_frame]
    have h2 := hb.inDevice
    rw [ldB_of_mem hm, (beatGone_gone s a a false).bytes x (.inr (by omega))]

omit hb in
theorem ddrCorrected_errorWork : ErrorWork s (ddrCorrected s a false) := by
  have hk := beatChannel_lt s a false
  exact ⟨rfl, fun o ho => rd_bump_ne _ _ (by unfold R.ddrCe; omega), fun _ _ => rfl⟩

end

end Sys2Proof.Machine
end

section
/-! The copy of one block by a hub DMA engine (O50, R313, R314, R324 to R326, R333, R334, R347). -/
namespace Sys2Proof.Machine

/-! ### One block read and written -/

/-- The job by which engine `e` checks its source. -/
def dmaCheck (s : State) (e : Nat) : Option Nat := if dmaChecks s e then some (dmaJob s e) else none

theorem length_ldN (s : State) (a n : Nat) : (ldN s a n).length = n := by simp [ldN]

theorem getD_ldN (s : State) (a : Nat) {n k : Nat} (h : k < n) : (ldN s a n).getD k 0 = ldB s (a + k) := by
  simp [ldN, List.getD, h]

/-- The blocks that the device may read carry no flag HOST, and those that it may write neither that nor SHARED_RO. -/
theorem readBlock_ddr {s v : State} {a : Nat} (hb : DdrBlock s a) (hf : flagAt s a ≠ 1) {job : Option Nat} {p : Bool}
    (hk : checkAt s a job = (if p then .poisoned else .good, v)) :
    readBlock s a job true = (if p then .poisoned (ldN s a 256) else .good (ldN s a 256), v) := by
  rw [hb.flag] at hf
  have hne : ¬ (true && (granuleOf s a).map (flagOf s) = some 1) = true := by rw [hb.granule]; simpa using hf
  unfold readBlock
  rw [hb.region]
  dsimp only
  rw [if_neg hne, hb.base, hk]
  cases p <;> rfl

theorem readBlock_host {s : State} {a : Nat} (hb : DdrBlock s a) (hf : flagAt s a = 1) (job : Option Nat) :
    readBlock s a job true = (.refused, ownDeviceFault s) := by
  rw [hb.flag] at hf
  have he : (true && (granuleOf s a).map (flagOf s) = some 1) = true := by rw [hb.granule]; simpa using hf
  unfold readBlock
  rw [hb.region]
  dsimp only
  rw [if_pos he]

/-- A block written at `a`, counted as a new poisoning where it is poisoned. -/
def blockPut (s : State) (a : Nat) (data : List Byte) (job : Nat) (anyJob poison : Bool) : State :=
  stBlock (if poison then bump s R.poisonSet 1 else s) a data job anyJob poison false

theorem writeBlock_ddr {s : State} {a : Nat} (hb : DdrBlock s a) (hf : flagAt s a % 2 = 0) (data : List Byte) (job : Nat) (x p : Bool) :
    writeBlock s a data job x p true = (.good [], blockPut s a data job x p) := by
  rw [hb.flag] at hf
  have hne : ¬ (true && (((granuleOf s a).map (flagOf s)).getD 0 = 1 || ((granuleOf s a).map (flagOf s)).getD 0 = 3)) = true := by
    rw [hb.granule]
    simp only [Option.map_some, Option.getD_some, Bool.true_and, Bool.or_eq_true, decide_eq_true_eq]
    omega
  unfold writeBlock
  rw [hb.region]
  dsimp only
  rw [if_neg hne, hb.base]
  rfl

/-! ### What a written block leaves -/

section
variable (s : State) {a : Nat} {data : List Byte} (job : Nat) (x p : Bool)

theorem rd_blockPut {o : Nat} (h : o ≠ R.poisonSet) : rd (blockPut s a data job x p) o = rd s o := by
  have hr : (blockPut s a data job x p).regs = (if p then bump s R.poisonSet 1 else s).regs := by
    rw [blockPut, stBlock, setTag_regs, stN_regs]
  rw [rd_of_regs hr]
  exact rd_ite (rd_bump_ne _ _ h) rfl

theorem rd_blockPut_poisonSet : rd (blockPut s a data job x true) R.poisonSet = w64 (satAdd 32 (rd s R.poisonSet).toNat 1) := by
  have hr : (blockPut s a data job x true).regs = (bump s R.poisonSet 1).regs := by
    rw [blockPut, stBlock, setTag_regs, stN_regs, if_pos rfl]
  rw [rd_of_regs hr, rd_bump_self]

theorem blockPut_coreRegs : (blockPut s a data job x p).coreRegs = s.coreRegs := by
  rw [blockPut, stBlock, setTag_coreRegs, stN_coreRegs]
  split <;> rfl

theorem ldB_poisoned (y : Nat) : ldB (if p then bump s R.poisonSet 1 else s) y = ldB s y := by split <;> rfl

theorem blockPut_mem : (blockPut s a data job x p).mem = (stN (if p then bump s R.poisonSet 1 else s) a data).mem := by
  rw [blockPut, stBlock, setTag_mem]

theorem ldB_blockPut_in {k : Nat} (h : k < data.length) : ldB (blockPut s a data job x p) (a + k) = data.getD k 0 :=
  (ldB_of_mem (blockPut_mem ..) _).trans (ldB_stN_in _ _ _ _ h)

theorem ldB_blockPut_out {y : Nat} (h : y < a ∨ a + data.length ≤ y) : ldB (blockPut s a data job x p) y = ldB s y :=
  (ldB_of_mem (blockPut_mem ..) _).trans ((ldB_stN_out _ _ _ _ h).trans (ldB_poisoned ..))

theorem tagAt_blockPut : tagAt (blockPut s a data job x p) a = mkTag (crc32c data) job (a / 256) p x false false := by
  rw [blockPut, stBlock, tagAt_setTag_self]

theorem tagAt_blockPut_ne {y : Nat} (h : y / 256 ≠ a / 256) : tagAt (blockPut s a data job x p) y = tagAt s y := by
  rw [blockPut, stBlock, tagAt_setTag_ne _ _ h]
  exact (tagAt_of_tags (stN_tags ..) y).trans (by split <;> rfl)

/-- A block written leaves the memory's registers, but for the count of poisonings, and what lies above DDR5. -/
theorem blockPut_errorWork (hb : DdrBlock s a) (hl : data.length = 256) : ErrorWork s (blockPut s a data job x p) := by
  have h2 := hb.inDevice
  exact ⟨blockPut_coreRegs .., fun o ho => rd_blockPut _ _ _ _ (by unfold R.poisonSet; omega),
    fun y hy => ldB_blockPut_out _ _ _ _ (.inr (by omega))⟩

end

/-- A tag made poisoned shows it. -/
theorem mkTag_poison (crc job seq : Nat) (x v i : Bool) : bitAt (mkTag crc job seq true x v i) 56 = true := by
  have hx : b2n x ≤ 1 := by cases x <;> decide
  have hv : b2n v ≤ 1 := by cases v <;> decide
  have hi : b2n i ≤ 1 := by cases i <;> decide
  have ht : b2n true = 1 := rfl
  rw [mkTag, bitAt, w64, ← BitVec.testBit_toNat, BitVec.toNat_ofNat, Nat.mod_eq_of_lt (by omega), Nat.testBit_eq_decide_div_mod_eq,
    decide_eq_true_eq]
  omega

/-! ### The copy -/

/-- The block copied, where the check finds `verdict`. -/
def dmaPut (u v : State) (src dst : Nat) (poison : Bool) : State :=
  blockPut v dst (ldN u src 256) (fld (tagAt u src) 32 8) (bitAt (tagAt u src) 57) poison

section
variable {s u : State} {e : DmaId} {src dst : Nat} (hb : dmaState s e.val = 1) (hr : dmaReceives s e.val = false)
  (hsrc : src = rdF s (R.dmaSrc e.val) 0 48) (hdst : dst = rdF s (R.dmaDst e.val) 0 48) (bs : DdrBlock s src) (bd : DdrBlock s dst)
include hb hr hsrc hdst bs bd

omit hb hr hsrc bs in
theorem dmaCore_ddr : dmaCore s e.val = none := by
  rw [dmaCore, ← hdst, bd.region]

omit bs in
/-- An engine that copies in DDR5 is done, or stops, by what its blocks do. -/
theorem dmaDone_copies {errs : List MemErr} {t : State} :
    (dmaCopy e.val src dst (dmaBlocks s e.val) (meetErrs s errs src (256 * dmaBlocks s e.val)) 0 = (t, none) →
      dmaDone s e.val errs = dmaEnd t e.val 2)
    ∧ ∀ code a, dmaCopy e.val src dst (dmaBlocks s e.val) (meetErrs s errs src (256 * dmaBlocks s e.val)) 0 = (t, some (code, a)) →
      dmaDone s e.val errs = dmaFault t e.val code a := by
  have hnone : ¬ (dmaCore s e.val).isSome = true := by rw [dmaCore_ddr hdst bd]; simp
  rw [dmaDone, if_neg (not_not.2 hb), if_neg (by simp [hr]), if_neg hnone, ← hsrc, ← hdst]
  exact ⟨fun hc => by dsimp only; rw [hc], fun code a hc => by dsimp only; rw [hc]⟩

variable (h1 : dmaBlocks s e.val = 1) (hfs : flagAt s src ≠ 1) (hfd : flagAt s dst % 2 = 0)
include h1 hfs hfd

/-- One block copied, behind the errors that its read meets. -/
theorem dmaDone_block {errs : List MemErr} (hu : meetErrs s errs src 256 = u) (hw : ErrorWork s u) {p : Bool} {v : State}
    (hk : checkAt u src (dmaCheck s e.val) = (if p then .poisoned else .good, v)) :
    dmaDone s e.val errs = dmaEnd (dmaCount (dmaPut u v src dst p) e.val) e.val 2 := by
  have hv : ErrorWork u v := by
    have h := (checkAt_checked u src (dmaCheck s e.val)).errorWork
    rwa [hk] at h
  have hsv := hw.trans hv
  have bv := hsv.ddrBlock bd
  have hctl : rd u (R.dmaCtrl e.val) = rd s (R.dmaCtrl e.val) := hw.engine (by unfold R.dmaCtrl; omega)
  have hjob : (if dmaChecks u e.val then some (dmaJob u e.val) else none) = dmaCheck s e.val := by
    rw [dmaCheck, dmaChecks, dmaJob, rdB, rdF, hctl]
    rfl
  have hread := readBlock_ddr (hw.ddrBlock bs) (by rwa [hw.flagAt bs]) hk
  have htag : dmaTag u e.val src = (fld (tagAt u src) 32 8, bitAt (tagAt u src) 57) := if_pos (hw.ddrBlock bs).tagged
  have hwrite (p : Bool) : writeBlock v dst (ldN u src 256) (fld (tagAt u src) 32 8) (bitAt (tagAt u src) 57) p true
      = (.good [], dmaPut u v src dst p) := writeBlock_ddr bv (by rwa [hsv.flagAt bd]) ..
  have hput : ¬ regionOf (dmaPut u v src dst true) dst = .host := by
    have hp : ErrorWork v (dmaPut u v src dst true) := blockPut_errorWork _ _ _ _ bv (length_ldN ..)
    rw [(hp.ddrBlock bv).region]
    decide
  have hcopy : dmaCopy e.val src dst 1 u 0 = (dmaCount (dmaPut u v src dst p) e.val, none) := by
    rw [dmaCopy]
    simp only [Nat.mul_zero, Nat.add_zero]
    rw [hjob, hread, htag]
    cases p with
    | true =>
      rw [if_pos rfl]
      dsimp only
      rw [hwrite true]
      dsimp only
      rw [if_neg hput, dmaCopy]
    | false =>
      rw [if_neg Bool.false_ne_true]
      dsimp only
      rw [hwrite false]
      dsimp only
      rw [dmaCopy]
  refine (dmaDone_copies hb hr hsrc hdst bd).1 ?_
  rw [h1, hu]
  exact hcopy

end

/-! ### The rows of a copy -/

/-- What is read of the end of a copy whose last block stands in `w`. -/
structure CopyDone (w t : State) (e : Nat) : Prop where
  state : dmaState t e = 2
  count : rdF t (R.dmaStatus e) 32 32 = (rdF w (R.dmaStatus e) 32 32 + 1) % 2 ^ 32
  rd : ∀ o, o ≠ R.dmaStatus e → o ≠ R.msixPba → rd t o = rd w o
  bytes : ∀ a, ldB t a = ldB w a
  tags : ∀ a, tagAt t a = tagAt w a
  coreRegs : t.coreRegs = w.coreRegs

theorem dmaDone_copyDone {s w : State} (hl : live s = true) {e : DmaId} {errs : List MemErr}
    (h : dmaDone s e.val errs = dmaEnd (dmaCount w e.val) e.val 2) :
    ∃ t, exec (.dmaDone e errs) s = .next t ∧ CopyDone w t e.val := by
  have he := dmaEnd_ends (dmaCount w e.val) e.val 2
  rw [← h] at he
  refine ⟨_, exec_dmaDone hl errs, ?_, ?_, fun o ho hp => ?_, fun a => ?_, fun a => ?_, ?_⟩
  · rw [dmaState_after, he.state (by decide)]
  · rw [rdF_after _ _ _ _ dmaStatus_msixPba, he.field (by decide), dmaCount, rdF, wrF, rd_wr_self, fld_putFld_self _ _ (by decide)]
  · rw [rd_after _ _ hp, he.rd o ho hp, dmaCount, rd_wrF_ne _ _ _ _ ho]
  · rw [ldB_after, ldB_of_mem he.mem]
    rfl
  · rw [tagAt_after, tagAt_of_tags he.tags]
    rfl
  · rw [after_coreRegs, he.coreRegs]
    rfl

theorem meetErrs_nil (s : State) (a n : Nat) : meetErrs s [] a n = s := rfl

section
variable {s : State} (hl : live s = true) {e : DmaId} {src dst : Nat} (hb : dmaState s e.val = 1) (hr : dmaReceives s e.val = false)
  (hsrc : src = rdF s (R.dmaSrc e.val) 0 48) (hdst : dst = rdF s (R.dmaDst e.val) 0 48) (bs : DdrBlock s src) (bd : DdrBlock s dst)
include hl hb hr hsrc hdst bs bd

section
variable (h1 : dmaBlocks s e.val = 1) (hfs : flagAt s src ≠ 1) (hfd : flagAt s dst % 2 = 0)
include h1 hfs hfd

theorem dmaDone_good (hg : (checkAt s src (dmaCheck s e.val)).1 = .good) : ∃ t, exec (.dmaDone e []) s = .next t ∧ dmaState t e.val = 2
    ∧ rdF t (R.dmaStatus e.val) 32 32 = (rdF s (R.dmaStatus e.val) 32 32 + 1) % 2 ^ 32
    ∧ (∀ k, k < 256 → ldB t (dst + k) = ldB s (src + k)) ∧ (∀ a, (a < dst ∨ dst + 256 ≤ a) → ldB t a = ldB s a)
    ∧ tagAt t dst = mkTag (crc32c (ldN s src 256)) (fld (tagAt s src) 32 8) (dst / 256) false (bitAt (tagAt s src) 57) false false
    ∧ (∀ a, a / 256 ≠ dst / 256 → tagAt t a = tagAt s a) ∧ hubRegsKept s t [R.dmaStatus e.val] ∧ t.coreRegs = s.coreRegs := by
  have hk : checkAt s src (dmaCheck s e.val) = (if false then .poisoned else .good, s) := Prod.ext hg (checkAt_good hg)
  have hlen := length_ldN s src 256
  obtain ⟨t, hx, hd⟩ := dmaDone_copyDone hl (dmaDone_block hb hr hsrc hdst bs bd h1 hfs hfd (meetErrs_nil s src 256) (.refl s) hk)
  have hps (o : Nat) : rd (dmaPut s s src dst false) o = rd s o :=
    rd_of_regs (by rw [dmaPut, blockPut, stBlock, setTag_regs, stN_regs, if_neg Bool.false_ne_true]) o
  refine ⟨t, hx, hd.state, ?_, fun k hk => ?_, fun a ha => ?_, ?_, fun a ha => ?_, fun o ho hp => ?_, ?_⟩
  · rw [hd.count, rdF, hps, rdF]
  · rw [hd.bytes, dmaPut, ldB_blockPut_in _ _ _ _ (by rwa [hlen]), getD_ldN _ _ hk]
  · rw [hd.bytes, dmaPut, ldB_blockPut_out _ _ _ _ (by rwa [hlen])]
  · rw [hd.tags, dmaPut, tagAt_blockPut]
  · rw [hd.tags, dmaPut, tagAt_blockPut_ne _ _ _ _ ha]
  · rw [hd.rd o (by simpa using ho) hp, hps]
  · rw [hd.coreRegs, dmaPut, blockPut_coreRegs]

theorem dmaDone_poisoned (hp : bitAt (tagAt s src) 56 = true) : ∃ t, exec (.dmaDone e []) s = .next t ∧ dmaState t e.val = 2
    ∧ bitAt (tagAt t dst) 56 = true ∧ (∀ k, k < 256 → ldB t (dst + k) = ldB s (src + k))
    ∧ rd t R.poisonSet = w64 (satAdd 32 (rd s R.poisonSet).toNat 1) := by
  have hk : checkAt s src (dmaCheck s e.val) = (if true then .poisoned else .good, s) := checkAt_poisoned hp _
  have hlen := length_ldN s src 256
  obtain ⟨t, hx, hd⟩ := dmaDone_copyDone hl (dmaDone_block hb hr hsrc hdst bs bd h1 hfs hfd (meetErrs_nil s src 256) (.refl s) hk)
  refine ⟨t, hx, hd.state, ?_, fun k hk => ?_, ?_⟩
  · rw [hd.tags, dmaPut, tagAt_blockPut]
    exact mkTag_poison ..
  · rw [hd.bytes, dmaPut, ldB_blockPut_in _ _ _ _ (by rwa [hlen]), getD_ldN _ _ hk]
  · rw [hd.rd _ (by unfold R.poisonSet R.dmaStatus; omega) (by decide), dmaPut, rd_blockPut_poisonSet]

/-- What the code corrects is counted, and the block is copied. -/
theorem dmaDone_corrected : ∃ t, exec (.dmaDone e [⟨src, false⟩]) s = .next t ∧ dmaState t e.val = 2
    ∧ rd t (R.ddrCe (ddrChannel src)) = w64 (satAdd 32 (rd s (R.ddrCe (ddrChannel src))).toNat 1)
    ∧ (∀ k, k < 256 → ldB t (dst + k) = ldB s (src + k)) := by
  have hu : meetErrs s [⟨src, false⟩] src 256 = ddrCorrected s src false := meetErrs_block bs false
  have hch : beatChannel s src false = ddrChannel src := rfl
  have hlt : ddrChannel src < 4 := hch ▸ beatChannel_lt s src false
  have hck := checkAt_checked (ddrCorrected s src false) src (dmaCheck s e.val)
  obtain ⟨p, hp⟩ : ∃ p : Bool, (checkAt (ddrCorrected s src false) src (dmaCheck s e.val)).1 = if p then .poisoned else .good := by
    cases (checkAt (ddrCorrected s src false) src (dmaCheck s e.val)).1 with
    | good => exact ⟨false, rfl⟩
    | poisoned => exact ⟨true, rfl⟩
  have hk : checkAt (ddrCorrected s src false) src (dmaCheck s e.val) = (if p then .poisoned else .good, _) := Prod.ext hp rfl
  have hlen := length_ldN (ddrCorrected s src false) src 256
  obtain ⟨t, hx, hd⟩ := dmaDone_copyDone hl (dmaDone_block hb hr hsrc hdst bs bd h1 hfs hfd hu ddrCorrected_errorWork hk)
  have hne : R.ddrCe (ddrChannel src) ≠ R.poisonSet ∧ R.ddrCe (ddrChannel src) ≠ R.dmaStatus e.val
      ∧ R.ddrCe (ddrChannel src) ≠ R.msixPba ∧ R.ddrCe (ddrChannel src) ∉ checkRegs := by
    simp only [checkRegs, errLogRegs, R.ddrCe, R.poisonSet, R.dmaStatus, R.msixPba, R.tagCheckFail, R.memAlarm, R.errLogAddr, R.errLogInfo,
      R.errLogTime, List.cons_append, List.nil_append, List.mem_cons, List.not_mem_nil, or_false, not_or]
    omega
  obtain ⟨hn1, hn2, hn3, hn4⟩ := hne
  refine ⟨t, hx, hd.state, ?_, fun k hk => ?_⟩
  · rw [hd.rd _ hn2 hn3, dmaPut, rd_blockPut _ _ _ _ hn1, hck.rd _ hn4, ddrCorrected, hch, rd_bump_self]
  · rw [hd.bytes, dmaPut, ldB_blockPut_in _ _ _ _ (by rwa [hlen]), getD_ldN _ _ hk]
    rfl

/-- What the code cannot correct is poison, counted and shown, and the copy is poisoned. -/
theorem dmaDone_lost : ∃ t, exec (.dmaDone e [⟨src, true⟩]) s = .next t ∧ dmaState t e.val = 2 ∧ bitAt (tagAt t dst) 56 = true
    ∧ rd t (R.ddrUe (ddrChannel src)) = w64 (satAdd 32 (rd s (R.ddrUe (ddrChannel src))).toNat 1) ∧ rdB t R.memAlarm 0 = true := by
  have hu : meetErrs s [⟨src, true⟩] src 256 = ddrLost s src src false 0 := meetErrs_block bs true
  have hch : beatChannel s src false = ddrChannel src := rfl
  have hlt : ddrChannel src < 4 := hch ▸ beatChannel_lt s src false
  have hpois : bitAt (tagAt (ddrLost s src src false 0) src) 56 = true := by
    have ht : (ddrLost s src src false 0).tags = (beatGone s src src false).tags := by rw [ddrLost_frame]
    rw [tagAt_of_tags ht]
    exact (beatGone_gone s src src false).poisoned
  have hk : checkAt (ddrLost s src src false 0) src (dmaCheck s e.val) = (if true then .poisoned else .good, _) := checkAt_poisoned hpois _
  obtain ⟨t, hx, hd⟩ := dmaDone_copyDone hl (dmaDone_block hb hr hsrc hdst bs bd h1 hfs hfd hu (ddrLost_errorWork bs) hk)
  have hne : R.ddrUe (ddrChannel src) ≠ R.poisonSet ∧ R.ddrUe (ddrChannel src) ≠ R.dmaStatus e.val
      ∧ R.ddrUe (ddrChannel src) ≠ R.msixPba := by
    unfold R.ddrUe R.poisonSet R.dmaStatus R.msixPba; omega
  refine ⟨t, hx, hd.state, ?_, ?_, ?_⟩
  · rw [hd.tags, dmaPut, tagAt_blockPut]
    exact mkTag_poison ..
  · rw [hd.rd _ hne.2.1 hne.2.2, dmaPut, rd_blockPut _ _ _ _ hne.1, ← hch, rd_ddrLost_ddrUe]
  · rw [rdB, hd.rd _ (by unfold R.memAlarm R.dmaStatus; omega) (by decide), dmaPut, rd_blockPut _ _ _ _ (by decide), ← rdB,
      rdB_ddrLost_memAlarm]

end

/-- A block that the host owns stops the engine. -/
theorem dmaDone_hostOwned (h0 : 0 < dmaBlocks s e.val) (hfs : flagAt s src = 1) (hc : dmaChecks s e.val = false) :
    ∃ t, exec (.dmaDone e []) s = .next t ∧ dmaState t e.val = 3 ∧ rdF t (R.dmaStatus e.val) 4 4 = 2
      ∧ rd t (R.dmaFaultAddr e.val) = w64 src ∧ rdB t R.ownAlarm 1 = true ∧ t.mem = s.mem ∧ t.tags = s.tags
      ∧ t.coreRegs = s.coreRegs := by
  obtain ⟨k, hk⟩ := Nat.exists_eq_succ_of_ne_zero (Nat.pos_iff_ne_zero.1 h0)
  have hcopy : dmaCopy e.val src dst (dmaBlocks s e.val) (meetErrs s [] src (256 * dmaBlocks s e.val)) 0 =
      (ownDeviceFault s, some (2, src)) := by
    rw [meetErrs_nil, hk, dmaCopy]
    simp only [Nat.mul_zero, Nat.add_zero]
    rw [readBlock_host bs hfs]
  have hdone := (dmaDone_copies hb hr hsrc hdst bd (errs := []) (t := ownDeviceFault s)).2 2 src hcopy
  have hlt : src < 2 ^ 48 := hsrc ▸ fld_lt _ _ 48
  have hf := dmaFault_faults (ownDeviceFault s) e.val (fault := 2) (by decide) hlt
  have hctl : dmaChecks (ownDeviceFault s) e.val = false := by
    rw [← hc, dmaChecks, rdB, ownDeviceFault, rd_setB_ne _ _ (by unfold R.dmaCtrl R.ownAlarm; omega),
      rd_bump_ne _ _ (by unfold R.dmaCtrl R.ownDeviceFaults; omega)]
    rfl
  obtain ⟨htags, hrd⟩ := hf.unchecked hctl
  refine ⟨_, exec_dmaDone hl [], ?_, ?_, ?_, ?_, ?_, ?_, ?_⟩ <;> rw [hdone]
  · rw [dmaState_after, hf.state]
  · rw [rdF_after _ _ _ _ dmaStatus_msixPba, hf.code]
  · rw [rd_after _ _ (by unfold R.dmaFaultAddr R.msixPba; omega), hf.addr]
  · rw [rdB_after _ _ _ (by decide), rdB, hrd _ (by unfold R.ownAlarm R.dmaStatus; omega) (by unfold R.ownAlarm R.dmaFaultAddr; omega)
      (by decide), ← rdB, ownDeviceFault, rdB_setB_self]
    simp
  · exact (after_mem ..).trans hf.mem
  · exact (after_tags ..).trans htags
  · exact (after_coreRegs ..).trans hf.coreRegs

end

/-- Settles O50: an engine that copies in DDR5 by what its blocks do, one that receives by its count, and one that copies to a core by
the core's answers. -/
theorem dmaCopies : Obligations.DmaCopies := by
  unfold Obligations.DmaCopies
  rintro e s src dst errs hl hb hsrc hdst
  refine ⟨fun hr hn => ?_, fun hr hn => ?_, fun n hr hc => ⟨fun h => ?_, fun h3 h0 => ?_, fun f hp hs hf hm => ⟨?_, ?_, ?_, ?_⟩⟩,
    fun hr h1 bs bd hfs hfd => ⟨?_, ?_, ?_, ?_⟩, fun hr h0 bs bd hfs hc => ?_⟩
  · exact dmaDone_ended hl (by rw [dmaDone_receives hb errs hr, if_pos hn])
  · exact dmaDone_waits hl (by rw [dmaDone_receives hb errs hr, if_neg (by omega)])
  · exact dmaDone_ended hl (by rw [dmaDone_toCore hb errs hr hc, if_pos h])
  · exact dmaDone_waits hl (by rw [dmaDone_toCore hb errs hr hc, if_neg (by simp [h3, h0])])
  · exact ctrlResp_done hl hb hc hp hs hf hm
  · exact nackReceived_busy hl hb hc hp hs hf hm
  · subst hdst
    exact ctrlResp_refused hl hb hc hp hs hf hm
  · subst hdst
    exact ctrlResp_broken hl hb hc hp hs hf hm
  · exact dmaDone_good hl hb hr hsrc hdst (ddrBlock_of bs) (ddrBlock_of bd) h1 hfs hfd
  · exact dmaDone_poisoned hl hb hr hsrc hdst (ddrBlock_of bs) (ddrBlock_of bd) h1 hfs hfd
  · exact dmaDone_corrected hl hb hr hsrc hdst (ddrBlock_of bs) (ddrBlock_of bd) h1 hfs hfd
  · exact dmaDone_lost hl hb hr hsrc hdst (ddrBlock_of bs) (ddrBlock_of bd) h1 hfs hfd
  · exact dmaDone_hostOwned hl hb hr hsrc hdst (ddrBlock_of bs) (ddrBlock_of bd) h0 hfs hc

end Sys2Proof.Machine
end
